-- ==== Sys2Proof/Word.lean ====
section
/-! DEFINITION. The plainest quantities of the 1620: a byte, a channel number, and the saturating step of a counter.
Everything else the spec computes (positions, labels, signatures) is defined in the files under Machine. -/

namespace Sys2Proof

/-- One byte of a carrier. -/
abbrev Byte := BitVec 8

/-- Channels are numbered 0..15 (section 1.7). -/
abbrev Chan := Fin 16

/-- The sixteen channels in increasing number. -/
def Chan.all : List Chan := [0, 1, 2, 3, 4, 5, 6, 7, 8, 9, 10, 11, 12, 13, 14, 15]

/-- Counters are 32 bits wide and saturate at this value (section 1.7, R197). -/
def counterMax : Nat := 4294967295

/-- A counter raised by `k`, held at its maximum (section 1.7). -/
def satAdd (n k : Nat) : Nat := min (n + k) counterMax

end Sys2Proof
end

