-- ==== Sys2Proof/Syntax.lean ====
section
/-! DEFINITION. The commands of the 1620: one constructor of Instr per row of spec/opcode_table.json, with the row's operands.
Carriers reach the part as commands. A control carrier's operands are its header and envelope fields (R207, R209) and its body
fields (R210); ETHERNET_FRAME, BAD_COMMAND and MISDIRECTED_CONTROL carry bytes. Rows that name a step of the part itself (an expiry, a switch, a completion)
carry the channel, path, slate or origin that the step concerns. -/

namespace Sys2Proof

/-- One of two: contribution paths A and B, or output ports A and B. -/
inductive Side where
  | a
  | b
deriving DecidableEq, Repr

/-- The eight Ethernet ports of Table 1-2. -/
inductive Port where
  | contribution (side : Side)
  | standby (n : Fin 4)
  | output (side : Side)
deriving DecidableEq, Repr

/-- The two origins (section 1.5). -/
inductive Origin where
  | mainSite
  | console
deriving DecidableEq, Repr

/-- The four detectors of a channel, in the order of Chapter 4. -/
inductive Detector where
  | arrival
  | freeze
  | black
  | silence
deriving DecidableEq, Repr

/-- A timecode label with its day (section 1.14). -/
structure Label where
  day : Nat
  hh : Nat
  mm : Nat
  ss : Nat
  ff : Nat
deriving DecidableEq, Repr

/-- The kinds of media carrier (Table 11-1, kinds 1 to 3). -/
inductive MediaKind where
  | video
  | audio
  | summary
deriving DecidableEq, Repr

/-- A media carrier: the header fields that the part reads, and the payload (R207, R208).
On a standby port `channel` is the player stream number (section 2.5). -/
structure Media where
  kind : MediaKind
  channel : Nat
  stamp : Nat
  fragIndex : Nat
  fragCount : Nat
  payload : List Byte
deriving DecidableEq, Repr

/-- The header and envelope of a control carrier as it arrives (R207, R209): the port, the header's stamp and channel,
the sender code, the request number and the GROUP flag. -/
structure ControlRx where
  port : Port
  stamp : Nat
  channel : Nat
  sender : Nat
  request : Nat
  group : Bool
deriving DecidableEq, Repr

/-- A control carrier whose payload is still bytes: BAD_COMMAND and MISDIRECTED_CONTROL are judged on these (R188, R209).
`time` is the instant at which it arrives. -/
structure RawControl where
  port : Port
  stamp : Nat
  channel : Nat
  payload : List Byte
  time : Nat
deriving DecidableEq, Repr

/-- One Ethernet frame as the port sees it (R20, R207): whether its frame check passes, its type field, its payload bytes. -/
structure EthFrame where
  checkOk : Bool
  etherType : Nat
  payload : List Byte
deriving DecidableEq, Repr

/-- An event as carried in INSERT, REPLACE and SNAPSHOT_EVENT (Table 11-6). The flags byte is not read.
`kind` is the carried code; the optional fields are those whose presence bit is set. -/
structure EventCarried where
  id : Nat
  label : Label
  duration : Nat
  kind : Nat
  name : Option (List Byte)
  inPoint : Option Nat
  source : Option Nat
deriving DecidableEq, Repr

/-- What the serial configuration memory gives when it is read (R201): the mark, the version, the length, the bytes of the
tables, and the closing CRC-32. -/
structure Image where
  mark : List Byte
  version : Nat
  length : Nat
  contents : List Byte
  crc : BitVec 32
deriving DecidableEq, Repr

/-- The commands: one constructor per row of spec/opcode_table.json, in the table's order. An operand `time` is an instant in
quarter periods of the 27 MHz oscillator. -/
inductive Instr where
  | powerOn
  | resetLine
  | loadCompletion (answer : Option Image) (time : Nat)
  | referencePulse (label : Label) (time : Nat)
  | frameTimerExpiry
  | linkChange (port : Port) (up : Bool)
  | ethernetFrame (port : Port) (frame : EthFrame) (time : Nat)
  | mainMediaCarrier (side : Side) (m : Media)
  | delayWindowEnd (c : Chan)
  | standbyMediaCarrier (n : Fin 4) (m : Media)
  | pathDown (side : Side)
  | pathUp (side : Side)
  | retimeApply (c : Chan)
  | copyCompletion (slate : Fin 8)
  | settlingEnd (c : Chan) (det : Detector)
  | guardExpiry (c : Chan)
  | returnArrival (c : Chan)
  | joinSwitch (c : Chan)
  | joinExpiry (c : Chan)
  | followOnCheck (c : Chan)
  | followOnSwitch (c : Chan)
  | followOnFailure (c : Chan)
  | endOfSchedule (c : Chan)
  | ready (rx : ControlRx) (player : Nat) (number : Nat)
  | refused (rx : ControlRx) (player : Nat) (number : Nat) (reason : Nat)
  | keepalive (rx : ControlRx) (sequence : Nat)
  | keepaliveExpiry
  | declareSiteLost (rx : ControlRx)
  | restoreSite (rx : ControlRx)
  | insert (rx : ControlRx) (revision : Nat) (event : EventCarried)
  | replace (rx : ControlRx) (revision : Nat) (id : Nat) (event : EventCarried)
  | delete (rx : ControlRx) (revision : Nat) (id : Nat)
  | trim (rx : ControlRx) (revision : Nat) (id : Nat) (duration : Nat)
  | shiftFrom (rx : ControlRx) (revision : Nat) (id : Nat) (delta : Int)
  | snapshotBegin (rx : ControlRx) (revision : Nat) (count : Nat)
  | snapshotEvent (rx : ControlRx) (revision : Nat) (index : Nat) (event : EventCarried)
  | snapshotEnd (rx : ControlRx) (revision : Nat) (count : Nat)
  | snapshotTimeout (c : Chan)
  | resyncRepeat (c : Chan)
  | setService (rx : ControlRx) (mode : Nat)
  | setServiceOut (rx : ControlRx)
  | take (rx : ControlRx)
  | returnToMain (rx : ControlRx)
  | hold (rx : ControlRx)
  | pinMain (rx : ControlRx)
  | pinStandby (rx : ControlRx)
  | unpin (rx : ControlRx)
  | seize (rx : ControlRx)
  | release (rx : ControlRx)
  | ackTakeover (rx : ControlRx)
  | recue (rx : ControlRx)
  | clearRecords (rx : ControlRx)
  | retime (rx : ControlRx) (value : Option Nat)
  | captureSlate (rx : ControlRx) (slate : Nat) (path : Nat)
  | realign (rx : ControlRx)
  | select (rx : ControlRx) (channels : List Nat)
  | subscribe (rx : ControlRx) (origin : Nat) (levels : List (Nat × Nat))
  | setWindow (rx : ControlRx) (table : Nat) (page : Nat) (offset : Nat) (auto : Nat)
  | read (rx : ControlRx) (count : Nat)
  | walkReach (origin : Origin)
  | write (rx : ControlRx) (values : List Nat) (time : Nat)
  | clearError (rx : ControlRx)
  | clearCounters (rx : ControlRx)
  | saveConfig (rx : ControlRx)
  | saveCompletion (readBack : Option Image)
  | warmRestart (rx : ControlRx)
  | warmRestartEnd
  | badCommand (raw : RawControl)
  | misdirectedControl (raw : RawControl)
  | report
  | rampStepAdvance (c : Chan)
  | frameSend
deriving DecidableEq, Repr

end Sys2Proof
end

