-- ==== Sys2Proof/Config.lean ====
section
/-! DEFINITION. What the spec leaves open about the configuration image (R201), as constants with no body, and the kinds of load fault. -/

namespace Sys2Proof

/-- Why a configuration image was not valid (R201). -/
inductive LoadFault where
  | noMemory
  | badMark
  | badVersion
  | badCrc
deriving DecidableEq, Repr, Inhabited

/-- The image mark of R201, whose bytes the spec does not give. FREE VALUE (DESIGN CHOICE, log 7): no proof can see it. -/
opaque Config.imageMark : List Byte

/-- The bytes that spell an image's version and length between the mark and the tables (R201 gives neither width nor order).
FREE VALUE (DESIGN CHOICE, log 7): no proof can see it. -/
opaque Config.imageHead : Nat → Nat → List Byte

/-- The load fault that STATUS shows for an image whose length is not that of its version: R201 makes such an image not valid and
names no fault for it. FREE VALUE (DESIGN CHOICE, log 7). -/
opaque Config.lengthFault : LoadFault

end Sys2Proof
end

