-- ==== Sys2Proof/Machine/State.lean ====
section
/-! DEFINITION. The state of the 1620 as plain data: every register, buffer, list, ring, queue, counter and setting that the spec names, the
queue of waiting commands, and the state right after power-on (State.reset). -/

namespace Sys2Proof.Machine

/-! ## Timeline (Chapter 1) -/

/-- The house rates of Table 1-5. -/
inductive Rate where
  | fr25
  | fr30d
  | fr50
  | fr60d
deriving DecidableEq, Repr

/-- The kinds of boundary (R1). -/
inductive BoundaryKind where
  | pulse
  | timer
  | realigned
deriving DecidableEq, Repr

/-- The lock states of Table 1-11. `unreferenced` is shown as FREE_RUN. -/
inductive LockState where
  | unreferenced
  | locked
  | refLost
  | refMismatch
deriving DecidableEq, Repr

/-- The Timeline Unit (section 1.15): H, the house rate, the lock state, the realign-pending flag, the absence count, the last difference,
the frame timer (the instant at which it expires, absent while it is not running), and the kind and instant of the most recent boundary. -/
structure Timeline where
  h : Nat
  rate : Rate
  lock : LockState
  realignPending : Bool
  absence : Nat
  lastDifference : Option Int
  timer : Option Nat
  boundaryKind : Option BoundaryKind
  boundaryTime : Nat
deriving DecidableEq, Repr

/-! ## Ports and paths (Chapter 2) -/

/-- One contribution path (R25). -/
structure PathState where
  up : Bool
  traffic : Bool
  silence : Nat
  run : Nat
deriving DecidableEq, Repr

/-- The link state of each port (R24), in the order CONTRIBUTION A, B, STANDBY 0 to 3, OUTPUT A, B, and the two paths. -/
structure Ports where
  links : Vector Bool 8
  pathA : PathState
  pathB : PathState
deriving DecidableEq, Repr

/-! ## Frames and slots (Chapters 2 and 3) -/

/-- SUMMARY content (R32). The pair count is the length of `peaks`. -/
structure Summary where
  vc : Nat
  ac : Nat
  luma : Nat
  peaks : List Nat
deriving DecidableEq, Repr

/-- One stored piece: its fragment index and its payload. -/
structure Piece where
  index : Nat
  payload : List Byte
deriving DecidableEq, Repr

/-- The record of a FILLING slot (R27): pieces stand in index order. -/
structure Collect where
  stamp : Nat
  vc : Option Nat
  ac : Option Nat
  video : List Piece
  audio : List Piece
  summary : Option Summary
deriving DecidableEq, Repr

/-- A complete frame: its stamp, SUMMARY, pieces in index order, and, for a main frame, its signature (R36). -/
structure Frame where
  stamp : Nat
  summary : Summary
  video : List (List Byte)
  audio : List (List Byte)
  signature : Option (BitVec 32)
deriving DecidableEq, Repr

/-- A reassembly slot (R27, R38). A COMPLETE slot holds its completion position; a CORRUPT slot keeps only its stamp. -/
inductive Slot where
  | free
  | filling (record : Collect)
  | complete (frame : Frame) (completion : Nat)
  | corrupt (stamp : Nat)
deriving DecidableEq, Repr

/-- The late tracker's record (R34): sets of indices in increasing order, no payload. -/
structure Tracker where
  stamp : Nat
  vc : Option Nat
  ac : Option Nat
  summary : Bool
  video : List Nat
  audio : List Nat
deriving DecidableEq, Repr

/-- The reassembly records of one channel: sixteen main slots, four standby slots and the late tracker. -/
structure Slots where
  main : Vector Slot 16
  standby : Vector Slot 4
  tracker : Option Tracker
deriving DecidableEq, Repr

/-- What the Alignment Unit offers on a path at a boundary (section 9.2). FRESH and HELD are both the path's held frame. -/
inductive Offer where
  | fresh
  | held
  | none
deriving DecidableEq, Repr

/-- A pending retime (R50). -/
structure Retime where
  value : Nat
  target : Nat
deriving DecidableEq, Repr

/-- The measurement record of R48. `waiting` is a sample taken at count 255 that DELAY_WINDOW_END has still to take. -/
structure Measurement where
  count : Nat
  greatest : Option Int
  measured : Nat
  waiting : Option Int
deriving DecidableEq, Repr

/-- One channel in the Alignment Unit (Chapter 3). `d` is absent out of service. `freeUnits` counts the free units of the channel's pool. -/
structure Align where
  d : Option Nat
  mainFloor : Nat
  standbyFloor : Nat
  mainHeld : Option Frame
  standbyHeld : Option Frame
  mainHeldCount : Nat
  standbyHeldCount : Nat
  mainOffer : Offer
  standbyOffer : Offer
  retime : Option Retime
  measurement : Measurement
  freeUnits : Nat
deriving DecidableEq, Repr

/-- A source path of a channel: main or standby. -/
inductive SourcePath where
  | main
  | standby
deriving DecidableEq, Repr

/-- A slate's picture (R54): no audio. -/
structure Picture where
  video : List (List Byte)
  luma : Nat
  chan : Chan
  path : SourcePath
  position : Nat
deriving DecidableEq, Repr

/-- The state of a slate (R54). -/
inductive SlateState where
  | empty
  | capturing
  | filled (picture : Picture)
deriving DecidableEq, Repr

/-- A capture request (R55): WAITING, or COPYING with the H of the release copied; and where its REPLY goes. -/
structure Capture where
  chan : Chan
  path : SourcePath
  copying : Option Nat
  port : Port
  request : Nat
deriving DecidableEq, Repr

/-- One slate. -/
structure Slate where
  state : SlateState
  request : Option Capture
deriving DecidableEq, Repr

/-! ## Continuity monitoring (Chapter 4) -/

/-- Detector policies (R59). -/
inductive Policy where
  | ignore
  | alarm
  | takeover
deriving DecidableEq, Repr

/-- The settings of one detector (R59). The threshold is absent for ARRIVAL and FREEZE. -/
structure DetectorSettings where
  enabled : Bool
  policy : Policy
  assertCount : Nat
  clearCount : Nat
  settleFrames : Nat
  threshold : Option Nat
  riseReport : Bool
  fallReport : Bool
deriving DecidableEq, Repr

/-- Detector phases (R59). -/
inductive Phase where
  | settling
  | clear
  | asserted
deriving DecidableEq, Repr

/-- The running state of one detector (R59). `latched` is true for ASSERTED. -/
structure DetectorState where
  phase : Phase
  latched : Bool
  settle : Nat
  bad : Nat
  good : Nat
deriving DecidableEq, Repr

/-- A channel's verdict (R59). -/
inductive Verdict where
  | healthy
  | suspect
  | failed
deriving DecidableEq, Repr

/-- A latched edge entry (R74); a clear entry is absent. -/
structure Edge where
  count : Nat
  first : Nat
  latest : Nat
deriving DecidableEq, Repr

/-- The Continuity Monitor's record of one channel. -/
structure Monitor where
  detectors : Vector DetectorState 4
  reference : Option (BitVec 32)
  verdict : Verdict
  edges : Vector (Option Edge) 8
deriving DecidableEq, Repr

/-- One judgement (R62): complete with SUMMARY and signature, or missing. -/
inductive Judgement where
  | complete (stamp : Nat) (summary : Summary) (signature : Option (BitVec 32))
  | missing (stamp : Nat)
deriving DecidableEq, Repr

/-- Why a verdict was evaluated (R71). -/
inductive EvalCause where
  | judgement
  | setting
  | settling
  | service
  | restart
deriving DecidableEq, Repr

/-- A verdict notice to the Channel Controller (R71). -/
structure VerdictNotice where
  chan : Chan
  old : Verdict
  new : Verdict
  position : Nat
  cause : EvalCause
  asserted : List Detector
deriving DecidableEq, Repr

/-! ## Main-site supervision (Chapter 5) -/

/-- Site states (Table 5-1). -/
inductive SiteState where
  | starting
  | normal
  | degraded
  | isolated
  | lost
deriving DecidableEq, Repr

/-- Automation states (R81). -/
inductive Automation where
  | unknown
  | alive
  | lost
deriving DecidableEq, Repr

/-- How LOST was entered (R87). -/
inductive LossCause where
  | conditions
  | declared
deriving DecidableEq, Repr

/-- The loss entry (R87). -/
structure LossEntry where
  cause : LossCause
  position : Nat
  left : SiteState
deriving DecidableEq, Repr

/-- The last KEEPALIVE record (R80). -/
structure LastKeepalive where
  sequence : Nat
  side : Side
  position : Nat
deriving DecidableEq, Repr

/-- Causes of a site state change report (R91). -/
inductive SiteCause where
  | path
  | automation
  | declared
  | restored
deriving DecidableEq, Repr

/-- The Site Supervisor (section 5 and R83). -/
structure Site where
  state : SiteState
  loss : Option LossEntry
  viewA : Bool
  viewB : Bool
  automation : Automation
  timerRunning : Bool
  elapsed : Nat
  lastKeepalive : Option LastKeepalive
deriving DecidableEq, Repr

/-! ## Schedule replication (Chapter 6) -/

/-- The kind of an event with the fields that the kind requires (R95). -/
inductive Material where
  | clip (name : List Byte) (inPoint : Nat)
  | fixed (name : List Byte) (inPoint : Nat)
  | live (source : Nat)
deriving DecidableEq, Repr

/-- An event record (R95). -/
structure Event where
  id : Nat
  start : Nat
  duration : Nat
  material : Material
  normalised : Bool
  headTrimmed : Bool
  tailTrimmed : Bool
deriving DecidableEq, Repr

/-- Replication states (R96). -/
inductive Replication where
  | empty
  | current
  | stale
  | rebuilding
deriving DecidableEq, Repr

/-- The shadow list with the snapshot record (R107): indices received stand in increasing order. -/
structure Shadow where
  events : List Event
  revision : Nat
  count : Nat
  received : List Nat
deriving DecidableEq, Repr

/-- One channel in the Schedule Store. A timer is absent while it is not running. -/
structure Schedule where
  live : Option (List Event)
  shadow : Option Shadow
  state : Replication
  expected : Nat
  snapshotTimer : Option Nat
  resyncTimer : Option Nat
deriving DecidableEq, Repr

/-- Causes of a replication state change report (R117). -/
inductive ReplicationCause where
  | gap
  | snapshotBegin
  | snapshotDone
  | snapshotMismatch
  | snapshotPool
  | snapshotTimeout
  | cycleEnd
  | rateChange
deriving DecidableEq, Repr

/-- Amendment refusal reasons, in the order of Table 6-2. -/
inductive AmendReason where
  | badKind
  | badTime
  | noSuchId
  | duplicateId
  | inPast
  | listFull
  | poolFull
deriving DecidableEq, Repr

/-- What an amendment did to an event (R116). -/
inductive Change where
  | added
  | removed
  | tailTrimmed
  | headTrimmed
  | resized
  | moved
deriving DecidableEq, Repr

/-- One item of an event-changed notice (R116): ranges [start, end) before and after. -/
structure Item where
  id : Nat
  change : Change
  before : Option (Nat × Nat)
  after : Option (Nat × Nat)
deriving DecidableEq, Repr

/-- The kinds of event-changed notice (R116). -/
inductive Notice where
  | amendment (revision : Nat) (items : List Item)
  | swap
  | cleared
deriving DecidableEq, Repr

/-! ## Channel takeover and return (Chapter 7) -/

/-- Service modes (R120). -/
inductive ServiceMode where
  | outOfService
  | monitor
  | protected_
deriving DecidableEq, Repr

/-- Channel states (Table 7-2). -/
inductive ChannelState where
  | outOfService
  | main
  | cueing
  | fill
  | standby
  | returnGuard
  | returning
deriving DecidableEq, Repr

/-- A channel's pin (R120). -/
inductive Pin where
  | none
  | main
  | standby
deriving DecidableEq, Repr

/-- A channel's owner (R120). -/
inductive Owner where
  | mainSite
  | localSite
deriving DecidableEq, Repr

/-- Takeover causes (R120). -/
inductive TakeoverCause where
  | detector
  | command
  | site
deriving DecidableEq, Repr

/-- Where a called-off return goes back to (R120). -/
inductive ReturnOrigin where
  | standby
  | fill
deriving DecidableEq, Repr

/-- Outcomes of a takeover record (R145). -/
inductive RecordOutcome where
  | pending
  | onStandby
  | fillOnly
  | noSchedule
  | cueFailed
  | abandoned
deriving DecidableEq, Repr

/-- A takeover record (R145). -/
structure TakeoverRecord where
  sequence : Nat
  causes : List TakeoverCause
  asserted : List Detector
  origin : Option Origin
  decision : Nat
  replication : Replication
  event : Option (Nat × Nat)
  switchPosition : Option Nat
  outcome : RecordOutcome
  returnPosition : Option Nat
deriving DecidableEq, Repr

/-- The channel record (R120) with its ring of takeover records, oldest first (R145). -/
structure Control where
  mode : ServiceMode
  state : ChannelState
  pin : Pin
  owner : Owner
  cause : Option TakeoverCause
  returnOrigin : Option ReturnOrigin
  guard : Option Nat
  returnPosition : Option Nat
  suspended : Bool
  sticky : Bool
  returnAck : Bool
  awaitingRecue : Bool
  current : Option Nat
  nextSequence : Nat
  ring : List TakeoverRecord
  overflow : Bool
deriving DecidableEq, Repr

/-- Return modes (Table 7-1). -/
inductive ReturnMode where
  | boundary
  | immediate
deriving DecidableEq, Repr

/-- The settings of one channel: Table 7-1 less SERVICE_MODE, which stands in Control; the DETECTORS page (R59); and the
OUTPUT_MAP entry (R179). A delay override of 0 is off. -/
structure ChannelSettings where
  lead : Nat
  joinMargin : Nat
  cueAttempts : Nat
  server : Fin 8
  player : Fin 4
  returnMode : ReturnMode
  autoReturn : Bool
  guardLength : Nat
  mainHoldLimit : Nat
  standbyHoldLimit : Nat
  fillSlate : Fin 8
  delayOverride : Nat
  delayMargin : Nat
  rampEnable : Bool
  rampStep : Nat
  detectors : Vector DetectorSettings 4
  chain : Bool
  pairSet : BitVec 8
  streamId : Nat
deriving DecidableEq, Repr

/-! ## Cueing (Chapter 8) -/

/-- Cue kinds (R150). -/
inductive CueKind where
  | join
  | followOn
deriving DecidableEq, Repr

/-- Cue statuses (R150). -/
inductive CueStatus where
  | sent
  | ready
  | failed
deriving DecidableEq, Repr

/-- A cue (R150). `number` is absent for a follow-on that failed with NO_SERVER and so was never sent (R155): R150 gives every cue a number, and the spec
does not say which one such a cue holds (DESIGN CHOICE, log 61). `materialPosition` and `playLength` are what the server was given; an
update of the event snapshot under R167 leaves them. -/
structure Cue where
  number : Option Nat
  kind : CueKind
  server : Fin 8
  player : Fin 4
  event : Event
  offset : Nat
  materialPosition : Option Nat
  playLength : Nat
  switchPosition : Nat
  used : Nat
  limit : Nat
  status : CueStatus
deriving DecidableEq, Repr

/-- A channel's cue context (R150). `wait` is the schedule wait: attempts used and attempt limit. -/
structure CueContext where
  pendingCue : Option Cue
  playing : Option Cue
  nextNumber : Nat
  wait : Option (Nat × Nat)
  recordLink : Bool
deriving DecidableEq, Repr

/-! ## Output assembly (Chapter 9) -/

/-- Source tags, in the order of Table 11-1. -/
inductive SourceTag where
  | main
  | mainHeld
  | standby
  | standbyHeld
  | slate
  | slateEmpty
deriving DecidableEq, Repr

/-- Categories of emitted frames (R181). -/
inductive Category where
  | main
  | standby
  | slate
deriving DecidableEq, Repr

/-- The ramp (R173): IDLE, or RUNNING at a step with a count of frames spent. -/
inductive Ramp where
  | idle
  | running (step : Nat) (spent : Nat)
deriving DecidableEq, Repr

/-- An assembled frame as copied to the output buffer (R178, R180), its audio and peaks already scaled. -/
structure OutFrame where
  stream : Nat
  tag : SourceTag
  stamp : Nat
  summary : Summary
  video : List (List Byte)
  audio : List (List Byte)
deriving DecidableEq, Repr

/-- The output record of a channel (R173): the stream id stands in ChannelSettings. The output buffer is the frame being sent and the one
waiting behind it. -/
structure Output where
  delivered : ChannelState
  lastCategory : Option Category
  lastTag : Option SourceTag
  ramp : Ramp
  sending : Option OutFrame
  waiting : Option OutFrame
deriving DecidableEq, Repr

/-! ## Work of a boundary still to be taken (the model's own, DESIGN CHOICE, log 2) -/

/-- What the blocks have still to take of the most recent boundary for one channel. -/
structure ChannelWork where
  snapshot : Bool
  resync : Bool
  retime : Bool
  cue : Bool
  control : Bool
  frame : Bool
  judgement : Option Judgement
  ramp : Bool
deriving DecidableEq, Repr

/-- What the blocks have still to take of the most recent boundary for the whole unit. `slates` are the slates as they stood when the boundary came, from
which the fill frames of that boundary are made (R54, R176). -/
structure UnitWork where
  slates : Vector SlateState 8
  pathA : Bool
  pathB : Bool
  keepalive : Bool
  warmEnd : Bool
  report : Bool
deriving DecidableEq, Repr

/-- Everything the part holds for one channel. -/
structure Channel where
  settings : ChannelSettings
  slots : Slots
  align : Align
  monitor : Monitor
  schedule : Schedule
  control : Control
  cue : CueContext
  output : Output
  work : ChannelWork
deriving DecidableEq, Repr

/-! ## Management (Chapter 10) -/

/-- The tables of Table 10-3, in its order. -/
inductive Table where
  | status
  | counters
  | edges
  | schedule
  | records
  | channel
  | detectors
  | servers
  | outputMap
  | site
  | identity
  | restart
deriving DecidableEq, Repr

/-- REPLY results, in the order of Table 10-2 from ACCEPTED. -/
inductive Result where
  | accepted
  | notAuthorised
  | badCommand
  | badValue
  | badTable
  | badOffset
  | readOnly
  | busy
  | notOwner
  | siteLost
  | outOfService
  | pinned
  | alreadyTaken
  | notTaken
  | inReturn
  | refLocked
  | inService
  | notReady
  | notLost
  | replaced
  | captured
  | abandoned
  | saved
  | saveFailed
deriving DecidableEq, Repr

/-- One encoded field of a body or an entry (Table 11-5): an unsigned number of a width in bytes, a signed number, a position, an
enumeration, a flag. A list or an optional field is its count or presence followed by its fields. -/
inductive Atom where
  | num (width : Nat) (value : Nat)
  | int (value : Int)
  | pos (value : Nat)
  | enum (value : Nat)
  | flag (value : Bool)
deriving DecidableEq, Repr

/-- The eight kinds of report with what each carries (R198; R76, R147, R117, R91, R18). A takeover started report always carries the sequence that its record took
(R126, R147); the other three reports of R147 carry it absent once the record is gone. -/
inductive Report where
  | edge (c : Chan) (det : Detector) (rise : Bool) (position count : Nat) (verdict : Verdict) (asserted : List Detector)
  | takeoverStarted (c : Chan) (sequence : Nat) (cause : TakeoverCause) (asserted : List Detector) (origin : Option Origin) (position : Nat) (replication : Replication) (state : ChannelState)
  | switched (c : Chan) (sequence : Option Nat) (kind : CueKind) (position : Nat) (state : ChannelState)
  | cueFailed (c : Chan) (sequence : Option Nat) (state : ChannelState) (awaiting : Bool)
  | returned (c : Chan) (sequence : Option Nat) (position : Nat) (outcome : Option RecordOutcome)
  | replication (c : Chan) (old new : Replication) (position expected : Nat) (cause : ReplicationCause)
  | site (old new : SiteState) (position : Nat) (cause : SiteCause) (viewA viewB : Bool) (automation : Automation)
  | reference (old new : LockState) (position : Nat) (difference : Option Int)
deriving DecidableEq, Repr

/-- A queued report (R198). -/
structure QueuedReport where
  sequence : Nat
  position : Nat
  report : Report
deriving DecidableEq, Repr

/-- The window of an access context (R191). -/
structure Window where
  table : Table
  page : Nat
  offset : Nat
  auto : Bool
deriving DecidableEq, Repr

/-- The walk record (R196). -/
structure Walk where
  table : Table
  page : Nat
  count : Nat
  clamped : Bool
  request : Nat
  port : Port
  channel : Nat
  gathered : List (Nat × List Atom)
  cursor : Option Nat
deriving DecidableEq, Repr

/-- A held sticky error (R191). -/
structure StickyError where
  code : Result
  request : Nat
  offset : Nat
deriving DecidableEq, Repr

/-- An access context (R191). `walk` is present while the context is busy; `mask` is the selection mask, channel c in bit c; `levels` are the
subscription levels in the order of R198. -/
structure Context where
  window : Window
  walk : Option Walk
  sticky : Option StickyError
  mask : BitVec 16
  levels : Vector Nat 8
  queue : List QueuedReport
  nextSequence : Nat
deriving DecidableEq, Repr

/-- CONFIG_STATE (R201): the load in progress, or its result. `loading` is the time from a reset until the load completes. -/
inductive ConfigState where
  | loading
  | loaded
  | defaulted (fault : LoadFault)
deriving DecidableEq, Repr

/-- Where a REPLY that is still owed goes. -/
structure ReplyTo where
  port : Port
  request : Nat
deriving DecidableEq, Repr

/-- A save in flight (R202): the image copied when it was taken, and the REPLY owed (none after a warm restart). -/
structure Save where
  image : Image
  reply : Option ReplyTo
deriving DecidableEq, Repr

/-- Causes of the latest reset (R204). -/
inductive ResetCause where
  | powerOn
  | resetLine
  | warmRestart
deriving DecidableEq, Repr

/-- The Management Unit: the two access contexts, the console port, the configuration state, the save, LAST_SAVE (true for SAVED, with the H), the
warm restart in progress, and the restart record. -/
structure Management where
  mainSite : Context
  console : Context
  consolePort : Option (Fin 4)
  config : ConfigState
  save : Option Save
  lastSave : Option (Bool × Nat)
  restarting : Option ReplyTo
  resetCause : ResetCause
  warmRestarts : Nat
  lineResets : Nat
deriving DecidableEq, Repr

/-- One server of the SERVERS table (R37). -/
structure ServerEntry where
  mapped : Bool
  port : Fin 4
deriving DecidableEq, Repr

/-- The settings of the unit: SERVERS, and SITE less HOUSE_RATE, which stands in Timeline. A prescale is held as its exponent of two. -/
structure UnitSettings where
  servers : Vector ServerEntry 8
  pathTimeout : Nat
  pathRestore : Nat
  keepaliveCount : Nat
  keepalivePrescale : Fin 8
  snapshotCount : Nat
  snapshotPrescale : Fin 8
  resyncCount : Nat
  resyncPrescale : Fin 8
  unitNumber : Nat
deriving DecidableEq, Repr

/-! ## Counters (R197) -/

/-- The counters kept for each channel, in the order of the COUNTERS page. -/
inductive ChanCtr where
  | staleReclaims | corruptFrames | corruptDiscards | badSummaries | lateCompletions | lateAbandoned | standbyCorruptFrames
  | mainMissing | skippedFrames | repeats | windowDiscards | heldEvictions | delayWindows | retimes | standbyLate
  | standbyEarly | standbyMissing | standbyDiscards
  | assertArrival | assertFreeze | assertBlack | assertSilence | clearArrival | clearFreeze | clearBlack | clearSilence
  | verdictChanges
  | amendApplied | refusedAmendments | amendDiscarded | amendGaps | amendOld | overlapRemovals | overlapTrims
  | snapshotsBegun | snapshotsCompleted | snapshotsFailed | snapshotTimeouts | snapshotDuplicates | snapshotDiscards
  | snapshotRejects | snapshotPast | eventsRetired | resyncsSent | replicationChanges
  | takeovers | cueFailures | guardExpiries | guardRestarts | guardCancels | returns | recordsOverwritten
  | cuesSent | noServerFailures | cueRefusals | cueExpiries | readyDuplicates | strayReadies | strayRefusals | switches
  | followOnFailures | recomputes | cancelsSent | stopsSent | cueControlsUnsent
  | emittedMain | emittedMainHeld | emittedStandby | emittedStandbyHeld | emittedSlate | emittedSlateEmpty
  | outputOverruns | rampsStarted | rampsCut
deriving DecidableEq, Repr

/-- The counters kept for each port (Table 2-1, R186). -/
inductive PortCtr where
  | fcsErrors | notCarriage | carriersIn | ignored | badCheck | badVersion | badField | senderMismatch | outOfService
  | linkChanges | duplicates | early | late | standbyUnmapped | standbyWrongPort | standbyUnassigned | standbyAmbiguous
  | carriersOut | outputDropped
deriving DecidableEq, Repr

/-- The counters kept for each path (R25). -/
inductive PathCtr where
  | downs
  | ups
deriving DecidableEq, Repr

/-- The counters of the whole unit. -/
inductive UnitCtr where
  | refBadPulses | refAdjusts | refMismatches | refLosses | coastedBoundaries | realignments
  | keepalivesA | keepalivesB | keepaliveDuplicates | keepaliveGaps | keepalivesIgnored | keepaliveExpiries
  | siteLosses | siteRestores | restoreRefusals
  | poolExhaustions | scheduleNoChannel | cueAnswersUnmatched
  | misdirectedControl | badCommands | restartDiscards | imageAdjustments
deriving DecidableEq, Repr

/-- The counters kept for each origin (R197). -/
inductive OriginCtr where
  | repliesSent
  | repliesUnsent
  | notAuthorisedRefusals
  | reportsSent
  | reportsDropped
deriving DecidableEq, Repr

/-- The name of one counter. -/
inductive CounterKey where
  | chan (c : Chan) (k : ChanCtr)
  | port (p : Port) (k : PortCtr)
  | path (side : Side) (k : PathCtr)
  | whole (k : UnitCtr)
  | origin (o : Origin) (k : OriginCtr)
deriving DecidableEq, Repr

/-- Every counter, laid out by channel, port, path, unit and origin. -/
structure Counters where
  chan : Vector (Vector Nat 74) 16
  port : Vector (Vector Nat 19) 8
  path : Vector (Vector Nat 2) 2
  whole : Vector Nat 22
  origin : Vector (Vector Nat 5) 2
deriving DecidableEq, Repr

/-! ## Carriers sent -/

/-- A REPLY (R190): the request number, the control code of the request's kind, the channel named, the result, CLAMPED, and the contents. -/
structure Reply where
  request : Nat
  kind : Nat
  channel : Nat
  result : Result
  clamped : Bool
  contents : List Atom
deriving DecidableEq, Repr

/-- What the part sends: the outbound control carriers, and an assembled frame with all its carriers. -/
inductive Outgoing where
  | reply (r : Reply)
  | report (r : QueuedReport)
  | cue (player : Fin 4) (number : Nat) (kind : CueKind) (event : Event) (offset : Nat) (switchPosition : Nat)
  | cancel (player : Nat) (number : Nat)
  | stop (player : Nat) (number : Nat)
  | resync (c : Chan) (expected : Nat) (state : Replication)
  | amendRefused (c : Chan) (revision : Nat) (kind : Nat) (id : Option Nat) (reason : AmendReason)
  | frame (f : OutFrame)
deriving DecidableEq, Repr

/-- One thing sent: the port, the H of the most recent boundary, the UNIT_NUMBER in the source address (R207), and the contents. -/
structure Sent where
  port : Port
  stamp : Nat
  unitNumber : Nat
  what : Outgoing
deriving DecidableEq, Repr

/-! ## The machine -/

/-- The whole part. `pending` is the queue of commands that wait, first in, first out; `outbox` lists what the part has sent, oldest first (the model's
own, DESIGN CHOICE, log 5); `poolFree` is the free pool count of R93. -/
structure State where
  time : Timeline
  ports : Ports
  site : Site
  poolFree : Nat
  slates : Vector Slate 8
  chans : Vector Channel 16
  settings : UnitSettings
  mgmt : Management
  counters : Counters
  work : UnitWork
  outbox : List Sent
  pending : List Instr
deriving DecidableEq, Repr

/-- Reasons for which the machine would stop. The spec gives every command an effect, so no command raises one and the type is empty: safe. -/
inductive Fault where
deriving DecidableEq, Repr

/-- Reasons for which a command is turned away by the model. -/
inductive Refusal where
  /-- Raised by exec for a row of the opcode table that has no meaning yet; no row is left so. Safe. -/
  | notModelled (mnemonic : String)
deriving DecidableEq, Repr

/-! ## Values after power-on -/

/-- Table 4-1, one detector's settings when the image is not valid. -/
def DetectorSettings.default (det : Detector) : DetectorSettings :=
  { enabled := true
    policy := match det with
      | .arrival => .takeover
      | _ => .alarm
    assertCount := match det with
      | .arrival => 5
      | .freeze => 250
      | .black => 125
      | .silence => 250
    clearCount := match det with
      | .arrival => 50
      | _ => 5
    settleFrames := 25
    threshold := match det with
      | .black => some 32
      | .silence => some 64
      | _ => Option.none
    riseReport := true
    fallReport := true }

/-- The defaults of Tables 7-1, 4-1 and R179 for channel `c`. -/
def ChannelSettings.default (c : Chan) : ChannelSettings :=
  { lead := 50, joinMargin := 25, cueAttempts := 3
    server := ⟨c.val / 4, by omega⟩, player := ⟨c.val % 4, by omega⟩
    returnMode := .boundary, autoReturn := true, guardLength := 250
    mainHoldLimit := 10, standbyHoldLimit := 10, fillSlate := 0
    delayOverride := 0, delayMargin := 1, rampEnable := true, rampStep := 1
    detectors := #v[.default .arrival, .default .freeze, .default .black, .default .silence]
    chain := false, pairSet := 3, streamId := c.val }

/-- Defaults of the SERVERS and SITE tables (R37, R26, R82, R111, R112, R204). -/
def UnitSettings.default : UnitSettings :=
  { servers := Vector.replicate 8 { mapped := false, port := 0 }
    pathTimeout := 10, pathRestore := 25
    keepaliveCount := 50, keepalivePrescale := 0
    snapshotCount := 250, snapshotPrescale := 2
    resyncCount := 125, resyncPrescale := 0
    unitNumber := 0 }

/-- Nothing of a boundary left to take. -/
def ChannelWork.none : ChannelWork :=
  { snapshot := false, resync := false, retime := false, cue := false, control := false, frame := false, judgement := Option.none, ramp := false }

/-- Nothing of a boundary left to take. -/
def UnitWork.none : UnitWork :=
  { slates := Vector.replicate 8 .empty, pathA := false, pathB := false, keepalive := false, warmEnd := false, report := false }

/-- A channel after power-on, out of service until the load completes (Tables 2-3, 3-2, 4-4, 6-3, 7-4, 8-3, 9-2). -/
def Channel.reset (c : Chan) : Channel :=
  { settings := .default c
    slots := { main := Vector.replicate 16 .free, standby := Vector.replicate 4 .free, tracker := none }
    align :=
      { d := none, mainFloor := 0, standbyFloor := 0, mainHeld := none, standbyHeld := none, mainHeldCount := 0, standbyHeldCount := 0
        mainOffer := .none, standbyOffer := .none, retime := none
        measurement := { count := 0, greatest := none, measured := 4, waiting := none }, freeUnits := 21 }
    monitor :=
      { detectors := Vector.replicate 4 { phase := .clear, latched := false, settle := 0, bad := 0, good := 0 }
        reference := none, verdict := .healthy, edges := Vector.replicate 8 none }
    schedule := { live := none, shadow := none, state := .empty, expected := 0, snapshotTimer := none, resyncTimer := none }
    control :=
      { mode := .outOfService, state := .outOfService, pin := .none, owner := .mainSite, cause := none, returnOrigin := none
        guard := none, returnPosition := none, suspended := false, sticky := false, returnAck := false, awaitingRecue := false
        current := none, nextSequence := 0, ring := [], overflow := false }
    cue := { pendingCue := none, playing := none, nextNumber := 0, wait := none, recordLink := false }
    output := { delivered := .outOfService, lastCategory := none, lastTag := none, ramp := .idle, sending := none, waiting := none }
    work := .none }

/-- The sixteen channels after power-on. -/
def Channel.resetAll : Vector Channel 16 :=
  #v[.reset 0, .reset 1, .reset 2, .reset 3, .reset 4, .reset 5, .reset 6, .reset 7,
     .reset 8, .reset 9, .reset 10, .reset 11, .reset 12, .reset 13, .reset 14, .reset 15]

/-- An access context after any reset (R191). -/
def Context.reset : Context :=
  { window := { table := .status, page := 255, offset := 0, auto := false }
    walk := none, sticky := none, mask := 0, levels := Vector.replicate 8 2, queue := [], nextSequence := 0 }

/-- Every counter at 0 (R197). -/
def Counters.zero : Counters :=
  { chan := Vector.replicate 16 (Vector.replicate 74 0), port := Vector.replicate 8 (Vector.replicate 19 0)
    path := Vector.replicate 2 (Vector.replicate 2 0), whole := Vector.replicate 22 0, origin := Vector.replicate 2 (Vector.replicate 5 0) }

/-- The part right after power-on: the configuration image load has begun and nothing else is in force (R19, R40, R58, R78, R92, R119, R149, R172, R187, R206).
The settings stand at their defaults until the load ends (DESIGN CHOICE, log 9); the queue is empty. -/
def State.reset : State :=
  { time :=
      { h := 0, rate := .fr25, lock := .unreferenced, realignPending := false, absence := 0, lastDifference := none
        timer := none, boundaryKind := none, boundaryTime := 0 }
    ports :=
      { links := Vector.replicate 8 false
        pathA := { up := false, traffic := false, silence := 0, run := 0 }
        pathB := { up := false, traffic := false, silence := 0, run := 0 } }
    site :=
      { state := .starting, loss := none, viewA := false, viewB := false, automation := .unknown
        timerRunning := false, elapsed := 0, lastKeepalive := none }
    poolFree := 4096
    slates := Vector.replicate 8 { state := .empty, request := none }
    chans := Channel.resetAll
    settings := .default
    mgmt :=
      { mainSite := .reset, console := .reset, consolePort := none, config := .loading, save := none, lastSave := none
        restarting := none, resetCause := .powerOn, warmRestarts := 0, lineResets := 0 }
    counters := .zero
    work := .none
    outbox := []
    pending := [] }

end Sys2Proof.Machine
end

