-- ==== Sys2Proof/Machine/Positions.lean ====
section
/-! DEFINITION. House rates, positions and timecode labels: Table 1-5, the measures of R3, the cycle-end mark of R4, and the conversions of R5 to R7. -/

namespace Sys2Proof.Machine

/-- n of Table 1-5: nominal frames per second. -/
def Rate.n : Rate → Nat
  | .fr25 => 25
  | .fr30d => 30
  | .fr50 => 50
  | .fr60d => 60

/-- k of Table 1-5: labels dropped per minute. -/
def Rate.k : Rate → Nat
  | .fr25 => 0
  | .fr30d => 2
  | .fr50 => 0
  | .fr60d => 4

/-- F_day of Table 1-5: frames in one day. -/
def Rate.fday : Rate → Nat
  | .fr25 => 2160000
  | .fr30d => 2589408
  | .fr50 => 4320000
  | .fr60d => 5178816

/-- B of Table 1-5: frames in one ten-minute block. -/
def Rate.block : Rate → Nat
  | .fr25 => 15000
  | .fr30d => 17982
  | .fr50 => 30000
  | .fr60d => 35964

/-- C of Table 1-10: positions in the full timeline cycle, 65,536 days. -/
def Rate.cycle (r : Rate) : Nat := 65536 * r.fday

/-- The free-running frame period of Table 1-10 in quarter periods of the 27 MHz oscillator (DESIGN CHOICE, log 4). -/
def Rate.period : Rate → Nat
  | .fr25 => 4320000
  | .fr30d => 3603600
  | .fr50 => 2160000
  | .fr60d => 1801800

/-- Reduction of a plain number modulo the cycle (R3). -/
def wrapTo (cycle : Nat) (x : Int) : Nat := (x % (cycle : Int)).toNat

/-- The forward distance from X to Y (R3). -/
def forwardDistance (cycle x y : Nat) : Nat := wrapTo cycle ((y : Int) - x)

/-- The signed difference of Y from X (R3): the value in −C/2..C/2 − 1 congruent to Y − X. -/
def signedDifference (cycle : Nat) (y x : Int) : Int :=
  let m := (y - x) % (cycle : Int)
  if m < (cycle : Int) / 2 then m else m - cycle

/-- Whether a boundary carries the cycle-end mark (R4). -/
def cycleEndMark (r : Rate) (prev new : Nat) : Bool :=
  prev / r.fday == 65535 && new / r.fday == 0

/-- R5 step 1: every field of a label in its range. -/
def labelInRange (r : Rate) (l : Label) : Bool :=
  l.hh < 24 && l.mm < 60 && l.ss < 60 && l.ff < r.n && l.day < 65536

/-- R6: an in-range label that names no frame. -/
def labelNamesNoFrame (r : Rate) (l : Label) : Bool :=
  l.ss == 0 && l.mm % 10 != 0 && l.ff < r.k

/-- R6: the first frame of that minute. -/
def normaliseLabel (r : Rate) (l : Label) : Label :=
  if labelNamesNoFrame r l then { l with ff := r.k } else l

/-- R5 step 3: the day-frame of a label that names a frame. -/
def labelDayFrame (r : Rate) (l : Label) : Nat :=
  let m := l.hh * 60 + l.mm
  ((m * 60 + l.ss) * r.n + l.ff) - r.k * (m - m / 10)

/-- R5 steps 3 and 4. -/
def labelPosition (r : Rate) (l : Label) : Nat :=
  l.day * r.fday + labelDayFrame r l

/-- R5 and R6 for a schedule event: the position and whether the label was normalised, or absent for BAD_TIME. -/
def eventLabel (r : Rate) (l : Label) : Option (Nat × Bool) :=
  if labelInRange r l then some (labelPosition r (normaliseLabel r l), labelNamesNoFrame r l) else none

/-- R9 for a REFERENCE pulse: the pulse position, or absent when the pulse is not valid. -/
def pulsePosition (r : Rate) (l : Label) : Option Nat :=
  if labelInRange r l && !labelNamesNoFrame r l then some (labelPosition r l) else none

/-- R7: the label of a position, with its day. -/
def positionLabel (r : Rate) (p : Nat) : Label :=
  let f := p % r.fday
  let q := f / r.block
  let rest := f % r.block
  let minute := if rest < 60 * r.n then 0 else 1 + (rest - 60 * r.n) / (60 * r.n - r.k)
  let nominal := if rest < 60 * r.n then rest else (rest - 60 * r.n) % (60 * r.n - r.k) + r.k
  let total := 10 * q + minute
  { day := p / r.fday, hh := total / 60, mm := total % 60, ss := nominal / r.n, ff := nominal % r.n }

/-- R17 item 1: H at a new rate, the day and hh, mm, ss of its label kept and ff 0, normalised where the new rate requires. -/
def reexpressPosition (old new : Rate) (p : Nat) : Nat :=
  labelPosition new (normaliseLabel new { positionLabel old p with ff := 0 })

/-- The period of a prescaled timer (section 1.7): count × 2^exponent. -/
def prescaledPeriod (count : Nat) (prescale : Fin 8) : Nat := count * 2 ^ prescale.val

end Sys2Proof.Machine
end

