-- ==== Sys2Proof/Machine/Ops.lean ====
section
/-! DEFINITION. The shared operations over the state: reading and updating one channel, the counters, the ports, sending a carrier, answering a
request, and raising a report. -/

namespace Sys2Proof.Machine

/-- Entry `i` of a fixed table updated by `f`. -/
def vmod {α : Type} {n : Nat} (v : Vector α n) (i : Fin n) (f : α → α) : Vector α n :=
  v.set i.val (f v[i.val]) i.isLt

/-! ## One channel -/

/-- Everything held for channel `c`. -/
def State.ch (s : State) (c : Chan) : Channel := s.chans[c.val]

/-- Channel `c` updated. -/
def State.modCh (s : State) (c : Chan) (f : Channel → Channel) : State :=
  { s with chans := vmod s.chans c f }

/-- The settings of channel `c` updated. -/
def State.modSettings (s : State) (c : Chan) (f : ChannelSettings → ChannelSettings) : State :=
  s.modCh c fun x => { x with settings := f x.settings }

/-- The reassembly slots of channel `c` updated. -/
def State.modSlots (s : State) (c : Chan) (f : Slots → Slots) : State :=
  s.modCh c fun x => { x with slots := f x.slots }

/-- The alignment record of channel `c` updated. -/
def State.modAlign (s : State) (c : Chan) (f : Align → Align) : State :=
  s.modCh c fun x => { x with align := f x.align }

/-- The monitoring record of channel `c` updated. -/
def State.modMonitor (s : State) (c : Chan) (f : Monitor → Monitor) : State :=
  s.modCh c fun x => { x with monitor := f x.monitor }

/-- The schedule of channel `c` updated. -/
def State.modSchedule (s : State) (c : Chan) (f : Schedule → Schedule) : State :=
  s.modCh c fun x => { x with schedule := f x.schedule }

/-- The channel record of channel `c` updated. -/
def State.modControl (s : State) (c : Chan) (f : Control → Control) : State :=
  s.modCh c fun x => { x with control := f x.control }

/-- The cue context of channel `c` updated. -/
def State.modCue (s : State) (c : Chan) (f : CueContext → CueContext) : State :=
  s.modCh c fun x => { x with cue := f x.cue }

/-- The output record of channel `c` updated. -/
def State.modOutput (s : State) (c : Chan) (f : Output → Output) : State :=
  s.modCh c fun x => { x with output := f x.output }

/-- The boundary work of channel `c` updated. -/
def State.modWork (s : State) (c : Chan) (f : ChannelWork → ChannelWork) : State :=
  s.modCh c fun x => { x with work := f x.work }

/-- `f` taken for each channel in turn, in increasing number. -/
def State.eachChannel (s : State) (f : Chan → State → State) : State :=
  Chan.all.foldl (fun t c => f c t) s

/-- Whether channel `c` is in service (R120). -/
def State.inService (s : State) (c : Chan) : Bool := (s.ch c).control.state != .outOfService

/-- The effective delay that channel `c` holds; 0 stands for absent and is read for in-service channels only. -/
def State.delay (s : State) (c : Chan) : Nat := (s.ch c).align.d.getD 0

/-! ## Positions -/

/-- C at the house rate in force. -/
def State.cycle (s : State) : Nat := s.time.rate.cycle

/-- A plain number reduced modulo C. -/
def State.wrap (s : State) (x : Int) : Nat := wrapTo s.cycle x

/-- The signed difference of `y` from `x` at the house rate in force (R3). -/
def State.signed (s : State) (y x : Int) : Int := signedDifference s.cycle y x

/-- Whether position `p` is reached or passed at the present H: its signed difference from H is 0 or less. -/
def State.reached (s : State) (p : Nat) : Bool := s.signed p s.time.h ≤ 0

/-! ## Ports -/

/-- The number of a port in Table 1-2's order. -/
def portIndex : Port → Fin 8
  | .contribution .a => 0
  | .contribution .b => 1
  | .standby n => ⟨2 + n.val, by omega⟩
  | .output .a => 6
  | .output .b => 7

/-- Whether a port's link state is UP (R24). -/
def State.linkUp (s : State) (p : Port) : Bool := s.ports.links[(portIndex p).val]

/-- One contribution path. -/
def State.path (s : State) : Side → PathState
  | .a => s.ports.pathA
  | .b => s.ports.pathB

/-- One contribution path updated. -/
def State.modPath (s : State) (side : Side) (f : PathState → PathState) : State :=
  match side with
  | .a => { s with ports := { s.ports with pathA := f s.ports.pathA } }
  | .b => { s with ports := { s.ports with pathB := f s.ports.pathB } }

/-! ## Counters (R197) -/

/-- The number of a path or output side. -/
def sideIndex : Side → Fin 2
  | .a => 0
  | .b => 1

/-- The number of an origin. -/
def originIndex : Origin → Fin 2
  | .mainSite => 0
  | .console => 1

/-- The number of a detector. -/
def detectorIndex : Detector → Fin 4
  | .arrival => 0
  | .freeze => 1
  | .black => 2
  | .silence => 3

/-- The detectors in the order of Chapter 4. -/
def Detector.all : List Detector := [.arrival, .freeze, .black, .silence]

/-- The place of a channel counter among its channel's. -/
def chanCtrIndex (k : ChanCtr) : Fin 74 := ⟨k.ctorIdx, by cases k <;> decide⟩

/-- The place of a port counter among its port's. -/
def portCtrIndex (k : PortCtr) : Fin 19 := ⟨k.ctorIdx, by cases k <;> decide⟩

/-- The place of a path counter among its path's. -/
def pathCtrIndex (k : PathCtr) : Fin 2 := ⟨k.ctorIdx, by cases k <;> decide⟩

/-- The place of a unit counter. -/
def unitCtrIndex (k : UnitCtr) : Fin 22 := ⟨k.ctorIdx, by cases k <;> decide⟩

/-- The place of an origin counter among its origin's. -/
def originCtrIndex (k : OriginCtr) : Fin 5 := ⟨k.ctorIdx, by cases k <;> decide⟩

/-- One counter. -/
def Counters.get (x : Counters) : CounterKey → Nat
  | .chan c k => x.chan[c.val][(chanCtrIndex k).val]
  | .port p k => x.port[(portIndex p).val][(portCtrIndex k).val]
  | .path side k => x.path[(sideIndex side).val][(pathCtrIndex k).val]
  | .whole k => x.whole[(unitCtrIndex k).val]
  | .origin o k => x.origin[(originIndex o).val][(originCtrIndex k).val]

/-- One counter raised by `n`, saturating (R197). -/
def Counters.add (x : Counters) (key : CounterKey) (n : Nat) : Counters :=
  match key with
  | .chan c k => { x with chan := vmod x.chan c fun v => vmod v (chanCtrIndex k) fun a => satAdd a n }
  | .port p k => { x with port := vmod x.port (portIndex p) fun v => vmod v (portCtrIndex k) fun a => satAdd a n }
  | .path side k => { x with path := vmod x.path (sideIndex side) fun v => vmod v (pathCtrIndex k) fun a => satAdd a n }
  | .whole k => { x with whole := vmod x.whole (unitCtrIndex k) fun a => satAdd a n }
  | .origin o k => { x with origin := vmod x.origin (originIndex o) fun v => vmod v (originCtrIndex k) fun a => satAdd a n }

/-- One counter read. -/
def State.counter (s : State) (key : CounterKey) : Nat := s.counters.get key

/-- One counter raised by `n`. -/
def State.bumpBy (s : State) (key : CounterKey) (n : Nat) : State := { s with counters := s.counters.add key n }

/-- One counter incremented. -/
def State.bump (s : State) (key : CounterKey) : State := s.bumpBy key 1

/-- A counter of channel `c` incremented. -/
def State.bumpCh (s : State) (c : Chan) (k : ChanCtr) : State := s.bump (.chan c k)

/-- A counter of the whole unit incremented. -/
def State.bumpUnit (s : State) (k : UnitCtr) : State := s.bump (.whole k)

/-! ## Sending -/

/-- A carrier, or a frame's carriers, given to a port: stamped with the H of the most recent boundary (R207). Between a change of house rate and the next boundary
the stamp is H as R17 re-expresses it, which no boundary has carried, and before the first boundary after a reset it is H as the reset leaves it (DESIGN CHOICE, log
56). -/
def State.send (s : State) (p : Port) (what : Outgoing) : State :=
  { s with outbox := s.outbox ++ [{ port := p, stamp := s.time.h, unitNumber := s.settings.unitNumber, what := what }] }

/-- A carrier sent on both contribution ports (R100, R112). -/
def State.sendMain (s : State) (what : Outgoing) : State :=
  (s.send (.contribution .a) what).send (.contribution .b) what

/-! ## Access contexts and replies (R190, R191) -/

/-- The access context of an origin. -/
def State.ctx (s : State) : Origin → Context
  | .mainSite => s.mgmt.mainSite
  | .console => s.mgmt.console

/-- The access context of an origin updated. -/
def State.modCtx (s : State) (o : Origin) (f : Context → Context) : State :=
  match o with
  | .mainSite => { s with mgmt := { s.mgmt with mainSite := f s.mgmt.mainSite } }
  | .console => { s with mgmt := { s.mgmt with console := f s.mgmt.console } }

/-- A REPLY to an origin on a port: sent and counted, or counted as unsent when the port's link is DOWN (R190). -/
def State.reply (s : State) (o : Origin) (p : Port) (r : Reply) : State :=
  if s.linkUp p then (s.bump (.origin o .repliesSent)).send p (.reply r)
  else s.bump (.origin o .repliesUnsent)

/-! ## Reports (R198) -/

/-- The place of a report's kind among the eight of R198. -/
def reportKind : Report → Fin 8
  | .edge .. => 0
  | .takeoverStarted .. => 1
  | .switched .. => 2
  | .cueFailed .. => 3
  | .returned .. => 4
  | .replication .. => 5
  | .site .. => 6
  | .reference .. => 7

/-- The number of queue entries below which a report of a level is admitted (R198). -/
def admissionLimit (level : Nat) : Nat :=
  match level with
  | 1 => 8
  | 2 => 24
  | _ => 32

/-- A report offered to one origin's queue (R198). -/
def State.offer (s : State) (o : Origin) (r : Report) : State :=
  let x := s.ctx o
  let level := x.levels[(reportKind r).val]
  if level = 0 then s
  else
    let next := (x.nextSequence + 1) % 65536
    if x.queue.length < admissionLimit level then
      s.modCtx o fun x =>
        { x with
          queue := x.queue ++ [{ sequence := x.nextSequence, position := s.time.h, report := r }]
          nextSequence := next }
    else (s.modCtx o fun x => { x with nextSequence := next }).bump (.origin o .reportsDropped)

/-- A report raised by a block: offered to both origins' queues (R198). -/
def State.raise (s : State) (r : Report) : State := (s.offer .mainSite r).offer .console r

end Sys2Proof.Machine
end

