-- ==== Sys2Proof/Machine/Signature.lean ====
section
/-! DEFINITION. The CRC-32 of R36, used for frame signatures and for the configuration image (R201), and the big-endian byte helpers of Chapter 11. -/

namespace Sys2Proof.Machine

/-- One bit of the reflected CRC-32 register. -/
def crcBit (r : BitVec 32) : BitVec 32 :=
  if r.getLsbD 0 then (r >>> 1) ^^^ 0xEDB88320#32 else r >>> 1

/-- One byte taken into the register, least significant bit first (R36). -/
def crcByte (r : BitVec 32) (b : Byte) : BitVec 32 :=
  crcBit (crcBit (crcBit (crcBit (crcBit (crcBit (crcBit (crcBit (r ^^^ b.setWidth 32))))))))

/-- The CRC-32 of R36 over a run of bytes: generator 0x04C11DB7, initial value all ones, reflected, every bit inverted at the end. -/
def crc32 (bytes : List Byte) : BitVec 32 :=
  ~~~ (bytes.foldl crcByte 0xFFFFFFFF#32)

/-- A big-endian number of bytes (Chapter 11). -/
def bigEndian (bytes : List Byte) : Nat := bytes.foldl (fun n b => n * 256 + b.toNat) 0

/-- The `width` bytes of a number, most significant first (Chapter 11). -/
def toBytes : Nat → Nat → List Byte
  | 0, _ => []
  | width + 1, n => BitVec.ofNat 8 (n / 256 ^ width) :: toBytes width n

/-- A number inserted in a set kept in increasing order. -/
def insertNat (n : Nat) : List Nat → List Nat
  | [] => [n]
  | m :: rest => if n < m then n :: m :: rest else if n = m then m :: rest else m :: insertNat n rest

end Sys2Proof.Machine
end

