-- ==== Sys2Proof/Machine/Codes.lean ====
section
/-! DEFINITION. The codes of Chapter 11: control kinds (Table 11-4), enumerations in the order their owning rules list them (Table 11-5), and the encoding of a
field as bytes. -/

namespace Sys2Proof.Machine

/-- Control codes of Table 11-4 that REPLY and AMEND_REFUSED name. -/
def codeInsert : Nat := 0x10
def codeReplace : Nat := 0x11
def codeDelete : Nat := 0x12
def codeTrim : Nat := 0x13
def codeShiftFrom : Nat := 0x14
def codeSnapshotEvent : Nat := 0x19
def codeCaptureSlate : Nat := 0x31
def codeRead : Nat := 0x42
def codeSaveConfig : Nat := 0x47
def codeWarmRestart : Nat := 0x48

def rateCode : Rate → Nat
  | .fr25 => 0
  | .fr30d => 1
  | .fr50 => 2
  | .fr60d => 3

def lockCode : LockState → Nat
  | .unreferenced => 0
  | .locked => 1
  | .refLost => 2
  | .refMismatch => 3

def verdictCode : Verdict → Nat
  | .healthy => 0
  | .suspect => 1
  | .failed => 2

def policyCode : Policy → Nat
  | .ignore => 0
  | .alarm => 1
  | .takeover => 2

def phaseCode : Phase → Nat
  | .settling => 0
  | .clear => 1
  | .asserted => 2

def siteCode : SiteState → Nat
  | .starting => 0
  | .normal => 1
  | .degraded => 2
  | .isolated => 3
  | .lost => 4

def automationCode : Automation → Nat
  | .unknown => 0
  | .alive => 1
  | .lost => 2

def lossCode : LossCause → Nat
  | .conditions => 0
  | .declared => 1

def siteCauseCode : SiteCause → Nat
  | .path => 0
  | .automation => 1
  | .declared => 2
  | .restored => 3

def replicationCode : Replication → Nat
  | .empty => 0
  | .current => 1
  | .stale => 2
  | .rebuilding => 3

def replicationCauseCode : ReplicationCause → Nat
  | .gap => 0
  | .snapshotBegin => 1
  | .snapshotDone => 2
  | .snapshotMismatch => 3
  | .snapshotPool => 4
  | .snapshotTimeout => 5
  | .cycleEnd => 6
  | .rateChange => 7

/-- Table 6-2's order, from BAD_KIND as 0 (Table 11-7). -/
def amendReasonCode : AmendReason → Nat
  | .badKind => 0
  | .badTime => 1
  | .noSuchId => 2
  | .duplicateId => 3
  | .inPast => 4
  | .listFull => 5
  | .poolFull => 6

def modeCode : ServiceMode → Nat
  | .outOfService => 0
  | .monitor => 1
  | .protected_ => 2

def stateCode : ChannelState → Nat
  | .outOfService => 0
  | .main => 1
  | .cueing => 2
  | .fill => 3
  | .standby => 4
  | .returnGuard => 5
  | .returning => 6

def pinCode : Pin → Nat
  | .none => 0
  | .main => 1
  | .standby => 2

def ownerCode : Owner → Nat
  | .mainSite => 0
  | .localSite => 1

def causeCode : TakeoverCause → Nat
  | .detector => 0
  | .command => 1
  | .site => 2

def returnOriginCode : ReturnOrigin → Nat
  | .standby => 0
  | .fill => 1

def outcomeCode : RecordOutcome → Nat
  | .pending => 0
  | .onStandby => 1
  | .fillOnly => 2
  | .noSchedule => 3
  | .cueFailed => 4
  | .abandoned => 5

def returnModeCode : ReturnMode → Nat
  | .boundary => 0
  | .immediate => 1

def cueKindCode : CueKind → Nat
  | .join => 0
  | .followOn => 1

def cueStatusCode : CueStatus → Nat
  | .sent => 0
  | .ready => 1
  | .failed => 2

/-- A source tag as an entry: an enumeration counted from 0 (Table 11-5) in the order of R181, which is the order of Table 11-1 (DEDUCED, log 18). -/
def tagIndex : SourceTag → Nat
  | .main => 0
  | .mainHeld => 1
  | .standby => 2
  | .standbyHeld => 3
  | .slate => 4
  | .slateEmpty => 5

/-- Table 11-1: in a carrier's flags source tags are numbered from 1. -/
def tagCode (x : SourceTag) : Nat := tagIndex x + 1

def categoryCode : Category → Nat
  | .main => 0
  | .standby => 1
  | .slate => 2

def sourcePathCode : SourcePath → Nat
  | .main => 0
  | .standby => 1

def originCode : Origin → Nat
  | .mainSite => 0
  | .console => 1

def materialCode : Material → Nat
  | .clip .. => 0
  | .fixed .. => 1
  | .live _ => 2

def loadFaultCode : LoadFault → Nat
  | .noMemory => 0
  | .badMark => 1
  | .badVersion => 2
  | .badCrc => 3

def resetCauseCode : ResetCause → Nat
  | .powerOn => 0
  | .resetLine => 1
  | .warmRestart => 2

/-- The tables in the order of Table 10-3. -/
def tableOf : Nat → Option Table
  | 0 => some .status
  | 1 => some .counters
  | 2 => some .edges
  | 3 => some .schedule
  | 4 => some .records
  | 5 => some .channel
  | 6 => some .detectors
  | 7 => some .servers
  | 8 => some .outputMap
  | 9 => some .site
  | 10 => some .identity
  | 11 => some .restart
  | _ => none

def tableCode : Table → Nat
  | .status => 0
  | .counters => 1
  | .edges => 2
  | .schedule => 3
  | .records => 4
  | .channel => 5
  | .detectors => 6
  | .servers => 7
  | .outputMap => 8
  | .site => 9
  | .identity => 10
  | .restart => 11

/-- Table 10-2's order, from ACCEPTED as 0 (Table 11-5). -/
def resultCode : Result → Nat
  | .accepted => 0
  | .notAuthorised => 1
  | .badCommand => 2
  | .badValue => 3
  | .badTable => 4
  | .badOffset => 5
  | .readOnly => 6
  | .busy => 7
  | .notOwner => 8
  | .siteLost => 9
  | .outOfService => 10
  | .pinned => 11
  | .alreadyTaken => 12
  | .notTaken => 13
  | .inReturn => 14
  | .refLocked => 15
  | .inService => 16
  | .notReady => 17
  | .notLost => 18
  | .replaced => 19
  | .captured => 20
  | .abandoned => 21
  | .saved => 22
  | .saveFailed => 23

/-- R191's order of the sticky error, from NONE as 0 (Table 11-5). No other code is ever held (R195). -/
def stickyCode : Option Result → Nat
  | some .busy => 1
  | some .badTable => 2
  | some .badOffset => 3
  | some .readOnly => 4
  | some .notAuthorised => 5
  | some .badValue => 6
  | _ => 0

/-- A field as bytes (Table 11-5). A last difference that 4 bytes cannot hold is sent modulo 2^32 (DESIGN CHOICE, log 44). -/
def Atom.bytes : Atom → List Byte
  | .num width n => toBytes width n
  | .int v => toBytes 4 (v % 4294967296).toNat
  | .pos p => toBytes 6 p
  | .enum n => toBytes 1 n
  | .flag b => [if b then 1 else 0]

/-- An optional field: a presence byte, then the field when present (Table 11-5). -/
def optAtoms {α : Type} (f : α → List Atom) : Option α → List Atom
  | none => [.num 1 0]
  | some x => .num 1 1 :: f x

/-- A list: a count byte, then the items (Table 11-5). -/
def listAtoms {α : Type} (f : α → List Atom) (l : List α) : List Atom :=
  .num 1 l.length :: l.flatMap f

/-- Text: a length byte, then the characters (Table 11-5). -/
def textAtoms (l : List Byte) : List Atom := listAtoms (fun b => [.num 1 b.toNat]) l

/-- A position presented as day and label (R7, Table 11-6): day, then hh, mm, ss, ff. -/
def labelAtoms (l : Label) : List Atom := [.num 2 l.day, .num 1 l.hh, .num 1 l.mm, .num 1 l.ss, .num 1 l.ff]

/-- A set of detectors: member i in bit i (Table 11-5). -/
def detectorSet (l : List Detector) : Nat := Detector.all.foldl (fun n d => if l.contains d then n + 2 ^ (detectorIndex d).val else n) 0

end Sys2Proof.Machine
end

