-- ==== Sys2Proof/Machine/Alignment.lean ====
section
/-! DEFINITION. The Alignment Unit (Chapter 3): the pool of frame store units, captures into slates, releases on both paths, measured delay,
retimes, and service entry and exit. -/

namespace Sys2Proof.Machine

/-- The main slot numbers. -/
def mainIndices : List (Fin 16) := [0, 1, 2, 3, 4, 5, 6, 7, 8, 9, 10, 11, 12, 13, 14, 15]

/-- The standby slot numbers. -/
def standbyIndices : List (Fin 4) := [0, 1, 2, 3]

/-- The slate numbers. -/
def slateIndices : List (Fin 8) := [0, 1, 2, 3, 4, 5, 6, 7]

/-- The stamp a slot holds, absent when it is FREE (R27). -/
def Slot.stamp : Slot → Option Nat
  | .free => none
  | .filling r => some r.stamp
  | .complete f _ => some f.stamp
  | .corrupt p => some p

/-- Main slot of a stamp: P mod 16 (section 2.3). -/
def mainSlotOf (p : Nat) : Fin 16 := ⟨p % 16, Nat.mod_lt _ (by decide)⟩

/-- Standby slot of a stamp: P mod 4 (section 3.6). -/
def standbySlotOf (p : Nat) : Fin 4 := ⟨p % 4, Nat.mod_lt _ (by decide)⟩

/-- The slot in which a path collects the frame stamped `p`. -/
def Slots.at (x : Slots) (path : SourcePath) (p : Nat) : Slot :=
  match path with
  | .main => x.main[(mainSlotOf p).val]
  | .standby => x.standby[(standbySlotOf p).val]

/-- That slot replaced. -/
def Slots.put (x : Slots) (path : SourcePath) (p : Nat) (v : Slot) : Slots :=
  match path with
  | .main => { x with main := vmod x.main (mainSlotOf p) fun _ => v }
  | .standby => { x with standby := vmod x.standby (standbySlotOf p) fun _ => v }

/-- Whether a slot holds a stamp that satisfies `pred`. -/
def Slot.holds (pred : Nat → Bool) (x : Slot) : Bool :=
  match x.stamp with
  | none => false
  | some p => pred p

/-- How many slots of a buffer hold a stamp that satisfies `pred`. -/
def countHolding {n : Nat} (indices : List (Fin n)) (pred : Nat → Bool) (v : Vector Slot n) : Nat :=
  (indices.filter fun i => v[i.val].holds pred).length

/-- Those slots made FREE. -/
def freeHolding {n : Nat} (indices : List (Fin n)) (pred : Nat → Bool) (v : Vector Slot n) : Vector Slot n :=
  indices.foldl (fun w i => vmod w i fun x => if x.holds pred then .free else x) v

/-- Every main slot whose stamp satisfies `pred` becomes FREE and its unit becomes free (R42). -/
def State.freeMain (s : State) (c : Chan) (pred : Nat → Bool) : State :=
  s.modCh c fun x =>
    { x with
      slots := { x.slots with main := freeHolding mainIndices pred x.slots.main }
      align := { x.align with freeUnits := x.align.freeUnits + countHolding mainIndices pred x.slots.main } }

/-- Every standby slot whose stamp satisfies `pred` becomes FREE and its unit becomes free (R42). -/
def State.freeStandby (s : State) (c : Chan) (pred : Nat → Bool) : State :=
  s.modCh c fun x =>
    { x with
      slots := { x.slots with standby := freeHolding standbyIndices pred x.slots.standby }
      align := { x.align with freeUnits := x.align.freeUnits + countHolding standbyIndices pred x.slots.standby } }

/-! ## Captures into slates (section 3.7) -/

/-- One slate updated. -/
def State.modSlate (s : State) (i : Fin 8) (f : Slate → Slate) : State :=
  { s with slates := vmod s.slates i f }

/-- Every slate updated by `f`. -/
def State.mapSlates (s : State) (f : Slate → Slate) : State :=
  { s with slates := slateIndices.foldl (fun v i => vmod v i f) s.slates }

/-- Whether a slate's request names this channel and path. -/
def Slate.captures (x : Slate) (c : Chan) (path : SourcePath) : Bool :=
  match x.request with
  | none => false
  | some r => r.chan == c && r.path == path

/-- A complete frame released on a path starts, or starts again, the copies that wait on it (R56): the request is COPYING with the H of the
release, and the slate's old contents are given up. -/
def State.startCopies (s : State) (c : Chan) (path : SourcePath) : State :=
  s.mapSlates fun x =>
    if x.captures c path then
      { state := .capturing, request := x.request.map fun r => { r with copying := some s.time.h } }
    else x

/-- The held frame of a path given up stops the copies from it (R56): the slate becomes EMPTY, the request WAITING. -/
def State.stopCopies (s : State) (c : Chan) (path : SourcePath) : State :=
  s.mapSlates fun x =>
    match x.request with
    | none => x
    | some r =>
      if r.chan = c ∧ r.path = path ∧ r.copying.isSome then { state := .empty, request := some { r with copying := none } } else x

/-- The REPLY that ends a capture request (R55, R56). -/
def State.captureReply (s : State) (r : Capture) (result : Result) (contents : List Atom) : State :=
  s.reply .console r.port
    { request := r.request, kind := codeCaptureSlate, channel := r.chan.val, result := result, clamped := false, contents := contents }

/-- What a slate becomes when its request ends early: EMPTY if a copy was under way, else as it stands (R55, R56). -/
def Slate.ended (x : Slate) (r : Capture) : Slate :=
  { state := if r.copying.isSome then .empty else x.state, request := none }

/-- A capture request that ends early with a result: REPLACED (R55) or ABANDONED (R56). -/
def State.endCapture (s : State) (i : Fin 8) (r : Capture) (result : Result) : State :=
  (s.modSlate i fun x => x.ended r).captureReply r result []

/-- A channel leaving service ends every capture request that names it with ABANDONED (R56). -/
def State.abandonCaptures (s : State) (c : Chan) : State :=
  slateIndices.foldl
    (fun t i =>
      match t.slates[i.val].request with
      | some r => if r.chan = c then t.endCapture i r .abandoned else t
      | none => t)
    s

/-! ## The pool (R42, R43) -/

/-- The held frame of a path. -/
def Align.heldOn (x : Align) : SourcePath → Option Frame
  | .main => x.mainHeld
  | .standby => x.standbyHeld

/-- The path the channel is not emitting from, judged by its state (R43). -/
def offAirPath : ChannelState → SourcePath
  | .standby | .returnGuard | .returning => .main
  | _ => .standby

/-- R43: the held frame of the path off air is given up, and its unit becomes free. The path's held count is left as it is. -/
def State.evictHeld (s : State) (c : Chan) : State :=
  let path := offAirPath (s.ch c).control.state
  let freed := if ((s.ch c).align.heldOn path).isSome then 1 else 0
  let t := s.modAlign c fun x =>
    match path with
    | .main => { x with mainHeld := none, freeUnits := x.freeUnits + freed }
    | .standby => { x with standbyHeld := none, freeUnits := x.freeUnits + freed }
  (t.bumpCh c .heldEvictions).stopCopies c path

/-- A slot that goes from FREE to FILLING takes one free unit (R42), made free first if there is none (R43). -/
def State.takeUnit (s : State) (c : Chan) : State :=
  let t := if (s.ch c).align.freeUnits = 0 then s.evictHeld c else s
  t.modAlign c fun x => { x with freeUnits := x.freeUnits - 1 }

/-! ## Measured delay (R48) -/

/-- The greater of a lateness and the greatest seen. -/
def maxLateness (x : Option Int) (l : Int) : Int :=
  match x with
  | none => l
  | some g => max g l

/-- A lateness sample handed to the unit. At count 255 it waits for DELAY_WINDOW_END, which takes it (DESIGN CHOICE, log 2). -/
def State.takeSample (s : State) (c : Chan) (l : Int) : State :=
  s.modAlign c fun x =>
    let m := x.measurement
    { x with
      measurement :=
        if m.count < 255 then { m with count := m.count + 1, greatest := some (maxLateness m.greatest l) }
        else { m with waiting := some l } }

/-- A number brought to the nearest end of a range (section 1.7). -/
def clampInt (lo hi x : Int) : Int := max lo (min hi x)

/-- R48: the sample taken at count 255 ends the window. -/
def State.endDelayWindow (s : State) (c : Chan) : State :=
  let m := (s.ch c).align.measurement
  match m.waiting with
  | none => s
  | some l =>
    let margin := (s.ch c).settings.delayMargin
    let measured := (clampInt 1 15 (maxLateness m.greatest l + 1 + margin)).toNat
    (s.modAlign c fun x =>
      { x with measurement := { count := 0, greatest := none, measured := measured, waiting := none } }).bumpCh c .delayWindows

/-! ## Releases on the main path (R44 to R47) -/

/-- The due stamp of the main path: Q = H − d (section 3.2). -/
def State.dueStamp (s : State) (c : Chan) : Nat := s.wrap ((s.time.h : Int) - s.delay c)

/-- Whether a stamp lies in the acceptance window (H − d, H − d + 16] (section 3.2). -/
def State.inMainWindow (s : State) (c : Chan) (p : Nat) : Bool :=
  let t := s.signed p ((s.time.h : Int) - s.delay c)
  1 ≤ t && t ≤ 16

/-- Whether a stamp lies in the standby window (H, H + 4] (R52). -/
def State.inStandbyWindow (s : State) (p : Nat) : Bool :=
  let t := s.signed p s.time.h
  1 ≤ t && t ≤ 4

/-- The late tracker when stamp `q` is released incomplete (R34): a record already held is abandoned first. -/
def State.trackMissing (s : State) (c : Chan) (q : Nat) (slot : Slot) : State :=
  let fresh : Tracker := { stamp := q, vc := none, ac := none, summary := false, video := [], audio := [] }
  let taken : Option Tracker :=
    match slot with
    | .filling r =>
      if r.stamp = q then
        some { stamp := q, vc := r.vc, ac := r.ac, summary := r.summary.isSome, video := r.video.map (·.index), audio := r.audio.map (·.index) }
      else some fresh
    | .corrupt p => if p = q then none else some fresh
    | _ => some fresh
  match taken with
  | none => s
  | some t =>
    let s := if (s.ch c).slots.tracker.isSome then s.bumpCh c .lateAbandoned else s
    s.modSlots c fun x => { x with tracker := some t }

/-- HELD when a held frame is present and the held count is at most the limit, else NONE (R45, R53). -/
def heldOffer (held : Option Frame) (count limit : Nat) : Offer :=
  if held.isSome ∧ count ≤ limit then .held else .none

/-- R45: stamp `q` is released on the main path. -/
def State.releaseMain (s : State) (c : Chan) (q : Nat) : State × Judgement :=
  let slot := (s.ch c).slots.at .main q
  let missing : State × Judgement :=
    let s := (s.bumpCh c .mainMissing).trackMissing c q slot
    let s := s.freeMain c fun p => p == q
    let limit := (s.ch c).settings.mainHoldLimit
    (s.modAlign c fun x =>
      { x with
        mainHeldCount := min (x.mainHeldCount + 1) 255
        mainOffer := heldOffer x.mainHeld (min (x.mainHeldCount + 1) 255) limit }, .missing q)
  match slot with
  | .complete f _ =>
    if f.stamp = q then
      let s := s.modCh c fun x =>
        { x with
          slots := x.slots.put .main q .free
          align :=
            { x.align with
              mainHeld := some f
              mainHeldCount := 0
              mainOffer := .fresh
              freeUnits := x.align.freeUnits + (if x.align.mainHeld.isSome then 1 else 0) } }
      (s.startCopies c .main, .complete q f.summary f.signature)
    else missing
  | _ => missing

/-- R44 and R46 with the d now in force: the due stamp is released after any skip, or the boundary is a repeat; then the slots outside the
window are freed. The judgement is absent at a repeat boundary. -/
def State.takeMainBoundary (s : State) (c : Chan) : State × Option Judgement :=
  let q := s.dueStamp c
  let floor := (s.ch c).align.mainFloor
  let g := s.signed q floor
  let after (t : State) : State :=
    let out := fun p => !t.inMainWindow c p
    (t.bumpBy (.chan c .windowDiscards) (countHolding mainIndices out (t.ch c).slots.main)).freeMain c out
  if g ≤ 0 then
    let held := fun p : Nat => p == q
    let s := (s.bumpBy (.chan c .windowDiscards) (if ((s.ch c).slots.at .main q).holds held then 1 else 0)).freeMain c held
    let s := s.modAlign c fun x => { x with mainOffer := if x.mainHeld.isSome then .held else .none }
    (after (s.bumpCh c .repeats), none)
  else
    let between := fun p : Nat => 0 < s.signed p floor && s.signed p floor < g
    let s := if g = 1 then s else (s.freeMain c between).bumpBy (.chan c .skippedFrames) (g - 1).toNat
    let (s, j) := s.releaseMain c q
    (after (s.modAlign c fun x => { x with mainFloor := q }), some j)

/-- R47: at a REALIGNED boundary the main release floor is set to H − d − 1. -/
def State.rebaseMain (s : State) (c : Chan) : State :=
  s.modAlign c fun x => { x with mainFloor := s.wrap ((s.time.h : Int) - s.delay c - 1) }

/-! ## Releases on the standby path (R53) -/

/-- R53: stamp `q` is released on the standby path. -/
def State.releaseStandby (s : State) (c : Chan) (q : Nat) : State :=
  let missing : State :=
    let s := (s.bumpCh c .standbyMissing).freeStandby c fun p => p == q
    let limit := (s.ch c).settings.standbyHoldLimit
    s.modAlign c fun x =>
      { x with
        standbyHeldCount := min (x.standbyHeldCount + 1) 255
        standbyOffer := heldOffer x.standbyHeld (min (x.standbyHeldCount + 1) 255) limit }
  match (s.ch c).slots.at .standby q with
  | .complete f _ =>
    if f.stamp = q then
      let s := s.modCh c fun x =>
        { x with
          slots := x.slots.put .standby q .free
          align :=
            { x.align with
              standbyHeld := some f
              standbyHeldCount := 0
              standbyOffer := .fresh
              freeUnits := x.align.freeUnits + (if x.align.standbyHeld.isSome then 1 else 0) } }
      s.startCopies c .standby
    else missing
  | _ => missing

/-- R53: the standby path of channel `c` at a boundary. -/
def State.takeStandbyBoundary (s : State) (c : Chan) (realigned : Bool) : State :=
  let q := s.time.h
  let s := if realigned then s.modAlign c fun x => { x with standbyFloor := s.wrap ((q : Int) - 1) } else s
  let floor := (s.ch c).align.standbyFloor
  let g := s.signed q floor
  let t :=
    if g ≤ 0 then s.modAlign c fun x => { x with standbyOffer := if x.standbyHeld.isSome then .held else .none }
    else
      let between := fun p : Nat => 0 < s.signed p floor && s.signed p floor < g
      let s := if g = 1 then s else s.freeStandby c between
      (s.releaseStandby c q).modAlign c fun x => { x with standbyFloor := q }
  let out := fun p => !t.inStandbyWindow p
  (t.bumpBy (.chan c .standbyDiscards) (countHolding standbyIndices out (t.ch c).slots.standby)).freeStandby c out

/-! ## Retime (R50, R51) -/

/-- Whether a pending retime falls due at the present H (R51). -/
def State.retimeDue (s : State) (c : Chan) : Bool :=
  match (s.ch c).align.retime with
  | none => false
  | some r => s.reached r.target

/-- R51: the pending retime applies. -/
def State.applyRetime (s : State) (c : Chan) : State :=
  match (s.ch c).align.retime with
  | none => s
  | some r => (s.modAlign c fun x => { x with d := some r.value, retime := none }).bumpCh c .retimes

/-- R50: the first event in start order for which start + offset is later than H. -/
def firstLater (events : List Event) (offset h : Nat) : Option Event :=
  events.find? fun e => h < e.start + offset

/-- R50: the target of a retime from d to d′. -/
def State.retimeTarget (s : State) (c : Chan) (d d' : Nat) : Nat :=
  let offset := if d' < d then d' else d
  match firstLater ((s.ch c).schedule.live.getD []) offset s.time.h with
  | some e => s.wrap (e.start + offset : Nat)
  | none => s.wrap (s.time.h + 1 : Nat)

/-! ## Service entry and exit (R49, R41) -/

/-- R49: the Alignment Unit and the reassembly records at a service entry. -/
def State.alignEntry (s : State) (c : Chan) : State :=
  let x := s.ch c
  let d := if x.settings.delayOverride = 0 then x.align.measurement.measured else x.settings.delayOverride
  s.modAlign c fun x =>
    { x with
      d := some d
      mainFloor := s.wrap ((s.time.h : Int) - d)
      standbyFloor := s.time.h
      mainHeld := none, standbyHeld := none, mainHeldCount := 0, standbyHeldCount := 0
      mainOffer := .none, standbyOffer := .none, retime := none }

/-- Section 3.4 and R41: a channel leaving service frees its slots, its tracker, its held frames and all its units. -/
def State.alignExit (s : State) (c : Chan) : State :=
  (s.modCh c fun x =>
    { x with
      slots := { main := Vector.replicate 16 .free, standby := Vector.replicate 4 .free, tracker := none }
      align :=
        { x.align with
          d := none, mainHeld := none, standbyHeld := none, mainOffer := .none, standbyOffer := .none, retime := none
          measurement := { x.align.measurement with count := 0, greatest := none, waiting := none }
          freeUnits := 21 } }).abandonCaptures c

/-! ## The end of a copy (R56) -/

/-- R56: a slate copy ends. The slate is FILLED with the held frame's picture and the request ends with CAPTURED. -/
def State.completeCopy (s : State) (i : Fin 8) : State :=
  match s.slates[i.val].request with
  | some r =>
    match r.copying, (s.ch r.chan).align.heldOn r.path with
    | some h, some f =>
      let picture : Picture := { video := f.video, luma := f.summary.luma, chan := r.chan, path := r.path, position := h }
      (s.modSlate i fun _ => { state := .filled picture, request := none }).captureReply r .captured
        [.num 1 r.chan.val, .enum (sourcePathCode r.path), .pos h]
    | _, _ => s
  | none => s

end Sys2Proof.Machine
end

