-- ==== Sys2Proof/Machine/Carriage.lean ====
section
/-! DEFINITION. The Carriage Receiver (Chapter 2): reception of carriers at the ports, path liveness, reassembly on the main and standby paths, and
the late tracker. -/

namespace Sys2Proof.Machine

/-- Whether the configuration image is still being loaded (R9, R40). -/
def State.loading (s : State) : Bool := s.mgmt.config == .loading

/-- A carrier counted at its port (R20). -/
def State.countCarrier (s : State) (p : Port) : State := s.bump (.port p .carriersIn)

/-- A valid carrier offered to the liveness count of its path (R25). -/
def State.markTraffic (s : State) (p : Port) : State :=
  match p with
  | .contribution side => s.modPath side fun x => { x with traffic := true }
  | _ => s

/-! ## Header range checks (R21) -/

/-- The range checks of R21 that do not depend on the kind: the stamp, the payload length and the fragment index. -/
def State.headerInRange (s : State) (stamp fragIndex fragCount length : Nat) : Bool :=
  stamp < s.cycle && length ≤ 1408 && 1 ≤ fragCount && fragIndex < fragCount

/-- R21 check 3 for a media carrier; `channels` is 16 on a contribution port and 32 on a standby port. -/
def State.mediaInRange (s : State) (m : Media) (channels : Nat) : Bool :=
  s.headerInRange m.stamp m.fragIndex m.fragCount m.payload.length && m.channel < channels &&
    match m.kind with
    | .video => m.fragCount ≤ 1024
    | .audio => m.fragCount ≤ 64
    | .summary => m.fragIndex == 0 && m.fragCount == 1

/-- R21 check 3 for a control carrier. -/
def State.controlInRange (s : State) (stamp channel : Nat) : Bool :=
  stamp < s.cycle && (channel < 16 || channel == 255)

/-! ## Pieces (R29 to R33, R35) -/

/-- SUMMARY content read from its payload (R32, Table 11-2); absent for a bad SUMMARY. -/
def parseSummary (payload : List Byte) : Option Summary :=
  let vc := bigEndian (payload.take 2)
  let ac := bigEndian ((payload.drop 2).take 1)
  let luma := bigEndian ((payload.drop 3).take 2)
  let pairs := bigEndian ((payload.drop 5).take 1)
  let peaks := (List.range pairs).map fun i => bigEndian ((payload.drop (6 + 2 * i)).take 2)
  if 6 ≤ payload.length ∧ payload.length = 6 + 2 * pairs ∧ 1 ≤ vc ∧ vc ≤ 1024 ∧ ac ≤ 64 ∧ luma ≤ 1023 ∧ pairs ≤ 8 ∧
      peaks.all (· ≤ 32767) then
    some { vc := vc, ac := ac, luma := luma, peaks := peaks }
  else none

/-- How a carrier meets a record that collects pieces (R30 to R32): a duplicate, a count disagreement, a bad SUMMARY, or a first copy with the
counts announced after it. -/
inductive Admission where
  | duplicate
  | disagree
  | badSummary
  | store (vc ac : Option Nat) (summary : Option Summary)
deriving DecidableEq, Repr

/-- Whether an announced count agrees with another (R31). -/
def agrees (announced : Option Nat) (n : Nat) : Bool :=
  match announced with
  | none => true
  | some m => m == n

/-- R30 to R32: a carrier judged against the pieces and counts of a record. A duplicate is judged before any count. -/
def admitPiece (t : Tracker) (m : Media) : Admission :=
  match m.kind with
  | .video =>
    if t.video.contains m.fragIndex then .duplicate
    else if agrees t.vc m.fragCount then .store (some m.fragCount) t.ac none else .disagree
  | .audio =>
    if t.audio.contains m.fragIndex then .duplicate
    else if agrees t.ac m.fragCount then .store t.vc (some m.fragCount) none else .disagree
  | .summary =>
    if t.summary then .duplicate
    else
      match parseSummary m.payload with
      | none => .badSummary
      | some x => if agrees t.vc x.vc && agrees t.ac x.ac then .store (some x.vc) (some x.ac) (some x) else .disagree

/-- The completion condition of R33. -/
def Tracker.complete (t : Tracker) : Bool :=
  match t.summary, t.vc, t.ac with
  | true, some v, some a => (List.range v).all t.video.contains && (List.range a).all t.audio.contains
  | _, _, _ => false

/-- A tracker after a first copy is recorded (R35). -/
def Tracker.record (t : Tracker) (m : Media) (vc ac : Option Nat) : Tracker :=
  match m.kind with
  | .video => { t with vc := vc, ac := ac, video := insertNat m.fragIndex t.video }
  | .audio => { t with vc := vc, ac := ac, audio := insertNat m.fragIndex t.audio }
  | .summary => { t with vc := vc, ac := ac, summary := true }

/-- The sets and counts of a FILLING record, without its payload (R34). -/
def Collect.view (r : Collect) : Tracker :=
  { stamp := r.stamp, vc := r.vc, ac := r.ac, summary := r.summary.isSome, video := r.video.map (·.index), audio := r.audio.map (·.index) }

/-- A piece stored in index order. -/
def insertPiece (x : Piece) : List Piece → List Piece
  | [] => [x]
  | y :: rest => if x.index ≤ y.index then x :: y :: rest else y :: insertPiece x rest

/-- A FILLING record after a first copy is stored (R30). -/
def Collect.record (r : Collect) (m : Media) (vc ac : Option Nat) (summary : Option Summary) : Collect :=
  match m.kind with
  | .video => { r with vc := vc, ac := ac, video := insertPiece { index := m.fragIndex, payload := m.payload } r.video }
  | .audio => { r with vc := vc, ac := ac, audio := insertPiece { index := m.fragIndex, payload := m.payload } r.audio }
  | .summary => { r with vc := vc, ac := ac, summary := summary }

/-- The signature of R36: the CRC-32 over the video payloads from piece 0 to piece Vc − 1. -/
def frameSignature (video : List (List Byte)) : BitVec 32 := crc32 video.flatten

/-- A slot just opened for a stamp (R29). -/
def Collect.opened (stamp : Nat) : Collect :=
  { stamp := stamp, vc := none, ac := none, video := [], audio := [], summary := none }

/-- A slot that becomes COMPLETE (R33): on the main path with its signature and a lateness sample, on the standby path with neither (R38). The completion position
and the sample use H, which no boundary may have carried yet (DESIGN CHOICE, log 57). -/
def State.completeSlot (s : State) (c : Chan) (path : SourcePath) (r : Collect) (x : Summary) : State :=
  let video := r.video.map (·.payload)
  let audio := r.audio.map (·.payload)
  match path with
  | .main =>
    let f : Frame := { stamp := r.stamp, summary := x, video := video, audio := audio, signature := some (frameSignature video) }
    (s.modSlots c fun y => y.put .main r.stamp (.complete f s.time.h)).takeSample c (s.signed s.time.h r.stamp)
  | .standby =>
    let f : Frame := { stamp := r.stamp, summary := x, video := video, audio := audio, signature := none }
    s.modSlots c fun y => y.put .standby r.stamp (.complete f s.time.h)

/-- The counts made when a slot becomes CORRUPT (R31, R32, R38). A bad SUMMARY that makes a standby slot CORRUPT is counted in STANDBY_CORRUPT_FRAMES alone, and
not in BAD_SUMMARIES too (DESIGN CHOICE, log 25). -/
def State.countCorrupt (s : State) (c : Chan) (path : SourcePath) (badSummary : Bool) : State :=
  match path with
  | .main => (if badSummary then s.bumpCh c .badSummaries else s).bumpCh c .corruptFrames
  | .standby => s.bumpCh c .standbyCorruptFrames

/-- A carrier joining a FILLING record of its own stamp (R30 to R33). -/
def State.joinFilling (s : State) (c : Chan) (path : SourcePath) (p : Port) (r : Collect) (m : Media) : State :=
  match admitPiece r.view m with
  | .duplicate => s.bump (.port p .duplicates)
  | .disagree => (s.modSlots c fun y => y.put path r.stamp (.corrupt r.stamp)).countCorrupt c path false
  | .badSummary => (s.modSlots c fun y => y.put path r.stamp (.corrupt r.stamp)).countCorrupt c path true
  | .store vc ac summary =>
    let r' := r.record m vc ac summary
    match r'.summary with
    | some x => if r'.view.complete then s.completeSlot c path r' x else s.modSlots c fun y => y.put path r.stamp (.filling r')
    | none => s.modSlots c fun y => y.put path r.stamp (.filling r')

/-- A carrier for a COMPLETE slot of its own stamp: a duplicate, a bad SUMMARY, or a carrier whose counts differ (R30 to R32). A bad SUMMARY leaves the frame
as it stands on the standby path too (DESIGN CHOICE, log 25). -/
def State.joinComplete (s : State) (c : Chan) (p : Port) (f : Frame) (m : Media) : State :=
  match m.kind with
  | .video => if m.fragIndex < f.video.length then s.bump (.port p .duplicates) else s.bumpCh c .corruptDiscards
  | .audio => if m.fragIndex < f.audio.length then s.bump (.port p .duplicates) else s.bumpCh c .corruptDiscards
  | .summary =>
    match parseSummary m.payload with
    | none => s.bumpCh c .badSummaries
    | some _ => s.bump (.port p .duplicates)

/-- An in-window carrier taken to its slot (R29, R38). -/
def State.placePiece (s : State) (c : Chan) (path : SourcePath) (p : Port) (m : Media) : State :=
  let opened := Collect.opened m.stamp
  let reclaim : State :=
    let s := (s.bumpCh c .staleReclaims).modSlots c fun y => y.put path m.stamp (.filling opened)
    s.joinFilling c path p opened m
  match (s.ch c).slots.at path m.stamp with
  | .free =>
    let s := (s.takeUnit c).modSlots c fun y => y.put path m.stamp (.filling opened)
    s.joinFilling c path p opened m
  | .filling r => if r.stamp = m.stamp then s.joinFilling c path p r m else reclaim
  | .complete f _ => if f.stamp = m.stamp then s.joinComplete c p f m else reclaim
  | .corrupt q => if q = m.stamp then s.bumpCh c .corruptDiscards else reclaim

/-- A LATE carrier offered to the late tracker (R35). A bad SUMMARY is counted in LATE_ABANDONED alone (DESIGN CHOICE, log 25); the
lateness sample uses H as in `completeSlot` (DESIGN CHOICE, log 57). -/
def State.offerTracker (s : State) (c : Chan) (p : Port) (m : Media) : State :=
  match (s.ch c).slots.tracker with
  | none => s
  | some t =>
    if t.stamp ≠ m.stamp then s
    else
      match admitPiece t m with
      | .duplicate => s.bump (.port p .duplicates)
      | .disagree | .badSummary => (s.modSlots c fun y => { y with tracker := none }).bumpCh c .lateAbandoned
      | .store vc ac _ =>
        let t' := t.record m vc ac
        if t'.complete then
          ((s.modSlots c fun y => { y with tracker := none }).takeSample c (s.signed s.time.h t.stamp)).bumpCh c .lateCompletions
        else s.modSlots c fun y => { y with tracker := some t' }

/-- R28: a media carrier for an in-service channel classified against the acceptance window. For a channel that enters service between a change of house rate and
the next boundary the H of the window is H as R17 re-expresses it (DESIGN CHOICE, log 57). -/
def State.classifyMain (s : State) (c : Chan) (p : Port) (m : Media) : State :=
  let t := s.signed m.stamp ((s.time.h : Int) - s.delay c)
  if t ≤ 0 then (s.bump (.port p .late)).offerTracker c p m
  else if t ≤ 16 then s.placePiece c .main p m
  else s.bump (.port p .early)

/-- R52: a standby media carrier classified by its stamp's signed difference from H, before the boundary after a change of house rate H as re-expressed (DESIGN
CHOICE, log 57). -/
def State.classifyStandby (s : State) (c : Chan) (p : Port) (m : Media) : State :=
  let t := s.signed m.stamp s.time.h
  if t ≤ 0 then s.bumpCh c .standbyLate
  else if t ≤ 4 then s.placePiece c .standby p m
  else s.bumpCh c .standbyEarly

/-- The channels numbered by a header's channel field. -/
def chanOf (n : Nat) : Option Chan := if h : n < 16 then some ⟨n, h⟩ else none

/-- R20 to R23 and R28: a media carrier received on a contribution port. -/
def State.receiveMainMedia (s : State) (side : Side) (m : Media) : State :=
  let p := Port.contribution side
  let s := s.countCarrier p
  if s.loading then s
  else if !s.mediaInRange m 16 then s.bump (.port p .badField)
  else
    let s := s.markTraffic p
    match chanOf m.channel with
    | none => s
    | some c => if s.inService c then s.classifyMain c p m else s.bump (.port p .outOfService)

/-- The in-service channels whose configuration names a server and player (R37). -/
def State.assigned (s : State) (server player : Nat) : List Chan :=
  Chan.all.filter fun c => s.inService c && (s.ch c).settings.server.val == server && (s.ch c).settings.player.val == player

/-- R37: the channel of a standby media carrier, or the counter of its discard. -/
def State.assignStream (s : State) (n : Fin 4) (stream : Nat) : Sum PortCtr Chan :=
  let entry := s.settings.servers[(stream / 4) % 8]
  if !entry.mapped then .inl .standbyUnmapped
  else if entry.port ≠ n then .inl .standbyWrongPort
  else
    match s.assigned (stream / 4) (stream % 4) with
    | [] => .inl .standbyUnassigned
    | [c] => .inr c
    | _ => .inl .standbyAmbiguous

/-- R20 to R23, R37 and R52: a media carrier received on a standby port. -/
def State.receiveStandbyMedia (s : State) (n : Fin 4) (m : Media) : State :=
  let p := Port.standby n
  let s := s.countCarrier p
  if s.loading then s
  else if !s.mediaInRange m 32 then s.bump (.port p .badField)
  else
    match s.assignStream n m.channel with
    | .inl k => s.bump (.port p k)
    | .inr c => s.classifyStandby c p m

/-! ## Paths at a boundary (R25) -/

/-- The counts of one path at a boundary, its traffic flag cleared; and whether its state is due to change. -/
def pathBoundary (timeout restore : Nat) (x : PathState) : PathState × Bool :=
  if x.traffic then
    let run := min (x.run + 1) 250
    ({ x with traffic := false, silence := 0, run := run }, !x.up && restore ≤ run)
  else
    let silence := min (x.silence + 1) 250
    ({ x with traffic := false, silence := silence, run := 0 }, x.up && timeout ≤ silence)

/-- R25: both paths at a boundary. The changes of state are left to PATH_DOWN and PATH_UP (DESIGN CHOICE, log 2). -/
def State.takePathsBoundary (s : State) : State :=
  let a := pathBoundary s.settings.pathTimeout s.settings.pathRestore s.ports.pathA
  let b := pathBoundary s.settings.pathTimeout s.settings.pathRestore s.ports.pathB
  { s with
    ports := { s.ports with pathA := a.1, pathB := b.1 }
    work := { s.work with pathA := a.2, pathB := b.2 } }

end Sys2Proof.Machine
end

