-- ==== Sys2Proof/Machine/CueBasics.lean ====
section
/-! DEFINITION. The parts of the Cue Engine on which the Channel Controller's own rules rest: reaching a server (R155), CANCEL and STOP (R170), and the channel
record's state, records and reports (R120, R122, R128, R129, R145, R147). -/

namespace Sys2Proof.Machine

/-! ## Events and cues -/

/-- The end of an event, a plain number (R3, R95). -/
def Event.finish (e : Event) : Nat := e.start + e.duration

/-- The in_point of an event, present for CLIP and FIXED (R95). -/
def Material.inPoint : Material → Option Nat
  | .clip _ i => some i
  | .fixed _ i => some i
  | .live _ => none

/-- The material position of a cue: in_point + offset for CLIP and FIXED (R150). -/
def Event.materialPosition (e : Event) (offset : Nat) : Option Nat := e.material.inPoint.map (· + offset)

/-- The live list of a channel; no events when it is absent (R96). -/
def State.live (s : State) (c : Chan) : List Event := (s.ch c).schedule.live.getD []

/-! ## Reaching a server (R155) -/

/-- The standby port on which a server can be reached: its entry is mapped and the port's link state is not DOWN (R155). -/
def State.reach (s : State) (server : Fin 8) : Option Port :=
  let e := s.settings.servers[server.val]
  if e.mapped && s.linkUp (.standby e.port) then some (.standby e.port) else none

/-- CANCEL sent to a server for a player and cue number, or counted as unsent (R170). -/
def State.sendCancel (s : State) (c : Chan) (server : Fin 8) (player number : Nat) : State :=
  match s.reach server with
  | some p => (s.bumpCh c .cancelsSent).send p (.cancel player number)
  | none => s.bumpCh c .cueControlsUnsent

/-- STOP sent to a server for a player and cue number, or counted as unsent (R170). -/
def State.sendStop (s : State) (c : Chan) (server : Fin 8) (player number : Nat) : State :=
  match s.reach server with
  | some p => (s.bumpCh c .stopsSent).send p (.stop player number)
  | none => s.bumpCh c .cueControlsUnsent

/-- CANCEL for a cue whose status is SENT or READY; a FAILED cue has been cancelled already or was never sent (R170). -/
def State.cancelCue (s : State) (c : Chan) (x : Cue) : State :=
  match x.status, x.number with
  | .failed, _ => s
  | _, some n => s.sendCancel c x.server x.player.val n
  | _, none => s

/-- The pending cue, if present, is cancelled and removed (R170). -/
def State.cancelPending (s : State) (c : Chan) : State :=
  match (s.ch c).cue.pendingCue with
  | none => s
  | some x => (s.cancelCue c x).modCue c fun y => { y with pendingCue := none }

/-- The playing cue, if present, is stopped and removed (R170). -/
def State.stopPlaying (s : State) (c : Chan) : State :=
  match (s.ch c).cue.playing with
  | none => s
  | some x =>
    let t := match x.number with
      | some n => s.sendStop c x.server x.player.val n
      | none => s
    t.modCue c fun y => { y with playing := none }

/-- The schedule wait cleared. -/
def State.clearWait (s : State) (c : Chan) : State := s.modCue c fun y => { y with wait := none }

/-! ## The channel record -/

/-- The state of a channel in the Channel Controller. -/
def State.chState (s : State) (c : Chan) : ChannelState := (s.ch c).control.state

/-- A change of state, delivered to the Output Assembler as it is made (R122). -/
def State.setState (s : State) (c : Chan) (x : ChannelState) : State :=
  (s.modControl c fun y => { y with state := x }).modOutput c fun y => { y with delivered := x }

/-- The current record updated while it stands in the ring; a write to a record that is gone is dropped (R145). -/
def State.modRecord (s : State) (c : Chan) (f : TakeoverRecord → TakeoverRecord) : State :=
  match (s.ch c).control.current with
  | none => s
  | some q => s.modControl c fun y => { y with ring := y.ring.map fun r => if r.sequence = q then f r else r }

/-- The current record as it stands in the ring. -/
def State.currentRecord (s : State) (c : Chan) : Option TakeoverRecord :=
  match (s.ch c).control.current with
  | none => none
  | some q => (s.ch c).control.ring.find? fun r => r.sequence == q

/-- A record's outcome set unless it is ON_STANDBY (R129). -/
def keepOnStandby (o : RecordOutcome) (r : TakeoverRecord) : TakeoverRecord :=
  if r.outcome = .onStandby then r else { r with outcome := o }

/-- The sequence of the current record while it stands in the ring. A switched report carries it absent once CLEAR_RECORDS or eight later records have removed the
record (R147), and a cue failed and a returned report follow it (DESIGN CHOICE, log 43). -/
def State.currentSequence (s : State) (c : Chan) : Option Nat := (s.currentRecord c).map (·.sequence)

/-- A cue failed report with CUE_FAILURES (R129, R147). -/
def State.cueFailed (s : State) (c : Chan) : State :=
  (s.bumpCh c .cueFailures).raise
    (.cueFailed c (s.currentSequence c) (s.chState c) (s.ch c).control.awaitingRecue)

/-- R129: an exhaustion of attempts taken by the Channel Controller. -/
def State.exhausted (s : State) (c : Chan) : State :=
  match s.chState c with
  | .cueing =>
    let t := (s.modRecord c fun r => { r with outcome := .cueFailed }).setState c .main
    (t.modControl c fun y => { y with cause := none, awaitingRecue := true }).cueFailed c
  | .fill => (s.modRecord c (keepOnStandby .cueFailed)).cueFailed c
  | .standby => ((s.setState c .fill).stopPlaying c).cueFailed c
  | .returnGuard | .returning => (s.modControl c fun y => { y with returnOrigin := some .fill }).cueFailed c
  | _ => s

/-- R129: a finding of NO_SCHEDULE taken by the Channel Controller. -/
def State.noSchedule (s : State) (c : Chan) : State :=
  match s.chState c with
  | .cueing => (s.modRecord c (keepOnStandby .noSchedule)).setState c .fill
  | .fill => s.modRecord c (keepOnStandby .noSchedule)
  | .standby => (s.setState c .fill).stopPlaying c
  | .returnGuard | .returning => s.modControl c fun y => { y with returnOrigin := some .fill }
  | _ => s

/-- R128: a switch taken by the Channel Controller. -/
def State.switchTaken (s : State) (c : Chan) (kind : CueKind) (t : Nat) : State :=
  match s.chState c, kind with
  | .cueing, .join | .fill, .join =>
    let record (r : TakeoverRecord) : TakeoverRecord :=
      if r.outcome = .onStandby then r else { r with outcome := .onStandby, switchPosition := some t }
    let s := (s.modRecord c record).setState c .standby
    s.raise (.switched c (s.currentSequence c) .join t (s.chState c))
  | .standby, .join | .returnGuard, .join | .returning, .join =>
    s.raise (.switched c (s.currentSequence c) .join t (s.chState c))
  | _, _ => s

end Sys2Proof.Machine
end

