-- ==== Sys2Proof/Machine/CueEngine.lean ====
section
/-! DEFINITION. The Cue Engine (Chapter 8): computing and sending joins and follow-ons, their failures, the servers' answers, and the changes that schedule notices
and realignments make. -/

namespace Sys2Proof.Machine

/-! ## Joins (R152 to R154) -/

/-- What a join found: the event at S with the offset found there, and the event to cue with its offset and switch position. -/
structure JoinChoice where
  found : Option (Event × Nat)
  cued : Option (Event × Nat × Nat)
deriving DecidableEq, Repr

/-- R152 and R153: the join of Table 8-2. `h` is the house position of the decision; S is compared as a plain number. -/
def chooseJoin (events : List Event) (h lead d margin : Nat) : JoinChoice :=
  let t := h + lead
  let sp : Int := (t : Int) - d
  let next : Option (Event × Nat × Nat) := (events.find? fun e => sp < e.start).map fun e => (e, 0, e.start + d)
  match events.find? fun e => (e.start : Int) ≤ sp && sp < e.finish with
  | none => { found := none, cued := next }
  | some e =>
    let o := (sp - e.start).toNat
    let cued :=
      match e.material with
      | .clip _ _ => if margin ≤ e.duration - o then some (e, o, t) else next
      | .fixed _ _ => if o = 0 then some (e, 0, t) else next
      | .live _ => some (e, o, t)
    { found := some (e, o), cued := cued }

/-- The join of channel `c` decided at the present H. -/
def State.chooseJoin (s : State) (c : Chan) : JoinChoice :=
  let x := (s.ch c).settings
  Machine.chooseJoin (s.live c) s.time.h x.lead (s.delay c) x.joinMargin

/-- R154: while the record link is set, a computed join writes the event id and offset found at S into the current record, and the link is cleared.
Both stay absent when S lies in a gap or the join finds no event. -/
def State.writeLink (s : State) (c : Chan) (j : JoinChoice) : State :=
  if (s.ch c).cue.recordLink then
    let s := match j.found, j.cued with
      | some (e, o), some _ => s.modRecord c fun r => { r with event := some (e.id, o) }
      | _, _ => s
    s.modCue c fun y => { y with recordLink := false }
  else s

/-- A cue for a channel's server and player, with the material position and the play length that its server is given (R150, R155). -/
def State.makeCue (s : State) (c : Chan) (kind : CueKind) (e : Event) (offset t used limit : Nat) (number : Option Nat) (status : CueStatus) : Cue :=
  { number := number, kind := kind, server := (s.ch c).settings.server, player := (s.ch c).settings.player, event := e, offset := offset
    materialPosition := e.materialPosition offset, playLength := e.duration - offset, switchPosition := s.wrap (t : Int), used := used, limit := limit, status := status }

/-- R155: the CUE carrier goes out, the cue becomes the pending cue with status SENT, and the next cue number advances. The event start that it carries is
a position, held below C (DESIGN CHOICE, log 16). -/
def State.sendCue (s : State) (c : Chan) (p : Port) (kind : CueKind) (e : Event) (offset t used limit : Nat) : State :=
  let n := (s.ch c).cue.nextNumber
  let x := s.makeCue c kind e offset t used limit (some n) .sent
  let s := s.modCue c fun y => { y with pendingCue := some x, nextNumber := (n + 1) % 256 }
  (s.bumpCh c .cuesSent).send p (.cue x.player n kind { e with start := s.wrap (e.start : Int) } offset x.switchPosition)

/-- R152 to R158: a join computed with the attempts it carries. A server out of reach fails each attempt at once, until the limit; `fuel` bounds the
attempts left and is never used up before it. -/
def State.runJoin : Nat → State → Chan → Nat → Nat → State
  | 0, s, _, _, _ => s
  | fuel + 1, s, c, used, limit =>
    let j := s.chooseJoin c
    let s := s.writeLink c j
    match j.cued with
    | none => (s.modCue c fun y => { y with wait := some (used, limit) }).noSchedule c
    | some (e, o, t) =>
      match s.reach (s.ch c).settings.server with
      | some p => s.sendCue c p .join e o t used limit
      | none =>
        let s := s.bumpCh c .noServerFailures
        if used + 1 < limit then s.runJoin fuel c (used + 1) limit else s.exhausted c

/-- A join computed at the present H, carrying attempts used and attempt limit. The channel has no pending cue. -/
def State.join (s : State) (c : Chan) (used limit : Nat) : State := s.runJoin (limit + 1) c used limit

/-- Table 8-1, join with fresh attempts. -/
def State.requestJoin (s : State) (c : Chan) : State :=
  ((s.cancelPending c).clearWait c).join c 0 (s.ch c).settings.cueAttempts

/-- Table 8-1, cancel the pending cue. -/
def State.requestCancel (s : State) (c : Chan) : State := (s.cancelPending c).clearWait c

/-- Table 8-1, returned and end cues. -/
def State.endCues (s : State) (c : Chan) : State :=
  ((s.cancelPending c).stopPlaying c).modCue c fun y => { y with wait := none, recordLink := false }

/-- R158: a pending JOIN that failed after it was sent: CANCEL, and a new join or an exhaustion. -/
def State.failJoin (s : State) (c : Chan) (x : Cue) : State :=
  let s := s.cancelPending c
  if x.used + 1 < x.limit then s.join c (x.used + 1) x.limit else s.exhausted c

/-! ## Follow-ons (R161 to R164) -/

/-- The playing end (R161). -/
def Cue.playingEnd (x : Cue) : Nat := x.event.finish

/-- R161: the next event after the playing end whose start + d is later than H. -/
def State.nextEvent (s : State) (c : Chan) (x : Cue) : Option Event :=
  (s.live c).find? fun e => x.playingEnd ≤ e.start && s.time.h < e.start + s.delay c

/-- R161: whether a state lets the follow-on check be made. -/
def onStandbyPath : ChannelState → Bool
  | .standby | .returnGuard | .returning => true
  | _ => false

/-- R161: the issue position of N has been reached or passed, and in RETURNING N switches before the return position. -/
def State.issueReached (s : State) (c : Chan) (e : Event) : Bool :=
  let t : Int := e.start + s.delay c
  s.signed (t - (s.ch c).settings.lead) s.time.h ≤ 0 &&
    match s.chState c, (s.ch c).control.returnPosition with
    | .returning, some r => s.signed t r < 0
    | _, _ => true

/-- The event a follow-on check would cue now (R161). -/
def State.followOnTarget (s : State) (c : Chan) : Option Event :=
  match onStandbyPath (s.chState c), (s.ch c).cue.pendingCue, (s.ch c).cue.playing with
  | true, none, some x =>
    match s.nextEvent c x with
    | some e => if s.issueReached c e then some e else none
    | none => none
  | _, _, _ => none

/-- R150 and R162: the attempts used by a follow-on that becomes FAILED. A FAILED follow-on that is touched carries its attempts (R166), so one more could pass
the 7 of R150; they stay at 7 (DESIGN CHOICE, log 50). -/
def failedAttempts (used : Nat) : Nat := min (used + 1) 7

/-- R161, R155 and R162: a follow-on sent for the event found, carrying attempts. A server out of reach fails each attempt at once, until the
follow-on is FAILED; it then holds no number, since none was used (DESIGN CHOICE, log 61). -/
def State.runFollowOn : Nat → State → Chan → Nat → Nat → State
  | 0, s, _, _, _ => s
  | fuel + 1, s, c, used, limit =>
    match s.followOnTarget c with
    | none => s
    | some e =>
      let t := e.start + s.delay c
      match s.reach (s.ch c).settings.server with
      | some p => s.sendCue c p .followOn e 0 t used limit
      | none =>
        let s := s.bumpCh c .noServerFailures
        if used + 1 < limit ∧ 2 ≤ forwardDistance s.cycle s.time.h (s.wrap (t : Int)) then s.runFollowOn fuel c (used + 1) limit
        else
          let x := s.makeCue c .followOn e 0 t (failedAttempts used) limit none .failed
          s.modCue c fun y => { y with pendingCue := some x }

/-- The follow-on check of R161 with fresh attempts. -/
def State.followOnCheck (s : State) (c : Chan) : State :=
  let limit := (s.ch c).settings.cueAttempts
  s.runFollowOn (limit + 1) c 0 limit

/-- R162: a pending FOLLOW_ON that was refused: CANCEL, and it is computed again or becomes FAILED. Where it is computed again and the check of R161 sends
nothing at this H, it is dropped, and a later check starts with fresh attempts (DESIGN CHOICE, log 63). -/
def State.failFollowOn (s : State) (c : Chan) (x : Cue) : State :=
  if x.used + 1 < x.limit ∧ 2 ≤ forwardDistance s.cycle s.time.h x.switchPosition then
    (s.cancelPending c).runFollowOn (x.limit + 1) c (x.used + 1) x.limit
  else
    (s.cancelCue c x).modCue c fun y => { y with pendingCue := some { x with used := failedAttempts x.used, status := .failed } }

/-- R159 and R163: the pending cue becomes the playing cue. A previous playing cue on a different server or player is stopped. -/
def State.switchCue (s : State) (c : Chan) (x : Cue) : State :=
  let s := match (s.ch c).cue.playing with
    | some y => if y.server = x.server ∧ y.player = x.player then s else s.stopPlaying c
    | none => s
  let s := s.modCue c fun y => { y with pendingCue := none, playing := some x }
  ((s.bumpCh c .switches).switchTaken c x.kind x.switchPosition).followOnCheck c

/-! ## Answers (R156, R157) -/

/-- Whether a cue was sent to a server and player (R156). A cue that was never sent is one that holds no number (DESIGN CHOICE, log 61). -/
def sentTo (x : Option Cue) (server player : Nat) : Bool :=
  match x with
  | none => false
  | some y => y.number.isSome && y.server.val == server && y.player.val == player

/-- The in-service channels whose pending or playing cue was sent to a server and player (R156). -/
def State.answering (s : State) (server player : Nat) : List Chan :=
  Chan.all.filter fun c => s.inService c && (sentTo (s.ch c).cue.pendingCue server player || sentTo (s.ch c).cue.playing server player)

/-- Whether a cue holds the number that an answer names (R157). A cue that was never sent holds none (DESIGN CHOICE, log 61). -/
def numbered (x : Option Cue) (number : Nat) : Bool :=
  match x with
  | none => false
  | some y => y.number == some number

/-- R157: a READY judged against one channel's cues. The CANCEL for a FAILED pending cue goes to the server and player that answered, wherever that cue was
sent (DESIGN CHOICE, log 51). -/
def State.judgeReady (s : State) (c : Chan) (server : Fin 8) (player number : Nat) : State :=
  let waiting : Option Cue := (s.ch c).cue.pendingCue
  if numbered waiting number then
    match waiting.map Cue.status with
    | some .sent => s.modCue c fun y => { y with pendingCue := y.pendingCue.map fun x => { x with status := .ready } }
    | some .ready => s.bumpCh c .readyDuplicates
    | _ => (s.sendCancel c server player number).bumpCh c .strayReadies
  else if numbered (s.ch c).cue.playing number then s.bumpCh c .readyDuplicates
  else (s.sendCancel c server player number).bumpCh c .strayReadies

/-- R157: a REFUSED judged against one channel's cues. -/
def State.judgeRefused (s : State) (c : Chan) (number : Nat) : State :=
  match (s.ch c).cue.pendingCue with
  | some x =>
    if x.number = some number ∧ x.status ≠ .failed then
      let s := s.bumpCh c .cueRefusals
      match x.kind with
      | .join => s.failJoin c x
      | .followOn => s.failFollowOn c x
    else s.bumpCh c .strayRefusals
  | none => s.bumpCh c .strayRefusals

/-- R156: a READY offered to every channel that it concerns. -/
def State.takeReady (s : State) (server : Fin 8) (player number : Nat) : State :=
  match s.answering server.val player with
  | [] => s.bumpUnit .cueAnswersUnmatched
  | l => l.foldl (fun t c => t.judgeReady c server player number) s

/-- R156: a REFUSED offered to every channel that it concerns. -/
def State.takeRefused (s : State) (server : Fin 8) (player number : Nat) : State :=
  match s.answering server.val player with
  | [] => s.bumpUnit .cueAnswersUnmatched
  | l => l.foldl (fun t c => t.judgeRefused c number) s

/-! ## Schedule notices (R165 to R168) -/

/-- Whether a range [start, end) shares a position with the closed range from `lo` to `hi`, empty when `hi < lo`. -/
def rangeTouches (lo hi : Int) (r : Option (Nat × Nat)) : Bool :=
  match r with
  | none => false
  | some (a, b) => lo ≤ hi && (a : Int) ≤ hi && lo < (b : Int) && a < b

/-- Whether an item's range, before or after, touches the closed range from `lo` to `hi`. -/
def Item.touches (lo hi : Int) (x : Item) : Bool := rangeTouches lo hi x.before || rangeTouches lo hi x.after

/-- R165: whether a notice touches a pending JOIN. T is taken as a plain number ahead of H. -/
def State.joinTouched (s : State) (c : Chan) (x : Cue) : Notice → Bool
  | .amendment _ items =>
    let d : Int := s.delay c
    let lo : Int := s.time.h + (s.ch c).settings.lead - d
    let hi : Int := s.time.h + forwardDistance s.cycle s.time.h x.switchPosition - d
    items.any fun i => i.id == x.event.id || i.touches lo hi
  | .swap => true
  | .cleared => true

/-- R166: whether a notice touches a pending FOLLOW_ON. -/
def followOnTouched (x : Cue) (playing : Option Cue) : Notice → Bool
  | .amendment _ items =>
    match playing with
    | none => items.any fun i => i.id == x.event.id
    | some p => items.any fun i => i.id == x.event.id || i.id == p.event.id || i.touches p.playingEnd x.event.start
  | .swap => true
  | .cleared => true

/-- R167: whether a notice is looked at against the playing cue. -/
def playingTouched (p : Cue) : Notice → Bool
  | .amendment _ items => items.any fun i => i.id == p.event.id
  | .swap => true
  | .cleared => true

/-- R168: whether a notice makes a channel in FILL with a schedule wait compute a join. -/
def recheckNotice : Notice → Bool
  | .amendment .. => true
  | .swap => true
  | .cleared => false

/-- R165 and R166: the pending cue, if the notice touches it. -/
def State.touchedPending (s : State) (c : Chan) (notice : Notice) : Option Cue :=
  match (s.ch c).cue.pendingCue with
  | none => none
  | some x =>
    let touched :=
      match x.kind with
      | .join => s.joinTouched c x notice
      | .followOn => followOnTouched x (s.ch c).cue.playing notice
    if touched then some x else none

/-- R166: the follow-on check made for a touched pending FOLLOW_ON, with the attempts that it carries. Where it sends nothing at this H, the attempts are
forgotten, and the follow-on that a later check sends starts afresh (DESIGN CHOICE, log 63). -/
def State.recheckFollowOn (s : State) (c : Chan) (x : Cue) : State := s.runFollowOn (x.limit + 1) c x.used x.limit

/-- R165 and R166: the cue computed again for a touched pending cue, which has been cancelled. -/
def State.recomputeCue (s : State) (c : Chan) (x : Cue) : State :=
  match x.kind with
  | .join => s.join c x.used x.limit
  | .followOn => s.recheckFollowOn c x

/-- R166: what a touched pending cue still calls for once the join for a deleted playing event has been computed (R167): the follow-on check of a
FOLLOW_ON, which finds nothing to do while that join is pending. -/
def State.recheckTouched (s : State) (c : Chan) (touched : Option Cue) : State :=
  match touched with
  | some x => if x.kind = .followOn then s.recheckFollowOn c x else s
  | none => s

/-- R165 to R168: an event-changed notice taken whole for its channel. -/
def State.takeNotice (s : State) (c : Chan) (notice : Notice) : State :=
  let limit := (s.ch c).settings.cueAttempts
  let recheck : Option (Nat × Nat) :=
    if recheckNotice notice && s.chState c == .fill then (s.ch c).cue.wait else none
  let touched := s.touchedPending c notice
  let s := if touched.isSome then (s.cancelPending c).bumpCh c .recomputes else s
  let playing : Option Cue :=
    match (s.ch c).cue.playing with
    | some p => if playingTouched p notice then some p else none
    | none => none
  match playing with
  | some p =>
    match (s.live c).find? fun e => e.id == p.event.id with
    | none => ((s.cancelPending c).join c 0 limit).recheckTouched c touched
    | some e =>
      let s := s.modCue c fun y => { y with playing := y.playing.map fun q => { q with event := e } }
      match touched with
      | some x => s.recomputeCue c x
      | none => s
  | none =>
    match touched, recheck with
    | some x, _ => s.recomputeCue c x
    | none, some (used, most) => (s.clearWait c).join c used most
    | none, none => s

/-! ## Realignment (R169) -/

/-- R169: one channel at a REALIGNED boundary. -/
def State.realignCues (s : State) (c : Chan) : State :=
  let x := (s.ch c).cue
  let limit := (s.ch c).settings.cueAttempts
  match s.chState c with
  | .cueing | .fill =>
    match x.pendingCue with
    | some p => ((s.cancelPending c).bumpCh c .recomputes).join c p.used p.limit
    | none => s
  | .standby | .returnGuard =>
    if x.pendingCue.isSome || x.playing.isSome then
      let carried : Nat × Nat :=
        match x.pendingCue with
        | some p => if p.kind = .join then (p.used, p.limit) else (0, limit)
        | none => (0, limit)
      ((s.cancelPending c).bumpCh c .recomputes).join c carried.1 carried.2
    else s
  | .returning => s.cancelPending c
  | _ => s

/-! ## The Cue Engine's part of a boundary (R159 to R164) -/

/-- What the Cue Engine has to do for a channel at a boundary other than a REALIGNED one. -/
inductive CueStep where
  | joinSwitch (x : Cue)
  | joinExpiry (x : Cue)
  | followOnSwitch (x : Cue)
  | followOnFailure (x : Cue)
  | followOnCheck
  | endOfSchedule
deriving DecidableEq, Repr

/-- R159 to R164: the step a channel's cues call for at the present H, if any. At most one is taken at a boundary: the end of the schedule after a switch, and
a follow-on check after a join that ended in RETURN_GUARD or RETURNING, wait for the next boundary (DESIGN CHOICE, log 2). -/
def State.cueStep (s : State) (c : Chan) : Option CueStep :=
  match (s.ch c).cue.pendingCue with
  | some x =>
    if s.reached x.switchPosition then
      match x.kind, x.status with
      | .join, .ready => some (.joinSwitch x)
      | .join, _ => some (.joinExpiry x)
      | .followOn, .ready => some (.followOnSwitch x)
      | .followOn, _ => some (.followOnFailure x)
    else none
  | none =>
    match onStandbyPath (s.chState c), (s.ch c).cue.playing with
    | true, some p =>
      match s.nextEvent c p with
      | some e => if s.issueReached c e then some .followOnCheck else none
      | none => if s.signed (p.playingEnd + s.delay c : Nat) s.time.h ≤ 0 then some .endOfSchedule else none
    | _, _ => none

end Sys2Proof.Machine
end

