-- ==== Sys2Proof/Machine/Takeover.lean ====
section
/-! DEFINITION. The Channel Controller (Chapter 7): takeovers, the outcomes of cues, the return guard, returning and arriving, calling a return off, and what a verdict
notice does. -/

namespace Sys2Proof.Machine

/-! ## Takeover records and takeovers (R126, R145) -/

/-- A record joining a ring that holds at most 8 (R145). -/
def pushRecord (ring : List TakeoverRecord) (r : TakeoverRecord) : List TakeoverRecord :=
  (if 8 ≤ ring.length then ring.drop 1 else ring) ++ [r]

/-- R145: a record opened at the present H; it becomes the current record. -/
def State.openRecord (s : State) (c : Chan) (cause : TakeoverCause) (asserted : List Detector) (origin : Option Origin) : State :=
  let x := (s.ch c).control
  let r : TakeoverRecord :=
    { sequence := x.nextSequence, causes := [cause], asserted := asserted, origin := origin, decision := s.time.h
      replication := (s.ch c).schedule.state, event := none, switchPosition := none, outcome := .pending, returnPosition := none }
  let full : Bool := 8 ≤ x.ring.length
  let s := if full then s.bumpCh c .recordsOverwritten else s
  s.modControl c fun y =>
    { y with
      current := some x.nextSequence
      nextSequence := (x.nextSequence + 1) % 65536
      ring := pushRecord x.ring r
      overflow := x.overflow || full }

/-- The state that a takeover leads to (R126 step 4). -/
def takeoverState : TakeoverCause → ChannelState
  | .command => .cueing
  | .detector | .site => .fill

/-- R126: a takeover request, acted on for a channel in MAIN and in no other state. The takeover started report carries the sequence that the record has taken
(R145, R147), and is raised before the outcome of the join (DEDUCED, log 13). -/
def State.takeover (s : State) (c : Chan) (cause : TakeoverCause) (asserted : List Detector) (origin : Option Origin) : State :=
  if s.chState c = .main then
    let sequence := (s.ch c).control.nextSequence
    let s := s.openRecord c cause asserted origin
    let s := s.modControl c fun y =>
      { y with cause := some cause, sticky := true, returnAck := false, suspended := false, awaitingRecue := false }
    let s := s.setState c (takeoverState cause)
    let s := (s.bumpCh c .takeovers).raise
      (.takeoverStarted c sequence cause asserted origin s.time.h (s.ch c).schedule.state (s.chState c))
    (s.modCue c fun y => { y with recordLink := true }).requestJoin c
  else s

/-! ## Follow-on failures (R130) -/

/-- R130: a follow-on failure taken by the Channel Controller. -/
def State.followOnFailed (s : State) (c : Chan) : State :=
  match s.chState c with
  | .standby => (s.setState c .fill).requestJoin c
  | .returnGuard | .returning => s.modControl c fun y => { y with returnOrigin := some .fill }
  | _ => s

/-! ## The return guard (R131, R132) -/

/-- R131: the conditions under which a guard starts, other than the notice itself. -/
def State.guardAllowed (s : State) (c : Chan) : Bool :=
  let x := (s.ch c).control
  x.cause == some .detector && (s.ch c).settings.autoReturn && x.pin == .none && !x.suspended && s.site.state != .lost

/-- R131: the guard starts for a channel in STANDBY or FILL. -/
def State.startGuard (s : State) (c : Chan) : State :=
  match s.chState c with
  | .standby =>
    (s.modControl c fun y => { y with returnOrigin := some .standby, guard := some 0 }).setState c .returnGuard
  | .fill =>
    ((s.requestCancel c).modControl c fun y => { y with returnOrigin := some .fill, guard := some 0 }).setState c .returnGuard
  | _ => s

/-! ## Returning (R133) -/

/-- R133: the return position computed on entry to RETURNING from the present H. -/
def State.computeReturn (s : State) (c : Chan) (byPin : Bool) : Nat :=
  let x := (s.ch c).control
  if x.returnOrigin = some .fill ∨ (s.ch c).settings.returnMode = .immediate ∨ byPin = true ∨ (s.ch c).schedule.state = .empty then
    s.wrap (s.time.h + 1 : Nat)
  else
    match firstLater (s.live c) (s.delay c) s.time.h with
    | some e => s.wrap (e.start + s.delay c : Nat)
    | none => s.wrap (s.time.h + 1 : Nat)

/-- Table 8-1, return position: a pending FOLLOW_ON that switches at or after it is cancelled. -/
def State.tellReturn (s : State) (c : Chan) (r : Nat) : State :=
  match (s.ch c).cue.pendingCue with
  | some x => if x.kind = .followOn ∧ 0 ≤ s.signed x.switchPosition r then s.cancelPending c else s
  | none => s

/-- R133: a channel enters RETURNING with the return origin it holds. -/
def State.enterReturning (s : State) (c : Chan) (byPin : Bool) : State :=
  let r := s.computeReturn c byPin
  ((s.modControl c fun y => { y with guard := none, returnPosition := some r }).setState c .returning).tellReturn c r

/-- The returned report, and the record closed (R133, R136, R138). The sequence and the outcome are absent if the record is gone (DESIGN CHOICE, log 43). -/
def State.closeRecord (s : State) (c : Chan) : State :=
  let s := (s.bumpCh c .returns).raise
    (.returned c (s.currentSequence c) s.time.h ((s.currentRecord c).map (·.outcome)))
  s.modControl c fun y => { y with current := none }

/-- The outcome of a record at an arrival (R133). -/
def arrivalOutcome : RecordOutcome → RecordOutcome
  | .pending | .noSchedule => .fillOnly
  | o => o

/-- R133: a RETURNING channel arrives on the main path. -/
def State.arrive (s : State) (c : Chan) : State :=
  let h := s.time.h
  let s := (s.setState c .main).endCues c
  let s := s.modControl c fun y => { y with cause := none, returnOrigin := none, returnPosition := none, returnAck := true }
  (s.modRecord c fun r => { r with returnPosition := some h, outcome := arrivalOutcome r.outcome }).closeRecord c

/-- R136 and R138 in CUEING: the takeover is abandoned. -/
def State.abandonTakeover (s : State) (c : Chan) : State :=
  let h := s.time.h
  let s := (s.requestCancel c).setState c .main
  let s := s.modControl c fun y => { y with cause := none }
  (s.modRecord c fun r => { r with returnPosition := some h, outcome := .abandoned }).closeRecord c

/-- R132: the return guard expires. -/
def State.expireGuard (s : State) (c : Chan) : State := (s.bumpCh c .guardExpiries).enterReturning c false

/-! ## Calling a return off (R134) -/

/-- R134: a return is called off by a FAILED notice, HOLD or PIN, or, when `bySite`, by the site-loss notice. With return origin STANDBY the
Cue Engine resumes standby in each case: the cues that it holds are kept, and a follow-on is computed where none is pending (DEDUCED, log 12). -/
def State.callOff (s : State) (c : Chan) (bySite : Bool) : State :=
  let origin := (s.ch c).control.returnOrigin
  let s := s.modControl c fun y => { y with guard := none, returnPosition := none, returnOrigin := none }
  match origin, bySite with
  | some .fill, true => (s.setState c .standby).requestJoin c
  | some .fill, false => ((s.setState c .fill).stopPlaying c).requestJoin c
  | _, _ => (s.setState c .standby).followOnCheck c

/-- A return called off by FAILED, HOLD or PIN: GUARD_CANCELS is counted for a channel in RETURN_GUARD (R132, R137, R139). -/
def State.callOffReturn (s : State) (c : Chan) : State :=
  (if s.chState c = .returnGuard then s.bumpCh c .guardCancels else s).callOff c false

/-! ## Verdict notices (R125, R127, R131 to R133) -/

/-- R127: a FAILED notice for a PROTECTED channel in CUEING. -/
def State.cueingFailed (s : State) (c : Chan) (asserted : List Detector) : State :=
  let s := s.modRecord c fun r => { r with causes := r.causes ++ [.detector], asserted := asserted }
  (s.modControl c fun y => { y with cause := some .detector }).setState c .fill

/-- A verdict notice taken by the Channel Controller. -/
def State.takeVerdict (s : State) (n : VerdictNotice) : State :=
  let c := n.chan
  let x := (s.ch c).control
  match x.state, n.new with
  | .main, .failed =>
    if x.mode = .protected_ ∧ x.pin = .none then s.takeover c .detector n.asserted none else s
  | .cueing, .failed => if x.mode = .protected_ then s.cueingFailed c n.asserted else s
  | .standby, .healthy | .fill, .healthy => if s.guardAllowed c then s.startGuard c else s
  | .returnGuard, .suspect => (s.bumpCh c .guardRestarts).modControl c fun y => { y with guard := some 0 }
  | .returnGuard, .failed => s.callOffReturn c
  | .returning, .failed => if x.pin = .none then s.callOffReturn c else s
  | _, _ => s

/-! ## Service (R123, R124) -/

/-- R123: the channel record at an entry into service. -/
def State.controlEntry (s : State) (c : Chan) (mode : ServiceMode) : State :=
  (s.modControl c fun y =>
    { y with
      mode := mode, pin := .none, cause := none, returnOrigin := none, guard := none, returnPosition := none
      suspended := false, awaitingRecue := false, current := none }).setState c .main

/-- A PENDING outcome abandoned (R124, R149). -/
def abandonPending (r : TakeoverRecord) : TakeoverRecord :=
  if r.outcome = .pending then { r with outcome := .abandoned } else r

/-- R124: the channel record at an exit from service. The cues are ended first. -/
def State.controlExit (s : State) (c : Chan) : State :=
  let s := (s.endCues c).modRecord c abandonPending
  (s.modControl c fun y =>
    { y with
      mode := .outOfService, pin := .none, cause := none, returnOrigin := none, guard := none, returnPosition := none
      suspended := false, awaitingRecue := false, current := none }).setState c .outOfService

/-! ## Channel commands (R135 to R142, R146) -/

/-- Whether an origin is the owner of a channel (R135). -/
def State.owns (s : State) (c : Chan) (o : Origin) : Bool :=
  match o, (s.ch c).control.owner with
  | .mainSite, .mainSite => true
  | .console, .localSite => true
  | _, _ => false

/-- R135: TAKE. -/
def State.commandTake (s : State) (c : Chan) (o : Origin) : State × Result :=
  if !s.owns c o then (s, .notOwner)
  else if !s.inService c then (s, .outOfService)
  else if (s.ch c).control.pin = .main then (s, .pinned)
  else if s.chState c ≠ .main then (s, .alreadyTaken)
  else (s.takeover c .command [] (some o), .accepted)

/-- R136: RETURN. It is refused with PINNED with either pin (R136, R138). -/
def State.commandReturn (s : State) (c : Chan) (o : Origin) : State × Result :=
  if !s.owns c o then (s, .notOwner)
  else if s.site.state = .lost then (s, .siteLost)
  else if !s.inService c then (s, .outOfService)
  else if (s.ch c).control.pin ≠ .none then (s, .pinned)
  else
    match s.chState c with
    | .standby => ((s.modControl c fun y => { y with returnOrigin := some .standby }).enterReturning c false, .accepted)
    | .fill => (((s.requestCancel c).modControl c fun y => { y with returnOrigin := some .fill }).enterReturning c false, .accepted)
    | .returnGuard => (s.enterReturning c false, .accepted)
    | .returning => (s, .accepted)
    | .cueing => (s.abandonTakeover c, .accepted)
    | .main | .outOfService => (s, .notTaken)

/-- R137: HOLD. -/
def State.commandHold (s : State) (c : Chan) (o : Origin) : State × Result :=
  if !s.owns c o then (s, .notOwner)
  else if !s.inService c then (s, .outOfService)
  else
    match s.chState c with
    | .main | .cueing | .outOfService => (s, .notTaken)
    | .returnGuard | .returning =>
      ((s.modControl c fun y => { y with suspended := true }).callOffReturn c, .accepted)
    | .standby | .fill => (s.modControl c fun y => { y with suspended := true }, .accepted)

/-- R185: a PIN that changes the pin, naming MAIN or STANDBY, ends a running ramp. -/
def State.setPin (s : State) (c : Chan) (p : Pin) : State :=
  let s :=
    if (s.ch c).output.ramp ≠ .idle then
      (s.modOutput c fun y => { y with ramp := .idle }).bumpCh c .rampsCut
    else s
  s.modControl c fun y => { y with pin := p }

/-- R138: PIN naming MAIN. Naming the pin already held changes nothing (R139, DEDUCED, log 31). -/
def State.commandPinMain (s : State) (c : Chan) : State × Result :=
  if !s.inService c then (s, .outOfService)
  else if s.site.state = .lost ∧ (s.chState c = .fill ∨ s.chState c = .standby) then (s, .siteLost)
  else if (s.ch c).control.pin = .main then (s, .accepted)
  else
    let s := (s.setPin c .main).modControl c fun y => { y with awaitingRecue := false }
    let h1 := s.wrap (s.time.h + 1 : Nat)
    match s.chState c with
    | .cueing => (s.abandonTakeover c, .accepted)
    | .fill => (((s.requestCancel c).modControl c fun y => { y with returnOrigin := some .fill }).enterReturning c true, .accepted)
    | .standby => (((s.requestCancel c).modControl c fun y => { y with returnOrigin := some .standby }).enterReturning c true, .accepted)
    | .returnGuard => ((s.requestCancel c).enterReturning c true, .accepted)
    | .returning =>
      let s := s.requestCancel c
      let later : Bool :=
        match (s.ch c).control.returnPosition with
        | some r => 0 < s.signed r h1
        | none => false
      if later then ((s.modControl c fun y => { y with returnPosition := some h1 }).tellReturn c h1, .accepted) else (s, .accepted)
    | .main | .outOfService => (s, .accepted)

/-- R139: PIN naming STANDBY. The record's command origin is CONSOLE. Naming the pin already held changes nothing (DEDUCED, log 31). -/
def State.commandPinStandby (s : State) (c : Chan) : State × Result :=
  if !s.inService c then (s, .outOfService)
  else if (s.ch c).control.pin = .standby then (s, .accepted)
  else
    let s := s.setPin c .standby
    match s.chState c with
    | .main => (s.takeover c .command [] (some .console), .accepted)
    | .returnGuard | .returning => (s.callOffReturn c, .accepted)
    | _ => (s, .accepted)

/-- R139: UNPIN. -/
def State.commandUnpin (s : State) (c : Chan) : State × Result :=
  if !s.inService c then (s, .outOfService) else (s.modControl c fun y => { y with pin := .none }, .accepted)

/-- R140: SEIZE. -/
def State.commandSeize (s : State) (c : Chan) : State × Result :=
  (s.modControl c fun y => { y with owner := .localSite }, .accepted)

/-- R140: RELEASE. -/
def State.commandRelease (s : State) (c : Chan) : State × Result :=
  if s.site.state = .lost then (s, .siteLost)
  else (s.modControl c fun y => { y with owner := .mainSite }, .accepted)

/-- R141: ACK_TAKEOVER; from CONSOLE it is taken whatever the owner. -/
def State.commandAck (s : State) (c : Chan) (o : Origin) : State × Result :=
  if o = .mainSite ∧ s.owns c o = false then (s, .notOwner)
  else (s.modControl c fun y => { y with sticky := false }, .accepted)

/-- R142: RECUE. -/
def State.commandRecue (s : State) (c : Chan) : State × Result :=
  if !s.inService c then (s, .outOfService)
  else if (s.ch c).control.pin = .main then (s, .pinned)
  else
    match s.chState c with
    | .cueing | .fill => (s.requestJoin c, .accepted)
    | .main =>
      if (s.ch c).control.awaitingRecue then
        let s := s.modControl c fun y => { y with awaitingRecue := false, cause := some .command, sticky := true }
        let s := (s.modRecord c fun r => { r with outcome := .pending }).setState c .cueing
        (s.requestJoin c, .accepted)
      else (s, .notTaken)
    | .standby => (s.requestJoin c, .accepted)
    | .returnGuard | .returning => (s, .inReturn)
    | .outOfService => (s, .outOfService)

/-- R146: CLEAR_RECORDS. -/
def State.commandClearRecords (s : State) (c : Chan) : State × Result :=
  (s.modControl c fun y => { y with ring := [], overflow := false, current := none }, .accepted)

end Sys2Proof.Machine
end

