-- ==== Sys2Proof/Machine/Monitor.lean ====
section
/-! DEFINITION. The Continuity Monitor (Chapter 4): how each detector classes a frame, runs, assertion and clearing, settling, the verdict, edges and the
verdict notice. -/

namespace Sys2Proof.Machine

/-! ## Classing a frame (R62, R63, Table 4-2) -/

/-- How a detector classes a frame. -/
inductive FrameClass where
  | bad
  | good
  | neither
deriving DecidableEq, Repr

/-- A class from a condition that makes the frame bad. -/
def classIf (isBad : Bool) : FrameClass := if isBad then .bad else .good

/-- R63: whether a pair is silent in a frame. -/
def pairSilent (x : Summary) (threshold : Nat) (pair : Nat) : Bool :=
  match x.peaks[pair]? with
  | none => true
  | some peak => peak ≤ threshold

/-- R63: whether every pair of the set is silent; a frame with no pairs is bad whatever the set holds. -/
def allSilent (x : Summary) (set : BitVec 8) (threshold : Nat) : Bool :=
  [0, 1, 2, 3, 4, 5, 6, 7].all fun i => !set.getLsbD i || pairSilent x threshold i

/-- Table 4-2. -/
def classify (det : Detector) (cfg : DetectorSettings) (set : BitVec 8) (reference : Option (BitVec 32)) : Judgement → FrameClass
  | .missing _ => if det = .arrival then .bad else .neither
  | .complete _ x signature =>
    match det with
    | .arrival => .good
    | .freeze =>
      match reference with
      | none => .neither
      | some _ => classIf (signature == reference)
    | .black => classIf (x.luma ≤ cfg.threshold.getD 0)
    | .silence => classIf (allSilent x set (cfg.threshold.getD 0))

/-! ## Runs (R64, R65, R67) -/

/-- The kind of edge a step of a detector makes. -/
inductive EdgeKind where
  | rise
  | fall
deriving DecidableEq, Repr

/-- R64 and R65: a settled detector counts a classed frame. -/
def countFrame (cfg : DetectorSettings) (x : DetectorState) (k : FrameClass) : DetectorState × Option EdgeKind :=
  match x.phase, k with
  | .clear, .bad =>
    if cfg.assertCount ≤ x.bad + 1 then ({ x with phase := .asserted, latched := true, bad := 0, good := 0 }, some .rise)
    else ({ x with bad := x.bad + 1 }, none)
  | .clear, .good => ({ x with bad := 0 }, none)
  | .asserted, .good =>
    if cfg.clearCount ≤ x.good + 1 then ({ x with phase := .clear, latched := false, bad := 0, good := 0 }, some .fall)
    else ({ x with good := x.good + 1 }, none)
  | .asserted, .bad => ({ x with good := 0 }, none)
  | _, _ => (x, none)

/-- The phase that a latched verdict gives when settling ends (R66, R67). -/
def settledPhase (latched : Bool) : Phase := if latched then .asserted else .clear

/-- R67: a settling detector counts a judgement. The end of settling is left to SETTLING_END (DESIGN CHOICE, log 2). -/
def countSettle (x : DetectorState) : DetectorState := { x with settle := x.settle - 1 }

/-- R66: a detector starts settling. -/
def startSettling (cfg : DetectorSettings) (x : DetectorState) : DetectorState :=
  { x with
    bad := 0, good := 0, settle := cfg.settleFrames
    phase := if cfg.settleFrames = 0 then settledPhase x.latched else .settling }

/-- One judgement at one detector (R62 steps 1 and 2). -/
def detectorStep (det : Detector) (cfg : DetectorSettings) (set : BitVec 8) (reference : Option (BitVec 32)) (j : Judgement) (x : DetectorState) :
    DetectorState × Option EdgeKind :=
  if !cfg.enabled then (x, none)
  else if x.phase = .settling then (countSettle x, none)
  else countFrame cfg x (classify det cfg set reference j)

/-! ## The verdict (R68 to R71) -/

/-- Whether a detector stands asserted (R59). -/
def standsAsserted (cfg : DetectorSettings) (x : DetectorState) : Bool := cfg.enabled && x.latched

/-- The settings of one detector of a channel. -/
def Channel.detCfg (x : Channel) (det : Detector) : DetectorSettings := x.settings.detectors[(detectorIndex det).val]

/-- The running state of one detector of a channel. -/
def Channel.detState (x : Channel) (det : Detector) : DetectorState := x.monitor.detectors[(detectorIndex det).val]

/-- Whether a detector of a channel stands asserted. -/
def Channel.stands (x : Channel) (det : Detector) : Bool := standsAsserted (x.detCfg det) (x.detState det)

/-- Whether a detector's enabled policy is ALARM or TAKEOVER. -/
def Channel.counted (x : Channel) (det : Detector) : Bool := (x.detCfg det).enabled && (x.detCfg det).policy != .ignore

/-- R69: the chained pair is failing. -/
def Channel.pairFailing (x : Channel) : Bool :=
  x.counted .black && x.counted .silence && x.stands .black && x.stands .silence &&
    ((x.detCfg .black).policy == .takeover || (x.detCfg .silence).policy == .takeover)

/-- Whether chaining holds a detector back (R69). -/
def Channel.heldBack (x : Channel) (det : Detector) : Bool := x.settings.chain && (det == .black || det == .silence)

/-- R68 and R69: a detector contributes failing by itself. -/
def Channel.failing (x : Channel) (det : Detector) : Bool :=
  x.stands det && (x.detCfg det).policy == .takeover && !x.heldBack det

/-- R68: a detector contributes suspect or more. -/
def Channel.suspecting (x : Channel) (det : Detector) : Bool :=
  x.counted det && (x.stands det || 0 < (x.detState det).bad)

/-- R70: the verdict of an in-service channel. -/
def Channel.evaluate (x : Channel) : Verdict :=
  if Detector.all.any x.failing || (x.settings.chain && x.pairFailing) then .failed
  else if Detector.all.any x.suspecting then .suspect
  else .healthy

/-- The asserted list of R71. -/
def Channel.assertedList (x : Channel) : List Detector :=
  Detector.all.filter fun det => x.counted det && x.stands det

/-- R70 and R71 without the delivery: the held verdict takes the value evaluated. Answers the notice, if the verdict changed. -/
def State.holdVerdict (s : State) (c : Chan) (cause : EvalCause) : State × Option VerdictNotice :=
  let old := (s.ch c).monitor.verdict
  let new := (s.ch c).evaluate
  if new = old then (s, none)
  else
    ((s.modMonitor c fun m => { m with verdict := new }).bumpCh c .verdictChanges,
      some { chan := c, old := old, new := new, position := s.time.h, cause := cause, asserted := (s.ch c).assertedList })

/-- A verdict notice, if there is one, delivered to the Channel Controller (R71). -/
def State.deliver (s : State) : Option VerdictNotice → State
  | none => s
  | some n => s.takeVerdict n

/-- R70 and R71: the verdict is evaluated, and a change is notified to the Channel Controller. -/
def State.evaluate (s : State) (c : Chan) (cause : EvalCause) : State :=
  (s.holdVerdict c cause).1.deliver (s.holdVerdict c cause).2

/-! ## Edges (R74, R76) -/

/-- The place of an edge entry in its page. -/
def edgeIndex (det : Detector) (k : EdgeKind) : Fin 8 :=
  ⟨2 * (detectorIndex det).val + (match k with | .rise => 0 | .fall => 1), by
    have := (detectorIndex det).isLt
    cases k <;> simp <;> omega⟩

/-- R74: an edge latched into its entry. -/
def latchEdge (h : Nat) : Option Edge → Option Edge
  | none => some { count := 1, first := h, latest := h }
  | some e => some { count := min (e.count + 1) 255, first := e.first, latest := h }

/-- The counter of an edge (R64, R65). -/
def edgeCounter : Detector → EdgeKind → ChanCtr
  | .arrival, .rise => .assertArrival
  | .freeze, .rise => .assertFreeze
  | .black, .rise => .assertBlack
  | .silence, .rise => .assertSilence
  | .arrival, .fall => .clearArrival
  | .freeze, .fall => .clearFreeze
  | .black, .fall => .clearBlack
  | .silence, .fall => .clearSilence

/-- R64, R65 and R74: one detector takes a judgement; the edge it latched, if any. -/
def State.judgeDetector (s : State) (c : Chan) (j : Judgement) (det : Detector) : State × Option (Detector × EdgeKind) :=
  let x := s.ch c
  let cfg := x.detCfg det
  let (y, edge) := detectorStep det cfg x.settings.pairSet x.monitor.reference j (x.detState det)
  let s := s.modMonitor c fun m => { m with detectors := vmod m.detectors (detectorIndex det) fun _ => y }
  match edge with
  | none => (s, none)
  | some k =>
    let s := s.bumpCh c (edgeCounter det k)
    if cfg.policy = .ignore then (s, none)
    else (s.modMonitor c fun m => { m with edges := vmod m.edges (edgeIndex det k) (latchEdge s.time.h) }, some (det, k))

/-- The four detectors in turn. -/
def State.judgeDetectors (s : State) (c : Chan) (j : Judgement) : State × List (Detector × EdgeKind) :=
  Detector.all.foldl
    (fun (t, edges) det =>
      match t.judgeDetector c j det with
      | (u, some e) => (u, edges ++ [e])
      | (u, none) => (u, edges))
    (s, [])

/-- R76: an edge report, when the detector's report enable for that kind is on. -/
def State.reportEdge (s : State) (c : Chan) (e : Detector × EdgeKind) : State :=
  let x := s.ch c
  let cfg := x.detCfg e.1
  let on := match e.2 with
    | .rise => cfg.riseReport
    | .fall => cfg.fallReport
  if on then
    let count := match x.monitor.edges[(edgeIndex e.1 e.2).val] with
      | some entry => entry.count
      | none => 0
    s.raise (.edge c e.1 (e.2 == .rise) s.time.h count x.monitor.verdict x.assertedList)
  else s

/-- R62: a judgement taken whole. The edge reports carry the verdict after the evaluation and are raised before the Channel Controller takes the
notice (DEDUCED, log 14). -/
def State.judge (s : State) (c : Chan) (j : Judgement) : State :=
  let (s, edges) := s.judgeDetectors c j
  let s := match j with
    | .complete _ _ signature => s.modMonitor c fun m => { m with reference := signature }
    | .missing _ => s
  let (s, notice) := s.holdVerdict c .judgement
  (edges.foldl (fun t e => t.reportEdge c e) s).deliver notice

/-! ## Settling, service entry and exit, warm restart (R61, R66, R67, R72, R73, R79) -/

/-- One detector of a channel updated. -/
def State.modDetector (s : State) (c : Chan) (det : Detector) (f : DetectorState → DetectorState) : State :=
  s.modMonitor c fun m => { m with detectors := vmod m.detectors (detectorIndex det) f }

/-- Every detector updated. -/
def State.eachDetector (s : State) (c : Chan) (f : DetectorSettings → DetectorState → DetectorState) : State :=
  Detector.all.foldl (fun t det => t.modDetector c det (f ((t.ch c).detCfg det))) s

/-- R67: settling ends when the settle counter has reached 0. -/
def State.endSettling (s : State) (c : Chan) (det : Detector) : State :=
  s.modDetector c det fun x => { x with phase := settledPhase x.latched }

/-- R72: the monitor at a service entry. -/
def State.monitorEntry (s : State) (c : Chan) : State :=
  let s := s.modMonitor c fun m => { m with reference := none, verdict := .healthy }
  (s.eachDetector c fun cfg x => if cfg.enabled then startSettling cfg x else x).evaluate c .service

/-- R73: the monitor at a service exit. -/
def State.monitorExit (s : State) (c : Chan) : State :=
  let s := s.eachDetector c fun _ _ => { phase := .clear, latched := false, settle := 0, bad := 0, good := 0 }
  (s.modMonitor c fun m => { m with reference := none }).evaluate c .service

/-- R79: the monitor of an in-service channel at a WARM_RESTART. A verdict that this evaluation changes counts in VERDICT_CHANGES, by R71; R79 is read as
saying that the restart clears no counter (DESIGN CHOICE, log 62). -/
def State.monitorRestart (s : State) (c : Chan) : State :=
  (s.eachDetector c fun cfg x => if cfg.enabled then startSettling cfg x else { x with bad := 0, good := 0 }).evaluate c .restart

end Sys2Proof.Machine
end

