-- ==== Sys2Proof/Machine/Schedule.lean ====
section
/-! DEFINITION. The Schedule Store (Chapter 6): well-formed events, amendments, overlap resolution, snapshots, resynchronisation, retirement, and the clearing
of every list. -/

namespace Sys2Proof.Machine

/-! ## Events as carried (R95) -/

/-- R95: whether text is a material name. -/
def isMaterialName (name : List Byte) : Bool :=
  1 ≤ name.length && name.length ≤ 32 && name.all fun b => 0x20 ≤ b.toNat && b.toNat ≤ 0x7E

/-- R95: the material that an event as carried spells, absent for BAD_KIND. Kinds are numbered in the order CLIP, FIXED, LIVE. -/
def carriedMaterial (e : EventCarried) : Option Material :=
  match e.kind, e.name, e.inPoint, e.source with
  | 0, some name, some inPoint, none => if isMaterialName name then some (.clip name inPoint) else none
  | 1, some name, some inPoint, none => if isMaterialName name then some (.fixed name inPoint) else none
  | 2, none, none, some source => some (.live source)
  | _, _, _, _ => none

/-- R95: an event as carried, well-formed or not. -/
def wellFormedEvent (r : Rate) (e : EventCarried) : Except AmendReason Event :=
  match carriedMaterial e with
  | none => .error .badKind
  | some material =>
    match eventLabel r e.label with
    | none => .error .badTime
    | some (start, normalised) =>
      if 1 ≤ e.duration ∧ e.duration ≤ r.fday then
        .ok { id := e.id, start := start, duration := e.duration, material := material
              normalised := normalised, headTrimmed := false, tailTrimmed := false }
      else .error .badTime

/-! ## Overlap resolution (R106) -/

/-- What becomes of an event that a governing event meets. -/
inductive Overlap where
  | clear
  | removed
  | tailTrimmed (e : Event)
  | headTrimmed (e : Event)
deriving DecidableEq, Repr

/-- A material whose head has been cut, absent when its in_point would pass the largest value or when it is FIXED (R106). -/
def Material.cutHead (cut : Nat) : Material → Option Material
  | .clip name i => if i + cut ≤ 4294967295 then some (.clip name (i + cut)) else none
  | .fixed _ _ => none
  | .live source => some (.live source)

/-- R106: event `y` met by the governing event `x`. -/
def overlap (x y : Event) : Overlap :=
  if y.finish ≤ x.start ∨ x.finish ≤ y.start then .clear
  else if x.start ≤ y.start ∧ y.finish ≤ x.finish then .removed
  else if y.start < x.start then .tailTrimmed { y with duration := x.start - y.start, tailTrimmed := true }
  else
    let cut := x.finish - y.start
    match y.material.cutHead cut with
    | none => .removed
    | some m => .headTrimmed { y with start := x.finish, duration := y.duration - cut, material := m, headTrimmed := true }

/-- An event of a list while governing events are placed: as it stood, as it stands (absent when removed), and the last change made to it. -/
structure Touched where
  before : Event
  now : Option Event
  change : Option Change
deriving DecidableEq, Repr

/-- The list under a governing event, with the removals and trims counted so far. -/
structure Placing where
  events : List Touched
  removals : Nat
  trims : Nat
deriving DecidableEq, Repr

/-- One event of the list meets the governing event. -/
def govern (x : Event) (acc : Placing) (t : Touched) : Placing :=
  match t.now with
  | none => { acc with events := acc.events ++ [t] }
  | some y =>
    match overlap x y with
    | .clear => { acc with events := acc.events ++ [t] }
    | .removed => { events := acc.events ++ [{ t with now := none, change := some .removed }], removals := acc.removals + 1, trims := acc.trims }
    | .tailTrimmed e => { events := acc.events ++ [{ t with now := some e, change := some .tailTrimmed }], removals := acc.removals, trims := acc.trims + 1 }
    | .headTrimmed e => { events := acc.events ++ [{ t with now := some e, change := some .headTrimmed }], removals := acc.removals, trims := acc.trims + 1 }

/-- Every event of the list meets one governing event. -/
def governAll (x : Event) (p : Placing) : Placing :=
  p.events.foldl (govern x) { events := [], removals := p.removals, trims := p.trims }

/-- An event joining a list in start order. -/
def insertEvent (e : Event) : List Event → List Event
  | [] => [e]
  | y :: rest => if e.start ≤ y.start then e :: y :: rest else y :: insertEvent e rest

/-- The range of an event. -/
def Event.range (e : Event) : Nat × Nat := (e.start, e.finish)

/-- Where a notice item stands among the others: the start after the change, or the old start of a removed event (R116). -/
def Item.place (x : Item) : Nat :=
  match x.after, x.before with
  | some (a, _), _ => a
  | none, some (a, _) => a
  | none, none => 0

/-- An item joining a notice in order (R116). R116 orders the items of a notice by start and gives no order to items of the same start; one that joins stands
after those (DESIGN CHOICE, log 54). -/
def insertItem (x : Item) : List Item → List Item
  | [] => [x]
  | y :: rest => if x.place < y.place then x :: y :: rest else y :: insertItem x rest

/-- The item of an event that overlap resolution changed (R116). An event met by several governing events gives one item with the last change (DEDUCED, log 32). -/
def Touched.item (t : Touched) : Option Item :=
  t.change.map fun k => { id := t.before.id, change := k, before := some t.before.range, after := t.now.map Event.range }

/-- What an amendment does to a list. -/
structure Applied where
  events : List Event
  items : List Item
  removals : Nat
  trims : Nat
deriving DecidableEq, Repr

/-- R106: governing events placed, in increasing start order, among the other events of a list. `own` are the items of the amendment's own events. Of the items of
one start, those of the events that overlap resolution changed come before the amendment's own, which keep the order of `own` (DESIGN CHOICE, log 54). -/
def placeEvents (governing others : List Event) (own : List Item) : Applied :=
  let start : Placing := { events := others.map fun e => { before := e, now := some e, change := none }, removals := 0, trims := 0 }
  let p := governing.foldl (fun acc x => governAll x acc) start
  { events := governing.foldl (fun l e => insertEvent e l) (p.events.filterMap Touched.now)
    items := ((p.events.filterMap Touched.item) ++ own).foldl (fun l x => insertItem x l) []
    removals := p.removals
    trims := p.trims }

/-! ## Amendments (R100 to R105) -/

/-- The five amendments. -/
inductive Amendment where
  | insert (event : EventCarried)
  | replace (id : Nat) (event : EventCarried)
  | delete (id : Nat)
  | trim (id duration : Nat)
  | shiftFrom (id : Nat) (delta : Int)
deriving DecidableEq, Repr

/-- The control code of an amendment (Table 11-4). -/
def Amendment.code : Amendment → Nat
  | .insert _ => codeInsert
  | .replace .. => codeReplace
  | .delete _ => codeDelete
  | .trim .. => codeTrim
  | .shiftFrom .. => codeShiftFrom

/-- The event id that AMEND_REFUSED names (DEDUCED, log 17). -/
def Amendment.id : Amendment → Nat
  | .insert e => e.id
  | .replace id _ => id
  | .delete id => id
  | .trim id _ => id
  | .shiftFrom id _ => id

/-- The event of a list with an id. -/
def findEvent (l : List Event) (id : Nat) : Option Event := l.find? fun e => e.id == id

/-- The list without the event of an id. -/
def withoutEvent (l : List Event) (id : Nat) : List Event := l.filter fun e => e.id != id

/-- R97: whether an event is in the past. -/
def inPast (edge : Int) (e : Event) : Bool := (e.finish : Int) ≤ edge

/-- The item of an added event (R116). -/
def addedItem (e : Event) : Item := { id := e.id, change := .added, before := none, after := some e.range }

/-- The item of a removed event (R116). -/
def removedItem (e : Event) : Item := { id := e.id, change := .removed, before := some e.range, after := none }

/-- R101: INSERT. `free` is the free pool count. -/
def applyInsert (r : Rate) (edge : Int) (free : Nat) (l : List Event) (c : EventCarried) : Except AmendReason Applied :=
  match wellFormedEvent r c with
  | .error reason => .error reason
  | .ok e =>
    let x := placeEvents [e] l [addedItem e]
    if (findEvent l e.id).isSome then .error .duplicateId
    else if inPast edge e then .error .inPast
    else if 1024 < x.events.length then .error .listFull
    else if free + x.removals < 1 then .error .poolFull
    else .ok x

/-- R102: REPLACE. -/
def applyReplace (r : Rate) (edge : Int) (l : List Event) (id : Nat) (c : EventCarried) : Except AmendReason Applied :=
  match wellFormedEvent r c with
  | .error reason => .error reason
  | .ok e =>
    match findEvent l id with
    | none => .error .noSuchId
    | some old =>
      if e.id ≠ id ∧ (findEvent l e.id).isSome then .error .duplicateId
      else if inPast edge e then .error .inPast
      else .ok (placeEvents [e] (withoutEvent l id) [removedItem old, addedItem e])

/-- R103: DELETE. -/
def applyDelete (l : List Event) (id : Nat) : Except AmendReason Applied :=
  match findEvent l id with
  | none => .error .noSuchId
  | some old => .ok (placeEvents [] (withoutEvent l id) [removedItem old])

/-- R104: TRIM. -/
def applyTrim (r : Rate) (edge : Int) (l : List Event) (id duration : Nat) : Except AmendReason Applied :=
  if duration < 1 ∨ r.fday < duration then .error .badTime
  else
    match findEvent l id with
    | none => .error .noSuchId
    | some old =>
      let e := { old with duration := duration }
      if inPast edge e then .error .inPast
      else if duration = old.duration then .ok { events := l, items := [], removals := 0, trims := 0 }
      else .ok (placeEvents [e] (withoutEvent l id) [{ id := id, change := .resized, before := some old.range, after := some e.range }])

/-- An event moved by a delta (R105). -/
def shiftEvent (delta : Int) (e : Event) : Event := { e with start := ((e.start : Int) + delta).toNat }

/-- R105: SHIFT_FROM. -/
def applyShift (r : Rate) (edge : Int) (l : List Event) (id : Nat) (delta : Int) : Except AmendReason Applied :=
  if delta < -(r.fday : Int) ∨ (r.fday : Int) < delta then .error .badTime
  else
    match findEvent l id with
    | none => .error .noSuchId
    | some named =>
      let set := l.filter fun e => named.start ≤ e.start
      let outside := l.filter fun e => e.start < named.start
      if set.any fun e => (e.start : Int) + delta < 0 || (r.cycle : Int) ≤ (e.start : Int) + delta then .error .badTime
      else if inPast edge (shiftEvent delta named) then .error .inPast
      else if delta = 0 then .ok { events := l, items := [], removals := 0, trims := 0 }
      else
        let item (e : Event) : Item := { id := e.id, change := .moved, before := some e.range, after := some (shiftEvent delta e).range }
        .ok (placeEvents (set.map (shiftEvent delta)) outside (set.map item))

/-- R100: an amendment checked, in the order of Table 6-2, and applied to a list. -/
def applyAmendment (r : Rate) (edge : Int) (free : Nat) (l : List Event) : Amendment → Except AmendReason Applied
  | .insert e => applyInsert r edge free l e
  | .replace id e => applyReplace r edge l id e
  | .delete id => applyDelete l id
  | .trim id duration => applyTrim r edge l id duration
  | .shiftFrom id delta => applyShift r edge l id delta

/-! ## Replication state (R96, R112, R117) -/

/-- R97: the schedule edge of a channel, a plain number. After a change of house rate it is computed from H as re-expressed, before any boundary has carried
that H (DESIGN CHOICE, log 49). -/
def State.scheduleEdge (s : State) (c : Chan) : Int :=
  (s.time.h : Int) - (if s.inService c then s.delay c else 15)

/-- R117: a change of replication state, counted and reported; nothing when the state is already held. -/
def State.setReplication (s : State) (c : Chan) (new : Replication) (cause : ReplicationCause) : State :=
  let old := (s.ch c).schedule.state
  if new = old then s
  else
    let s := (s.modSchedule c fun x => { x with state := new }).bumpCh c .replicationChanges
    s.raise (.replication c old new s.time.h (s.ch c).schedule.expected cause)

/-- R112: RESYNC sent on both contribution ports, and the resync interval started afresh. -/
def State.resync (s : State) (c : Chan) : State :=
  let x := (s.ch c).schedule
  ((s.sendMain (.resync c x.expected x.state)).bumpCh c .resyncsSent).modSchedule c fun x => { x with resyncTimer := some 0 }

/-- R112: a channel enters STALE or EMPTY. -/
def State.fallBehind (s : State) (c : Chan) (new : Replication) (cause : ReplicationCause) : State :=
  (s.setReplication c new cause).resync c

/-- The shadow list freed with its snapshot record and timer; its records go back to the pool. -/
def State.freeShadow (s : State) (c : Chan) : State :=
  let n := match (s.ch c).schedule.shadow with
    | some x => x.events.length
    | none => 0
  { s with poolFree := s.poolFree + n }.modSchedule c fun x => { x with shadow := none, snapshotTimer := none }

/-- R109: the failure of a snapshot. -/
def State.failSnapshot (s : State) (c : Chan) (cause : ReplicationCause) : State :=
  ((s.freeShadow c).bumpCh c .snapshotsFailed).fallBehind c .stale cause

/-! ## Taking an amendment (R99, R100) -/

/-- An amendment applied: the list, the pool, the counters, and then the notice (R116). -/
def State.commitAmendment (s : State) (c : Chan) (revision : Nat) (l : List Event) (x : Applied) : State :=
  let s := { s with poolFree := s.poolFree + l.length - x.events.length }.modSchedule c fun y => { y with live := some x.events }
  let s := ((s.bumpBy (.chan c .overlapRemovals) x.removals).bumpBy (.chan c .overlapTrims) x.trims).bumpCh c .amendApplied
  s.takeNotice c (.amendment revision x.items)

/-- R100: AMEND_REFUSED sent on both contribution ports. -/
def State.amendRefused (s : State) (c : Chan) (revision kind id : Nat) (reason : AmendReason) : State :=
  s.sendMain (.amendRefused c revision kind (some id) reason)

/-- R99: an amendment taken for a channel. -/
def State.takeAmendment (s : State) (c : Chan) (revision : Nat) (a : Amendment) : State :=
  let x := (s.ch c).schedule
  match x.state with
  | .current =>
    let diff := ((revision : Int) - x.expected) % 65536
    if diff = 0 then
      let s := s.modSchedule c fun y => { y with expected := (y.expected + 1) % 65536 }
      let l := x.live.getD []
      match applyAmendment s.time.rate (s.scheduleEdge c) s.poolFree l a with
      | .ok y => s.commitAmendment c revision l y
      | .error reason =>
        let s := if reason = .poolFull then s.bumpUnit .poolExhaustions else s
        (s.bumpCh c .refusedAmendments).amendRefused c revision a.code a.id reason
    else if diff ≤ 32767 then (s.bumpCh c .amendGaps).fallBehind c .stale .gap
    else s.bumpCh c .amendOld
  | _ => s.bumpCh c .amendDiscarded

/-! ## Snapshots (R107 to R111) -/

/-- R107: SNAPSHOT_BEGIN. The count is looked at before the revision of a snapshot in progress (DESIGN CHOICE, log 47). -/
def State.takeSnapshotBegin (s : State) (c : Chan) (revision count : Nat) : State :=
  if 1024 < count then s.bumpCh c .snapshotDiscards
  else
    let x := (s.ch c).schedule
    let duplicate := match x.shadow with
      | some y => y.revision == revision
      | none => false
    if duplicate then s.bumpCh c .snapshotDuplicates
    else
      let s := if x.shadow.isSome then (s.freeShadow c).bumpCh c .snapshotsFailed else s
      let s := s.modSchedule c fun y =>
        { y with
          live := some (y.live.getD [])
          shadow := some { events := [], revision := revision, count := count, received := [] }
          snapshotTimer := some 0
          resyncTimer := none }
      (s.setReplication c .rebuilding .snapshotBegin).bumpCh c .snapshotsBegun

/-- The shadow list of a channel replaced, its pool records accounted for. -/
def State.putShadow (s : State) (c : Chan) (x : Shadow) (events : List Event) : State :=
  { s with poolFree := s.poolFree + x.events.length - events.length }.modSchedule c fun y =>
    { y with shadow := some { x with events := events } }

/-- R108: the event of a SNAPSHOT_EVENT whose index has joined the set of received indices. -/
def State.snapshotInsert (s : State) (c : Chan) (x : Shadow) (e : EventCarried) : State :=
  let reject (reason : AmendReason) : State :=
    (s.bumpCh c .snapshotRejects).amendRefused c x.revision codeSnapshotEvent e.id reason
  match wellFormedEvent s.time.rate e with
  | .error reason => reject reason
  | .ok v =>
    if (findEvent x.events v.id).isSome then reject .duplicateId
    else if inPast (s.scheduleEdge c) v then s.bumpCh c .snapshotPast
    else
      let y := placeEvents [v] x.events []
      if s.poolFree + y.removals < 1 then (s.bumpUnit .poolExhaustions).failSnapshot c .snapshotPool
      else ((s.putShadow c x y.events).bumpBy (.chan c .overlapRemovals) y.removals).bumpBy (.chan c .overlapTrims) y.trims

/-- R108: SNAPSHOT_EVENT. -/
def State.takeSnapshotEvent (s : State) (c : Chan) (revision index : Nat) (e : EventCarried) : State :=
  match (s.ch c).schedule.shadow with
  | none => s.bumpCh c .snapshotDiscards
  | some x =>
    if x.revision ≠ revision ∨ x.count ≤ index then s.bumpCh c .snapshotDiscards
    else if x.received.contains index then s.bumpCh c .snapshotDuplicates
    else
      let x' := { x with received := insertNat index x.received }
      (s.modSchedule c fun y => { y with shadow := some x' }).snapshotInsert c x' e

/-- R109: the shadow becomes the live list. -/
def State.swapLists (s : State) (c : Chan) (x : Shadow) : State :=
  let s := { s with poolFree := s.poolFree + (s.live c).length }.modSchedule c fun y =>
    { y with live := some x.events, shadow := none, expected := (x.revision + 1) % 65536, snapshotTimer := none }
  ((s.setReplication c .current .snapshotDone).bumpCh c .snapshotsCompleted).takeNotice c .swap

/-- R109: SNAPSHOT_END. -/
def State.takeSnapshotEnd (s : State) (c : Chan) (revision count : Nat) : State :=
  match (s.ch c).schedule.shadow with
  | none => s.bumpCh c .snapshotDiscards
  | some x =>
    if x.revision ≠ revision then s.bumpCh c .snapshotDiscards
    else if count = x.count ∧ (List.range x.count).all x.received.contains then s.swapLists c x
    else s.failSnapshot c .snapshotMismatch

/-- R111: the snapshot timer has reached its period. -/
def State.expireSnapshot (s : State) (c : Chan) : State := (s.bumpCh c .snapshotTimeouts).failSnapshot c .snapshotTimeout

/-! ## Schedule carriers by channel (R98) -/

/-- A schedule carrier. -/
inductive ScheduleCarrier where
  | amendment (revision : Nat) (a : Amendment)
  | snapshotBegin (revision count : Nat)
  | snapshotEvent (revision index : Nat) (event : EventCarried)
  | snapshotEnd (revision count : Nat)
deriving DecidableEq, Repr

/-- R98: a schedule carrier taken for the channel it names; one that names channel 255 is discarded. -/
def State.takeScheduleCarrier (s : State) (channel : Nat) (k : ScheduleCarrier) : State :=
  match chanOf channel with
  | none => s.bumpUnit .scheduleNoChannel
  | some c =>
    match k with
    | .amendment revision a => s.takeAmendment c revision a
    | .snapshotBegin revision count => s.takeSnapshotBegin c revision count
    | .snapshotEvent revision index e => s.takeSnapshotEvent c revision index e
    | .snapshotEnd revision count => s.takeSnapshotEnd c revision count

/-! ## Boundaries: clearing, timers, retirement (R111 to R115) -/

/-- R114: one channel's lists cleared. -/
def State.clearLists (s : State) (c : Chan) (cause : ReplicationCause) : State :=
  let s := s.freeShadow c
  let s := { s with poolFree := s.poolFree + (s.live c).length }.modSchedule c fun x => { x with live := none }
  (s.fallBehind c .empty cause).takeNotice c .cleared

/-- R114 and R115: every channel's lists cleared, the channels in increasing number: the order of their RESYNCs, and of the replication reports, for which an
origin's queue may have room for some alone (DEDUCED, log 36). At a change of house rate the reports carry H as re-expressed (DESIGN CHOICE, log 48). -/
def State.clearAllLists (s : State) (cause : ReplicationCause) : State :=
  s.eachChannel fun c t => t.clearLists c cause

/-- A running timer at a boundary, and whether it has reached its period. -/
def countTimer (timer : Option Nat) (period : Nat) : Option Nat × Bool :=
  match timer with
  | none => (none, false)
  | some t => (some (t + 1), period ≤ t + 1)

/-- R111 and R112: the two timers of a channel at a boundary. Their expiries are left to SNAPSHOT_TIMEOUT and RESYNC_REPEAT (DESIGN CHOICE, log 2). -/
def State.countScheduleTimers (s : State) (c : Chan) : State :=
  let x := (s.ch c).schedule
  let a := countTimer x.snapshotTimer (prescaledPeriod s.settings.snapshotCount s.settings.snapshotPrescale)
  let b := countTimer x.resyncTimer (prescaledPeriod s.settings.resyncCount s.settings.resyncPrescale)
  (s.modSchedule c fun y => { y with snapshotTimer := a.1, resyncTimer := b.1 }).modWork c fun w =>
    { w with snapshot := a.2, resync := b.2 }

/-- R113: the events of a list that are not retired. -/
def retained (edge : Int) (l : List Event) : List Event := l.dropWhile (inPast edge)

/-- R113: retirement from a channel's live and shadow lists. -/
def State.retire (s : State) (c : Chan) : State :=
  let x := (s.ch c).schedule
  let edge := s.scheduleEdge c
  let live := x.live.map (retained edge)
  let shadow := x.shadow.map fun y => { y with events := retained edge y.events }
  let count (l : Option (List Event)) : Nat := (l.getD []).length
  let before := count x.live + count (x.shadow.map Shadow.events)
  let after := count live + count (shadow.map Shadow.events)
  ({ s with poolFree := s.poolFree + before - after }.modSchedule c fun y => { y with live := live, shadow := shadow }).bumpBy
    (.chan c .eventsRetired) (before - after)

/-- The Schedule Store at a boundary (R111 to R114). At a cycle end the timers just started do not count (DEDUCED, log 27). -/
def State.takeScheduleBoundary (s : State) (cycleEnd : Bool) : State :=
  let s := if cycleEnd then s.clearAllLists .cycleEnd else s.eachChannel fun c t => t.countScheduleTimers c
  s.eachChannel fun c t => t.retire c

end Sys2Proof.Machine
end

