-- ==== Sys2Proof/Machine/Site.lean ====
section
/-! DEFINITION. The Site Supervisor (Chapter 5): keepalives, the site state, losing the site and restoring it. -/

namespace Sys2Proof.Machine

/-- The Site Supervisor's record updated. -/
def State.modSite (s : State) (f : Site → Site) : State := { s with site := f s.site }

/-! ## The site state (R84, R85, R87, R91) -/

/-- Table 5-2. -/
def siteTable (viewA viewB : Bool) (a : Automation) : SiteState :=
  match viewA, viewB, a with
  | true, true, .lost => .degraded
  | true, true, _ => .normal
  | true, false, _ => .degraded
  | false, true, _ => .degraded
  | false, false, .lost => .lost
  | false, false, _ => .isolated

/-- R87 effect 1 to 3: the site-loss notice taken for one channel. A return is called off whatever the channel's mode or pin, as effect 2 and the last sentence
of R87 ask, although a channel in MONITOR or pinned MAIN is said to be affected by effect 1 alone (DEDUCED, log 12). -/
def State.siteLossNotice (s : State) (c : Chan) : State :=
  let s := s.modControl c fun y => { y with owner := .localSite }
  let x := (s.ch c).control
  match x.state with
  | .returnGuard | .returning => s.callOff c true
  | .main => if x.mode = .protected_ ∧ x.pin ≠ .main then s.takeover c .site [] none else s
  | _ => s

/-- R91: a site state change report, made once the change stands. -/
def State.reportSite (s : State) (old : SiteState) (cause : SiteCause) : State :=
  s.raise (.site old s.site.state s.time.h cause s.site.viewA s.site.viewB s.site.automation)

/-- R87: the site enters LOST. `how` is the report's cause. -/
def State.enterLost (s : State) (cause : LossCause) (how : SiteCause) : State :=
  let old := s.site.state
  let s := s.modSite fun x => { x with state := .lost, loss := some { cause := cause, position := s.time.h, left := old } }
  ((s.bumpUnit .siteLosses).reportSite old how).eachChannel fun c t => t.siteLossNotice c

/-- R85: the site state set from Table 5-2. -/
def State.setSite (s : State) (cause : SiteCause) : State :=
  let old := s.site.state
  let new := siteTable s.site.viewA s.site.viewB s.site.automation
  if new = old then s
  else if new = .lost then s.enterLost .conditions cause
  else (s.modSite fun x => { x with state := new }).reportSite old cause

/-- R84 and R85: the evaluation that a path or automation change causes. In STARTING it is made only when a path view has become UP. -/
def State.evaluateSite (s : State) (cause : SiteCause) (pathUp : Bool) : State :=
  match s.site.state with
  | .lost => s
  | .starting => if pathUp then s.setSite cause else s
  | _ => s.setSite cause

/-- R83: a path state change delivered by the Carriage Receiver. -/
def State.pathChanged (s : State) (side : Side) (up : Bool) : State :=
  let s := match side with
    | .a => s.modSite fun x => { x with viewA := up }
    | .b => s.modSite fun x => { x with viewB := up }
  s.evaluateSite .path up

/-! ## Keepalives (R80, R81) -/

/-- The counter of a KEEPALIVE by port (R80). -/
def keepaliveCounter : Side → UnitCtr
  | .a => .keepalivesA
  | .b => .keepalivesB

/-- R80: the sequence of a KEEPALIVE compared with the last record. -/
def State.compareKeepalive (s : State) (sequence : Nat) : State :=
  match s.site.lastKeepalive with
  | none => s
  | some k =>
    if sequence = k.sequence then s.bumpUnit .keepaliveDuplicates
    else if sequence = (k.sequence + 1) % 65536 then s
    else s.bumpUnit .keepaliveGaps

/-- R80 and R81: a KEEPALIVE from MAIN_SITE. -/
def State.takeKeepalive (s : State) (side : Side) (sequence : Nat) : State :=
  let old := s.site.automation
  let s := s.modSite fun x => { x with elapsed := 0, timerRunning := true, automation := .alive }
  let s := if old = .alive then s else s.evaluateSite .automation false
  let s := (s.bumpUnit (keepaliveCounter side)).compareKeepalive sequence
  s.modSite fun x => { x with lastKeepalive := some { sequence := sequence, side := side, position := s.time.h } }

/-- R81: the keepalive timer at a boundary. Its expiry is left to KEEPALIVE_EXPIRY (DESIGN CHOICE, log 2). -/
def State.countKeepalive (s : State) : State :=
  if s.site.timerRunning then
    let n := s.site.elapsed + 1
    let due : Bool := prescaledPeriod s.settings.keepaliveCount s.settings.keepalivePrescale ≤ n
    let s := s.modSite fun x => { x with elapsed := n }
    { s with work := { s.work with keepalive := due } }
  else s

/-- R81: the keepalive timer expires. -/
def State.expireKeepalive (s : State) : State :=
  ((s.modSite fun x => { x with timerRunning := false, automation := .lost }).bumpUnit .keepaliveExpiries).evaluateSite .automation false

/-! ## Console commands (R86, R89, R90) -/

/-- A loss entry as fields of a REPLY or an entry: cause, H, state left. -/
def lossAtoms (x : LossEntry) : List Atom := [.enum (lossCode x.cause), .pos x.position]

/-- R86: DECLARE_SITE_LOST. In LOST the REPLY carries the loss entry that stands. -/
def State.commandDeclareLost (s : State) : State × Result × List Atom :=
  match s.site.state with
  | .lost => (s, .accepted, optAtoms lossAtoms s.site.loss)
  | _ => (s.enterLost .declared .declared, .accepted, [.num 1 0])

/-- R90: the site-restore notice taken for one channel. -/
def State.siteRestoreNotice (s : State) (c : Chan) : State :=
  if (s.ch c).monitor.verdict = .healthy ∧ s.guardAllowed c then s.startGuard c else s

/-- R89: RESTORE_SITE. -/
def State.commandRestore (s : State) : State × Result :=
  match s.site.state with
  | .lost =>
    if (s.site.viewA || s.site.viewB) && s.site.automation == .alive then
      let new := siteTable s.site.viewA s.site.viewB s.site.automation
      let s := s.modSite fun x => { x with state := new, loss := none }
      let s := (s.bumpUnit .siteRestores).reportSite .lost .restored
      (s.eachChannel fun c t => t.siteRestoreNotice c, .accepted)
    else (s.bumpUnit .restoreRefusals, .notReady)
  | _ => (s, .notLost)

end Sys2Proof.Machine
end

