-- ==== Sys2Proof/Machine/Output.lean ====
section
/-! DEFINITION. The Output Assembler (Chapter 9): choosing the frame, the audio rise ramp, the output buffer, and the sending of frames. -/

namespace Sys2Proof.Machine

/-! ## Choosing the frame (R174 to R176) -/

/-- A frame chosen at a boundary, before it is restamped and scaled. -/
structure Chosen where
  tag : SourceTag
  summary : Summary
  video : List (List Byte)
  audio : List (List Byte)
deriving DecidableEq, Repr

/-- R176: the frame of a fill slate. -/
def slateChoice : SlateState → Chosen
  | .filled p => { tag := .slate, summary := { vc := p.video.length, ac := 0, luma := p.luma, peaks := [] }, video := p.video, audio := [] }
  | .empty | .capturing => { tag := .slateEmpty, summary := { vc := 0, ac := 0, luma := 0, peaks := [] }, video := [], audio := [] }

/-- R175: the offer of a path, absent when the fill slate is called for. -/
def offerChoice (path : SourcePath) (o : Offer) (held : Option Frame) : Option Chosen :=
  match o, held with
  | .fresh, some f => some { tag := (match path with | .main => .main | .standby => .standby), summary := f.summary, video := f.video, audio := f.audio }
  | .held, some f => some { tag := (match path with | .main => .mainHeld | .standby => .standbyHeld), summary := f.summary, video := f.video, audio := f.audio }
  | _, _ => none

/-- R174 and R175: the offer used in a delivered state, absent when the fill slate is on air. -/
def onAir (x : Channel) : Option Chosen :=
  match x.output.delivered with
  | .main | .cueing => offerChoice .main x.align.mainOffer x.align.mainHeld
  | .standby | .returnGuard | .returning => offerChoice .standby x.align.standbyOffer x.align.standbyHeld
  | .fill | .outOfService => none

/-- R174: the frame chosen for a channel. The fill slate is read as it stood when the boundary came, so a copy that a release of the same boundary starts
shows from the next (R54, R176). -/
def State.chooseFrame (s : State) (c : Chan) : Chosen :=
  match onAir (s.ch c) with
  | some x => x
  | none => slateChoice s.work.slates[(s.ch c).settings.fillSlate.val]

/-! ## The ramp (R181 to R185) -/

/-- R181: the category of a source tag. -/
def categoryOf : SourceTag → Category
  | .main | .mainHeld => .main
  | .standby | .standbyHeld => .standby
  | .slate | .slateEmpty => .slate

/-- Table 9-1: the gain of a ramp state in sixteenths. -/
def rampGain : Ramp → Nat
  | .idle => 16
  | .running step _ => 2 * step

/-- R183: sample × g / 16, rounded toward zero. -/
def scaleSample (g : Nat) (x : Int) : Int := (x * g).tdiv 16

/-- The signed value of a 24-bit sample laid out most significant byte first (R208). -/
def sampleOf (a b c : Byte) : Int :=
  let n := bigEndian [a, b, c]
  if n < 8388608 then n else (n : Int) - 16777216

/-- The three bytes of a 24-bit sample (R208). -/
def sampleBytes (x : Int) : List Byte := toBytes 3 (x % 16777216).toNat

/-- R183: every whole sample of a payload scaled; a part-sample at its end unchanged. -/
def scalePayload (g : Nat) : List Byte → List Byte
  | a :: b :: c :: rest => sampleBytes (scaleSample g (sampleOf a b c)) ++ scalePayload g rest
  | rest => rest

/-- R184: the pair peaks scaled. -/
def scaleSummary (g : Nat) (x : Summary) : Summary := { x with peaks := x.peaks.map fun p => p * g / 16 }

/-- A chosen frame scaled with a gain; at unity nothing is changed (R182). -/
def Chosen.scaled (x : Chosen) (g : Nat) : Chosen :=
  if g = 16 then x else { x with summary := scaleSummary g x.summary, audio := x.audio.map (scalePayload g) }

/-- R181: the ramp after a frame's category is compared with the last category. -/
def rampCompare (enabled : Bool) (last : Option Category) (now : Category) (r : Ramp) : Ramp × Bool :=
  if last ≠ some now ∧ enabled then (.running 1 0, true) else (r, false)

/-- R182: one frame spent. -/
def rampSpend : Ramp → Ramp
  | .idle => .idle
  | .running step spent => .running step (spent + 1)

/-- R182: whether the frames spent have reached RAMP_STEP. -/
def rampDue (rampStep : Nat) : Ramp → Bool
  | .idle => false
  | .running _ spent => rampStep ≤ spent

/-- R182: the step increases by one, and the ramp goes IDLE past step 7. -/
def rampNext : Ramp → Ramp
  | .idle => .idle
  | .running step _ => if step + 1 ≤ 7 then .running (step + 1) 0 else .idle

/-- R185: RAMP_ENABLE written as off ends a running ramp. -/
def State.cutRamp (s : State) (c : Chan) : State :=
  if (s.ch c).output.ramp = .idle then s
  else (s.modOutput c fun y => { y with ramp := .idle }).bumpCh c .rampsCut

/-! ## Assembly (R174 to R182) -/

/-- The counter of a frame by its tag (R186). -/
def emittedCounter : SourceTag → ChanCtr
  | .main => .emittedMain
  | .mainHeld => .emittedMainHeld
  | .standby => .emittedStandby
  | .standbyHeld => .emittedStandbyHeld
  | .slate => .emittedSlate
  | .slateEmpty => .emittedSlateEmpty

/-- R180: an assembled frame joins the output buffer; one already waiting is dropped. -/
def State.bufferFrame (s : State) (c : Chan) (f : OutFrame) : State :=
  let s := if (s.ch c).output.waiting.isSome then s.bumpCh c .outputOverruns else s
  s.modOutput c fun y => { y with waiting := some f }

/-- R174: the frame of one channel assembled at the present H. The ramp's advance is left to RAMP_STEP_ADVANCE (DESIGN CHOICE, log 2). -/
def State.assemble (s : State) (c : Chan) : State :=
  if (s.ch c).output.delivered = .outOfService then s
  else
    let x := s.chooseFrame c
    let r := rampCompare (s.ch c).settings.rampEnable (s.ch c).output.lastCategory (categoryOf x.tag) (s.ch c).output.ramp
    let y := x.scaled (rampGain r.1)
    let f : OutFrame :=
      { stream := (s.ch c).settings.streamId, tag := y.tag, stamp := s.time.h, summary := y.summary, video := y.video, audio := y.audio }
    let spent := rampSpend r.1
    let due := rampDue (s.ch c).settings.rampStep spent
    let s := if r.2 then s.bumpCh c .rampsStarted else s
    let s := (s.bumpCh c (emittedCounter x.tag)).modOutput c fun o =>
      { o with lastCategory := some (categoryOf x.tag), lastTag := some x.tag, ramp := spent }
    (s.modWork c fun w => { w with ramp := due }).bufferFrame c f

/-- R182: the ramp of a channel advances. -/
def State.advanceRamp (s : State) (c : Chan) : State :=
  s.modOutput c fun y => { y with ramp := rampNext y.ramp }

/-- R173: the output record at a service entry or exit, save the state delivered with it. The carriers of a frame being sent stay sent (log 24); the buffer is
emptied, so the ports are free for the next channel at once, which R180 leaves open (DESIGN CHOICE, log 64). -/
def State.clearOutput (s : State) (c : Chan) : State :=
  (s.modOutput c fun y =>
    { y with lastCategory := none, lastTag := none, ramp := .idle, sending := none, waiting := none }).modWork c fun w =>
      { w with ramp := false }

/-! ## Sending (R178, R180) -/

/-- The carriers of a frame: its SUMMARY, its VIDEO pieces and its AUDIO pieces. -/
def OutFrame.carriers (f : OutFrame) : Nat := 1 + f.video.length + f.audio.length

/-- A frame's carriers given to one output port: sent, or dropped while the link is DOWN (R180). -/
def State.emit (s : State) (side : Side) (f : OutFrame) : State :=
  let p := Port.output side
  if s.linkUp p then
    let t := s.bumpBy (.port p .carriersOut) f.carriers
    { t with outbox := t.outbox ++ [{ port := p, stamp := f.stamp, unitNumber := t.settings.unitNumber, what := .frame f }] }
  else s.bumpBy (.port p .outputDropped) f.carriers

/-- R180: the lowest channel with a frame waiting. -/
def State.nextToSend (s : State) : Option Chan := Chan.all.find? fun c => (s.ch c).output.waiting.isSome

/-- Whether the ports send no frame (R180). -/
def State.portsFree (s : State) : Bool := Chan.all.all fun c => (s.ch c).output.sending.isNone

/-- R180: whether sending has to start: the ports send no frame and a channel has one waiting. -/
def State.sendDue (s : State) : Bool := s.portsFree && s.nextToSend.isSome

/-- R180: the frame being sent, if there is one, is finished, and the lowest waiting channel's frame is sent whole on both ports (DESIGN CHOICE, log 24). -/
def State.sendFrame (s : State) : State :=
  let s := s.eachChannel fun c t => t.modOutput c fun y => { y with sending := none }
  match s.nextToSend with
  | none => s
  | some c =>
    match (s.ch c).output.waiting with
    | none => s
    | some f => ((s.modOutput c fun y => { y with sending := some f, waiting := none }).emit .a f).emit .b f

end Sys2Proof.Machine
end

