-- ==== Sys2Proof/Machine/Boundary.lean ====
section
/-! DEFINITION. What every block does at a house frame boundary (R1): the work taken with the boundary itself, the rows of the table that a boundary makes due, and the
order in which what is still due is taken before the next command (DESIGN CHOICE, log 2). -/

namespace Sys2Proof.Machine

/-! ## One channel -/

/-- The frame of the boundary assembled and its judgement taken, once no retime, cue or controller step of the channel is due (R62, R174). -/
def State.finishChannel (s : State) (c : Chan) : State :=
  let w := (s.ch c).work
  if w.frame && !w.retime && !w.cue && !w.control then
    let s := (s.modWork c fun w => { w with frame := false, judgement := none }).assemble c
    match w.judgement with
    | some j => s.judge c j
    | none => s
  else s

/-- R132 and R133: whether the guard has expired or the return position is reached at this boundary. -/
def State.controlDue (s : State) (c : Chan) (realigned : Bool) : Bool :=
  let x := (s.ch c).control
  match x.state, x.guard, x.returnPosition with
  | .returnGuard, some n, _ => (s.ch c).settings.guardLength ≤ n
  | .returning, _, some r => realigned || s.reached r
  | _, _, _ => false

/-- R132: the guard counter of a channel in RETURN_GUARD increases by one. -/
def State.countGuard (s : State) (c : Chan) : State :=
  match s.chState c with
  | .returnGuard => s.modControl c fun y => { y with guard := y.guard.map fun n => min (n + 1) 65535 }
  | _ => s

/-- The Cue Engine's and the Channel Controller's part of a boundary after the main release (R132, R133, R159 to R164, R169). -/
def State.afterRelease (s : State) (c : Chan) (j : Option Judgement) (realigned : Bool) : State :=
  let s := s.countGuard c
  let s := if realigned then s.realignCues c else s
  let cue : Bool := !realigned && (s.cueStep c).isSome
  let control := s.controlDue c realigned
  (s.modWork c fun w => { w with cue := cue, control := control, frame := true, judgement := j }).finishChannel c

/-- The main path of a channel at a boundary, with the d in force (R44 to R47), and what follows it. -/
def State.releaseChannel (s : State) (c : Chan) (realigned : Bool) : State :=
  let s := if realigned then s.rebaseMain c else s
  let (s, j) := s.takeMainBoundary c
  s.afterRelease c j realigned

/-- One channel at a boundary. At a REALIGNED boundary a due retime applies at once (R47); at another it is left to RETIME_APPLY (R51). -/
def State.takeChannelBoundary (s : State) (c : Chan) (realigned : Bool) : State :=
  if s.inService c then
    let s := s.takeStandbyBoundary c realigned
    if s.retimeDue c then
      if realigned then (s.applyRetime c).releaseChannel c true
      else s.modWork c fun w => { w with retime := true }
    else s.releaseChannel c realigned
  else s

/-- R1: a boundary delivered to every block. H and the boundary's kind stand already; `prev` is the previous H. -/
def State.takeBoundary (s : State) (prev : Nat) (realigned : Bool) : State :=
  let s := { s with work := { UnitWork.none with slates := s.slates.map Slate.state } }
  let s := s.takePathsBoundary.countKeepalive
  let s := s.takeScheduleBoundary (cycleEndMark s.time.rate prev s.time.h)
  let s := s.eachChannel fun c t => t.takeChannelBoundary c realigned
  { s with work := { s.work with warmEnd := s.mgmt.restarting.isSome, report := true } }

/-! ## The rows that a boundary makes due -/

/-- RETIME_APPLY (R51). -/
def State.doRetime (s : State) (c : Chan) : State :=
  if (s.ch c).work.retime then
    ((s.modWork c fun w => { w with retime := false }).applyRetime c).releaseChannel c false
  else s

/-- The channel's cue step taken: its flag cleared, then what the step does, then the frame. -/
def State.endCueStep (s : State) (c : Chan) (f : State → State) : State :=
  (f (s.modWork c fun w => { w with cue := false })).finishChannel c

/-- JOIN_SWITCH (R159). -/
def State.doJoinSwitch (s : State) (c : Chan) : State :=
  match (s.ch c).work.cue, s.cueStep c with
  | true, some (.joinSwitch x) => s.endCueStep c fun t => t.switchCue c x
  | _, _ => s

/-- JOIN_EXPIRY (R160). -/
def State.doJoinExpiry (s : State) (c : Chan) : State :=
  match (s.ch c).work.cue, s.cueStep c with
  | true, some (.joinExpiry x) => s.endCueStep c fun t => (t.bumpCh c .cueExpiries).failJoin c x
  | _, _ => s

/-- FOLLOW_ON_SWITCH (R163). -/
def State.doFollowOnSwitch (s : State) (c : Chan) : State :=
  match (s.ch c).work.cue, s.cueStep c with
  | true, some (.followOnSwitch x) => s.endCueStep c fun t => t.switchCue c x
  | _, _ => s

/-- FOLLOW_ON_FAILURE (R163). -/
def State.doFollowOnFailure (s : State) (c : Chan) : State :=
  match (s.ch c).work.cue, s.cueStep c with
  | true, some (.followOnFailure _) =>
    s.endCueStep c fun t => (((t.cancelPending c).stopPlaying c).bumpCh c .followOnFailures).followOnFailed c
  | _, _ => s

/-- FOLLOW_ON_CHECK (R161). -/
def State.doFollowOnCheck (s : State) (c : Chan) : State :=
  match (s.ch c).work.cue, s.cueStep c with
  | true, some .followOnCheck => s.endCueStep c fun t => t.followOnCheck c
  | _, _ => s

/-- END_OF_SCHEDULE (R164). -/
def State.doEndOfSchedule (s : State) (c : Chan) : State :=
  match (s.ch c).work.cue, s.cueStep c with
  | true, some .endOfSchedule =>
    s.endCueStep c fun t => ((t.stopPlaying c).bumpCh c .followOnFailures).followOnFailed c
  | _, _ => s

/-- GUARD_EXPIRY (R132). -/
def State.doGuardExpiry (s : State) (c : Chan) : State :=
  if (s.ch c).work.control ∧ s.chState c = .returnGuard then
    ((s.modWork c fun w => { w with control := false }).expireGuard c).finishChannel c
  else s

/-- RETURN_ARRIVAL (R133). -/
def State.doReturnArrival (s : State) (c : Chan) : State :=
  if (s.ch c).work.control ∧ s.chState c = .returning then
    ((s.modWork c fun w => { w with control := false }).arrive c).finishChannel c
  else s

/-- A cue or controller step of the boundary that another step of the same boundary has made void. -/
def State.dropVoid (s : State) (c : Chan) : State :=
  (s.modWork c fun w => { w with cue := false, control := false }).finishChannel c

/-- Whether a detector's settling is over (R67). -/
def State.settleDue (s : State) (c : Chan) (det : Detector) : Bool :=
  ((s.ch c).detCfg det).enabled && ((s.ch c).detState det).phase == .settling && ((s.ch c).detState det).settle == 0

/-- SETTLING_END (R67). -/
def State.doSettlingEnd (s : State) (c : Chan) (det : Detector) : State :=
  if s.settleDue c det then s.endSettling c det else s

/-- RAMP_STEP_ADVANCE (R182). -/
def State.doRampAdvance (s : State) (c : Chan) : State :=
  if (s.ch c).work.ramp then (s.modWork c fun w => { w with ramp := false }).advanceRamp c else s

/-- Whether a path's change of state is due. -/
def State.pathDue (s : State) : Side → Bool
  | .a => s.work.pathA
  | .b => s.work.pathB

/-- A path's change of state no longer due. -/
def State.clearPathDue (s : State) : Side → State
  | .a => { s with work := { s.work with pathA := false } }
  | .b => { s with work := { s.work with pathB := false } }

/-- PATH_DOWN (R25). -/
def State.doPathDown (s : State) (side : Side) : State :=
  if s.pathDue side ∧ (s.path side).up then
    (((s.clearPathDue side).modPath side fun x => { x with up := false }).bump (.path side .downs)).pathChanged side false
  else s

/-- PATH_UP (R25). -/
def State.doPathUp (s : State) (side : Side) : State :=
  if s.pathDue side ∧ (s.path side).up = false then
    (((s.clearPathDue side).modPath side fun x => { x with up := true }).bump (.path side .ups)).pathChanged side true
  else s

/-- KEEPALIVE_EXPIRY (R81). -/
def State.doKeepaliveExpiry (s : State) : State :=
  if s.work.keepalive then { s with work := { s.work with keepalive := false } }.expireKeepalive else s

/-- SNAPSHOT_TIMEOUT (R111). -/
def State.doSnapshotTimeout (s : State) (c : Chan) : State :=
  if (s.ch c).work.snapshot then (s.modWork c fun w => { w with snapshot := false }).expireSnapshot c else s

/-- RESYNC_REPEAT (R112). -/
def State.doResyncRepeat (s : State) (c : Chan) : State :=
  if (s.ch c).work.resync then (s.modWork c fun w => { w with resync := false }).resync c else s

/-- WARM_RESTART_END (R203): the restart ends and its REPLY is sent. -/
def State.doWarmRestartEnd (s : State) : State :=
  if s.work.warmEnd then
    let s := { s with work := { s.work with warmEnd := false } }
    match s.mgmt.restarting with
    | some owed =>
      { s with mgmt := { s.mgmt with restarting := none } }.reply .console owed.port
        { request := owed.request, kind := codeWarmRestart, channel := 255, result := .accepted, clamped := false, contents := [] }
    | none => s
  else s

/-! ## Reports sent at a boundary (R199) -/

/-- The ports on which an origin's reports go out now; none when its destination cannot be reached. -/
def State.reportPorts (s : State) : Origin → List Port
  | .mainSite =>
    if s.ports.pathA.up || s.ports.pathB.up then [Port.contribution .a, Port.contribution .b].filter s.linkUp else []
  | .console =>
    match s.mgmt.consolePort with
    | some n => [Port.standby n].filter s.linkUp
    | none => []

/-- Whether an origin's destination can be reached (R199). -/
def State.reachable (s : State) : Origin → Bool
  | .mainSite => s.ports.pathA.up || s.ports.pathB.up
  | .console =>
    match s.mgmt.consolePort with
    | some n => s.linkUp (.standby n)
    | none => false

/-- The report at the head of an origin's queue sent: it leaves the queue and is counted once, on however many ports it goes out, none included (DESIGN CHOICE,
log 46). -/
def State.sendHead (s : State) (o : Origin) : State :=
  match (s.ctx o).queue with
  | [] => s
  | r :: rest =>
    let s := (s.modCtx o fun x => { x with queue := rest }).bump (.origin o .reportsSent)
    (s.reportPorts o).foldl (fun t p => t.send p (.report r)) s

/-- Up to two reports of an origin sent. -/
def State.sendReports (s : State) (o : Origin) : State :=
  if s.reachable o then (s.sendHead o).sendHead o else s

/-- REPORT (R199). -/
def State.doReport (s : State) : State :=
  if s.work.report then ({ s with work := { s.work with report := false } }.sendReports .mainSite).sendReports .console else s

/-! ## Taking what is due -/

/-- Whether anything of a channel is due. -/
def State.channelDue (s : State) (c : Chan) : Bool :=
  let w := (s.ch c).work
  w.snapshot || w.resync || w.retime || w.cue || w.control || w.frame || w.ramp ||
    (s.ch c).align.measurement.waiting.isSome || Detector.all.any (s.settleDue c)

/-- Whether nothing of the most recent boundary, or of a step since, is due but the sending of a frame. -/
def State.assembled (s : State) : Bool :=
  !s.work.pathA && !s.work.pathB && !s.work.keepalive && !s.work.warmEnd && !s.work.report && Chan.all.all fun c => !s.channelDue c

/-- Whether nothing is due. -/
def State.settled (s : State) : Bool := s.assembled && !s.sendDue

/-- What is due of one channel, taken in order (DESIGN CHOICE, log 2). -/
def State.catchUpChannel (s : State) (c : Chan) : State :=
  let s := s.doRetime c
  let s := ((s.doJoinSwitch c).doJoinExpiry c).doFollowOnSwitch c
  let s := ((s.doFollowOnFailure c).doFollowOnCheck c).doEndOfSchedule c
  let s := ((s.doGuardExpiry c).doReturnArrival c).dropVoid c
  let s := Detector.all.foldl (fun t det => t.doSettlingEnd c det) s
  (s.doRampAdvance c).endDelayWindow c

/-- What is due but the sending of a frame, taken (DESIGN CHOICE, log 2): channel by channel, then the end of a warm restart, the paths, the keepalive timer, the
schedule timers, and the reports. -/
def State.finishBoundary (s : State) : State :=
  if s.assembled then s
  else
    let s := s.eachChannel fun c t => t.catchUpChannel c
    let s := s.doWarmRestartEnd
    let s := ((s.doPathDown .a).doPathUp .a).doPathDown .b
    let s := (s.doPathUp .b).doKeepaliveExpiry
    let s := s.eachChannel fun c t => (t.doSnapshotTimeout c).doResyncRepeat c
    s.doReport

/-- What is due, taken before the next command: sending starts on free ports once every frame of the boundary has been assembled (R180). -/
def State.catchUp (s : State) : State :=
  let t := s.finishBoundary
  if t.sendDue then t.sendFrame else t

end Sys2Proof.Machine
end

