-- ==== Sys2Proof/Machine/TimelineUnit.lean ====
section
/-! DEFINITION. The Timeline Unit (Chapter 1): making boundaries from the frame timer and from REFERENCE pulses, the lock states, realignment, and the change of
house rate. Instants are quarter periods of the 27 MHz oscillator (DESIGN CHOICE, log 4). -/

namespace Sys2Proof.Machine

/-- The Timeline Unit's record updated. -/
def State.modTime (s : State) (f : Timeline → Timeline) : State := { s with time := f s.time }

/-- One and one quarter frame periods (R8). -/
def Rate.longPeriod (r : Rate) : Nat := r.period + r.period / 4

/-- R18: a change of lock state, reported with the H and the last difference that stand. -/
def State.setLock (s : State) (new : LockState) : State :=
  let old := s.time.lock
  if new = old then s
  else (s.modTime fun x => { x with lock := new }).raise (.reference old new s.time.h s.time.lastDifference)

/-- R1: a boundary made at an instant: H takes its new value, the lock state its value after, and the boundary is delivered. R8 arms the frame timer
for one and one quarter periods when a pulse made the boundary and the lock state is LOCKED. -/
def State.makeBoundary (s : State) (kind : BoundaryKind) (new : Nat) (lock : LockState) (time : Nat) : State :=
  let prev := s.time.h
  let r := s.time.rate
  let arm := if kind ≠ .timer ∧ lock = .locked then r.longPeriod else r.period
  let s := s.modTime fun x => { x with h := new, timer := some (time + arm), boundaryKind := some kind, boundaryTime := time }
  (s.setLock lock).takeBoundary prev (kind == .realigned)

/-- R8: the frame timer expires. Nothing happens while it is not running. -/
def State.expireFrameTimer (s : State) : State :=
  match s.time.timer with
  | none => s
  | some t =>
    let absence := min (s.time.absence + 1) 2
    let old := s.time.lock
    let s := s.modTime fun x => { x with absence := absence }
    let s := if old = .locked then s.bumpUnit .coastedBoundaries else s
    let lost : Bool := (old == .locked || old == .refMismatch) && absence == 2
    let s := if lost then s.bumpUnit .refLosses else s
    s.makeBoundary .timer (s.wrap (s.time.h + 1 : Nat)) (if lost then .refLost else old) t

/-- R11: whether a pulse at an instant is a late pulse. -/
def State.latePulse (s : State) (time : Nat) : Bool :=
  s.time.boundaryKind == some .timer && s.time.boundaryTime ≤ time && 4 * (time - s.time.boundaryTime) < s.time.rate.period

/-- A pulse taken for the TIMER boundary just made (R11, R15 case 1): no boundary, the lock state LOCKED, the timer armed from the pulse. -/
def State.matchLate (s : State) (difference : Int) (time : Nat) : State :=
  (s.modTime fun x => { x with lastDifference := some difference, timer := some (time + x.rate.longPeriod) }).setLock .locked

/-- R15: the pulse that ends free-running. -/
def State.realignPulse (s : State) (p : Nat) (time : Nat) : State :=
  let h1 := s.wrap (s.time.h + 1 : Nat)
  let difference := s.signed p h1
  let late : Bool := s.latePulse time && p == s.time.h
  let s := s.modTime fun x => { x with realignPending := false, lastDifference := some difference }
  if late then s.matchLate difference time
  else if p = h1 then s.makeBoundary .pulse p .locked time
  else (s.bumpUnit .realignments).makeBoundary .realigned p .locked time

/-- R10: a pulse compared with H + 1 in LOCKED. -/
def State.lockedPulse (s : State) (p : Nat) (time : Nat) : State :=
  let h1 := s.wrap (s.time.h + 1 : Nat)
  let difference := s.signed p h1
  let s := s.modTime fun x => { x with lastDifference := some difference }
  if difference = 0 then s.makeBoundary .pulse h1 .locked time
  else if difference = 1 then (s.bumpUnit .refAdjusts).makeBoundary .pulse (s.wrap (s.time.h + 2 : Nat)) .locked time
  else if difference = -1 then (s.bumpUnit .refAdjusts).makeBoundary .pulse s.time.h .locked time
  else (s.bumpUnit .refMismatches).makeBoundary .pulse h1 .refMismatch time

/-- R12: a pulse compared with H + 1 in REF_LOST. -/
def State.lostPulse (s : State) (p : Nat) (time : Nat) : State :=
  let h1 := s.wrap (s.time.h + 1 : Nat)
  let difference := s.signed p h1
  let s := s.modTime fun x => { x with lastDifference := some difference }
  if difference = 0 then s.makeBoundary .pulse h1 .locked time
  else if difference = 1 then (s.bumpUnit .refAdjusts).makeBoundary .pulse (s.wrap (s.time.h + 2 : Nat)) .locked time
  else if difference = -1 then (s.bumpUnit .refAdjusts).makeBoundary .pulse s.time.h .locked time
  else (s.bumpUnit .refMismatches).setLock .refMismatch

/-- R13: a pulse compared and recorded in REF_MISMATCH. -/
def State.mismatchPulse (s : State) (p : Nat) : State :=
  let difference := s.signed p (s.time.h + 1 : Nat)
  s.modTime fun x => { x with lastDifference := some difference }

/-- R9 to R15: a REFERENCE pulse. -/
def State.takePulse (s : State) (label : Label) (time : Nat) : State :=
  if s.loading then s
  else
    match pulsePosition s.time.rate label with
    | none => s.bumpUnit .refBadPulses
    | some p =>
      let s := s.modTime fun x => { x with absence := 0 }
      if s.time.realignPending || s.time.lock == .unreferenced then s.realignPulse p time
      else
        match s.time.lock with
        | .locked => if s.latePulse time && p == s.time.h then s.matchLate 0 time else s.lockedPulse p time
        | .refLost => if s.latePulse time && p == s.time.h then s.matchLate 0 time else s.lostPulse p time
        | .refMismatch | .unreferenced => s.mismatchPulse p

/-- R14: REALIGN. -/
def State.commandRealign (s : State) : State × Result :=
  if s.time.lock = .locked then (s, .refLocked)
  else (s.modTime fun x => { x with realignPending := true }, .accepted)

/-- R17: a change of house rate, taken with every channel out of service. The report of the lock state carries H as re-expressed and an absent last
difference, and the replication reports of cause RATE_CHANGE carry H as re-expressed: the values that the change leaves. The report of the lock state is raised
before the replication reports; R17 makes both in one act and gives no order (DESIGN CHOICE, log 48). -/
def State.changeRate (s : State) (r : Rate) (time : Nat) : State :=
  let s := s.modTime fun x =>
    { x with
      h := reexpressPosition x.rate r x.h, rate := r, realignPending := false, absence := 0, lastDifference := none
      timer := some (time + r.period) }
  (s.setLock .unreferenced).clearAllLists .rateChange

end Sys2Proof.Machine
end

