-- ==== Sys2Proof/Machine/Settings.lean ====
section
/-! DEFINITION. The settings: every entry of the CHANNEL, DETECTORS, SERVERS, OUTPUT_MAP and SITE tables with its kind and range, how it is read and stored, and
what a write of it does (R17, R26, R37, R60, R61, R82, R111, R112, R121, R179, R185, R204). -/

namespace Sys2Proof.Machine

/-! ## The entries (Tables 7-1 and 10-3) -/

/-- The 16 settings of Table 7-1, in its order. -/
inductive ChanSetting where
  | lead | joinMargin | cueAttempts | server | player | returnMode | autoReturn | guardLength
  | mainHoldLimit | standbyHoldLimit | fillSlate | delayOverride | delayMargin | rampEnable | rampStep | serviceMode
deriving DecidableEq, Repr

/-- The 8 settings of a detector, in the order of R59. -/
inductive DetSetting where
  | enabled | policy | assertCount | clearCount | settleFrames | threshold | riseReport | fallReport
deriving DecidableEq, Repr

/-- The 10 entries of the SITE table. -/
inductive SiteSetting where
  | houseRate | pathTimeout | pathRestore | keepaliveCount | keepalivePrescale
  | snapshotCount | snapshotPrescale | resyncCount | resyncPrescale | unitNumber
deriving DecidableEq, Repr

/-- One entry of the five tables that the image holds. -/
inductive SettingRef where
  | chan (c : Chan) (k : ChanSetting)
  | det (c : Chan) (d : Detector) (k : DetSetting)
  | chain (c : Chan)
  | pairs (c : Chan)
  | mapped (i : Fin 8)
  | serverPort (i : Fin 8)
  | stream (c : Chan)
  | site (k : SiteSetting)
deriving DecidableEq, Repr

/-- What an entry holds: a number of a width in bytes and a range, an enumeration of so many values, a flag, a set of pairs, or nothing (the
threshold of ARRIVAL and of FREEZE). -/
inductive SettingKind where
  | number (width lo hi : Nat)
  | enum (count : Nat)
  | flag
  | pairs
  | absent
deriving DecidableEq, Repr

/-- The kind of a channel setting (Table 7-1). -/
def ChanSetting.kind : ChanSetting → SettingKind
  | .lead => .number 1 2 250
  | .joinMargin => .number 1 0 250
  | .cueAttempts => .number 1 1 7
  | .server => .enum 8
  | .player => .enum 4
  | .returnMode => .enum 2
  | .autoReturn => .flag
  | .guardLength => .number 2 25 65535
  | .mainHoldLimit => .number 1 0 50
  | .standbyHoldLimit => .number 1 0 50
  | .fillSlate => .enum 8
  | .delayOverride => .number 1 0 15
  | .delayMargin => .number 1 0 3
  | .rampEnable => .flag
  | .rampStep => .number 1 1 2
  | .serviceMode => .enum 3

/-- The kind of a detector setting (R59). -/
def DetSetting.kind (d : Detector) : DetSetting → SettingKind
  | .enabled => .flag
  | .policy => .enum 3
  | .assertCount => .number 2 1 1023
  | .clearCount => .number 2 1 1023
  | .settleFrames => .number 1 0 255
  | .threshold =>
    match d with
    | .black => .number 2 0 1023
    | .silence => .number 2 0 32767
    | _ => .absent
  | .riseReport => .flag
  | .fallReport => .flag

/-- The kind of a SITE entry (R2, R26, R82, R111, R112, R204). A prescale is an enumeration of its eight values (DEDUCED, log 19). -/
def SiteSetting.kind : SiteSetting → SettingKind
  | .houseRate => .enum 4
  | .pathTimeout => .number 1 1 250
  | .pathRestore => .number 1 1 250
  | .keepaliveCount => .number 1 1 255
  | .keepalivePrescale => .enum 8
  | .snapshotCount => .number 1 1 255
  | .snapshotPrescale => .enum 8
  | .resyncCount => .number 1 1 255
  | .resyncPrescale => .enum 8
  | .unitNumber => .number 2 0 65535

/-- The kind of an entry. -/
def SettingRef.kind : SettingRef → SettingKind
  | .chan _ k => k.kind
  | .det _ d k => k.kind d
  | .chain _ => .flag
  | .pairs _ => .pairs
  | .mapped _ => .flag
  | .serverPort _ => .enum 4
  | .stream _ => .number 1 0 255
  | .site k => k.kind

/-- Whether a WRITE stops at the entry with READ_ONLY (R194). -/
def SettingRef.readOnly : SettingRef → Bool
  | .chan _ .serviceMode => true
  | r => r.kind == .absent

/-! ## Reading an entry -/

/-- A flag as a number (Table 11-5). -/
def flagNat (b : Bool) : Nat := if b then 1 else 0

/-- A channel setting as a number (R121). -/
def ChannelSettings.get (x : ChannelSettings) (mode : ServiceMode) : ChanSetting → Nat
  | .lead => x.lead
  | .joinMargin => x.joinMargin
  | .cueAttempts => x.cueAttempts
  | .server => x.server.val
  | .player => x.player.val
  | .returnMode => returnModeCode x.returnMode
  | .autoReturn => flagNat x.autoReturn
  | .guardLength => x.guardLength
  | .mainHoldLimit => x.mainHoldLimit
  | .standbyHoldLimit => x.standbyHoldLimit
  | .fillSlate => x.fillSlate.val
  | .delayOverride => x.delayOverride
  | .delayMargin => x.delayMargin
  | .rampEnable => flagNat x.rampEnable
  | .rampStep => x.rampStep
  | .serviceMode => modeCode mode

/-- A detector setting as a number; an absent threshold is 0 and is not shown. -/
def DetectorSettings.get (x : DetectorSettings) : DetSetting → Nat
  | .enabled => flagNat x.enabled
  | .policy => policyCode x.policy
  | .assertCount => x.assertCount
  | .clearCount => x.clearCount
  | .settleFrames => x.settleFrames
  | .threshold => x.threshold.getD 0
  | .riseReport => flagNat x.riseReport
  | .fallReport => flagNat x.fallReport

/-- A SITE entry as a number. -/
def UnitSettings.get (x : UnitSettings) (r : Rate) : SiteSetting → Nat
  | .houseRate => rateCode r
  | .pathTimeout => x.pathTimeout
  | .pathRestore => x.pathRestore
  | .keepaliveCount => x.keepaliveCount
  | .keepalivePrescale => x.keepalivePrescale.val
  | .snapshotCount => x.snapshotCount
  | .snapshotPrescale => x.snapshotPrescale.val
  | .resyncCount => x.resyncCount
  | .resyncPrescale => x.resyncPrescale.val
  | .unitNumber => x.unitNumber

/-- An entry as a number. -/
def State.getRef (s : State) : SettingRef → Nat
  | .chan c k => (s.ch c).settings.get (s.ch c).control.mode k
  | .det c d k => ((s.ch c).detCfg d).get k
  | .chain c => flagNat (s.ch c).settings.chain
  | .pairs c => (s.ch c).settings.pairSet.toNat
  | .mapped i => flagNat s.settings.servers[i.val].mapped
  | .serverPort i => s.settings.servers[i.val].port.val
  | .stream c => (s.ch c).settings.streamId
  | .site k => s.settings.get s.time.rate k

/-! ## Storing an entry -/

/-- A number as a value of a fixed enumeration. -/
def finOf (n : Nat) (h : 0 < n) (v : Nat) : Fin n := ⟨v % n, Nat.mod_lt _ h⟩

/-- The policies in the order of R59. -/
def policyOf : Nat → Policy
  | 0 => .ignore
  | 1 => .alarm
  | _ => .takeover

/-- The house rates in the order of Table 1-5. -/
def rateOf : Nat → Rate
  | 0 => .fr25
  | 1 => .fr30d
  | 2 => .fr50
  | _ => .fr60d

/-- The service modes in the order of R120. -/
def modeOf : Nat → ServiceMode
  | 0 => .outOfService
  | 1 => .monitor
  | _ => .protected_

/-- A channel setting stored; SERVICE_MODE stands in the channel record. -/
def ChannelSettings.put (x : ChannelSettings) (k : ChanSetting) (v : Nat) : ChannelSettings :=
  match k with
  | .lead => { x with lead := v }
  | .joinMargin => { x with joinMargin := v }
  | .cueAttempts => { x with cueAttempts := v }
  | .server => { x with server := finOf 8 (by decide) v }
  | .player => { x with player := finOf 4 (by decide) v }
  | .returnMode => { x with returnMode := if v = 0 then .boundary else .immediate }
  | .autoReturn => { x with autoReturn := v != 0 }
  | .guardLength => { x with guardLength := v }
  | .mainHoldLimit => { x with mainHoldLimit := v }
  | .standbyHoldLimit => { x with standbyHoldLimit := v }
  | .fillSlate => { x with fillSlate := finOf 8 (by decide) v }
  | .delayOverride => { x with delayOverride := v }
  | .delayMargin => { x with delayMargin := v }
  | .rampEnable => { x with rampEnable := v != 0 }
  | .rampStep => { x with rampStep := v }
  | .serviceMode => x

/-- A detector setting stored. -/
def DetectorSettings.put (x : DetectorSettings) (k : DetSetting) (v : Nat) : DetectorSettings :=
  match k with
  | .enabled => { x with enabled := v != 0 }
  | .policy => { x with policy := policyOf v }
  | .assertCount => { x with assertCount := v }
  | .clearCount => { x with clearCount := v }
  | .settleFrames => { x with settleFrames := v }
  | .threshold => { x with threshold := x.threshold.map fun _ => v }
  | .riseReport => { x with riseReport := v != 0 }
  | .fallReport => { x with fallReport := v != 0 }

/-- A SITE entry stored; HOUSE_RATE stands in the Timeline Unit. -/
def UnitSettings.put (x : UnitSettings) (k : SiteSetting) (v : Nat) : UnitSettings :=
  match k with
  | .houseRate => x
  | .pathTimeout => { x with pathTimeout := v }
  | .pathRestore => { x with pathRestore := v }
  | .keepaliveCount => { x with keepaliveCount := v }
  | .keepalivePrescale => { x with keepalivePrescale := finOf 8 (by decide) v }
  | .snapshotCount => { x with snapshotCount := v }
  | .snapshotPrescale => { x with snapshotPrescale := finOf 8 (by decide) v }
  | .resyncCount => { x with resyncCount := v }
  | .resyncPrescale => { x with resyncPrescale := finOf 8 (by decide) v }
  | .unitNumber => { x with unitNumber := v }

/-- The unit's settings updated. -/
def State.modUnit (s : State) (f : UnitSettings → UnitSettings) : State := { s with settings := f s.settings }

/-- An entry stored, with no further effect: how the image sets it (R201). -/
def State.putRef (s : State) (r : SettingRef) (v : Nat) : State :=
  match r with
  | .chan c .serviceMode => s.modControl c fun y => { y with mode := modeOf v }
  | .chan c k => s.modSettings c fun x => x.put k v
  | .det c d k => s.modSettings c fun x => { x with detectors := vmod x.detectors (detectorIndex d) fun y => y.put k v }
  | .chain c => s.modSettings c fun x => { x with chain := v != 0 }
  | .pairs c => s.modSettings c fun x => { x with pairSet := BitVec.ofNat 8 v }
  | .mapped i => s.modUnit fun x => { x with servers := vmod x.servers i fun e => { e with mapped := v != 0 } }
  | .serverPort i => s.modUnit fun x => { x with servers := vmod x.servers i fun e => { e with port := finOf 4 (by decide) v } }
  | .stream c => s.modSettings c fun x => { x with streamId := v }
  | .site .houseRate => s.modTime fun x => { x with rate := rateOf v }
  | .site k => s.modUnit fun x => x.put k v

/-! ## The pages (Table 10-3) -/

/-- The settings of Table 7-1. -/
def chanSettings : List ChanSetting :=
  [.lead, .joinMargin, .cueAttempts, .server, .player, .returnMode, .autoReturn, .guardLength,
   .mainHoldLimit, .standbyHoldLimit, .fillSlate, .delayOverride, .delayMargin, .rampEnable, .rampStep, .serviceMode]

/-- The settings of a detector. -/
def detSettings : List DetSetting :=
  [.enabled, .policy, .assertCount, .clearCount, .settleFrames, .threshold, .riseReport, .fallReport]

/-- The entries of SITE. -/
def siteSettings : List SiteSetting :=
  [.houseRate, .pathTimeout, .pathRestore, .keepaliveCount, .keepalivePrescale,
   .snapshotCount, .snapshotPrescale, .resyncCount, .resyncPrescale, .unitNumber]

/-- The servers 0 to 7. -/
def serverIndices : List (Fin 8) := [0, 1, 2, 3, 4, 5, 6, 7]

/-- The entries of a page of a writable table, absent for another table or a page the table does not have. -/
def pageRefs (t : Table) (page : Nat) : Option (List SettingRef) :=
  match t with
  | .channel => (chanOf page).map fun c => chanSettings.map (SettingRef.chan c)
  | .detectors =>
    (chanOf page).map fun c => (Detector.all.flatMap fun d => detSettings.map (SettingRef.det c d)) ++ [.chain c, .pairs c]
  | .servers => if page = 255 then some (serverIndices.flatMap fun i => [.mapped i, .serverPort i]) else none
  | .outputMap => if page = 255 then some (Chan.all.map SettingRef.stream) else none
  | .site => if page = 255 then some (siteSettings.map SettingRef.site) else none
  | _ => none

/-! ## Writing an entry (R194) -/

/-- A number brought to the nearest end of its range (section 1.7). -/
def clampNat (lo hi v : Nat) : Nat := max lo (min hi v)

/-- A value judged against the kind of its entry: BAD_VALUE, or the value to write and whether it was clamped. -/
def judgeValue (k : SettingKind) (v : Nat) : Option (Nat × Bool) :=
  match k with
  | .number _ lo hi => some (clampNat lo hi v, clampNat lo hi v != v)
  | .enum n => if v < n then some (v, false) else none
  | .flag => if v < 2 then some (v, false) else none
  | .pairs => if v < 256 then some (v, false) else none
  | .absent => none

/-- R60 and R61: a setting of an in-service channel's detectors written; enabling starts settling, and the verdict is evaluated. -/
def State.writeDetector (s : State) (c : Chan) (d : Detector) (k : DetSetting) (v : Nat) : State :=
  let t := s.putRef (.det c d k) v
  if s.getRef (.det c d k) = v then s
  else if s.inService c then
    match k with
    | .enabled =>
      if v = 0 then t.evaluate c .setting
      else (t.modDetector c d (startSettling ((t.ch c).detCfg d))).evaluate c .settling
    | .policy => t.evaluate c .setting
    | _ => t
  else t

/-- R60: the chain flag written. -/
def State.writeChain (s : State) (c : Chan) (v : Nat) : State :=
  let t := s.putRef (.chain c) v
  if s.getRef (.chain c) = v then s else if s.inService c then t.evaluate c .setting else t

/-- R17: whether every channel's service mode is OUT_OF_SERVICE. -/
def State.allOut (s : State) : Bool := Chan.all.all fun c => (s.ch c).control.mode == .outOfService

/-- A value written to an entry, with the effect its owning chapter states; absent when the state of the part refuses it (R17). `time` is the instant of
the WRITE. -/
def State.writeRef (s : State) (r : SettingRef) (v : Nat) (time : Nat) : Option State :=
  match r with
  | .det c d k => some (s.writeDetector c d k v)
  | .chain c => some (s.writeChain c v)
  | .chan c .rampEnable => some (if v = 0 then (s.putRef r v).cutRamp c else s.putRef r v)
  | .site .houseRate =>
    if !s.allOut then none
    else if rateOf v = s.time.rate then some s
    else some (s.changeRate (rateOf v) time)
  | _ => some (s.putRef r v)

end Sys2Proof.Machine
end

