-- ==== Sys2Proof/Machine/Service.lean ====
section
/-! DEFINITION. Service entry and exit taken whole (R41, R49, R72, R73, R123, R124, R173), the channel commands gathered (Table 7-3), and the two commands of the
Alignment Unit (R50, R55). -/

namespace Sys2Proof.Machine

/-! ## Entry and exit -/

/-- R123: a channel enters service in a mode: the channel record, then the Alignment Unit, the output record and the Continuity Monitor. -/
def State.enterService (s : State) (c : Chan) (mode : ServiceMode) : State :=
  ((((s.controlEntry c mode).alignEntry c).clearOutput c).monitorEntry c)

/-- R124: a channel leaves service: its cues and its record, then the Alignment Unit, the output record and the Continuity Monitor. -/
def State.leaveService (s : State) (c : Chan) : State :=
  (((s.controlExit c).alignExit c).clearOutput c).monitorExit c

/-! ## Channel commands (Table 7-3) -/

/-- The channel commands; `setService` and `pin` carry the code named. -/
inductive ChannelCommand where
  | setService (mode : Nat)
  | take
  | returnToMain
  | hold
  | pin (code : Nat)
  | unpin
  | seize
  | release
  | ackTakeover
  | recue
  | clearRecords
deriving DecidableEq, Repr

/-- The mode that SET_SERVICE names, in the order of R123; absent for any other (DEDUCED, log 34). -/
def serviceModeOf : Nat → Option ServiceMode
  | 0 => some .monitor
  | 1 => some .protected_
  | 2 => some .outOfService
  | _ => none

/-- The pin that PIN names: MAIN, then STANDBY (Table 7-3, DEDUCED, log 34); absent for any other. -/
def pinNamed : Nat → Option Pin
  | 0 => some .main
  | 1 => some .standby
  | _ => none

/-- R123 and R124: SET_SERVICE. -/
def State.commandSetService (s : State) (c : Chan) (mode : Nat) : State × Result :=
  match serviceModeOf mode with
  | none => (s, .badValue)
  | some .outOfService => if s.inService c then (s.leaveService c, .accepted) else (s, .accepted)
  | some m =>
    if s.inService c then (s.modControl c fun y => { y with mode := m }, .accepted)
    else (s.enterService c m, .accepted)

/-- R137 to R139: PIN by the code it names. A code that names no pin is refused with BAD_VALUE (DEDUCED, log 21). -/
def State.commandPin (s : State) (c : Chan) (code : Nat) : State × Result :=
  match pinNamed code with
  | some .main => s.commandPinMain c
  | some .standby => s.commandPinStandby c
  | _ => (s, .badValue)

/-- A channel command taken for one channel (R135). -/
def State.runChannel (s : State) (c : Chan) (o : Origin) : ChannelCommand → State × Result
  | .setService mode => s.commandSetService c mode
  | .take => s.commandTake c o
  | .returnToMain => s.commandReturn c o
  | .hold => s.commandHold c o
  | .pin code => s.commandPin c code
  | .unpin => s.commandUnpin c
  | .seize => s.commandSeize c
  | .release => s.commandRelease c
  | .ackTakeover => s.commandAck c o
  | .recue => s.commandRecue c
  | .clearRecords => s.commandClearRecords c

/-- R135: the state, pin and owner of a channel, as a REPLY gives them. -/
def State.channelAnswer (s : State) (c : Chan) : List Atom :=
  let x := (s.ch c).control
  [.enum (stateCode x.state), .enum (pinCode x.pin), .enum (ownerCode x.owner)]

/-- R123: what the REPLY of an entry into service adds: the mode and the d latched. The code of the mode counts in the order of R120 (OUT_OF_SERVICE, MONITOR,
PROTECTED), not in the order of R123 in which SET_SERVICE names it (DEDUCED, log 34). -/
def State.entryAnswer (s : State) (c : Chan) : List Atom :=
  [.enum (modeCode (s.ch c).control.mode), .num 1 (s.delay c)]

/-- The contents of the REPLY to a channel command that named one channel; `entered` says that it was an entry into service. -/
def State.commandAnswer (s : State) (c : Chan) (result : Result) (entered : Bool) : List Atom :=
  if result = .accepted then s.channelAnswer c ++ (if entered then s.entryAnswer c else []) else []

/-! ## RETIME (R50) -/

/-- R50: RETIME for a channel: the state after, the result, whether the value was clamped, and the REPLY's contents. -/
def State.commandRetime (s : State) (c : Chan) (value : Option Nat) : State × Result × Bool × List Atom :=
  if !s.inService c then (s, .outOfService, false, [])
  else
    let d := s.delay c
    let new := match value with
      | none => (s.ch c).align.measurement.measured
      | some v => clampNat 1 15 v
    let clamped := match value with
      | none => false
      | some v => clampNat 1 15 v != v
    if new = d then (s.modAlign c fun x => { x with retime := none }, .accepted, clamped, [.num 1 0])
    else
      let target := s.retimeTarget c d new
      (s.modAlign c fun x => { x with retime := some { value := new, target := target } }, .accepted, clamped,
        [.num 1 1, .num 1 new] ++ labelAtoms (positionLabel s.time.rate target))

/-! ## CAPTURE_SLATE (R55) -/

/-- The path that CAPTURE_SLATE names, in the order of R55; absent for any other. -/
def capturePathOf : Nat → Option SourcePath
  | 0 => some .main
  | 1 => some .standby
  | _ => none

/-- R55: a capture request becomes the slate's; an earlier one ends with REPLACED. -/
def State.requestCapture (s : State) (i : Fin 8) (r : Capture) : State :=
  let s := match s.slates[i.val].request with
    | some old => s.endCapture i old .replaced
    | none => s
  s.modSlate i fun x => { x with request := some r }

/-- R55: CAPTURE_SLATE. The request's REPLY is sent when it ends, so only a refusal answers. -/
def State.commandCapture (s : State) (slate : Nat) (channel : Option Chan) (path : Nat) (port : Port) (request : Nat) : State × Option Result :=
  if h : slate < 8 then
    match channel, capturePathOf path with
    | some c, some p =>
      if s.inService c then (s.requestCapture ⟨slate, h⟩ { chan := c, path := p, copying := none, port := port, request := request }, none)
      else (s, some .outOfService)
    | _, _ => (s, some .badValue)
  else (s, some .badValue)

end Sys2Proof.Machine
end

