-- ==== Sys2Proof/Machine/Flags.lean ====
section
/-! DEFINITION. The flags that STATUS computes when it is read: the selection summaries of R144. -/

namespace Sys2Proof.Machine

/-- The channels of a selection mask, in increasing number. -/
def maskChannels (mask : BitVec 16) : List Chan := Chan.all.filter fun c => mask.getLsbD c.val

/-- Whether a channel is on standby for R144. -/
def State.isOnStandby (s : State) (c : Chan) : Bool := onStandbyPath (s.chState c)

/-- The five entries of R144 in order. -/
inductive SelectionFlag where
  | allMain
  | anyMain
  | allStandby
  | anyStandby
  | anyUnacked
deriving DecidableEq, Repr

/-- The five entries of R144 in order. -/
def selectionFlags : List SelectionFlag := [.allMain, .anyMain, .allStandby, .anyStandby, .anyUnacked]

/-- R144: one entry of the summary of a mask, as the records stand. -/
def State.selectionFlag (s : State) (mask : BitVec 16) : SelectionFlag → Bool
  | .allMain => !(maskChannels mask).isEmpty && (maskChannels mask).all fun c => s.chState c == .main
  | .anyMain => (maskChannels mask).any fun c => s.chState c == .main
  | .allStandby => !(maskChannels mask).isEmpty && (maskChannels mask).all s.isOnStandby
  | .anyStandby => (maskChannels mask).any s.isOnStandby
  | .anyUnacked => (maskChannels mask).any fun c => (s.ch c).control.sticky

end Sys2Proof.Machine
end

