-- ==== Sys2Proof/Machine/Tables.lean ====
section
/-! DEFINITION. The tables as they are read (Table 10-3): the pages and entries of STATUS, COUNTERS, EDGES, SCHEDULE, RECORDS, the five tables of settings, IDENTITY and
RESTART. An entry is a list of encoded fields (Table 11-5, DEDUCED, log 18): an item that is absent is one presence byte, and each part of an item that may be absent
has a presence byte of its own. -/

namespace Sys2Proof.Machine

/-! ## Small encodings -/

/-- A position shown as day and label (R7). -/
def State.labelOf (s : State) (p : Nat) : List Atom := labelAtoms (positionLabel s.time.rate (s.wrap (p : Int)))

/-- A link or path state: UP, then DOWN (R24, R25). -/
def upAtom (up : Bool) : Atom := .enum (if up then 0 else 1)

/-- A slot's state in the order of R27. -/
def slotCode : Slot → Nat
  | .free => 0
  | .filling _ => 1
  | .complete .. => 2
  | .corrupt _ => 3

/-- A slate's state in the order of R54. -/
def slateCode : SlateState → Nat
  | .empty => 0
  | .capturing => 1
  | .filled _ => 2

/-- The presence bits of an event's fields (Table 11-6). -/
def materialPresence : Material → Nat
  | .clip .. => 3
  | .fixed .. => 3
  | .live _ => 4

/-- An event's fields as a CUE carries them, after the presence bits (Tables 11-6 and 11-8). -/
def materialFields : Material → List Atom
  | .clip name i => textAtoms name ++ [.num 4 i]
  | .fixed name i => textAtoms name ++ [.num 4 i]
  | .live source => [.num 2 source]

/-- The material name of an event; a LIVE event has none (R95). -/
def Material.name : Material → Option (List Byte)
  | .clip name _ => some name
  | .fixed name _ => some name
  | .live _ => none

/-- The source number of a LIVE event (R95). -/
def Material.source : Material → Option Nat
  | .live n => some n
  | _ => none

/-- An event's material as an entry shows it: the name, the in_point and the source number, each an optional field (R95, Table 11-5). -/
def materialEntry (m : Material) : List Atom :=
  optAtoms textAtoms m.name ++ optAtoms (fun i => [.num 4 i]) m.inPoint ++ optAtoms (fun n => [.num 2 n]) m.source

/-- The flags of an event: NORMALISED, HEAD_TRIMMED, TAIL_TRIMMED (R95). -/
def eventFlags (e : Event) : Nat := flagNat e.normalised + 2 * flagNat e.headTrimmed + 4 * flagNat e.tailTrimmed

/-- Encoded fields one after another. -/
def joinAtoms (l : List (List Atom)) : List Atom := l.flatten

/-- The SCHEDULE view of an event: the record of R95 in its order, with the end after the start (R118; that place of the end is a DESIGN CHOICE, log 60). -/
def State.scheduleEntry (s : State) (e : Event) : List Atom :=
  joinAtoms
    [[.num 4 e.id], s.labelOf e.start, s.labelOf e.finish, [.num 4 e.duration, .enum (materialCode e.material)],
     materialEntry e.material, [.num 1 (eventFlags e)]]

/-- The RECORDS view of a takeover record (R145). -/
def recordEntry (r : TakeoverRecord) : List Atom :=
  joinAtoms
    [[.num 2 r.sequence], listAtoms (fun k => [.enum (causeCode k)]) r.causes,
     [.num 1 (detectorSet r.asserted)], optAtoms (fun o => [.enum (originCode o)]) r.origin,
     [.pos r.decision, .enum (replicationCode r.replication)], optAtoms (fun x => [.num 4 x.1, .num 4 x.2]) r.event,
     optAtoms (fun p => [.pos p]) r.switchPosition, [.enum (outcomeCode r.outcome)], optAtoms (fun p => [.pos p]) r.returnPosition]

/-- The EDGES view of an entry (R74). -/
def edgeEntry (x : Option Edge) : List Atom :=
  match x with
  | none => [.flag false, .num 1 0, .num 1 0, .num 1 0]
  | some e => [.flag true, .num 1 e.count, .num 1 1, .pos e.first, .num 1 1, .pos e.latest]

/-- A cue with every field of R150, in its order (R171; DEDUCED, log 18). The number of every cue is shown as an optional field with a presence byte, absent for a
FAILED follow-on that was never sent: R150 gives every cue a number, and R155 says only that the number is not used (DESIGN CHOICE, log 61). The event start
is shown reduced modulo C (DESIGN CHOICE, log 16). -/
def cueEntry (s : State) (x : Cue) : List Atom :=
  joinAtoms
    [optAtoms (fun n => [.num 1 n]) x.number,
     [.enum (cueKindCode x.kind), .enum x.server.val, .enum x.player.val, .num 4 x.event.id, .pos (s.wrap (x.event.start : Int)),
      .num 4 x.event.duration, .enum (materialCode x.event.material)],
     materialEntry x.event.material, [.num 4 x.offset], optAtoms (fun p => [.pos p]) x.materialPosition,
     [.num 4 x.playLength, .pos x.switchPosition, .num 1 x.used, .num 1 x.limit, .enum (cueStatusCode x.status)]]

/-! ## Settings as entries -/

/-- The value of a settings entry. The thresholds are optional fields (R59). -/
def State.settingEntry (s : State) (r : SettingRef) : List Atom :=
  let v := s.getRef r
  match r.kind with
  | .absent => [.num 1 0]
  | .number w _ _ =>
    match r with
    | .det _ _ .threshold => [.num 1 1, .num w v]
    | _ => [.num w v]
  | .enum _ => [.enum v]
  | .flag => [.flag (v != 0)]
  | .pairs => [.num 1 v]

/-! ## STATUS, channel pages -/

/-- R39 and R57: the Carriage Receiver's and the Alignment Unit's items. -/
def State.statusCarriage (s : State) (c : Chan) : List (List Atom) :=
  let x := s.ch c
  let a := x.align
  (mainIndices.map fun i => [Atom.enum (slotCode x.slots.main[i.val])]) ++
    [[.flag x.slots.tracker.isSome],
     optAtoms (fun d => [.num 1 d]) a.d,
     [.num 1 a.measurement.measured, .num 1 a.measurement.count],
     optAtoms (fun r : Retime => .num 1 r.value :: s.labelOf r.target) a.retime,
     [.num 1 a.mainHeldCount, .num 1 a.standbyHeldCount, .flag a.mainHeld.isSome, .flag a.standbyHeld.isSome],
     [.num 1 a.freeUnits]] ++
    (standbyIndices.map fun i => [Atom.enum (slotCode x.slots.standby[i.val])])

/-- R77: the Continuity Monitor's items. -/
def State.statusMonitor (s : State) (c : Chan) : List (List Atom) :=
  let x := s.ch c
  [[.enum (verdictCode x.monitor.verdict)], [.flag x.monitor.reference.isSome]] ++
    Detector.all.map fun d =>
      let y := x.detState d
      [Atom.enum (phaseCode y.phase), .enum (flagNat y.latched), .num 1 y.settle, .num 2 y.bad, .num 2 y.good, .flag (x.stands d)]

/-- R118: the Schedule Store's items. -/
def State.statusSchedule (s : State) (c : Chan) : List (List Atom) :=
  let x := (s.ch c).schedule
  [[.enum (replicationCode x.state)],
   [.num 2 x.expected],
   optAtoms (fun l : List Event => [.num 2 l.length]) x.live ++ optAtoms (fun y : Shadow => [.num 2 y.events.length]) x.shadow,
   optAtoms (fun y : Shadow => [.num 2 y.revision, .num 2 y.count, .num 2 y.received.length]) x.shadow,
   optAtoms (fun n => [.num 2 n]) x.snapshotTimer,
   optAtoms (fun n => [.num 2 n]) x.resyncTimer]

/-- R148: the Channel Controller's items. -/
def State.statusControl (s : State) (c : Chan) : List (List Atom) :=
  let x := (s.ch c).control
  [[.enum (modeCode x.mode)], [.enum (stateCode x.state)], [.enum (pinCode x.pin)], [.enum (ownerCode x.owner)],
   optAtoms (fun k => [.enum (causeCode k)]) x.cause, optAtoms (fun k => [.enum (returnOriginCode k)]) x.returnOrigin,
   optAtoms (fun n => [.num 2 n]) x.guard, [.num 2 (s.ch c).settings.guardLength], optAtoms s.labelOf x.returnPosition,
   [.flag x.suspended], [.flag x.sticky], [.flag x.returnAck], [.flag x.awaitingRecue],
   optAtoms (fun n => [.num 2 n]) (s.currentSequence c), [.num 2 x.nextSequence], [.flag x.overflow], [.num 1 x.ring.length]]

/-- R171: the Cue Engine's items. -/
def State.statusCue (s : State) (c : Chan) : List (List Atom) :=
  let x := (s.ch c).cue
  [optAtoms (cueEntry s) x.pendingCue, optAtoms (cueEntry s) x.playing, [.num 1 x.nextNumber],
   optAtoms (fun y : Nat × Nat => [.num 1 y.1, .num 1 y.2]) x.wait, [.flag x.recordLink]]

/-- R186: the step and the frames spent of a running ramp. -/
def Ramp.progress : Ramp → Option (Nat × Nat)
  | .idle => none
  | .running step spent => some (step, spent)

/-- R186: the ramp state, then the step and the frames spent, each an optional field. -/
def rampAtoms (r : Ramp) : List Atom :=
  .enum (flagNat r.progress.isSome) :: optAtoms (fun x => [.num 1 x.1]) r.progress ++ optAtoms (fun x => [.num 1 x.2]) r.progress

/-- R186: the Output Assembler's items. -/
def State.statusOutput (s : State) (c : Chan) : List (List Atom) :=
  let x := (s.ch c).output
  [[.num 1 (s.ch c).settings.streamId], optAtoms (fun t => [.enum (tagIndex t)]) x.lastTag, optAtoms (fun k => [.enum (categoryCode k)]) x.lastCategory,
   rampAtoms x.ramp,
   [.num 1 (flagNat x.sending.isSome + flagNat x.waiting.isSome)]]

/-- The STATUS page of a channel, in chapter order. -/
def State.statusChannel (s : State) (c : Chan) : List (List Atom) :=
  s.statusCarriage c ++ s.statusMonitor c ++ s.statusSchedule c ++ s.statusControl c ++ s.statusCue c ++ s.statusOutput c

/-! ## STATUS, page 255 -/

/-- The eight ports in Table 1-2's order. -/
def Port.all : List Port :=
  [.contribution .a, .contribution .b, .standby 0, .standby 1, .standby 2, .standby 3, .output .a, .output .b]

/-- The two origins. -/
def Origin.all : List Origin := [.mainSite, .console]

/-- R18: the Timeline Unit's items. -/
def State.statusTime (s : State) : List (List Atom) :=
  let x := s.time
  let l := positionLabel x.rate x.h
  [[.num 2 l.day, .num 4 (x.h % x.rate.fday), .num 1 l.hh, .num 1 l.mm, .num 1 l.ss, .num 1 l.ff],
   [.enum (rateCode x.rate)], [.enum (lockCode x.lock)], optAtoms (fun d => [.int d]) x.lastDifference, [.flag x.realignPending]]

/-- The picture of a FILLED slate. -/
def SlateState.picture : SlateState → Option Picture
  | .filled p => some p
  | _ => none

/-- R57: a slate's state, then the recorded channel, path and position, each an optional field. -/
def slateAtoms (x : SlateState) : List Atom :=
  joinAtoms
    [[.enum (slateCode x)], optAtoms (fun p => [.num 1 p.chan.val]) x.picture, optAtoms (fun p => [.enum (sourcePathCode p.path)]) x.picture,
     optAtoms (fun p => [.pos p.position]) x.picture]

/-- R39 and R57: links, paths and slates. -/
def State.statusPorts (s : State) : List (List Atom) :=
  (Port.all.map fun p => [upAtom (s.linkUp p)]) ++ [[upAtom s.ports.pathA.up], [upAtom s.ports.pathB.up]] ++
    slateIndices.map fun i => slateAtoms s.slates[i.val].state

/-- R91: the Site Supervisor's items. -/
def State.statusSite (s : State) : List (List Atom) :=
  let x := s.site
  [[.enum (siteCode x.state)], [.enum (automationCode x.automation)], [.num 2 x.elapsed, .flag x.timerRunning],
   optAtoms (fun k : LastKeepalive => [.num 2 k.sequence, .enum (sideIndex k.side).val, .pos k.position]) x.lastKeepalive,
   optAtoms (fun l : LossEntry => lossAtoms l ++ [.enum (siteCode l.left)]) x.loss]

/-- The fault of a load that ended in the defaults. -/
def ConfigState.fault : ConfigState → Option LoadFault
  | .defaulted f => some f
  | _ => none

/-- CONFIG_STATE counted from 0 in the order of R201, then the load in progress (DESIGN CHOICE, log 60). -/
def configCode : ConfigState → Nat
  | .loaded => 0
  | .defaulted _ => 1
  | .loading => 2

/-- R201: CONFIG_STATE, with the load fault, an optional field. -/
def configAtoms (x : ConfigState) : List Atom := .enum (configCode x) :: optAtoms (fun f => [.enum (loadFaultCode f)]) x.fault

/-- A sticky error as R191 lists it: the code, then the request number and the offset, each an optional field that is present while the code is not NONE. -/
def stickyAtoms (x : Option StickyError) : List Atom :=
  .enum (stickyCode (x.map StickyError.code)) :: optAtoms (fun e => [.num 2 e.request]) x ++ optAtoms (fun e => [.num 2 e.offset]) x

/-- R205: one item of each origin's context. -/
def State.statusContexts (s : State) : List (List Atom) :=
  let each (f : Context → List Atom) : List (List Atom) := Origin.all.map fun o => f (s.ctx o)
  each (fun x => [.enum (tableCode x.window.table), .num 1 x.window.page, .num 2 x.window.offset, .flag x.window.auto]) ++
    each (fun x => optAtoms (fun w : Walk => [.num 1 w.gathered.length]) x.walk) ++
    each (fun x => stickyAtoms x.sticky) ++
    each (fun x => [.num 2 x.mask.toNat]) ++
    each (fun x => x.levels.toList.map fun n => .num 1 n) ++
    each (fun x => [.num 1 x.queue.length, .num 2 x.nextSequence])

/-- R205: the Management Unit's items. -/
def State.statusManagement (s : State) : List (List Atom) :=
  [configAtoms s.mgmt.config,
   optAtoms (fun x : Bool × Nat => [.enum (if x.1 then 0 else 1), .pos x.2]) s.mgmt.lastSave ++ [.flag s.mgmt.save.isSome],
   [.flag s.mgmt.restarting.isSome]] ++
    s.statusContexts ++ [optAtoms (fun n : Fin 4 => [.enum n.val]) s.mgmt.consolePort]

/-- The STATUS page of the unit, in chapter order. -/
def State.statusUnit (s : State) : List (List Atom) :=
  s.statusTime ++ s.statusPorts ++ s.statusSite ++ [[.num 2 s.poolFree]] ++
    (selectionFlags.flatMap fun k => Origin.all.map fun o => [.flag (s.selectionFlag (s.ctx o).mask k)]) ++ s.statusManagement

/-! ## COUNTERS -/

/-- The per-channel counters of Chapters 2 and 3. -/
def carriageCounters : List ChanCtr :=
  [.staleReclaims, .corruptFrames, .corruptDiscards, .badSummaries, .lateCompletions, .lateAbandoned, .standbyCorruptFrames,
   .mainMissing, .skippedFrames, .repeats, .windowDiscards, .heldEvictions, .delayWindows, .retimes, .standbyLate, .standbyEarly, .standbyMissing, .standbyDiscards]

/-- The per-channel counters of Chapters 4 and 6. -/
def scheduleCounters : List ChanCtr :=
  [.assertArrival, .assertFreeze, .assertBlack, .assertSilence, .clearArrival, .clearFreeze, .clearBlack, .clearSilence, .verdictChanges,
   .amendApplied, .refusedAmendments, .amendDiscarded, .amendGaps, .amendOld, .overlapRemovals, .overlapTrims, .snapshotsBegun, .snapshotsCompleted,
   .snapshotsFailed, .snapshotTimeouts, .snapshotDuplicates, .snapshotDiscards, .snapshotRejects, .snapshotPast, .eventsRetired, .resyncsSent, .replicationChanges]

/-- The per-channel counters of Chapters 7 to 9. -/
def controlCounters : List ChanCtr :=
  [.takeovers, .cueFailures, .guardExpiries, .guardRestarts, .guardCancels, .returns, .recordsOverwritten,
   .cuesSent, .noServerFailures, .cueRefusals, .cueExpiries, .readyDuplicates, .strayReadies, .strayRefusals, .switches, .followOnFailures, .recomputes,
   .cancelsSent, .stopsSent, .cueControlsUnsent,
   .emittedMain, .emittedMainHeld, .emittedStandby, .emittedStandbyHeld, .emittedSlate, .emittedSlateEmpty, .outputOverruns, .rampsStarted, .rampsCut]

/-- The counters of a channel's page, in chapter order. -/
def chanCounters : List ChanCtr := (carriageCounters ++ scheduleCounters : List ChanCtr) ++ controlCounters

/-- The contribution ports. -/
def contributionPorts : List Port := [.contribution .a, .contribution .b]

/-- The standby ports. -/
def standbyPorts : List Port := [.standby 0, .standby 1, .standby 2, .standby 3]

/-- The output ports. -/
def outputPorts : List Port := [.output .a, .output .b]

/-- The ports on which control and media carriers are received. -/
def inboundPorts : List Port := [.contribution .a, .contribution .b, .standby 0, .standby 1, .standby 2, .standby 3]

/-- The counters of Table 2-1 in its order. -/
def receiverCounters : List PortCtr :=
  [.fcsErrors, .notCarriage, .carriersIn, .ignored, .badCheck, .badVersion, .badField, .senderMismatch, .outOfService, .linkChanges, .duplicates,
   .early, .late, .standbyUnmapped, .standbyWrongPort, .standbyUnassigned, .standbyAmbiguous]

/-- The ports that a counter is kept for (Table 2-1, R186). -/
def PortCtr.ports : PortCtr → List Port
  | .ignored | .carriersOut | .outputDropped => outputPorts
  | .outOfService | .early | .late => contributionPorts
  | .linkChanges => Port.all
  | .standbyUnmapped | .standbyWrongPort | .standbyUnassigned | .standbyAmbiguous => standbyPorts
  | _ => inboundPorts

/-- A counter of ports as entries, one for each port it is kept for. -/
def portKeys (k : PortCtr) : List CounterKey := k.ports.map fun p => CounterKey.port p k

/-- A counter of origins as entries, one for each origin. -/
def originKeys (k : OriginCtr) : List CounterKey := Origin.all.map fun o => CounterKey.origin o k

/-- The unit counters of Chapter 1. -/
def timeCounters : List UnitCtr := [.refBadPulses, .refAdjusts, .refMismatches, .refLosses, .coastedBoundaries, .realignments]

/-- The counters of the paths (Table 2-2). -/
def pathKeys : List CounterKey := [.path .a .downs, .path .b .downs, .path .a .ups, .path .b .ups]

/-- The unit counters of Chapters 5, 6 and 8. -/
def siteCounters : List UnitCtr :=
  [.keepalivesA, .keepalivesB, .keepaliveDuplicates, .keepaliveGaps, .keepalivesIgnored, .keepaliveExpiries, .siteLosses, .siteRestores, .restoreRefusals,
   .poolExhaustions, .scheduleNoChannel, .cueAnswersUnmatched]

/-- The origin counters of R197. -/
def originCounters : List OriginCtr := [.repliesSent, .repliesUnsent, .notAuthorisedRefusals, .reportsSent, .reportsDropped]

/-- The unit counters of Chapter 10. -/
def managementCounters : List UnitCtr := [.misdirectedControl, .badCommands, .restartDiscards, .imageAdjustments]

/-- The counters of page 255, in chapter order. -/
def unitCounters : List CounterKey :=
  [timeCounters.map CounterKey.whole, receiverCounters.flatMap portKeys, pathKeys, siteCounters.map CounterKey.whole,
   portKeys .carriersOut, portKeys .outputDropped, originCounters.flatMap originKeys, managementCounters.map CounterKey.whole].flatten

/-! ## Pages -/

/-- The entries of a page as they stand, absent where the table has no such page. SCHEDULE and RECORDS are read by walks. -/
def State.page (s : State) (t : Table) (page : Nat) : Option (List (List Atom)) :=
  match t with
  | .status => if page = 255 then some s.statusUnit else (chanOf page).map s.statusChannel
  | .counters =>
    if page = 255 then some (unitCounters.map fun k => [.num 4 (s.counter k)])
    else (chanOf page).map fun c => chanCounters.map fun k => [.num 4 (s.counter (.chan c k))]
  | .edges => (chanOf page).map fun c => (s.ch c).monitor.edges.toList.map edgeEntry
  | .schedule => (chanOf page).map fun c => (s.live c).map s.scheduleEntry
  | .records => (chanOf page).map fun c => (s.ch c).control.ring.map recordEntry
  | .identity =>
    if page = 255 then some [[.num 2 0x4A57], [.num 2 1620], [.num 1 1], [.num 2 s.settings.unitNumber]] else none
  | .restart =>
    if page = 255 then
      some [[.enum (resetCauseCode s.mgmt.resetCause)], [.num 4 s.mgmt.warmRestarts], [.num 4 s.mgmt.lineResets]]
    else none
  | .channel | .detectors | .servers | .outputMap | .site => (pageRefs t page).map fun l => l.map s.settingEntry

/-- Whether a table has a page. -/
def State.hasPage (s : State) (t : Table) (page : Nat) : Bool := (s.page t page).isSome

/-- Whether a table can be written at all (R194). -/
def Table.writable : Table → Bool
  | .channel | .detectors | .servers | .outputMap | .site => true
  | _ => false

/-- Whether a table is read by a walk (R193). -/
def Table.walked : Table → Bool
  | .schedule | .records => true
  | _ => false

end Sys2Proof.Machine
end

