-- ==== Sys2Proof/Machine/Image.lean ====
section
/-! DEFINITION. The configuration image (R201, R202): what it holds, its load and its save. The memory itself is outside the part (DESIGN CHOICE, log 6). -/

namespace Sys2Proof.Machine

/-- Every entry that the image holds, table by table and page by page, in the order of R201. -/
def imageRefs : List SettingRef :=
  (Chan.all.flatMap fun c => (pageRefs .channel c.val).getD []) ++ (Chan.all.flatMap fun c => (pageRefs .detectors c.val).getD []) ++
    (pageRefs .servers 255).getD [] ++ (pageRefs .outputMap 255).getD [] ++ (pageRefs .site 255).getD []

/-- The width of an entry in the image (Table 11-5); an absent threshold takes no bytes (DESIGN CHOICE, log 6). -/
def SettingKind.width : SettingKind → Nat
  | .number w _ _ => w
  | .enum _ => 1
  | .flag => 1
  | .pairs => 1
  | .absent => 0

/-- The length of an image of version 1, as its length field holds it: the bytes of the table entries alone. R201 says only 'a length' and does not say what it
counts; the mark, the version, the length itself and the CRC are not counted (DESIGN CHOICE, log 7). -/
def imageLength : Nat := (imageRefs.map fun r => r.kind.width).sum

/-- The image version of R201. -/
def imageVersion : Nat := 1

/-- The CRC-32 over every byte between the mark and the CRC (R201). -/
def imageCrc (version length : Nat) (contents : List Byte) : BitVec 32 :=
  crc32 (Config.imageHead version length ++ contents)

/-- R202: the contents of the five tables copied as they stand. -/
def State.imageOf (s : State) : Image :=
  let contents := imageRefs.flatMap fun r => toBytes r.kind.width (s.getRef r)
  { mark := Config.imageMark, version := imageVersion, length := imageLength, contents := contents
    crc := imageCrc imageVersion imageLength contents }

/-- R201: the fault of an image, absent for a valid one. Of several faults the first of mark, version, length and CRC is shown (DESIGN CHOICE, log 7). -/
def imageFault (answer : Option Image) : Option LoadFault :=
  match answer with
  | none => some .noMemory
  | some x =>
    if x.mark ≠ Config.imageMark then some .badMark
    else if x.version ≠ imageVersion then some .badVersion
    else if x.length ≠ imageLength ∨ x.contents.length ≠ imageLength then some Config.lengthFault
    else if x.crc ≠ imageCrc x.version x.length x.contents then some .badCrc
    else none

/-! ## The load (R201) -/

/-- A value read from a valid image: clamped, or absent for an enumeration out of its values; and whether it was adjusted. -/
def adjustValue (k : SettingKind) (v : Nat) : Option Nat × Bool :=
  match judgeValue k v with
  | some (w, clamped) => (some w, clamped)
  | none => (none, k != .absent)

/-- One entry taken from the bytes of a valid image. An enumeration out of its values leaves the default that stands. -/
def loadEntry (acc : State × List Byte) (r : SettingRef) : State × List Byte :=
  let w := r.kind.width
  let (value, adjusted) := adjustValue r.kind (bigEndian (acc.2.take w))
  let s := if adjusted then acc.1.bumpUnit .imageAdjustments else acc.1
  (match value with
    | some v => s.putRef r v
    | none => s, acc.2.drop w)

/-- Every setting at its default (R201). -/
def State.defaultSettings (s : State) : State :=
  let s := { s with settings := .default }.modTime fun x => { x with rate := .fr25 }
  s.eachChannel fun c t => (t.modSettings c fun _ => .default c).modControl c fun y => { y with mode := .outOfService }

/-- The settings in force at the load completion: from a valid image, or the defaults. -/
def State.takeImage (s : State) (answer : Option Image) : State :=
  let s := s.defaultSettings
  match imageFault answer, answer with
  | none, some x =>
    let t := (imageRefs.foldl loadEntry (s, x.contents)).1
    { t with mgmt := { t.mgmt with config := .loaded } }
  | some fault, _ => { s with mgmt := { s.mgmt with config := .defaulted fault } }
  | none, none => s

/-- R201: the load completes: the settings, the frame timer, the RESYNC of every channel (R119), and the channels placed in service (R149), each in increasing
channel number (DEDUCED, log 36).
Nothing happens when no load is in progress. -/
def State.completeLoad (s : State) (answer : Option Image) (time : Nat) : State :=
  if s.loading then
    let s := s.takeImage answer
    let s := s.modTime fun x => { x with timer := some (time + x.rate.period) }
    let s := s.eachChannel fun c t => t.resync c
    s.eachChannel fun c t =>
      match (t.ch c).control.mode with
      | .outOfService => t
      | m => t.enterService c m
  else s

/-! ## The save (R202) -/

/-- R202: SAVE_CONFIG begins a save; BUSY while one is in flight. -/
def State.commandSave (s : State) (owed : ReplyTo) : State × Option Result :=
  match s.mgmt.save with
  | some _ => (s, some .busy)
  | none => ({ s with mgmt := { s.mgmt with save := some { image := s.imageOf, reply := some owed } } }, none)

/-- R202: the check of the image read back. -/
def readBackGood (x : Image) : Bool := x.crc == imageCrc x.version x.length x.contents

/-- R202: the save completes with what the memory gives when it is read back. Nothing happens when no save is in flight. -/
def State.completeSave (s : State) (readBack : Option Image) : State :=
  match s.mgmt.save with
  | none => s
  | some x =>
    let good := match readBack with
      | some y => readBackGood y
      | none => false
    let s := { s with mgmt := { s.mgmt with save := none, lastSave := some (good, s.time.h) } }
    match x.reply with
    | none => s
    | some owed =>
      s.reply .console owed.port
        { request := owed.request, kind := codeSaveConfig, channel := 255, result := (if good then .saved else .saveFailed)
          clamped := false, contents := [] }

end Sys2Proof.Machine
end

