-- ==== Sys2Proof/Machine/Window.lean ====
section
/-! DEFINITION. The access contexts (R191 to R196): SET_WINDOW, READ, WRITE, CLEAR_ERROR, the sticky error, and walks. -/

namespace Sys2Proof.Machine

/-- What a request asks its answer to carry: where the REPLY goes and what it names. -/
structure Asked where
  origin : Origin
  port : Port
  request : Nat
  kind : Nat
  channel : Nat
deriving DecidableEq, Repr

/-- A REPLY to a request. -/
def State.answer (s : State) (a : Asked) (result : Result) (clamped : Bool) (contents : List Atom) : State :=
  s.reply a.origin a.port
    { request := a.request, kind := a.kind, channel := a.channel, result := result, clamped := clamped, contents := contents }

/-- R195: a sticky error set, unless one is held. -/
def State.setSticky (s : State) (o : Origin) (code : Result) (request offset : Nat) : State :=
  s.modCtx o fun x =>
    match x.sticky with
    | some _ => x
    | none => { x with sticky := some { code := code, request := request, offset := offset } }

/-- A window request refused with a code that becomes the sticky error; its entry offset is the window's (DEDUCED, log 33). -/
def State.refuseSticky (s : State) (a : Asked) (code : Result) : State :=
  (s.setSticky a.origin code a.request (s.ctx a.origin).window.offset).answer a code false []

/-- R193: an offset advanced; it wraps from 65535 to 0. -/
def State.advance (s : State) (o : Origin) (n : Nat) : State :=
  s.modCtx o fun x =>
    if x.window.auto then { x with window := { x.window with offset := (x.window.offset + n) % 65536 } } else x

/-! ## Entries in a REPLY -/

/-- An entry in a READ reply: its offset, its length and its value (Table 11-5). -/
def entryAtoms (e : Nat × List Atom) : List Atom :=
  .num 2 e.1 :: .num 2 (e.2.flatMap Atom.bytes).length :: e.2

/-- Entries with the offsets that follow one another. -/
def numberedFrom (offset : Nat) : List (List Atom) → List (Nat × List Atom)
  | [] => []
  | e :: rest => (offset, e) :: numberedFrom (offset + 1) rest

/-! ## Walks (R196) -/

/-- R196: the walk in flight ended at once: its REPLY carries BUSY and no entries, and the offset is not advanced. -/
def State.endBusyWalk (s : State) (o : Origin) (w : Walk) : State :=
  (s.modCtx o fun x => { x with walk := none }).answer { origin := o, port := w.port, request := w.request, kind := codeRead, channel := w.channel } .busy
    false []

/-- R196: a busy context refuses a window request with BUSY, and the walk in flight ends. -/
def State.refuseBusy (s : State) (a : Asked) (w : Walk) : State := (s.refuseSticky a .busy).endBusyWalk a.origin w

/-- The walk of a context ended with its REPLY (R196). -/
def State.endWalk (s : State) (o : Origin) (w : Walk) (ranOut : Bool) : State :=
  let s := s.modCtx o fun x => { x with walk := none }
  let s := s.answer { origin := o, port := w.port, request := w.request, kind := codeRead, channel := w.channel } .accepted w.clamped
    (listAtoms entryAtoms w.gathered ++ [.flag ranOut])
  s.advance o w.gathered.length

/-- What a walk reaches: the offset at which the entry stands, the entry, and the cursor that it leaves. -/
structure Reached where
  offset : Nat
  entry : List Atom
  cursor : Nat
deriving DecidableEq, Repr

/-- The first item of a list, from an offset on, that satisfies a test, with the place at which it stands. -/
def findFrom {α : Type} (p : α → Bool) : Nat → List α → Option (Nat × α)
  | _, [] => none
  | i, x :: rest => if p x then some (i, x) else findFrom p (i + 1) rest

/-- R196: whether a record was opened after the one of a sequence. The ring holds at most 8 records of consecutive sequences (R145), and records
opened later stand within half the sequence cycle ahead (DEDUCED, log 30). -/
def openedAfter (cursor : Nat) (r : TakeoverRecord) : Bool :=
  let ahead := ((r.sequence : Int) - cursor) % 65536
  1 ≤ ahead && ahead < 32768

/-- R196: what the next reach of a walk finds. An event already gathered that an amendment has since placed past the cursor is found again, by the rule of the reach
(DESIGN CHOICE, log 59). -/
def State.nextReach (s : State) (o : Origin) (w : Walk) : Option Reached :=
  match chanOf w.page with
  | none => none
  | some c =>
    match w.table with
    | .schedule =>
      let l := s.live c
      let found : Option (Nat × Event) :=
        match w.cursor with
        | none => (l[(s.ctx o).window.offset]?).map fun e => ((s.ctx o).window.offset, e)
        | some start => findFrom (fun e => start < e.start) 0 l
      found.map fun x => { offset := x.1, entry := s.scheduleEntry x.2, cursor := x.2.start }
    | .records =>
      let l := (s.ch c).control.ring
      let found : Option (Nat × TakeoverRecord) :=
        match w.cursor with
        | none => (l[(s.ctx o).window.offset]?).map fun r => ((s.ctx o).window.offset, r)
        | some q => findFrom (openedAfter q) 0 l
      found.map fun x => { offset := x.1, entry := recordEntry x.2, cursor := x.2.sequence }
    | _ => none

/-- R196: a walk reaches its next entry; it ends when it has gathered n entries or when a reach finds none. Nothing happens in an idle context. -/
def State.walkReach (s : State) (o : Origin) : State :=
  match (s.ctx o).walk with
  | none => s
  | some w =>
    match s.nextReach o w with
    | some x =>
      let w := { w with gathered := w.gathered ++ [(x.offset, x.entry)], cursor := some x.cursor }
      if w.count ≤ w.gathered.length then s.endWalk o w false
      else s.modCtx o fun y => { y with walk := some w }
    | none =>
      match w.cursor with
      | some _ => s.endWalk o w true
      | none =>
        let s := s.modCtx o fun x => { x with walk := none }
        s.refuseSticky { origin := o, port := w.port, request := w.request, kind := codeRead, channel := w.channel } .badOffset

/-! ## SET_WINDOW (R192) -/

/-- R192: SET_WINDOW in an idle context. An auto-increment byte above 1 is refused with BAD_VALUE (DEDUCED, log 21). -/
def State.setWindow (s : State) (a : Asked) (table page offset auto : Nat) : State :=
  match tableOf table with
  | none => s.refuseSticky a .badTable
  | some t =>
    if !s.hasPage t page then s.refuseSticky a .badOffset
    else if 2 ≤ auto then s.refuseSticky a .badValue
    else
      (s.modCtx a.origin fun x => { x with window := { table := t, page := page, offset := offset, auto := auto == 1 } }).answer a .accepted false []

/-! ## READ (R75, R193) -/

/-- R75: the entries of an EDGES page from an offset on cleared. -/
def State.clearEdges (s : State) (page offset n : Nat) : State :=
  match chanOf page with
  | none => s
  | some c =>
    s.modMonitor c fun m =>
      { m with edges := slateIndices.foldl (fun v i => if offset ≤ i.val ∧ i.val < offset + n then vmod v i fun _ => none else v) m.edges }

/-- R193: READ in an idle context. -/
def State.read (s : State) (a : Asked) (count : Nat) : State :=
  let x := s.ctx a.origin
  let w := x.window
  let n := clampNat 1 16 count
  let clamped : Bool := n != count
  match x.sticky with
  | some e => s.answer a e.code false []
  | none =>
    if w.table.walked then
      s.modCtx a.origin fun y =>
        { y with
          walk := some
            { table := w.table, page := w.page, count := n, clamped := clamped, request := a.request, port := a.port, channel := a.channel
              gathered := [], cursor := none } }
    else
      match s.page w.table w.page with
      | none => s.refuseSticky a .badOffset
      | some entries =>
        if entries.length < w.offset + n then s.refuseSticky a .badOffset
        else
          let got := numberedFrom w.offset ((entries.drop w.offset).take n)
          let s := if w.table = .edges then s.clearEdges w.page w.offset n else s
          (s.advance a.origin n).answer a .accepted clamped (listAtoms entryAtoms got)

/-! ## WRITE (R194) -/

/-- How far a WRITE has got: the state, the entries dealt with, the offsets clamped, the offsets refused for the state of the part, and the code and
offset that stopped it. -/
structure Writing where
  state : State
  dealt : Nat
  clamped : List Nat
  refused : List (Nat × Result)
  stopped : Option (Result × Nat)
deriving DecidableEq, Repr

/-- R194: one value dealt with at an entry. -/
def Writing.step (x : Writing) (refs : List SettingRef) (offset time : Nat) (v : Nat) : Writing :=
  match x.stopped with
  | some _ => x
  | none =>
    let at_ := offset + x.dealt
    match refs[at_]? with
    | none => { x with stopped := some (.badOffset, at_) }
    | some r =>
      if r.readOnly then { x with stopped := some (.readOnly, at_) }
      else
        match judgeValue r.kind v with
        | none => { x with stopped := some (.badValue, at_) }
        | some (w, clamped) =>
          match x.state.writeRef r w time with
          | some t => { x with state := t, dealt := x.dealt + 1, clamped := if clamped then x.clamped ++ [at_] else x.clamped }
          | none => { x with dealt := x.dealt + 1, refused := x.refused ++ [(at_, .inService)] }

/-- The result of a WRITE: the code of an entry refused for the state of the part, whichever other entries it carried (R17); else the code that stopped it; else
ACCEPTED. -/
def Writing.result (x : Writing) : Result :=
  match x.refused, x.stopped with
  | (_, code) :: _, _ => code
  | [], some (code, _) => code
  | [], none => .accepted

/-- The contents of a WRITE's REPLY (R194). -/
def Writing.contents (x : Writing) : List Atom :=
  [[Atom.num 1 x.dealt], listAtoms (fun o => [.num 2 o]) x.clamped, listAtoms (fun y => [.num 2 y.1, .enum (resultCode y.2)]) x.refused,
   optAtoms (fun y => [.enum (resultCode y.1), .num 2 y.2]) x.stopped].flatten

/-- R194: the entries of a WRITE dealt with one after another. -/
def State.writeAll (s : State) (refs : List SettingRef) (offset time : Nat) (values : List Nat) : Writing :=
  values.foldl (fun x v => x.step refs offset time v) { state := s, dealt := 0, clamped := [], refused := [], stopped := none }

/-- R194: the values of a WRITE through a window. With no values it is taken and changes nothing; a table that cannot be written refuses the first entry. -/
def State.writeTable (s : State) (w : Window) (values : List Nat) (time : Nat) : Writing :=
  if values.isEmpty then { state := s, dealt := 0, clamped := [], refused := [], stopped := none }
  else if !w.table.writable then { state := s, dealt := 0, clamped := [], refused := [], stopped := some (.readOnly, w.offset) }
  else s.writeAll ((pageRefs w.table w.page).getD []) w.offset time values

/-- R194: WRITE in an idle context. -/
def State.write (s : State) (a : Asked) (values : List Nat) (time : Nat) : State :=
  let x := s.ctx a.origin
  let w := x.window
  match x.sticky with
  | some e => s.answer a e.code false []
  | none =>
    let y := s.writeTable w values time
    let t := match y.stopped with
      | some (code, at_) => y.state.setSticky a.origin code a.request at_
      | none => y.state
    (t.advance a.origin y.dealt).answer a y.result (y.result == .accepted && !y.clamped.isEmpty) y.contents

/-! ## CLEAR_ERROR (R195) -/

/-- R195: CLEAR_ERROR in an idle context; its REPLY gives the code that was cleared, NONE in a context that held none. -/
def State.clearStickyError (s : State) (a : Asked) : State :=
  let held := (s.ctx a.origin).sticky
  (s.modCtx a.origin fun x => { x with sticky := none }).answer a .accepted false
    [.enum (stickyCode (held.map StickyError.code))]

end Sys2Proof.Machine
end

