-- ==== Sys2Proof/Machine/Operands.lean ====
section
/-! DEFINITION. What an inbound control carrier asks, and how its bytes are read (R209, R210, Tables 11-3 to 11-8): the envelope, the bodies and the events. -/

namespace Sys2Proof.Machine

/-- What a control carrier asks, once its kind and body have been read. `outbound` is a kind that only the part sends, `unknown` a code of no
kind, `malformed` a carrier whose lengths do not match (R209). -/
inductive Request where
  | keepalive (sequence : Nat)
  | schedule (k : ScheduleCarrier)
  | channel (k : ChannelCommand)
  | retime (value : Option Nat)
  | captureSlate (slate path : Nat)
  | realign
  | declareSiteLost
  | restoreSite
  | select (channels : List Nat)
  | setWindow (table page offset auto : Nat)
  | read (count : Nat)
  | write (values : List Nat)
  | clearError
  | subscribe (origin : Nat) (levels : List (Nat × Nat))
  | clearCounters
  | saveConfig
  | warmRestart
  | ready (player number : Nat)
  | refused (player number : Nat)
  | outbound (code : Nat)
  | unknown (code : Nat)
  | malformed (code : Nat)
deriving DecidableEq, Repr

/-- The control code of a channel command (Table 11-4). -/
def ChannelCommand.code : ChannelCommand → Nat
  | .setService _ => 0x20
  | .take => 0x21
  | .returnToMain => 0x22
  | .hold => 0x23
  | .pin _ => 0x24
  | .unpin => 0x25
  | .seize => 0x26
  | .release => 0x27
  | .ackTakeover => 0x28
  | .recue => 0x29
  | .clearRecords => 0x2A

/-- The control code of a request (Table 11-4); REPLY names it. -/
def Request.code : Request → Nat
  | .keepalive _ => 0x01
  | .schedule (.amendment _ a) => a.code
  | .schedule (.snapshotBegin ..) => 0x18
  | .schedule (.snapshotEvent ..) => 0x19
  | .schedule (.snapshotEnd ..) => 0x1A
  | .channel k => k.code
  | .retime _ => 0x30
  | .captureSlate .. => 0x31
  | .realign => 0x38
  | .declareSiteLost => 0x39
  | .restoreSite => 0x3A
  | .select _ => 0x40
  | .setWindow .. => 0x41
  | .read _ => 0x42
  | .write _ => 0x43
  | .clearError => 0x44
  | .subscribe .. => 0x45
  | .clearCounters => 0x46
  | .saveConfig => 0x47
  | .warmRestart => 0x48
  | .ready .. => 0x50
  | .refused .. => 0x51
  | .outbound code => code
  | .unknown code => code
  | .malformed code => code

/-! ## Reading fields -/

/-- A big-endian number read from a run of bytes at an offset: from the bytes that there are, 0 where there are none (logs 22 and 58). -/
def field (bytes : List Byte) (offset width : Nat) : Nat := bigEndian ((bytes.drop offset).take width)

/-- A signed number of 4 bytes, two's complement (Table 11-5). -/
def signedField (bytes : List Byte) (offset : Nat) : Int :=
  let n := field bytes offset 4
  if n < 2147483648 then n else (n : Int) - 4294967296

/-- An optional field of the event read when its presence bit is set, with the bytes that follow it; absent when the bytes run out. -/
def takeField (present : Bool) (width : Nat) (bytes : List Byte) : Option (Option Nat × List Byte) :=
  if present then
    if width ≤ bytes.length then some (some (field bytes 0 width), bytes.drop width) else none
  else some (none, bytes)

/-- A material name read when its presence bit is set (Table 11-6). -/
def takeName (present : Bool) (bytes : List Byte) : Option (Option (List Byte) × List Byte) :=
  if present then
    match bytes with
    | [] => none
    | n :: rest => if n.toNat ≤ rest.length then some (some (rest.take n.toNat), rest.drop n.toNat) else none
  else some (none, bytes)

/-- Table 11-6: an event as carried, which must use every byte; absent when the length does not match. -/
def parseEvent (bytes : List Byte) : Option EventCarried :=
  if bytes.length < 17 then none
  else
    let presence := BitVec.ofNat 8 (field bytes 15 1)
    match takeName (presence.getLsbD 0) (bytes.drop 17) with
    | none => none
    | some (name, rest) =>
      match takeField (presence.getLsbD 1) 4 rest with
      | none => none
      | some (inPoint, rest) =>
        match takeField (presence.getLsbD 2) 2 rest with
        | some (source, []) =>
          some
            { id := field bytes 0 4
              label := { day := field bytes 4 2, hh := field bytes 6 1, mm := field bytes 7 1, ss := field bytes 8 1, ff := field bytes 9 1 }
              duration := field bytes 10 4, kind := field bytes 14 1, name := name, inPoint := inPoint, source := source }
        | _ => none

/-! ## Reading bodies -/

/-- A body of an exact length. -/
def exactly (n : Nat) (body : List Byte) (code : Nat) (r : Request) : Request :=
  if body.length = n then r else .malformed code

/-- A body that ends with an event. -/
def withEvent (offset : Nat) (body : List Byte) (code : Nat) (f : EventCarried → Request) : Request :=
  match parseEvent (body.drop offset) with
  | some e => if offset ≤ body.length then f e else .malformed code
  | none => .malformed code

/-- The values of a WRITE body, 4 bytes each (section 11.3). -/
def parseValues : Nat → List Byte → List Nat
  | 0, _ => []
  | n + 1, bytes => field bytes 0 4 :: parseValues n (bytes.drop 4)

/-- The pairs of a SUBSCRIBE body. -/
def parsePairs : Nat → List Byte → List (Nat × Nat)
  | 0, _ => []
  | n + 1, bytes => (field bytes 0 1, field bytes 1 1) :: parsePairs n (bytes.drop 2)

/-- A set of channels of 2 bytes (Table 11-5). -/
def parseChannels (bytes : List Byte) : List Nat :=
  (maskChannels (BitVec.ofNat 16 (field bytes 0 2))).map fun c => c.val

/-- The schedule bodies of Table 11-7. -/
def parseSchedule (code : Nat) (b : List Byte) : Request :=
  let revision := field b 0 2
  match code with
  | 0x10 => withEvent 2 b code fun e => .schedule (.amendment revision (.insert e))
  | 0x11 => withEvent 6 b code fun e => .schedule (.amendment revision (.replace (field b 2 4) e))
  | 0x12 => exactly 6 b code (.schedule (.amendment revision (.delete (field b 2 4))))
  | 0x13 => exactly 10 b code (.schedule (.amendment revision (.trim (field b 2 4) (field b 6 4))))
  | 0x14 => exactly 10 b code (.schedule (.amendment revision (.shiftFrom (field b 2 4) (signedField b 6))))
  | 0x18 => exactly 4 b code (.schedule (.snapshotBegin revision (field b 2 2)))
  | 0x19 => withEvent 4 b code fun e => .schedule (.snapshotEvent revision (field b 2 2) e)
  | 0x1A => exactly 4 b code (.schedule (.snapshotEnd revision (field b 2 2)))
  | _ => .unknown code

/-- The bodies of the channel commands. -/
def parseChannelCommand (code : Nat) (b : List Byte) : Request :=
  match code with
  | 0x20 => exactly 1 b code (.channel (.setService (field b 0 1)))
  | 0x21 => exactly 0 b code (.channel .take)
  | 0x22 => exactly 0 b code (.channel .returnToMain)
  | 0x23 => exactly 0 b code (.channel .hold)
  | 0x24 => exactly 1 b code (.channel (.pin (field b 0 1)))
  | 0x25 => exactly 0 b code (.channel .unpin)
  | 0x26 => exactly 0 b code (.channel .seize)
  | 0x27 => exactly 0 b code (.channel .release)
  | 0x28 => exactly 0 b code (.channel .ackTakeover)
  | 0x29 => exactly 0 b code (.channel .recue)
  | 0x2A => exactly 0 b code (.channel .clearRecords)
  | _ => .unknown code

/-- The body of RETIME: an optional value of one byte. A presence byte above 1 does not match its kind (DEDUCED, log 21). -/
def parseRetime (b : List Byte) : Request :=
  match b with
  | [p] => if p = 0 then .retime none else .malformed 0x30
  | [p, v] => if p = 1 then .retime (some v.toNat) else .malformed 0x30
  | _ => .malformed 0x30

/-- The bodies of the management commands. A WRITE of more than 16 values does not match its kind (DEDUCED, log 21). -/
def parseManagement (code : Nat) (b : List Byte) : Request :=
  match code with
  | 0x40 => exactly 2 b code (.select (parseChannels b))
  | 0x41 => exactly 5 b code (.setWindow (field b 0 1) (field b 1 1) (field b 2 2) (field b 4 1))
  | 0x42 => exactly 1 b code (.read (field b 0 1))
  | 0x43 =>
    let n := field b 0 1
    if n ≤ 16 ∧ b.length = 1 + 4 * n then .write (parseValues n (b.drop 1)) else .malformed code
  | 0x44 => exactly 0 b code .clearError
  | 0x45 =>
    let n := field b 1 1
    if b.length = 2 + 2 * n then .subscribe (field b 0 1) (parsePairs n (b.drop 2)) else .malformed code
  | 0x46 => exactly 0 b code .clearCounters
  | 0x47 => exactly 0 b code .saveConfig
  | 0x48 => exactly 0 b code .warmRestart
  | _ => .unknown code

/-- The remaining bodies. -/
def parseOther (code : Nat) (b : List Byte) : Request :=
  match code with
  | 0x01 => exactly 2 b code (.keepalive (field b 0 2))
  | 0x30 => parseRetime b
  | 0x31 => exactly 2 b code (.captureSlate (field b 0 1) (field b 1 1))
  | 0x38 => exactly 0 b code .realign
  | 0x39 => exactly 0 b code .declareSiteLost
  | 0x3A => exactly 0 b code .restoreSite
  | 0x50 => exactly 2 b code (.ready (field b 0 1) (field b 1 1))
  | 0x51 => exactly 3 b code (.refused (field b 0 1) (field b 1 1))
  | _ => .unknown code

/-- Table 11-4: a body read by its control code. -/
def parseBody (code : Nat) (b : List Byte) : Request :=
  if 0x10 ≤ code ∧ code ≤ 0x1A then parseSchedule code b
  else if 0x20 ≤ code ∧ code ≤ 0x2A then parseChannelCommand code b
  else if 0x40 ≤ code ∧ code ≤ 0x48 then parseManagement code b
  else if 0x60 ≤ code ∧ code ≤ 0x66 then .outbound code
  else parseOther code b

/-- R209: a payload whose lengths do not match is malformed; a code of no kind, or of a kind that only the part sends, is judged as such first, so that a carrier of an
outbound-only kind is misdirected whatever its lengths (DESIGN CHOICE, log 53). -/
def parsePayload (payload : List Byte) : Request :=
  let code := field payload 1 1
  match parseBody code (payload.drop 8) with
  | .unknown k => .unknown k
  | .outbound k => .outbound k
  | r => if payload.length < 8 ∨ field payload 6 2 ≠ payload.length - 8 then .malformed code else r

/-- The header and envelope of a control carrier (R209). A field that a payload is too short to hold whole reads as 0, the request number of a payload of 3 bytes
among them (DESIGN CHOICE, log 22). -/
def rawEnvelope (raw : RawControl) : ControlRx :=
  { port := raw.port, stamp := raw.stamp, channel := raw.channel, sender := field raw.payload 0 1
    request := if raw.payload.length < 4 then 0 else field raw.payload 2 2
    group := (BitVec.ofNat 8 (field raw.payload 4 1)).getLsbD 0 }

/-! ## Carriers in Ethernet frames (R20, R21, Table 11-1) -/

/-- The header check of R21: the sum modulo 65,536 of eight big-endian words. A word cut short by the end of the payload is the number of the bytes it has (DESIGN
CHOICE, log 58). -/
def headerSum (h : List Byte) : Nat :=
  ([0, 2, 4, 6, 8, 10, 12, 14].foldl (fun n i => n + field h i 2) 0) % 65536

/-- The carriage type of R207. -/
def carriageType : Nat := 0x88B5

/-- The kind of a media carrier by its header code. -/
def mediaKindOf : Nat → Option MediaKind
  | 1 => some .video
  | 2 => some .audio
  | 3 => some .summary
  | _ => none

/-- The media fields of a carrier's bytes. -/
def parseMedia (k : MediaKind) (h : List Byte) : Media :=
  { kind := k, channel := field h 2 1, stamp := field h 4 6, fragIndex := field h 10 2, fragCount := field h 12 2
    payload := (h.drop 18).take (field h 14 2) }

end Sys2Proof.Machine
end

