-- ==== Sys2Proof/Machine/Management.lean ====
section
/-! DEFINITION. The Management Unit (Chapter 10): receiving and sorting control carriers, authority, GROUP commands, the requests that it owns, the warm restart, and
the resets. -/

namespace Sys2Proof.Machine

/-! ## Senders (R22, R188) -/

/-- Who sent an accepted control carrier. -/
inductive Sender where
  | origin (o : Origin)
  | server (n : Fin 8)
deriving DecidableEq, Repr

/-- R22: the sender accepted on a port, absent for SENDER_MISMATCH. -/
def State.senderOf (s : State) (port : Port) (code : Nat) : Option Sender :=
  match port with
  | .contribution _ => if code = 1 then some (.origin .mainSite) else none
  | .standby n =>
    if code = 2 then some (.origin .console)
    else if h : 0x10 ≤ code ∧ code < 0x18 then
      let i : Fin 8 := ⟨code - 0x10, by omega⟩
      if s.settings.servers[i.val].mapped && s.settings.servers[i.val].port == n then some (.server i) else none
    else none
  | .output _ => none

/-! ## Authority (R189, Table 10-1) -/

/-- Whether MAIN_SITE may send a request. CONSOLE may send every one. -/
def mainSiteMay : Request → Bool
  | .keepalive _ | .schedule _ => true
  | .channel .take | .channel .returnToMain | .channel .hold | .channel .ackTakeover => true
  | .select _ | .setWindow .. | .read _ | .clearError => true
  | _ => false

/-- Whether an origin may send a request (R189). -/
def authorised (o : Origin) (r : Request) : Bool :=
  match o with
  | .mainSite => mainSiteMay r
  | .console => true

/-- R189: a request that its origin may not send. A WRITE also sets the sticky error (R195), and ends a walk that its context has in flight, so that no READ
returns entries while the error is held (R195, R196, DESIGN CHOICE, log 52). -/
def State.refuseAuthority (s : State) (a : Asked) (r : Request) : State :=
  let s := s.bump (.origin a.origin .notAuthorisedRefusals)
  match r with
  | .write _ =>
    let t := s.refuseSticky a .notAuthorised
    match (s.ctx a.origin).walk with
    | some w => t.endBusyWalk a.origin w
    | none => t
  | _ => s.answer a .notAuthorised false []

/-! ## Channel commands (R135, R143) -/

/-- R143: the result of one channel of a GROUP command. -/
def State.groupItem (s : State) (c : Chan) (result : Result) : List Atom :=
  .num 1 c.val :: .enum (resultCode result) :: (if result = .accepted then s.channelAnswer c else [])

/-- R143: a command taken for each channel in turn, with the list for the one REPLY. No other event is taken among the channels, which R143 allows
(DEDUCED, log 41). -/
def State.runGroup (s : State) (o : Origin) (k : ChannelCommand) (channels : List Chan) : State × List (List Atom) :=
  channels.foldl
    (fun (t, items) c =>
      let (u, result) := t.runChannel c o k
      (u, items ++ [u.groupItem c result]))
    (s, [])

/-- R143: the channels that a GROUP command reaches. -/
def groupChannels (mask : BitVec 16) (named : Option Chan) : List Chan :=
  Chan.all.filter fun c => mask.getLsbD c.val || named == some c

/-- A channel command, alone or flagged GROUP (R135, R143). -/
def State.takeChannelCommand (s : State) (a : Asked) (group : Bool) (k : ChannelCommand) : State :=
  if group then
    let (t, items) := s.runGroup a.origin k (groupChannels (s.ctx a.origin).mask (chanOf a.channel))
    t.answer a .accepted false (listAtoms id items)
  else
    match chanOf a.channel with
    | none => s.answer a .badValue false []
    | some c =>
      let (t, result) := s.runChannel c a.origin k
      let entered := !s.inService c && t.inService c
      t.answer a result false (t.commandAnswer c result entered)

/-! ## Requests of the whole unit (R200, R203) -/

/-- R200: SELECT. -/
def State.takeSelect (s : State) (a : Asked) (channels : List Nat) : State :=
  if channels.all (· < 16) then
    let mask : BitVec 16 := channels.foldl (fun m c => m ||| (1#16 <<< c)) 0#16
    (s.modCtx a.origin fun x => { x with mask := mask }).answer a .accepted false []
  else s.answer a .badValue false []

/-- The origin that SUBSCRIBE names (R200, Table 11-5); absent for any other code. -/
def originOf : Nat → Option Origin
  | 0 => some .mainSite
  | 1 => some .console
  | _ => none

/-- R200: the levels of SUBSCRIBE set one after another, each clamped to 0..3. Of two pairs that name one report kind the later stands (DESIGN CHOICE, log 55). -/
def setLevels (levels : Vector Nat 8) (pairs : List (Nat × Nat)) : Vector Nat 8 :=
  pairs.foldl (fun v p => if h : p.1 < 8 then v.set p.1 (min p.2 3) h else v) levels

/-- R200: SUBSCRIBE. A report kind that is not one of the eight is refused with BAD_VALUE, as R200 says; so is an origin code of 2 or more, on which R200 is silent
(DEDUCED, log 21). -/
def State.takeSubscribe (s : State) (a : Asked) (origin : Nat) (pairs : List (Nat × Nat)) : State :=
  match originOf origin with
  | none => s.answer a .badValue false []
  | some o =>
    if pairs.all fun p => p.1 < 8 then
      (s.modCtx o fun x => { x with levels := setLevels x.levels pairs }).answer a .accepted (pairs.any fun p => 3 < p.2) []
    else s.answer a .badValue false []

/-- R197: CLEAR_COUNTERS. Its own REPLY is sent after the clear (DEDUCED, log 28). -/
def State.takeClearCounters (s : State) (a : Asked) : State :=
  let t : State := { s with counters := .zero }
  t.answer a .accepted false []

/-- R92: the keepalive timer at a warm restart. -/
def Site.restart (x : Site) : Site := { x with elapsed := 0, timerRunning := x.automation == .alive }

/-- R203: WARM_RESTART. Its REPLY is sent when the restart ends. The channels restart their monitors in increasing number (R79, DEDUCED, log 36). -/
def State.takeWarmRestart (s : State) (a : Asked) : State :=
  let s :=
    { s with
      mgmt :=
        { s.mgmt with
          mainSite := .reset, console := .reset, consolePort := none
          save := s.mgmt.save.map fun x : Save => { x with reply := none }
          restarting := some { port := a.port, request := a.request }
          resetCause := .warmRestart
          warmRestarts := satAdd s.mgmt.warmRestarts 1 } }
  let s := s.eachChannel fun c t => if t.inService c then t.monitorRestart c else t
  s.modSite Site.restart

/-! ## Passing a request on (R189, R190) -/

/-- R190: a request of the whole unit must name channel 255 and may not be flagged GROUP. -/
def unitRequest (s : State) (a : Asked) (group : Bool) (f : State) : State :=
  if a.channel = 255 ∧ group = false then f else s.answer a .badValue false []

/-- A window request: refused in a busy context, and with the GROUP flag before a sticky error is looked at (R190, R196, DEDUCED, log 40). -/
def windowRequest (s : State) (a : Asked) (group sets : Bool) (f : State) : State :=
  match (s.ctx a.origin).walk with
  | some w => s.refuseBusy a w
  | none =>
    if group then (if sets then s.refuseSticky a .badValue else s.answer a .badValue false [])
    else f

/-- R50 and R190: RETIME. -/
def State.takeRetime (s : State) (a : Asked) (group : Bool) (value : Option Nat) : State :=
  match group, chanOf a.channel with
  | false, some c =>
    let (t, result, clamped, contents) := s.commandRetime c value
    t.answer a result clamped contents
  | _, _ => s.answer a .badValue false []

/-- R55 and R190: CAPTURE_SLATE. -/
def State.takeCapture (s : State) (a : Asked) (group : Bool) (slate path : Nat) : State :=
  if group then s.answer a .badValue false []
  else
    let (t, refusal) := s.commandCapture slate (chanOf a.channel) path a.port a.request
    match refusal with
    | some code => t.answer a code false []
    | none => t

/-- R86: DECLARE_SITE_LOST. -/
def State.takeDeclareLost (s : State) (a : Asked) : State :=
  let (t, result, contents) := s.commandDeclareLost
  t.answer a result false contents

/-- A command that answers with a result alone. -/
def answerResult (x : State × Result) (a : Asked) : State := x.1.answer a x.2 false []

/-- R202: SAVE_CONFIG. -/
def State.takeSave (s : State) (a : Asked) : State :=
  let (t, refusal) := s.commandSave { port := a.port, request := a.request }
  match refusal with
  | some code => t.answer a code false []
  | none => t

/-- An authorised request passed to its owner (Table 10-1). -/
def State.passOn (s : State) (a : Asked) (group : Bool) (time : Nat) : Request → State
  | .channel k => s.takeChannelCommand a group k
  | .retime value => s.takeRetime a group value
  | .captureSlate slate path => s.takeCapture a group slate path
  | .realign => unitRequest s a group (answerResult s.commandRealign a)
  | .declareSiteLost => unitRequest s a group (s.takeDeclareLost a)
  | .restoreSite => unitRequest s a group (answerResult s.commandRestore a)
  | .select channels => unitRequest s a group (s.takeSelect a channels)
  | .setWindow table page offset auto => windowRequest s a group true (s.setWindow a table page offset auto)
  | .read count => windowRequest s a group true (s.read a count)
  | .write values => windowRequest s a group true (s.write a values time)
  | .clearError => windowRequest s a group false (s.clearStickyError a)
  | .subscribe origin levels => unitRequest s a group (s.takeSubscribe a origin levels)
  | .clearCounters => unitRequest s a group (s.takeClearCounters a)
  | .saveConfig => unitRequest s a group (s.takeSave a)
  | .warmRestart => unitRequest s a group (s.takeWarmRestart a)
  | _ => s

/-- R188: a request of an unknown kind or of the wrong length. -/
def State.refuseBad (s : State) (a : Asked) : State := (s.bumpUnit .badCommands).answer a .badCommand false []

/-- Whether a code is KEEPALIVE or a schedule carrier, which are not answered (R190). -/
def unanswered (code : Nat) : Bool := code == 0x01 || (0x10 ≤ code && code ≤ 0x14) || (0x18 ≤ code && code ≤ 0x1A)

/-- Whether a code is a cue answer. -/
def cueAnswer (code : Nat) : Bool := code == 0x50 || code == 0x51

/-- R203: a request that reaches the unit, discarded while a warm restart is in progress. -/
def State.unlessRestarting (s : State) (f : State) : State :=
  match s.mgmt.restarting with
  | some _ => s.bumpUnit .restartDiscards
  | none => f

/-- R190: the GROUP flag refuses a request that cannot be grouped. One that is not answered has no effect (DEDUCED, log 45). -/
def State.unlessGrouped (s : State) (rx : ControlRx) (f : State) : State := if rx.group then s else f

/-- R80: a KEEPALIVE of an origin; one of CONSOLE is counted and ignored. -/
def State.routeKeepalive (s : State) (o : Origin) (p : Port) (sequence : Nat) : State :=
  match o, p with
  | .mainSite, .contribution side => s.takeKeepalive side sequence
  | _, _ => s.bumpUnit .keepalivesIgnored

/-- R188, R189 and R203: a control carrier from an origin. A READY or REFUSED, or a kind that only the part sends, is misdirected whatever the length of its payload or
body (DESIGN CHOICE, log 53). -/
def State.routeOrigin (s : State) (o : Origin) (rx : ControlRx) (r : Request) (time : Nat) : State :=
  let a : Asked := { origin := o, port := rx.port, request := rx.request, kind := r.code, channel := rx.channel }
  match r with
  | .ready .. | .refused .. | .outbound _ => s.bumpUnit .misdirectedControl
  | .unknown _ => s.unlessRestarting (s.refuseBad a)
  | .malformed code =>
    if cueAnswer code then s.bumpUnit .misdirectedControl
    else if unanswered code then s.bumpUnit .badCommands
    else s.unlessRestarting (s.refuseBad a)
  | .keepalive sequence => s.unlessGrouped rx (s.routeKeepalive o rx.port sequence)
  | .schedule k => s.unlessGrouped rx (s.takeScheduleCarrier rx.channel k)
  | _ => s.unlessRestarting (if authorised o r then s.passOn a rx.group time r else s.refuseAuthority a r)

/-- R188: a control carrier from a standby server. A player above 3 is misdirected (R210). -/
def State.routeServer (s : State) (n : Fin 8) (r : Request) : State :=
  match r with
  | .ready player number => if player < 4 then s.takeReady n player number else s.bumpUnit .misdirectedControl
  | .refused player number => if player < 4 then s.takeRefused n player number else s.bumpUnit .misdirectedControl
  | _ => s.bumpUnit .misdirectedControl

/-- R188: a CONSOLE carrier accepted on STANDBY n makes n the console port. -/
def State.noteConsole (s : State) (o : Origin) (p : Port) : State :=
  match o, p with
  | .console, .standby n => { s with mgmt := { s.mgmt with consolePort := some n } }
  | _, _ => s

/-- R20 to R22, R40 and R188: a control carrier received at a port. -/
def State.receiveControl (s : State) (rx : ControlRx) (r : Request) (time : Nat) : State :=
  match rx.port with
  | .output _ => s.bump (.port rx.port .ignored)
  | _ =>
    let s := s.countCarrier rx.port
    if s.loading then s
    else if !s.controlInRange rx.stamp rx.channel then s.bump (.port rx.port .badField)
    else
      let s := s.markTraffic rx.port
      match s.senderOf rx.port rx.sender with
      | none => s.bump (.port rx.port .senderMismatch)
      | some (.origin o) => (s.noteConsole o rx.port).routeOrigin o rx r time
      | some (.server n) => s.routeServer n r

/-- A control carrier whose payload is bytes. -/
def State.receiveRaw (s : State) (raw : RawControl) : State :=
  match raw.port with
  | .output _ => s.bump (.port raw.port .ignored)
  | _ =>
    if 1408 < raw.payload.length ∧ s.loading = false then (s.countCarrier raw.port).bump (.port raw.port .badField)
    else s.receiveControl (rawEnvelope raw) (parsePayload raw.payload) raw.time

/-! ## Ethernet frames (R20, R21) -/

/-- R20: a media carrier for the port on which it arrived. -/
def State.receiveMedia (s : State) (p : Port) (m : Media) : State :=
  match p with
  | .contribution side => s.receiveMainMedia side m
  | .standby n => s.receiveStandbyMedia n m
  | .output _ => s.bump (.port p .ignored)

/-- R21: a carrier counted and then discarded in one check's counter; before the load it is only counted (R40). -/
def State.discardCarrier (s : State) (p : Port) (k : PortCtr) : State :=
  let s := s.countCarrier p
  if s.loading then s else s.bump (.port p k)

/-- R20 to R23: an Ethernet frame received on a port. In a payload shorter than the header a missing byte shortens its field, and a field with no byte is 0, so that the
check, the version and the length are judged as of any other (DESIGN CHOICE, log 58). -/
def State.receiveFrame (s : State) (p : Port) (f : EthFrame) (time : Nat) : State :=
  match p with
  | .output _ => s.bump (.port p .ignored)
  | _ =>
    let h := f.payload
    if !f.checkOk then s.bump (.port p .fcsErrors)
    else if f.etherType ≠ carriageType then s.bump (.port p .notCarriage)
    else if headerSum h ≠ field h 16 2 then s.discardCarrier p .badCheck
    else if field h 0 1 ≠ 1 then s.discardCarrier p .badVersion
    else if h.length < 18 + field h 14 2 then s.discardCarrier p .badField
    else
      match mediaKindOf (field h 1 1) with
      | some k => s.receiveMedia p (parseMedia k h)
      | none =>
        if field h 1 1 = 4 ∧ field h 10 2 = 0 ∧ field h 12 2 = 1 then
          s.receiveRaw { port := p, stamp := field h 4 6, channel := field h 2 1, payload := (h.drop 18).take (field h 14 2), time := time }
        else s.discardCarrier p .badField

/-! ## Links and resets (R24, R19, R149, R204) -/

/-- R24: a port's physical link. -/
def State.changeLink (s : State) (p : Port) (up : Bool) : State :=
  let t : State := { s with ports := { s.ports with links := vmod s.ports.links (portIndex p) fun _ => up } }
  if s.linkUp p = up then s else t.bump (.port p .linkChanges)

/-- POWER_ON: every block takes its power-on values and the load begins. The queue of commands and what has been sent are no state of the part. -/
def State.powerOn (s : State) : State := { State.reset with outbox := s.outbox, pending := s.pending }

/-- R149: the current record with outcome PENDING has its outcome set to ABANDONED. -/
def keptRing (x : Control) : List TakeoverRecord :=
  x.ring.map fun r => if x.current = some r.sequence then abandonPending r else r

/-- R149: what a reset-line reset keeps of a channel. -/
def Channel.afterLine (c : Chan) (x : Channel) : Channel :=
  let y := Channel.reset c
  { y with control := { y.control with ring := keptRing x.control, overflow := x.control.overflow, nextSequence := x.control.nextSequence } }

/-- RESET_LINE: the reset-line values; the takeover rings and the restart record's counts are kept (R149, R204). -/
def State.resetByLine (s : State) : State :=
  let t := s.powerOn
  let t := t.eachChannel fun c u => u.modCh c fun _ => (s.ch c).afterLine c
  { t with
    mgmt := { t.mgmt with resetCause := .resetLine, warmRestarts := s.mgmt.warmRestarts, lineResets := satAdd s.mgmt.lineResets 1 } }

end Sys2Proof.Machine
end

