-- ==== Sys2Proof/Machine/Carried.lean ====
section
/-! DEFINITION. The meanings of the control carriers of the servers and the main automation: cue answers, keepalives, site commands and schedule carriers. -/

namespace Sys2Proof.Machine

/-! ## Servers' answers -/

/-- R156, R157: READY. -/
def execReady (rx : ControlRx) (player number : Nat) (s : State) : Host.Outcome State Fault Refusal := .next (s.catchUp.receiveControl rx (.ready player number) 0)

/-- R156, R157: REFUSED. The server's reason is not read (Table 11-8). -/
def execRefused (rx : ControlRx) (player number _reason : Nat) (s : State) : Host.Outcome State Fault Refusal := .next (s.catchUp.receiveControl rx (.refused player number) 0)

/-! ## The site -/

/-- R80, R81: KEEPALIVE. -/
def execKeepalive (rx : ControlRx) (sequence : Nat) (s : State) : Host.Outcome State Fault Refusal := .next (s.catchUp.receiveControl rx (.keepalive sequence) 0)

/-- R86: DECLARE_SITE_LOST. -/
def execDeclareSiteLost (rx : ControlRx) (s : State) : Host.Outcome State Fault Refusal := .next (s.catchUp.receiveControl rx .declareSiteLost 0)

/-- R89: RESTORE_SITE. -/
def execRestoreSite (rx : ControlRx) (s : State) : Host.Outcome State Fault Refusal := .next (s.catchUp.receiveControl rx .restoreSite 0)

/-! ## Schedule carriers -/

/-- R101: INSERT. -/
def execInsert (rx : ControlRx) (revision : Nat) (event : EventCarried) (s : State) : Host.Outcome State Fault Refusal := .next (s.catchUp.receiveControl rx (.schedule (.amendment revision (.insert event))) 0)

/-- R102: REPLACE. -/
def execReplace (rx : ControlRx) (revision id : Nat) (event : EventCarried) (s : State) : Host.Outcome State Fault Refusal := .next (s.catchUp.receiveControl rx (.schedule (.amendment revision (.replace id event))) 0)

/-- R103: DELETE. -/
def execDelete (rx : ControlRx) (revision id : Nat) (s : State) : Host.Outcome State Fault Refusal := .next (s.catchUp.receiveControl rx (.schedule (.amendment revision (.delete id))) 0)

/-- R104: TRIM. -/
def execTrim (rx : ControlRx) (revision id duration : Nat) (s : State) : Host.Outcome State Fault Refusal := .next (s.catchUp.receiveControl rx (.schedule (.amendment revision (.trim id duration))) 0)

/-- R105: SHIFT_FROM. -/
def execShiftFrom (rx : ControlRx) (revision id : Nat) (delta : Int) (s : State) : Host.Outcome State Fault Refusal := .next (s.catchUp.receiveControl rx (.schedule (.amendment revision (.shiftFrom id delta))) 0)

/-- R107: SNAPSHOT_BEGIN. -/
def execSnapshotBegin (rx : ControlRx) (revision count : Nat) (s : State) : Host.Outcome State Fault Refusal := .next (s.catchUp.receiveControl rx (.schedule (.snapshotBegin revision count)) 0)

/-- R108: SNAPSHOT_EVENT. -/
def execSnapshotEvent (rx : ControlRx) (revision index : Nat) (event : EventCarried) (s : State) : Host.Outcome State Fault Refusal := .next (s.catchUp.receiveControl rx (.schedule (.snapshotEvent revision index event)) 0)

/-- R109: SNAPSHOT_END. -/
def execSnapshotEnd (rx : ControlRx) (revision count : Nat) (s : State) : Host.Outcome State Fault Refusal := .next (s.catchUp.receiveControl rx (.schedule (.snapshotEnd revision count)) 0)

end Sys2Proof.Machine
end

