-- ==== Sys2Proof/Machine/Commands.lean ====
section
/-! DEFINITION. The meanings of the commands of Chapters 7 and 10: channel commands, commands of the whole unit, window requests, and control carriers judged as bytes. -/

namespace Sys2Proof.Machine

/-! ## Channel commands -/

/-- R123: SET_SERVICE with the code of a mode (DEDUCED, log 34). -/
def execSetService (rx : ControlRx) (mode : Nat) (s : State) : Host.Outcome State Fault Refusal := .next (s.catchUp.receiveControl rx (.channel (.setService mode)) 0)

/-- R124: SET_SERVICE naming OUT_OF_SERVICE (DEDUCED, log 34). -/
def execSetServiceOut (rx : ControlRx) (s : State) : Host.Outcome State Fault Refusal := .next (s.catchUp.receiveControl rx (.channel (.setService 2)) 0)

/-- R135: TAKE. -/
def execTake (rx : ControlRx) (s : State) : Host.Outcome State Fault Refusal := .next (s.catchUp.receiveControl rx (.channel .take) 0)

/-- R136: RETURN. -/
def execReturnToMain (rx : ControlRx) (s : State) : Host.Outcome State Fault Refusal := .next (s.catchUp.receiveControl rx (.channel .returnToMain) 0)

/-- R137: HOLD. -/
def execHold (rx : ControlRx) (s : State) : Host.Outcome State Fault Refusal := .next (s.catchUp.receiveControl rx (.channel .hold) 0)

/-- R138: PIN naming MAIN. -/
def execPinMain (rx : ControlRx) (s : State) : Host.Outcome State Fault Refusal := .next (s.catchUp.receiveControl rx (.channel (.pin 0)) 0)

/-- R139: PIN naming STANDBY. -/
def execPinStandby (rx : ControlRx) (s : State) : Host.Outcome State Fault Refusal := .next (s.catchUp.receiveControl rx (.channel (.pin 1)) 0)

/-- R139: UNPIN. -/
def execUnpin (rx : ControlRx) (s : State) : Host.Outcome State Fault Refusal := .next (s.catchUp.receiveControl rx (.channel .unpin) 0)

/-- R140: SEIZE. -/
def execSeize (rx : ControlRx) (s : State) : Host.Outcome State Fault Refusal := .next (s.catchUp.receiveControl rx (.channel .seize) 0)

/-- R140: RELEASE. -/
def execRelease (rx : ControlRx) (s : State) : Host.Outcome State Fault Refusal := .next (s.catchUp.receiveControl rx (.channel .release) 0)

/-- R141: ACK_TAKEOVER. -/
def execAckTakeover (rx : ControlRx) (s : State) : Host.Outcome State Fault Refusal := .next (s.catchUp.receiveControl rx (.channel .ackTakeover) 0)

/-- R142: RECUE. -/
def execRecue (rx : ControlRx) (s : State) : Host.Outcome State Fault Refusal := .next (s.catchUp.receiveControl rx (.channel .recue) 0)

/-- R146: CLEAR_RECORDS. -/
def execClearRecords (rx : ControlRx) (s : State) : Host.Outcome State Fault Refusal := .next (s.catchUp.receiveControl rx (.channel .clearRecords) 0)

/-- R50: RETIME with a value, or naming MEASURED. -/
def execRetime (rx : ControlRx) (value : Option Nat) (s : State) : Host.Outcome State Fault Refusal := .next (s.catchUp.receiveControl rx (.retime value) 0)

/-- R55: CAPTURE_SLATE. -/
def execCaptureSlate (rx : ControlRx) (slate path : Nat) (s : State) : Host.Outcome State Fault Refusal := .next (s.catchUp.receiveControl rx (.captureSlate slate path) 0)

/-! ## Commands of the whole unit -/

/-- R14: REALIGN. -/
def execRealign (rx : ControlRx) (s : State) : Host.Outcome State Fault Refusal := .next (s.catchUp.receiveControl rx .realign 0)

/-- R200: SELECT. -/
def execSelect (rx : ControlRx) (channels : List Nat) (s : State) : Host.Outcome State Fault Refusal := .next (s.catchUp.receiveControl rx (.select channels) 0)

/-- R200: SUBSCRIBE. -/
def execSubscribe (rx : ControlRx) (origin : Nat) (levels : List (Nat × Nat)) (s : State) : Host.Outcome State Fault Refusal := .next (s.catchUp.receiveControl rx (.subscribe origin levels) 0)

/-- R192: SET_WINDOW. -/
def execSetWindow (rx : ControlRx) (table page offset auto : Nat) (s : State) : Host.Outcome State Fault Refusal := .next (s.catchUp.receiveControl rx (.setWindow table page offset auto) 0)

/-- R193: READ. -/
def execRead (rx : ControlRx) (count : Nat) (s : State) : Host.Outcome State Fault Refusal := .next (s.catchUp.receiveControl rx (.read count) 0)

/-- R196: a walk reaches its next entry. -/
def execWalkReach (origin : Origin) (s : State) : Host.Outcome State Fault Refusal := .next (s.catchUp.walkReach origin)

/-- R194: WRITE, taken at an instant (DESIGN CHOICE, log 29). -/
def execWrite (rx : ControlRx) (values : List Nat) (time : Nat) (s : State) : Host.Outcome State Fault Refusal := .next (s.catchUp.receiveControl rx (.write values) time)

/-- R195: CLEAR_ERROR. -/
def execClearError (rx : ControlRx) (s : State) : Host.Outcome State Fault Refusal := .next (s.catchUp.receiveControl rx .clearError 0)

/-- R197: CLEAR_COUNTERS. -/
def execClearCounters (rx : ControlRx) (s : State) : Host.Outcome State Fault Refusal := .next (s.catchUp.receiveControl rx .clearCounters 0)

/-- R202: SAVE_CONFIG. -/
def execSaveConfig (rx : ControlRx) (s : State) : Host.Outcome State Fault Refusal := .next (s.catchUp.receiveControl rx .saveConfig 0)

/-- R203: WARM_RESTART. -/
def execWarmRestart (rx : ControlRx) (s : State) : Host.Outcome State Fault Refusal := .next (s.catchUp.receiveControl rx .warmRestart 0)

/-! ## Control carriers as bytes -/

/-- R188, R209: a control carrier of an unknown kind or a wrong length, judged on its bytes. -/
def execBadCommand (raw : RawControl) (s : State) : Host.Outcome State Fault Refusal := .next (s.catchUp.receiveRaw raw)

/-- R188: a control carrier of an outbound kind, or from the wrong kind of sender, judged on its bytes. -/
def execMisdirectedControl (raw : RawControl) (s : State) : Host.Outcome State Fault Refusal := .next (s.catchUp.receiveRaw raw)

end Sys2Proof.Machine
end

