-- ==== Sys2Proof/Machine/Due.lean ====
section
/-! DEFINITION. The meanings of the rows that a boundary, or a step since, makes due. One that is not due changes nothing (DESIGN CHOICE, log 3). -/

namespace Sys2Proof.Machine

/-! ## Carriage, alignment and monitoring -/

/-- R48: the sample that ends a channel's measurement window. -/
def execDelayWindowEnd (c : Chan) (s : State) : Host.Outcome State Fault Refusal := .next (s.endDelayWindow c)

/-- R25: a path goes DOWN. -/
def execPathDown (side : Side) (s : State) : Host.Outcome State Fault Refusal := .next (s.doPathDown side)

/-- R25: a path goes UP. -/
def execPathUp (side : Side) (s : State) : Host.Outcome State Fault Refusal := .next (s.doPathUp side)

/-- R51: a pending retime applies, and the main release of the boundary follows. -/
def execRetimeApply (c : Chan) (s : State) : Host.Outcome State Fault Refusal := .next (s.doRetime c)

/-- R67: a detector's settling ends. -/
def execSettlingEnd (c : Chan) (det : Detector) (s : State) : Host.Outcome State Fault Refusal := .next (s.doSettlingEnd c det)

/-! ## Channels and cues -/

/-- R132: a return guard expires. -/
def execGuardExpiry (c : Chan) (s : State) : Host.Outcome State Fault Refusal := .next (s.doGuardExpiry c)

/-- R133: a RETURNING channel arrives. -/
def execReturnArrival (c : Chan) (s : State) : Host.Outcome State Fault Refusal := .next (s.doReturnArrival c)

/-- R159: a READY join switches. -/
def execJoinSwitch (c : Chan) (s : State) : Host.Outcome State Fault Refusal := .next (s.doJoinSwitch c)

/-- R160: a join expires. -/
def execJoinExpiry (c : Chan) (s : State) : Host.Outcome State Fault Refusal := .next (s.doJoinExpiry c)

/-- R161: a follow-on check. -/
def execFollowOnCheck (c : Chan) (s : State) : Host.Outcome State Fault Refusal := .next (s.doFollowOnCheck c)

/-- R163: a READY follow-on switches. -/
def execFollowOnSwitch (c : Chan) (s : State) : Host.Outcome State Fault Refusal := .next (s.doFollowOnSwitch c)

/-- R163: a follow-on not READY fails. -/
def execFollowOnFailure (c : Chan) (s : State) : Host.Outcome State Fault Refusal := .next (s.doFollowOnFailure c)

/-- R164: the end of the schedule. -/
def execEndOfSchedule (c : Chan) (s : State) : Host.Outcome State Fault Refusal := .next (s.doEndOfSchedule c)

/-! ## Timers, reports and the ramp -/

/-- R81: the keepalive timer expires. -/
def execKeepaliveExpiry (s : State) : Host.Outcome State Fault Refusal := .next (s.doKeepaliveExpiry)

/-- R111: a snapshot times out. -/
def execSnapshotTimeout (c : Chan) (s : State) : Host.Outcome State Fault Refusal := .next (s.doSnapshotTimeout c)

/-- R112: RESYNC is repeated. -/
def execResyncRepeat (c : Chan) (s : State) : Host.Outcome State Fault Refusal := .next (s.doResyncRepeat c)

/-- R203: the first boundary after a warm restart ends it. -/
def execWarmRestartEnd (s : State) : Host.Outcome State Fault Refusal := .next (s.doWarmRestartEnd)

/-- R199: reports are sent at a boundary. -/
def execReport (s : State) : Host.Outcome State Fault Refusal := .next (s.doReport)

/-- R182: a ramp advances. -/
def execRampStepAdvance (c : Chan) (s : State) : Host.Outcome State Fault Refusal := .next (s.doRampAdvance c)

end Sys2Proof.Machine
end

