-- ==== Sys2Proof/Machine/Events.lean ====
section
/-! DEFINITION. The meanings of the rows that come from outside the boundary: resets, the image, the REFERENCE input, the frame timer, links, frames and media. Each first takes what the most recent boundary left due (DESIGN CHOICE, log 2). -/

namespace Sys2Proof.Machine

/-! ## Resets and the configuration image -/

/-- R19, R40, R58, R78, R92, R119, R149, R172, R187, R206: the supply comes up. What stood before is gone, so nothing that was due is taken. -/
def execPowerOn (s : State) : Host.Outcome State Fault Refusal := .next (s.powerOn)

/-- R149, R204: the RESET line is asserted. -/
def execResetLine (s : State) : Host.Outcome State Fault Refusal := .next (s.catchUp.resetByLine)

/-- R201: the configuration image load ends with what the memory gave. -/
def execLoadCompletion (answer : Option Image) (time : Nat) (s : State) : Host.Outcome State Fault Refusal := .next (s.catchUp.completeLoad answer time)

/-- R202: the save ends with what the memory gives when it is read back. -/
def execSaveCompletion (readBack : Option Image) (s : State) : Host.Outcome State Fault Refusal := .next (s.catchUp.completeSave readBack)

/-! ## The house timeline -/

/-- R9 to R15: a REFERENCE pulse with its label. -/
def execReferencePulse (label : Label) (time : Nat) (s : State) : Host.Outcome State Fault Refusal := .next (s.catchUp.takePulse label time)

/-- R8: the frame timer expires. -/
def execFrameTimerExpiry (s : State) : Host.Outcome State Fault Refusal := .next (s.catchUp.expireFrameTimer)

/-! ## Ports and frames -/

/-- R24: a port's link comes up or goes down. -/
def execLinkChange (port : Port) (up : Bool) (s : State) : Host.Outcome State Fault Refusal := .next (s.catchUp.changeLink port up)

/-- R20 to R23: an Ethernet frame, read byte by byte. -/
def execEthernetFrame (port : Port) (frame : EthFrame) (time : Nat) (s : State) : Host.Outcome State Fault Refusal := .next (s.catchUp.receiveFrame port frame time)

/-- R28: a media carrier on a contribution port. -/
def execMainMediaCarrier (side : Side) (m : Media) (s : State) : Host.Outcome State Fault Refusal := .next (s.catchUp.receiveMainMedia side m)

/-- R37, R52: a media carrier on a standby port. -/
def execStandbyMediaCarrier (n : Fin 4) (m : Media) (s : State) : Host.Outcome State Fault Refusal := .next (s.catchUp.receiveStandbyMedia n m)

/-- R56: a slate copy ends. -/
def execCopyCompletion (slate : Fin 8) (s : State) : Host.Outcome State Fault Refusal := .next (s.catchUp.completeCopy slate)

/-- R180: the output ports are free: the frame being sent is finished, and the next one is sent. -/
def execFrameSend (s : State) : Host.Outcome State Fault Refusal := .next (s.finishBoundary.sendFrame)

end Sys2Proof.Machine
end

