-- ==== Sys2Proof/Machine/Dispatch.lean ====
section
/-! DEFINITION. One arm for each command: the meaning that exec calls. -/

namespace Sys2Proof.Machine

def exec (i : Instr) (s : State) : Host.Outcome State Fault Refusal :=
  match i with
  | .powerOn => Sys2Proof.Machine.execPowerOn s
  | .resetLine => Sys2Proof.Machine.execResetLine s
  | .loadCompletion answer time => Sys2Proof.Machine.execLoadCompletion answer time s
  | .referencePulse label time => Sys2Proof.Machine.execReferencePulse label time s
  | .frameTimerExpiry => Sys2Proof.Machine.execFrameTimerExpiry s
  | .linkChange port up => Sys2Proof.Machine.execLinkChange port up s
  | .ethernetFrame port frame time => Sys2Proof.Machine.execEthernetFrame port frame time s
  | .mainMediaCarrier side m => Sys2Proof.Machine.execMainMediaCarrier side m s
  | .delayWindowEnd c => Sys2Proof.Machine.execDelayWindowEnd c s
  | .standbyMediaCarrier n m => Sys2Proof.Machine.execStandbyMediaCarrier n m s
  | .pathDown side => Sys2Proof.Machine.execPathDown side s
  | .pathUp side => Sys2Proof.Machine.execPathUp side s
  | .retimeApply c => Sys2Proof.Machine.execRetimeApply c s
  | .copyCompletion slate => Sys2Proof.Machine.execCopyCompletion slate s
  | .settlingEnd c det => Sys2Proof.Machine.execSettlingEnd c det s
  | .guardExpiry c => Sys2Proof.Machine.execGuardExpiry c s
  | .returnArrival c => Sys2Proof.Machine.execReturnArrival c s
  | .joinSwitch c => Sys2Proof.Machine.execJoinSwitch c s
  | .joinExpiry c => Sys2Proof.Machine.execJoinExpiry c s
  | .followOnCheck c => Sys2Proof.Machine.execFollowOnCheck c s
  | .followOnSwitch c => Sys2Proof.Machine.execFollowOnSwitch c s
  | .followOnFailure c => Sys2Proof.Machine.execFollowOnFailure c s
  | .endOfSchedule c => Sys2Proof.Machine.execEndOfSchedule c s
  | .ready rx player number => Sys2Proof.Machine.execReady rx player number s
  | .refused rx player number reason => Sys2Proof.Machine.execRefused rx player number reason s
  | .keepalive rx sequence => Sys2Proof.Machine.execKeepalive rx sequence s
  | .keepaliveExpiry => Sys2Proof.Machine.execKeepaliveExpiry s
  | .declareSiteLost rx => Sys2Proof.Machine.execDeclareSiteLost rx s
  | .restoreSite rx => Sys2Proof.Machine.execRestoreSite rx s
  | .insert rx revision event => Sys2Proof.Machine.execInsert rx revision event s
  | .replace rx revision id event => Sys2Proof.Machine.execReplace rx revision id event s
  | .delete rx revision id => Sys2Proof.Machine.execDelete rx revision id s
  | .trim rx revision id duration => Sys2Proof.Machine.execTrim rx revision id duration s
  | .shiftFrom rx revision id delta => Sys2Proof.Machine.execShiftFrom rx revision id delta s
  | .snapshotBegin rx revision count => Sys2Proof.Machine.execSnapshotBegin rx revision count s
  | .snapshotEvent rx revision index event => Sys2Proof.Machine.execSnapshotEvent rx revision index event s
  | .snapshotEnd rx revision count => Sys2Proof.Machine.execSnapshotEnd rx revision count s
  | .snapshotTimeout c => Sys2Proof.Machine.execSnapshotTimeout c s
  | .resyncRepeat c => Sys2Proof.Machine.execResyncRepeat c s
  | .setService rx mode => Sys2Proof.Machine.execSetService rx mode s
  | .setServiceOut rx => Sys2Proof.Machine.execSetServiceOut rx s
  | .take rx => Sys2Proof.Machine.execTake rx s
  | .returnToMain rx => Sys2Proof.Machine.execReturnToMain rx s
  | .hold rx => Sys2Proof.Machine.execHold rx s
  | .pinMain rx => Sys2Proof.Machine.execPinMain rx s
  | .pinStandby rx => Sys2Proof.Machine.execPinStandby rx s
  | .unpin rx => Sys2Proof.Machine.execUnpin rx s
  | .seize rx => Sys2Proof.Machine.execSeize rx s
  | .release rx => Sys2Proof.Machine.execRelease rx s
  | .ackTakeover rx => Sys2Proof.Machine.execAckTakeover rx s
  | .recue rx => Sys2Proof.Machine.execRecue rx s
  | .clearRecords rx => Sys2Proof.Machine.execClearRecords rx s
  | .retime rx value => Sys2Proof.Machine.execRetime rx value s
  | .captureSlate rx slate path => Sys2Proof.Machine.execCaptureSlate rx slate path s
  | .realign rx => Sys2Proof.Machine.execRealign rx s
  | .select rx channels => Sys2Proof.Machine.execSelect rx channels s
  | .subscribe rx origin levels => Sys2Proof.Machine.execSubscribe rx origin levels s
  | .setWindow rx table page offset auto => Sys2Proof.Machine.execSetWindow rx table page offset auto s
  | .read rx count => Sys2Proof.Machine.execRead rx count s
  | .walkReach origin => Sys2Proof.Machine.execWalkReach origin s
  | .write rx values time => Sys2Proof.Machine.execWrite rx values time s
  | .clearError rx => Sys2Proof.Machine.execClearError rx s
  | .clearCounters rx => Sys2Proof.Machine.execClearCounters rx s
  | .saveConfig rx => Sys2Proof.Machine.execSaveConfig rx s
  | .saveCompletion readBack => Sys2Proof.Machine.execSaveCompletion readBack s
  | .warmRestart rx => Sys2Proof.Machine.execWarmRestart rx s
  | .warmRestartEnd => Sys2Proof.Machine.execWarmRestartEnd s
  | .badCommand raw => Sys2Proof.Machine.execBadCommand raw s
  | .misdirectedControl raw => Sys2Proof.Machine.execMisdirectedControl raw s
  | .report => Sys2Proof.Machine.execReport s
  | .rampStepAdvance c => Sys2Proof.Machine.execRampStepAdvance c s
  | .frameSend => Sys2Proof.Machine.execFrameSend s

end Sys2Proof.Machine
end

