-- ==== Sys2Proof/Machine/Formats.lean ====
section
/-! DEFINITION. The bytes that leave the part (Chapter 11): the Ethernet frame of R207, the carrier header of Table 11-1, the envelope of Table 11-3, and the bodies
of the kinds that the part sends (Tables 11-2, 11-7 and 11-8). `Sent.wire` gives the frames of one entry of the outbox. -/

namespace Sys2Proof.Machine

/-! ## Bodies -/

/-- The bytes of encoded fields. -/
def atomBytes (l : List Atom) : List Byte := l.flatMap Atom.bytes

/-- R190: the body of a REPLY: the request kind, the result, CLAMPED, and the contents (DEDUCED, log 18). -/
def Reply.body (r : Reply) : List Atom :=
  [.num 1 r.kind, .enum (resultCode r.result), .flag r.clamped] ++ r.contents

/-- What a report carries besides its kind and position, in the order its rule names it (R76, R147, R117, R91, R18), encoded by Table 11-5: the sequence of a takeover
started report is always present and is a plain number; in the other three reports of R147 it is an optional field (log 43). -/
def Report.fields : Report → List Atom
  | .edge _ det rise position count verdict asserted =>
    [.enum (detectorIndex det).val, .enum (if rise then 0 else 1), .pos position, .num 1 count, .enum (verdictCode verdict), .num 1 (detectorSet asserted)]
  | .takeoverStarted _ sequence cause asserted origin position held state =>
    joinAtoms
      [[.num 2 sequence, .enum (causeCode cause), .num 1 (detectorSet asserted)],
       optAtoms (fun o => [.enum (originCode o)]) origin, [.pos position, .enum (replicationCode held), .enum (stateCode state)]]
  | .switched _ sequence kind position state =>
    optAtoms (fun q => [.num 2 q]) sequence ++ [.enum (cueKindCode kind), .pos position, .enum (stateCode state)]
  | .cueFailed _ sequence state awaiting =>
    optAtoms (fun q => [.num 2 q]) sequence ++ [.enum (stateCode state), .flag awaiting]
  | .returned _ sequence position outcome =>
    optAtoms (fun q => [.num 2 q]) sequence ++ .pos position :: optAtoms (fun o => [.enum (outcomeCode o)]) outcome
  | .replication _ old new position expected cause =>
    [.enum (replicationCode old), .enum (replicationCode new), .pos position, .num 2 expected, .enum (replicationCauseCode cause)]
  | .site old new position cause viewA viewB automation =>
    [.enum (siteCode old), .enum (siteCode new), .pos position, .enum (siteCauseCode cause), upAtom viewA, upAtom viewB, .enum (automationCode automation)]
  | .reference old new position difference =>
    [.enum (lockCode old), .enum (lockCode new), .pos position] ++ optAtoms (fun d => [.int d]) difference

/-- The channel a report concerns; 255 for the whole unit. -/
def Report.channel : Report → Nat
  | .edge c .. | .takeoverStarted c .. | .switched c .. | .cueFailed c .. | .returned c .. | .replication c .. => c.val
  | .site .. | .reference .. => 255

/-- R198: the body of a REPORT: its kind, the H at which it was raised, and what it carries (DEDUCED, log 18). -/
def QueuedReport.body (r : QueuedReport) : List Atom :=
  .enum (reportKind r.report).val :: .pos r.position :: r.report.fields

/-- Table 11-8: the body of a CUE. -/
def cueBody (player : Fin 4) (number : Nat) (kind : CueKind) (e : Event) (offset switchPosition : Nat) : List Atom :=
  let material : List Atom :=
    match e.materialPosition offset with
    | some p => [.pos p]
    | none => []
  joinAtoms
    [[.num 1 player.val, .num 1 number, .enum (cueKindCode kind), .num 4 e.id, .pos e.start, .num 4 e.duration, .enum (materialCode e.material),
      .num 1 (materialPresence e.material)], materialFields e.material, [.num 4 offset], material, [.num 4 (e.duration - offset), .pos switchPosition]]

/-! ## Carriers -/

/-- A number's two bytes summed as the eight big-endian words of the header check (R178, Table 11-1). -/
def wordSum : List Byte → Nat
  | a :: b :: rest => a.toNat * 256 + b.toNat + wordSum rest
  | _ => 0

/-- Table 11-1: a carrier: its header with the header check, and its payload. -/
def carrierBytes (kind channel flags stamp fragIndex fragCount : Nat) (payload : List Byte) : List Byte :=
  let head : List Byte :=
    [toBytes 1 1, toBytes 1 kind, toBytes 1 channel, toBytes 1 flags, toBytes 6 stamp, toBytes 2 fragIndex, toBytes 2 fragCount,
      toBytes 2 payload.length].flatten
  head ++ toBytes 2 (wordSum head % 65536) ++ payload

/-- R209: a CONTROL carrier of the part: its envelope, with the sender code 0x20, and its body. -/
def controlBytes (stamp channel code request : Nat) (body : List Byte) : List Byte :=
  carrierBytes 4 channel 0 stamp 0 1
    [toBytes 1 0x20, toBytes 1 code, toBytes 2 request, toBytes 1 0, toBytes 1 0, toBytes 2 body.length, body].flatten

/-- Table 11-2: a SUMMARY payload. -/
def Summary.bytes (x : Summary) : List Byte :=
  toBytes 2 x.vc ++ toBytes 1 x.ac ++ toBytes 2 x.luma ++ toBytes 1 x.peaks.length ++ x.peaks.flatMap (toBytes 2)

/-- R178: the carriers of a list of pieces, in increasing fragment index. -/
def pieceCarriers (f : OutFrame) (kind : Nat) (pieces : List (List Byte)) : List (List Byte) :=
  pieces.mapIdx fun i p => carrierBytes kind f.stream (tagCode f.tag) f.stamp i pieces.length p

/-- R178: the carriers of an emitted frame: SUMMARY, then VIDEO, then AUDIO. -/
def OutFrame.wire (f : OutFrame) : List (List Byte) :=
  carrierBytes 3 f.stream (tagCode f.tag) f.stamp 0 1 f.summary.bytes :: (pieceCarriers f 1 f.video ++ pieceCarriers f 2 f.audio)

/-- The carriers of one thing sent (Tables 11-4, 11-7 and 11-8). -/
def Outgoing.carriersAt (stamp : Nat) : Outgoing → List (List Byte)
  | .reply r => [controlBytes stamp r.channel 0x60 r.request (atomBytes r.body)]
  | .report r => [controlBytes stamp r.report.channel 0x61 r.sequence (atomBytes r.body)]
  | .cue player number kind e offset switchPosition => [controlBytes stamp 255 0x62 0 (atomBytes (cueBody player number kind e offset switchPosition))]
  | .cancel player number => [controlBytes stamp 255 0x63 0 (atomBytes [.num 1 player, .num 1 number])]
  | .stop player number => [controlBytes stamp 255 0x64 0 (atomBytes [.num 1 player, .num 1 number])]
  | .resync c expected state => [controlBytes stamp c.val 0x65 0 (atomBytes [.num 2 expected, .enum (replicationCode state)])]
  | .amendRefused c revision kind id reason =>
    [controlBytes stamp c.val 0x66 0
      (atomBytes (joinAtoms [[.num 2 revision, .num 1 kind], optAtoms (fun n => [.num 4 n]) id, [.enum (amendReasonCode reason)]]))]
  | .frame f => f.wire

/-! ## Ethernet frames (R207) -/

/-- The port's byte in a source address (R207). -/
def portByte : Port → Nat
  | .contribution .a => 0x00
  | .contribution .b => 0x01
  | .standby n => 0x10 + n.val
  | .output .a => 0x20
  | .output .b => 0x21

/-- R207: a carrier followed by zero bytes up to 46 bytes. -/
def padded (carrier : List Byte) : List Byte := carrier ++ List.replicate (46 - carrier.length) 0

/-- R207: an outbound Ethernet frame without its frame check: destination, source, carriage type, and the carrier. -/
def ethernetBytes (p : Port) (unitNumber : Nat) (carrier : List Byte) : List Byte :=
  let source : List Byte := [0x02, 0x4A, 0x57]
  [List.replicate 6 0xFF, source, toBytes 1 (portByte p), toBytes 2 unitNumber, toBytes 2 0x88B5, padded carrier].flatten

/-- The Ethernet frames of one entry of the outbox. -/
def Sent.wire (x : Sent) : List (List Byte) := (x.what.carriersAt x.stamp).map (ethernetBytes x.port x.unitNumber)

end Sys2Proof.Machine
end

