-- ==== Sys2Proof/Safety.lean ====
section
/-! DEFINITION. The terms in which the statements speak of a safe run: when a control carrier of an origin is heard and what hearing it does, what stays unchanged
outside one channel, the invariant that every step keeps, and
the settings with the range and the default that the spec states for each. -/

namespace Sys2Proof.Machine

/-! ## Hearing a control carrier (R22, R25, R188) -/

/-- R22: a sender code and a port that together are an origin's. -/
def fromOrigin (o : Origin) (rx : ControlRx) : Bool :=
  match o, rx.port with
  | .mainSite, .contribution _ => rx.sender == 1
  | .console, .standby _ => rx.sender == 2
  | _, _ => false

/-- A control carrier of an origin that passes every check up to R188 while nothing of a boundary is due and no warm restart is in progress. -/
def Heard (s : State) (o : Origin) (rx : ControlRx) : Prop :=
  s.settled = true ∧ s.loading = false ∧ s.mgmt.restarting = none ∧ rx.stamp < s.cycle ∧ (rx.channel < 16 ∨ rx.channel = 255) ∧
    fromOrigin o rx = true

/-- What hearing it does: CARRIERS_IN, the traffic of a contribution path, and the console port. -/
def State.heard (s : State) (rx : ControlRx) : State :=
  let t := s.bump (.port rx.port .carriersIn)
  match rx.port with
  | .contribution side => t.modPath side fun x => { x with traffic := true }
  | .standby n => { t with mgmt := { t.mgmt with consolePort := some n } }
  | .output _ => t

/-- A heard carrier that names one channel, with the GROUP flag clear. -/
def Named (s : State) (o : Origin) (rx : ControlRx) (c : Chan) : Prop :=
  Heard s o rx ∧ rx.group = false ∧ rx.channel = c.val

/-- A heard carrier that names channel 255, with the GROUP flag clear. -/
def Whole (s : State) (o : Origin) (rx : ControlRx) : Prop :=
  Heard s o rx ∧ rx.group = false ∧ rx.channel = 255

/-- The REPLY of a request, on the port on which it came (R190). -/
def State.answered (s : State) (o : Origin) (rx : ControlRx) (kind : Nat) (result : Result) (contents : List Atom) : State :=
  s.reply o rx.port
    { request := rx.request, kind := kind, channel := rx.channel, result := result, clamped := false, contents := contents }

/-- The REPLY of an accepted channel command: the state, pin and owner of the channel (R135). -/
def State.acceptedFor (s : State) (o : Origin) (rx : ControlRx) (kind : Nat) (c : Chan) : State :=
  s.answered o rx kind .accepted
    [.enum (stateCode (s.ch c).control.state), .enum (pinCode (s.ch c).control.pin), .enum (ownerCode (s.ch c).control.owner)]

/-- A carrier counted at its port, and the traffic flag of the path it came by (R20, R25). -/
def State.arrived (s : State) (p : Port) : State :=
  let t := s.bump (.port p .carriersIn)
  match p with
  | .contribution side => t.modPath side fun x => { x with traffic := true }
  | _ => t

/-- R5, R9: a label in range that names a frame at a house rate. -/
def ValidLabel (r : Rate) (l : Label) : Prop :=
  (l.hh < 24 ∧ l.mm < 60 ∧ l.ss < 60 ∧ l.ff < r.n ∧ l.day < 65536) ∧ ¬(l.ss = 0 ∧ l.mm % 10 ≠ 0 ∧ l.ff < r.k)

/-- R21 check 3: the ranges of a media carrier's header fields on a port with so many channels. -/
def InRange (s : State) (m : Media) (channels : Nat) : Prop :=
  m.stamp < s.cycle ∧ m.payload.length ≤ 1408 ∧ m.fragIndex < m.fragCount ∧ m.channel < channels ∧
    match m.kind with
    | .video => m.fragCount ≤ 1024
    | .audio => m.fragCount ≤ 64
    | .summary => m.fragIndex = 0 ∧ m.fragCount = 1

/-- A part in which nothing of a boundary is due and the image has been loaded. -/
def Running (s : State) : Prop := s.settled = true ∧ s.loading = false

/-- R28, R37, R52: a media carrier, arrived at a port by a command, that is taken to a slot of one channel's main or standby buffer. -/
def Placed (s : State) (c : Chan) (path : SourcePath) (p : Port) (m : Media) (i : Instr) : Prop :=
  Running s ∧
    match path with
    | .main =>
      (∃ side, p = .contribution side ∧ i = .mainMediaCarrier side m) ∧ m.channel = c.val ∧ InRange s m 16 ∧ s.inService c = true ∧
        1 ≤ s.signed m.stamp ((s.time.h : Int) - s.delay c) ∧ s.signed m.stamp ((s.time.h : Int) - s.delay c) ≤ 16
    | .standby =>
      (∃ n, p = .standby n ∧ i = .standbyMediaCarrier n m ∧ s.settings.servers[(m.channel / 4) % 8] = { mapped := true, port := n }) ∧ InRange s m 32 ∧
        (∀ c', (s.inService c' = true ∧ (s.ch c').settings.server.val = m.channel / 4 ∧ (s.ch c').settings.player.val = m.channel % 4) ↔ c' = c) ∧
        1 ≤ s.signed m.stamp s.time.h ∧ s.signed m.stamp s.time.h ≤ 4

/-! ## Commands as bytes (Tables 11-3 to 11-8) -/

/-- Table 11-6: an event as carried: its fixed fields, with no flags, and then the fields whose presence bits are set. -/
def eventBytes (e : EventCarried) : List Byte :=
  let presence := flagNat e.name.isSome + 2 * flagNat e.inPoint.isSome + 4 * flagNat e.source.isSome
  let name := match e.name with
    | some l => toBytes 1 l.length ++ l
    | none => []
  let number (width : Nat) (x : Option Nat) : List Byte := match x with
    | some n => toBytes width n
    | none => []
  [toBytes 4 e.id, toBytes 2 e.label.day, toBytes 1 e.label.hh, toBytes 1 e.label.mm, toBytes 1 e.label.ss, toBytes 1 e.label.ff,
    toBytes 4 e.duration, toBytes 1 e.kind, toBytes 1 presence, toBytes 1 0, name, number 4 e.inPoint, number 2 e.source].flatten

/-- The set of channels of a SELECT: channel c in bit c (Table 11-5). -/
def channelSet (mask : BitVec 16) : List Nat := (maskChannels mask).map fun c => c.val

/-- A command that a control carrier spells: its header and envelope, its control code and its body. A SELECT is spelt by its set of
channels (`channelSet`). -/
def controlForm : Instr → Option (ControlRx × Nat × List Byte)
  | .keepalive rx sequence => some (rx, 0x01, toBytes 2 sequence)
  | .insert rx revision e => some (rx, 0x10, toBytes 2 revision ++ eventBytes e)
  | .replace rx revision id e => some (rx, 0x11, toBytes 2 revision ++ toBytes 4 id ++ eventBytes e)
  | .delete rx revision id => some (rx, 0x12, toBytes 2 revision ++ toBytes 4 id)
  | .trim rx revision id duration => some (rx, 0x13, toBytes 2 revision ++ toBytes 4 id ++ toBytes 4 duration)
  | .shiftFrom rx revision id delta => some (rx, 0x14, toBytes 2 revision ++ toBytes 4 id ++ (Atom.int delta).bytes)
  | .snapshotBegin rx revision count => some (rx, 0x18, toBytes 2 revision ++ toBytes 2 count)
  | .snapshotEvent rx revision index e => some (rx, 0x19, toBytes 2 revision ++ toBytes 2 index ++ eventBytes e)
  | .snapshotEnd rx revision count => some (rx, 0x1A, toBytes 2 revision ++ toBytes 2 count)
  | .setService rx mode => some (rx, 0x20, toBytes 1 mode)
  | .setServiceOut rx => some (rx, 0x20, toBytes 1 2)
  | .take rx => some (rx, 0x21, [])
  | .returnToMain rx => some (rx, 0x22, [])
  | .hold rx => some (rx, 0x23, [])
  | .pinMain rx => some (rx, 0x24, toBytes 1 0)
  | .pinStandby rx => some (rx, 0x24, toBytes 1 1)
  | .unpin rx => some (rx, 0x25, [])
  | .seize rx => some (rx, 0x26, [])
  | .release rx => some (rx, 0x27, [])
  | .ackTakeover rx => some (rx, 0x28, [])
  | .recue rx => some (rx, 0x29, [])
  | .clearRecords rx => some (rx, 0x2A, [])
  | .retime rx none => some (rx, 0x30, toBytes 1 0)
  | .retime rx (some v) => some (rx, 0x30, toBytes 1 1 ++ toBytes 1 v)
  | .captureSlate rx slate path => some (rx, 0x31, toBytes 1 slate ++ toBytes 1 path)
  | .realign rx => some (rx, 0x38, [])
  | .declareSiteLost rx => some (rx, 0x39, [])
  | .restoreSite rx => some (rx, 0x3A, [])
  | .setWindow rx table page offset auto => some (rx, 0x41, toBytes 1 table ++ toBytes 1 page ++ toBytes 2 offset ++ toBytes 1 auto)
  | .read rx count => some (rx, 0x42, toBytes 1 count)
  | .write rx values _ => some (rx, 0x43, toBytes 1 values.length ++ values.flatMap (toBytes 4))
  | .clearError rx => some (rx, 0x44, [])
  | .subscribe rx origin levels =>
    some (rx, 0x45, toBytes 1 origin ++ toBytes 1 levels.length ++ levels.flatMap fun p => toBytes 1 p.1 ++ toBytes 1 p.2)
  | .clearCounters rx => some (rx, 0x46, [])
  | .saveConfig rx => some (rx, 0x47, [])
  | .warmRestart rx => some (rx, 0x48, [])
  | .ready rx player number => some (rx, 0x50, toBytes 1 player ++ toBytes 1 number)
  | .refused rx player number reason => some (rx, 0x51, toBytes 1 player ++ toBytes 1 number ++ toBytes 1 reason)
  | .powerOn | .resetLine | .loadCompletion .. | .referencePulse .. | .frameTimerExpiry | .linkChange .. | .ethernetFrame .. | .mainMediaCarrier .. => none
  | .delayWindowEnd _ | .standbyMediaCarrier .. | .pathDown _ | .pathUp _ | .retimeApply _ | .copyCompletion _ | .settlingEnd .. => none
  | .guardExpiry _ | .returnArrival _ | .joinSwitch _ | .joinExpiry _ | .followOnCheck _ | .followOnSwitch _ | .followOnFailure _ => none
  | .endOfSchedule _ | .keepaliveExpiry | .snapshotTimeout _ | .resyncRepeat _ | .select .. | .walkReach _ | .saveCompletion _ | .warmRestartEnd => none
  | .badCommand _ | .misdirectedControl _ | .report | .rampStepAdvance _ | .frameSend => none

/-- Table 11-3: the envelope of a control carrier, with the body length that it names. -/
def controlEnvelope (rx : ControlRx) (code named : Nat) : List Byte :=
  [toBytes 1 rx.sender, toBytes 1 code, toBytes 2 rx.request, toBytes 1 (flagNat rx.group), toBytes 1 0, toBytes 2 named].flatten

/-- Table 11-4: the control codes; any other is a kind that the part does not know (section 11.3). -/
def controlCodes : List Nat :=
  [0x01, 0x10, 0x11, 0x12, 0x13, 0x14, 0x18, 0x19, 0x1A, 0x20, 0x21, 0x22, 0x23, 0x24, 0x25, 0x26, 0x27, 0x28, 0x29, 0x2A, 0x30, 0x31] ++
    [0x38, 0x39, 0x3A, 0x40, 0x41, 0x42, 0x43, 0x44, 0x45, 0x46, 0x47, 0x48, 0x50, 0x51, 0x60, 0x61, 0x62, 0x63, 0x64, 0x65, 0x66]

/-- Table 11-6: the length of an event, by its presence bits and the length that its name gives. -/
def eventLength (b : List Byte) : Nat :=
  let presence := BitVec.ofNat 8 (field b 15 1)
  17 + (if presence.getLsbD 0 then 1 + field b 17 1 else 0) + (if presence.getLsbD 1 then 4 else 0) + (if presence.getLsbD 2 then 2 else 0)

/-- The length that a control code requires of a body with the contents given (Tables 11-5, 11-7 and 11-8); absent for a kind that is not known, and for one
that only the part sends. An optional value of RETIME is absent unless its presence byte is 1. -/
def bodyLength (code : Nat) (b : List Byte) : Option Nat :=
  if code = 0x10 then some (2 + eventLength (b.drop 2))
  else if code = 0x11 then some (6 + eventLength (b.drop 6))
  else if code = 0x19 then some (4 + eventLength (b.drop 4))
  else if code = 0x30 then some (if field b 0 1 = 1 then 2 else 1)
  else if code = 0x43 then some (1 + 4 * field b 0 1)
  else if code = 0x45 then some (2 + 2 * field b 1 1)
  else if code ∈ [0x21, 0x22, 0x23, 0x25, 0x26, 0x27, 0x28, 0x29, 0x2A, 0x38, 0x39, 0x3A, 0x44, 0x46, 0x47, 0x48] then some 0
  else if code ∈ [0x20, 0x24, 0x42] then some 1
  else if code ∈ [0x01, 0x31, 0x40, 0x50] then some 2
  else if code = 0x51 then some 3
  else if code ∈ [0x18, 0x1A] then some 4
  else if code = 0x41 then some 5
  else if code = 0x12 then some 6
  else if code ∈ [0x13, 0x14] then some 10
  else none

/-- R209: a body whose length is not the one that the envelope names, or not the one that its kind and contents require. -/
def WrongLength (code named : Nat) (b : List Byte) : Prop := named ≠ b.length ∨ ∃ n, bodyLength code b = some n ∧ n ≠ b.length

/-- KEEPALIVE and the schedule carriers, which are not answered (R190). -/
def notAnswered (code : Nat) : Prop := code ∈ [0x01, 0x10, 0x11, 0x12, 0x13, 0x14, 0x18, 0x19, 0x1A]

/-- The payload of a control carrier: the envelope of Table 11-3 and the body. -/
def controlPayload (rx : ControlRx) (code : Nat) (body : List Byte) : List Byte :=
  [toBytes 1 rx.sender, toBytes 1 code, toBytes 2 rx.request, toBytes 1 (flagNat rx.group), toBytes 1 0, toBytes 2 body.length, body].flatten

/-- The instant that a command carries; only a WRITE has one among those that a control carrier spells. -/
def sentAt (i : Instr) (time : Nat) : Prop :=
  match i with
  | .write _ _ at_ => at_ = time
  | _ => True

/-- An amendment with the revision it carries (R98, R99). -/
def amendmentOf : Instr → Option (ControlRx × Nat × Amendment)
  | .insert rx revision e => some (rx, revision, .insert e)
  | .replace rx revision id e => some (rx, revision, .replace id e)
  | .delete rx revision id => some (rx, revision, .delete id)
  | .trim rx revision id duration => some (rx, revision, .trim id duration)
  | .shiftFrom rx revision id delta => some (rx, revision, .shiftFrom id delta)
  | _ => none

/-- A command that needs the owner, with its control code (R135 to R137, R141). -/
def ownerCommand : Instr → Option (ControlRx × Nat)
  | .take rx => some (rx, 0x21)
  | .returnToMain rx => some (rx, 0x22)
  | .hold rx => some (rx, 0x23)
  | .ackTakeover rx => some (rx, 0x28)
  | _ => none

/-- A request that concerns the whole unit, with its control code (R190). -/
def unitRequestOf : Instr → Option (ControlRx × Nat)
  | .realign rx => some (rx, 0x38)
  | .declareSiteLost rx => some (rx, 0x39)
  | .restoreSite rx => some (rx, 0x3A)
  | .select rx _ => some (rx, 0x40)
  | .subscribe rx _ _ => some (rx, 0x45)
  | .clearCounters rx => some (rx, 0x46)
  | .saveConfig rx => some (rx, 0x47)
  | .warmRestart rx => some (rx, 0x48)
  | _ => none

/-- A request of an access window, with its control code (R192 to R195). -/
def windowRequestOf : Instr → Option (ControlRx × Nat)
  | .setWindow rx _ _ _ _ => some (rx, 0x41)
  | .read rx _ => some (rx, 0x42)
  | .write rx _ _ => some (rx, 0x43)
  | .clearError rx => some (rx, 0x44)
  | _ => none

/-- A channel command that only the console may send, with its control code (Table 10-1). -/
def consoleChannelCommand : Instr → Option (ControlRx × Nat)
  | .setService rx _ | .setServiceOut rx => some (rx, 0x20)
  | .pinMain rx | .pinStandby rx => some (rx, 0x24)
  | .unpin rx => some (rx, 0x25)
  | .seize rx => some (rx, 0x26)
  | .release rx => some (rx, 0x27)
  | .recue rx => some (rx, 0x29)
  | .clearRecords rx => some (rx, 0x2A)
  | .retime rx _ => some (rx, 0x30)
  | .captureSlate rx _ _ => some (rx, 0x31)
  | _ => none

/-- A command that only the console may send, WRITE left out, with its control code (Table 10-1). -/
def consoleCommand (i : Instr) : Option (ControlRx × Nat) :=
  match consoleChannelCommand i with
  | some x => some x
  | none =>
    match i with
    | .realign rx => some (rx, 0x38)
    | .declareSiteLost rx => some (rx, 0x39)
    | .restoreSite rx => some (rx, 0x3A)
    | .subscribe rx _ _ => some (rx, 0x45)
    | .clearCounters rx => some (rx, 0x46)
    | .saveConfig rx => some (rx, 0x47)
    | .warmRestart rx => some (rx, 0x48)
    | _ => none

/-- A command that must name a channel, with its control code (R50, R55, R135). -/
def channelCommand (i : Instr) : Option (ControlRx × Nat) :=
  match ownerCommand i with
  | some x => some x
  | none => consoleChannelCommand i

/-- What a channel command that may be flagged GROUP asks of a channel (R143, Table 7-3). The modes count in the order of R123 (log 34). -/
def channelForm : Instr → Option ChannelCommand
  | .setService _ mode => some (.setService mode)
  | .setServiceOut _ => some (.setService 2)
  | .take _ => some .take
  | .returnToMain _ => some .returnToMain
  | .hold _ => some .hold
  | .pinMain _ => some (.pin 0)
  | .pinStandby _ => some (.pin 1)
  | .unpin _ => some .unpin
  | .seize _ => some .seize
  | .release _ => some .release
  | .ackTakeover _ => some .ackTakeover
  | .recue _ => some .recue
  | .clearRecords _ => some .clearRecords
  | _ => none

/-- A request, which a warm restart in progress discards (R203), with its header and envelope. -/
def requestOf (i : Instr) : Option ControlRx :=
  match channelCommand i, consoleCommand i with
  | some x, _ => some x.1
  | _, some x => some x.1
  | none, none =>
    match i with
    | .select rx _ | .setWindow rx _ _ _ _ | .read rx _ | .write rx _ _ | .clearError rx => some rx
    | _ => none

/-- A control carrier of a standby server that passes every check up to R188 while nothing of a boundary is due (R22, R37). -/
def FromServer (s : State) (rx : ControlRx) (server : Fin 8) : Prop :=
  s.settled = true ∧ s.loading = false ∧ rx.stamp < s.cycle ∧ (rx.channel < 16 ∨ rx.channel = 255) ∧ rx.sender = 0x10 + server.val ∧
    s.settings.servers[server.val].mapped = true ∧ rx.port = .standby s.settings.servers[server.val].port

/-- An Ethernet frame of the carriage type whose check passes: a carrier and its padding (R20, R207). -/
def carriageFrame (payload padding : List Byte) : EthFrame :=
  { checkOk := true, etherType := 0x88B5, payload := payload ++ padding }

/-! ## What stays as it was -/

/-- The Management Unit with the report queues and sequences left out. -/
def Management.quiet (m : Management) : Management :=
  { m with
    mainSite := { m.mainSite with queue := [], nextSequence := 0 }
    console := { m.console with queue := [], nextSequence := 0 } }

/-- A counter that belongs neither to channel `c` nor to an origin. -/
def foreign (c : Chan) : CounterKey → Bool
  | .chan c' _ => c' != c
  | .origin _ _ => false
  | _ => true

/-- Two states that agree on everything but channel `c`, its counters, what origins count, the report queues, and what has been sent, which may only
have grown. -/
structure Elsewhere (c : Chan) (s t : State) : Prop where
  time : t.time = s.time
  ports : t.ports = s.ports
  site : t.site = s.site
  poolFree : t.poolFree = s.poolFree
  slates : t.slates = s.slates
  settings : t.settings = s.settings
  mgmt : t.mgmt.quiet = s.mgmt.quiet
  work : t.work = s.work
  pending : t.pending = s.pending
  outbox : s.outbox <+: t.outbox
  others : ∀ c' : Chan, c' ≠ c → t.ch c' = s.ch c'
  counters : ∀ key, foreign c key = true → t.counter key = s.counter key

/-- A channel that differs from another at most in its channel record, its cues and its output record. -/
def SameButCues (x y : Channel) : Prop :=
  { y with control := x.control, cue := x.cue, output := x.output } = x

/-- A state reached by what the Channel Controller and the Cue Engine do for channel `c`. -/
structure CueLocal (c : Chan) (s t : State) : Prop extends Elsewhere c s t where
  channel : SameButCues (s.ch c) (t.ch c)

/-! ## The invariant -/

/-- The bounds of one channel: the ring holds at most 8 records (R145), and the numbers that wrap stay below their moduli (R96, R145, R150). -/
structure ChannelInv (x : Channel) : Prop where
  ring : x.control.ring.length ≤ 8
  sequence : x.control.nextSequence < 65536
  expected : x.schedule.expected < 65536
  cueNumber : x.cue.nextNumber < 256

/-- The bounds of an access context: its queue holds at most 32 reports and its sequence wraps at 65,536 (R198). -/
structure ContextInv (x : Context) : Prop where
  queue : x.queue.length ≤ 32
  sequence : x.nextSequence < 65536

/-- The invariant of the part: every counter at most its maximum (R197), H a position of the cycle (R3), the bounds above, no boundary before the image
is loaded (R8, R9), and the realign-pending flag never set in LOCKED (R14, R15). -/
structure Inv (s : State) : Prop where
  counters : ∀ key, s.counter key ≤ counterMax
  position : s.time.h < s.cycle
  channels : ∀ c, ChannelInv (s.ch c)
  mainSite : ContextInv s.mgmt.mainSite
  console : ContextInv s.mgmt.console
  beforeLoad : s.loading = true → s.time.h = 0 ∧ s.time.timer = none
  realign : s.time.realignPending = true → s.time.lock ≠ .locked

/-- The event records that a channel's lists hold (R93). -/
def Channel.records (x : Channel) : Nat :=
  (x.schedule.live.getD []).length + (match x.schedule.shadow with | some y => y.events.length | none => 0)

/-- The order of a list (R94): each event ends at or before the next begins, no two share an id, and each lasts at least one frame. -/
def Ordered (l : List Event) : Prop :=
  l.Pairwise (fun x y => x.finish ≤ y.start ∧ x.id ≠ y.id) ∧ ∀ e ∈ l, 1 ≤ e.duration

/-- A shadow list with its snapshot record (R94, R107, R108): in order, with no more events than indices received, which rise and stay below the count. -/
structure ShadowInv (x : Shadow) : Prop where
  ordered : Ordered x.events
  filled : x.events.length ≤ x.received.length
  indices : x.received.Pairwise (· < ·)
  below : ∀ i ∈ x.received, i < x.count
  count : x.count ≤ 1024

/-- The lists of one channel (R94, R96): the live list is absent in EMPTY alone, a shadow list stands in REBUILDING alone, and each is in order and holds at
most 1,024 events. -/
structure ScheduleInv (x : Schedule) : Prop where
  live : x.live = none ↔ x.state = .empty
  shadow : x.shadow ≠ none ↔ x.state = .rebuilding
  liveOrdered : ∀ l, x.live = some l → Ordered l ∧ l.length ≤ 1024
  shadowOrdered : ∀ y, x.shadow = some y → ShadowInv y

/-- R93, R94, R96: the pool's 4,096 event records are free or stand in a live or shadow list, every list is as `ScheduleInv` says, and a snapshot timer runs, or
its timeout is due, beside a shadow list alone (R107, R111). -/
structure PoolInv (s : State) : Prop where
  pool : s.poolFree + (Chan.all.map fun c => (s.ch c).records).sum = 4096
  lists : ∀ c, ScheduleInv (s.ch c).schedule
  timers : ∀ c, (s.ch c).work.snapshot = true ∨ (s.ch c).schedule.snapshotTimer ≠ none → (s.ch c).schedule.shadow ≠ none

/-- The units of a channel's share of the frame store in use: its slots that are not FREE and its held frames (R42). -/
def Channel.unitsHeld (x : Channel) : Nat :=
  x.slots.main.toList.countP (fun y => y.stamp.isSome) + x.slots.standby.toList.countP (fun y => y.stamp.isSome) +
    flagNat x.align.mainHeld.isSome + flagNat x.align.standbyHeld.isSome

/-- R27, R41, R42: each of a channel's 21 units is free or in use, a slot holds only a stamp of its own place, and a channel out of service holds none. -/
structure UnitInv (x : Channel) : Prop where
  units : x.align.freeUnits + x.unitsHeld = 21
  mainPlaces : ∀ (i : Fin 16) p, x.slots.main[i.val].stamp = some p → p % 16 = i.val
  standbyPlaces : ∀ (i : Fin 4) p, x.slots.standby[i.val].stamp = some p → p % 4 = i.val
  out : x.control.state = .outOfService → x.unitsHeld = 0

/-- R150, R161: FAILED is a FOLLOW_ON's alone, a channel in MAIN or OUT_OF_SERVICE has no pending cue, a playing cue stands on the standby path alone, and a
pending FOLLOW_ON stands beside a playing cue. -/
structure CueInv (x : Channel) : Prop where
  failed : ∀ y, x.cue.pendingCue = some y → y.status = .failed → y.kind = .followOn
  noneInMain : x.control.state = .main ∨ x.control.state = .outOfService → x.cue.pendingCue = none
  playing : x.cue.playing ≠ none → x.control.state = .standby ∨ x.control.state = .returnGuard ∨ x.control.state = .returning
  followOn : ∀ y, x.cue.pendingCue = some y → y.kind = .followOn → x.cue.playing ≠ none

/-- R42, R87, R120, R123, R124, R150, R201: the units and the cues of each channel are as above; a channel is OUT_OF_SERVICE exactly when its mode is; while the
site is LOST every owner is LOCAL and no channel is returning; and no channel is in service before the image is loaded. -/
structure ControlInv (s : State) : Prop where
  units : ∀ c, UnitInv (s.ch c)
  cues : ∀ c, CueInv (s.ch c)
  service : ∀ c, (s.ch c).control.state = .outOfService ↔ (s.ch c).control.mode = .outOfService
  lost : s.site.state = .lost → ∀ c,
    (s.ch c).control.owner = .localSite ∧ (s.ch c).control.state ≠ .returnGuard ∧ (s.ch c).control.state ≠ .returning
  beforeLoad : s.loading = true → ∀ c, (s.ch c).control.state = .outOfService

/-! ## The settings as the spec lists them -/

/-- The kind of value and the default that the spec gives to each entry of the five tables: Table 7-1 (R121), R59 with Table 4-1, R37, R179, R2, R26, R82, R111, R112 and
R204. The width of a number is the fewest of 1, 2 or 4 bytes that hold its range (Table 11-5). A prescale is the place of its value (DEDUCED, log 19), and
DELAY_OVERRIDE off is 0 (Table 11-5). -/
def SettingRef.stated : SettingRef → SettingKind × Nat
  | .chan _ .lead => (.number 1 2 250, 50)
  | .chan _ .joinMargin => (.number 1 0 250, 25)
  | .chan _ .cueAttempts => (.number 1 1 7, 3)
  | .chan c .server => (.enum 8, c.val / 4)
  | .chan c .player => (.enum 4, c.val % 4)
  | .chan _ .returnMode => (.enum 2, 0)
  | .chan _ .autoReturn => (.flag, 1)
  | .chan _ .guardLength => (.number 2 25 65535, 250)
  | .chan _ .mainHoldLimit => (.number 1 0 50, 10)
  | .chan _ .standbyHoldLimit => (.number 1 0 50, 10)
  | .chan _ .fillSlate => (.enum 8, 0)
  | .chan _ .delayOverride => (.number 1 0 15, 0)
  | .chan _ .delayMargin => (.number 1 0 3, 1)
  | .chan _ .rampEnable => (.flag, 1)
  | .chan _ .rampStep => (.number 1 1 2, 1)
  | .chan _ .serviceMode => (.enum 3, 0)
  | .det _ _ .enabled => (.flag, 1)
  | .det _ .arrival .policy => (.enum 3, 2)
  | .det _ _ .policy => (.enum 3, 1)
  | .det _ .arrival .assertCount => (.number 2 1 1023, 5)
  | .det _ .black .assertCount => (.number 2 1 1023, 125)
  | .det _ _ .assertCount => (.number 2 1 1023, 250)
  | .det _ .arrival .clearCount => (.number 2 1 1023, 50)
  | .det _ _ .clearCount => (.number 2 1 1023, 5)
  | .det _ _ .settleFrames => (.number 1 0 255, 25)
  | .det _ .black .threshold => (.number 2 0 1023, 32)
  | .det _ .silence .threshold => (.number 2 0 32767, 64)
  | .det _ _ .threshold => (.absent, 0)
  | .det _ _ .riseReport => (.flag, 1)
  | .det _ _ .fallReport => (.flag, 1)
  | .chain _ => (.flag, 0)
  | .pairs _ => (.pairs, 3)
  | .mapped _ => (.flag, 0)
  | .serverPort _ => (.enum 4, 0)
  | .stream c => (.number 1 0 255, c.val)
  | .site .houseRate => (.enum 4, 0)
  | .site .pathTimeout => (.number 1 1 250, 10)
  | .site .pathRestore => (.number 1 1 250, 25)
  | .site .keepaliveCount => (.number 1 1 255, 50)
  | .site .keepalivePrescale => (.enum 8, 0)
  | .site .snapshotCount => (.number 1 1 255, 250)
  | .site .snapshotPrescale => (.enum 8, 2)
  | .site .resyncCount => (.number 1 1 255, 125)
  | .site .resyncPrescale => (.enum 8, 0)
  | .site .unitNumber => (.number 2 0 65535, 0)

end Sys2Proof.Machine
end

