-- ==== Sys2Proof/WellFormed.lean ====
section
/-! DEFINITION. Well-formed commands: every operand fits the field of Chapter 11 that carries it, and every list fits its count. The machine is total on ill-formed
commands as well, and gives each the effect that its operands spell. -/

namespace Sys2Proof

/-- Whether a number fits a field of a width in bytes (Table 11-5). -/
def fits (width n : Nat) : Bool := n < 256 ^ width

/-- A label as carried: the day in 2 bytes, hh, mm, ss and ff in one each (Table 11-6). -/
def Label.wf (l : Label) : Bool := fits 2 l.day && fits 1 l.hh && fits 1 l.mm && fits 1 l.ss && fits 1 l.ff

/-- The header fields and the payload length of a media carrier (Table 11-1). -/
def Media.wf (m : Media) : Bool :=
  fits 1 m.channel && fits 6 m.stamp && fits 2 m.fragIndex && fits 2 m.fragCount && fits 2 m.payload.length

/-- The header and envelope fields of a control carrier (Tables 11-1 and 11-3). -/
def ControlRx.wf (rx : ControlRx) : Bool := fits 6 rx.stamp && fits 1 rx.channel && fits 1 rx.sender && fits 2 rx.request

/-- A control carrier as bytes: its header fields and its payload length. -/
def RawControl.wf (raw : RawControl) : Bool := fits 6 raw.stamp && fits 1 raw.channel && fits 2 raw.payload.length

/-- The type field of an Ethernet frame takes 2 bytes. -/
def EthFrame.wf (f : EthFrame) : Bool := fits 2 f.etherType

/-- An optional field present or absent (Table 11-5). -/
def optFits (width : Nat) : Option Nat → Bool
  | none => true
  | some n => fits width n

/-- An event as carried (Table 11-6). -/
def EventCarried.wf (e : EventCarried) : Bool :=
  fits 4 e.id && e.label.wf && fits 4 e.duration && fits 1 e.kind && fits 1 (e.name.getD []).length && optFits 4 e.inPoint && optFits 2 e.source

/-- A signed number of 4 bytes (Table 11-5). -/
def fitsSigned (n : Int) : Bool := -2147483648 ≤ n && n < 2147483648

/-- Whether a command is well-formed. -/
def Instr.wf : Instr → Bool
  | .powerOn | .resetLine | .loadCompletion .. | .frameTimerExpiry | .linkChange .. => true
  | .referencePulse label _ => label.wf
  | .ethernetFrame _ frame _ => frame.wf
  | .mainMediaCarrier _ m => m.wf
  | .standbyMediaCarrier _ m => m.wf
  | .delayWindowEnd _ | .pathDown _ | .pathUp _ | .retimeApply _ | .copyCompletion _ | .settlingEnd .. => true
  | .guardExpiry _ | .returnArrival _ | .joinSwitch _ | .joinExpiry _ | .followOnCheck _ | .followOnSwitch _ | .followOnFailure _ | .endOfSchedule _ => true
  | .ready rx player number => rx.wf && fits 1 player && fits 1 number
  | .refused rx player number reason => rx.wf && fits 1 player && fits 1 number && fits 1 reason
  | .keepalive rx sequence => rx.wf && fits 2 sequence
  | .keepaliveExpiry => true
  | .declareSiteLost rx | .restoreSite rx => rx.wf
  | .insert rx revision event => rx.wf && fits 2 revision && event.wf
  | .replace rx revision id event => rx.wf && fits 2 revision && fits 4 id && event.wf
  | .delete rx revision id => rx.wf && fits 2 revision && fits 4 id
  | .trim rx revision id duration => rx.wf && fits 2 revision && fits 4 id && fits 4 duration
  | .shiftFrom rx revision id delta => rx.wf && fits 2 revision && fits 4 id && fitsSigned delta
  | .snapshotBegin rx revision count | .snapshotEnd rx revision count => rx.wf && fits 2 revision && fits 2 count
  | .snapshotEvent rx revision index event => rx.wf && fits 2 revision && fits 2 index && event.wf
  | .snapshotTimeout _ | .resyncRepeat _ => true
  | .setService rx mode => rx.wf && fits 1 mode
  | .setServiceOut rx | .take rx | .returnToMain rx | .hold rx | .pinMain rx | .pinStandby rx | .unpin rx | .seize rx | .release rx => rx.wf
  | .ackTakeover rx | .recue rx | .clearRecords rx | .realign rx => rx.wf
  | .retime rx value => rx.wf && optFits 1 value
  | .captureSlate rx slate path => rx.wf && fits 1 slate && fits 1 path
  | .select rx channels => rx.wf && channels.all (fits 1)
  | .subscribe rx origin levels => rx.wf && fits 1 origin && fits 1 levels.length && levels.all fun p => fits 1 p.1 && fits 1 p.2
  | .setWindow rx table page offset auto => rx.wf && fits 1 table && fits 1 page && fits 2 offset && fits 1 auto
  | .read rx count => rx.wf && fits 1 count
  | .walkReach _ => true
  | .write rx values _ => rx.wf && values.length ≤ 16 && values.all (fits 4)
  | .clearError rx | .clearCounters rx | .saveConfig rx | .warmRestart rx => rx.wf
  | .saveCompletion _ | .warmRestartEnd => true
  | .badCommand raw | .misdirectedControl raw => raw.wf
  | .report | .rampStepAdvance _ | .frameSend => true

end Sys2Proof
end

