-- ==== Sys2Proof/Certificates/Slice0/Obligations.lean ====
section
/-! DEFINITION. The statements about the model, each formalising rules of the spec. `exec` is what a command does, `step` one step of the part. -/

open Sys2Proof Sys2Proof.Machine

/-! ## The part as a whole -/

/-- The first command waiting is taken: a step runs it on the part with the rest of the queue. That commands wait in one first-in first-out queue is the model's
choice (log 1). -/
def Obligations.StepTakesTheFrontCommand : Prop :=
  ∀ (i : Instr) (rest : List Instr) (s : State), s.pending = i :: rest → step s = exec i { s with pending := rest }

/-- With no command waiting the part takes what is due, and is then settled; a settled part stays as it is (log 1 and log 2: the model's
choices). -/
def Obligations.IdleStepSettlesThePart : Prop :=
  ∀ s : State, s.pending = [] → ∃ t, step s = .next t ∧ t.settled = true ∧ t.pending = [] ∧ (s.settled = true → t = s)

/-- Every command completes, leaves the queue to the step, and takes back nothing that has been sent. The queue and the outbox are the model's choices (log 1, log
5). -/
def Obligations.EveryCommandCompletesAndKeepsTheQueue : Prop :=
  ∀ (i : Instr) (s : State), ∃ t, exec i s = .next t ∧ t.pending = s.pending ∧ s.outbox <+: t.outbox

/-- R3, R27, R41, R42, R87, R93, R96, R120, R123, R124, R145, R150, R161, R197, R198, R201: every step keeps the counters saturated, H a position of the
cycle, the rings and queues within their lengths, and the numbers that wrap below their moduli. Every step also keeps what the spec says of the channel
records: free units, slots and held frames make 21 a channel, and each slot holds a stamp of its own place; FAILED is a follow-on's alone, no cue is pending
in MAIN or OUT_OF_SERVICE, a playing cue stands in STANDBY, RETURN_GUARD and RETURNING alone and beside every pending follow-on; a channel is OUT_OF_SERVICE
exactly when its mode is; while the site is LOST every owner is LOCAL and none is in RETURN_GUARD or RETURNING (for one in MONITOR or pinned MAIN this is log
12's reading); before the load none is in service. -/
def Obligations.EveryStepKeepsTheBounds : Prop :=
  (∀ s t : State, Inv s → step s = .next t → Inv t) ∧ ∀ s t : State, ControlInv s → step s = .next t → ControlInv t

/-- R93, R94, R96, R107, R111: every step keeps the pool whole and every list in start order, with no overlap, no shared id and at most 1,024 events, and a snapshot
timer beside a shadow list alone. -/
def Obligations.EveryStepKeepsThePoolAndTheLists : Prop :=
  ∀ s t : State, s.time.h < s.cycle → PoolInv s → step s = .next t → PoolInv t

/-- The part after power-on meets the three invariants, of the bounds, of the channel records and of the lists, and nothing is due in it. -/
def Obligations.PowerOnMeetsTheInvariants : Prop :=
  Inv State.reset ∧ ControlInv State.reset ∧ PoolInv State.reset ∧ State.reset.settled = true

/-! ## Resets and the configuration image -/

/-- R19, R40, R58, R78, R92, R119, R149, R172, R187, R197, R206: what power-on leaves, item by item, for the items to which the spec gives a value. R149, R204:
a reset-line reset leaves what power-on leaves, but for each channel's ring (its PENDING current record ABANDONED), overflow flag and next sequence, and the
restart record. -/
def Obligations.PowerOnAndResetLine : Prop :=
  (∀ s : State, ∃ t, exec .powerOn s = .next t ∧ t.pending = s.pending ∧ t.outbox = s.outbox ∧ t.loading = true ∧
    (t.time.h = 0 ∧ t.time.lock = .unreferenced ∧ t.time.realignPending = false ∧ t.time.absence = 0 ∧ t.time.lastDifference = none ∧
      t.time.timer = none) ∧
    (∀ p, t.linkUp p = false) ∧ (∀ side, t.path side = { up := false, traffic := false, silence := 0, run := 0 }) ∧
    t.site =
      { state := .starting, loss := none, viewA := false, viewB := false, automation := .unknown, timerRunning := false, elapsed := 0, lastKeepalive := none } ∧
    t.poolFree = 4096 ∧ (∀ i : Fin 8, t.slates[i.val] = { state := .empty, request := none }) ∧ (∀ key, t.counter key = 0) ∧
    (t.mgmt.resetCause = .powerOn ∧ t.mgmt.warmRestarts = 0 ∧ t.mgmt.lineResets = 0 ∧ t.mgmt.save = none ∧ t.mgmt.lastSave = none ∧
      t.mgmt.consolePort = none ∧ t.mgmt.restarting = none) ∧
    (∀ o, t.ctx o =
      { window := { table := .status, page := 255, offset := 0, auto := false }, walk := none, sticky := none, mask := 0
        levels := Vector.replicate 8 2, queue := [], nextSequence := 0 }) ∧
    ∀ c,
      ((t.ch c).control.mode = .outOfService ∧ (t.ch c).control.state = .outOfService ∧ (t.ch c).control.pin = .none ∧
        (t.ch c).control.owner = .mainSite ∧ (t.ch c).control.cause = none ∧ (t.ch c).control.returnOrigin = none ∧
        (t.ch c).control.guard = none ∧ (t.ch c).control.returnPosition = none ∧ (t.ch c).control.suspended = false ∧
        (t.ch c).control.sticky = false ∧ (t.ch c).control.returnAck = false ∧ (t.ch c).control.awaitingRecue = false ∧
        (t.ch c).control.current = none ∧ (t.ch c).control.nextSequence = 0 ∧ (t.ch c).control.ring = [] ∧ (t.ch c).control.overflow = false) ∧
      (t.ch c).slots = { main := Vector.replicate 16 .free, standby := Vector.replicate 4 .free, tracker := none } ∧
      ((t.ch c).align.d = none ∧ (t.ch c).align.mainHeld = none ∧ (t.ch c).align.standbyHeld = none ∧ (t.ch c).align.mainHeldCount = 0 ∧
        (t.ch c).align.standbyHeldCount = 0 ∧ (t.ch c).align.retime = none ∧ (t.ch c).align.freeUnits = 21 ∧
        (t.ch c).align.measurement.measured = 4 ∧ (t.ch c).align.measurement.count = 0 ∧ (t.ch c).align.measurement.greatest = none) ∧
      ((∀ det, (t.ch c).detState det = { phase := .clear, latched := false, settle := 0, bad := 0, good := 0 }) ∧
        (t.ch c).monitor.reference = none ∧ (t.ch c).monitor.verdict = .healthy ∧ ∀ i : Fin 8, (t.ch c).monitor.edges[i.val] = none) ∧
      (t.ch c).schedule = { live := none, shadow := none, state := .empty, expected := 0, snapshotTimer := none, resyncTimer := none } ∧
      (t.ch c).cue = { pendingCue := none, playing := none, nextNumber := 0, wait := none, recordLink := false } ∧
      (t.ch c).output = { delivered := .outOfService, lastCategory := none, lastTag := none, ramp := .idle, sending := none, waiting := none }) ∧
  (∀ s : State, s.settled = true → ∃ t, exec .resetLine s = .next t ∧ t.pending = s.pending ∧ t.outbox = s.outbox ∧
    t.time = State.reset.time ∧ t.ports = State.reset.ports ∧ t.site = State.reset.site ∧ t.poolFree = 4096 ∧ t.slates = State.reset.slates ∧
    t.settings = State.reset.settings ∧ t.counters = State.reset.counters ∧ t.work = State.reset.work ∧
    t.mgmt = { State.reset.mgmt with resetCause := .resetLine, warmRestarts := s.mgmt.warmRestarts, lineResets := min (s.mgmt.lineResets + 1) 4294967295 } ∧
    ∀ c, ∃ ring,
      t.ch c =
        { State.reset.ch c with
          control :=
            { (State.reset.ch c).control with
              ring := ring, overflow := (s.ch c).control.overflow, nextSequence := (s.ch c).control.nextSequence } } ∧
      ring = (s.ch c).control.ring.map fun r =>
        if (s.ch c).control.current = some r.sequence ∧ r.outcome = .pending then { r with outcome := .abandoned } else r)

/-- R201, R119, R19, R26, R37, R59, R82, R111, R112, R121, R179, R204: a load that finds no image puts every setting at its default (those of Tables 7-1 and 4-1, and of SERVERS,
OUTPUT_MAP and SITE, value by value) and every channel out of service, arms the frame timer for one frame period at
FR25, and sends RESYNC for every channel on both contribution ports. R202: SAVE_CONFIG copies the
five tables and begins a save, and is refused with BUSY while one is in flight; the save completion records the result and the H and answers with SAVED or
SAVE_FAILED; a save whose REPLY a warm restart has dropped is left out. The model's choices: a completion with no load or save in progress changes nothing
(log 3), instants count in quarter periods of the 27 MHz oscillator, so 4,320,000 to a frame at FR25 (log 4), a save's completion brings what the memory
reads back (log 6), a prescale is the place of its value (log 19), and a RESYNC sent before the first boundary is stamped with H as the reset leaves it (log 56). -/
def Obligations.LoadWithNoImageAndSaves : Prop :=
  (∀ (s : State) (time : Nat), s.settled = true →
    (s.loading = false → ∀ answer, exec (.loadCompletion answer time) s = .next s) ∧
    (s.loading = true → ∃ t, exec (.loadCompletion none time) s = .next t ∧ t.pending = s.pending ∧
      t.time = { s.time with rate := .fr25, timer := some (time + 4320000) } ∧ t.settings = UnitSettings.default ∧ (∀ r, t.getRef r = r.stated.2) ∧
      t.mgmt = { s.mgmt with config := .defaulted .noMemory } ∧ t.ports = s.ports ∧ t.site = s.site ∧ t.poolFree = s.poolFree ∧ t.slates = s.slates ∧
      (∀ c, t.ch c =
        { s.ch c with
          settings := ChannelSettings.default c
          control := { (s.ch c).control with mode := .outOfService }
          schedule := { (s.ch c).schedule with resyncTimer := some 0 } }) ∧
      (∀ key, t.counter key = match key with
        | .chan _ .resyncsSent => min (s.counter key + 1) 4294967295
        | _ => s.counter key) ∧
      ∀ side c, ∃ x ∈ t.outbox, x.port = .contribution side ∧ x.stamp = s.time.h ∧
        x.what = .resync c (s.ch c).schedule.expected (s.ch c).schedule.state)) ∧
  ((∀ (s : State) (rx : ControlRx), Whole s .console rx →
    (s.mgmt.save = none →
      exec (.saveConfig rx) s =
        .next { s.heard rx with
          mgmt := { (s.heard rx).mgmt with save := some { image := s.imageOf, reply := some { port := rx.port, request := rx.request } } } }) ∧
    (s.mgmt.save ≠ none → exec (.saveConfig rx) s = .next ((s.heard rx).answered .console rx 0x47 .busy []))) ∧
  ∀ (s : State) (readBack : Option Image), s.settled = true →
    (s.mgmt.save = none → exec (.saveCompletion readBack) s = .next s) ∧
    ∀ image p q, s.mgmt.save = some { image := image, reply := some { port := p, request := q } } →
      exec (.saveCompletion readBack) s =
        .next
          (State.reply
            { s with mgmt := { s.mgmt with save := none, lastSave := some ((readBack.map readBackGood).getD false, s.time.h) } } .console p
            { request := q, kind := 0x47, channel := 255, result := if (readBack.map readBackGood).getD false then .saved else .saveFailed
              clamped := false, contents := [] }))

/-- R201, R202: the image that SAVE_CONFIG copies from one part sets every entry of the five tables in another as it stood in the first, and is found valid.
R49, R72, R123, R149, R201: LOAD_COMPLETION with it does so with no IMAGE_ADJUSTMENTS, arms the frame timer at the rate loaded, places in service, in MAIN, each
channel to which the image gives a mode, and leaves the others out of service. R201: the entries of a valid image are taken one after another from the defaults,
each with the range and the default that the spec states; a number out of its range is clamped, an enumeration or flag out of its values leaves the default, and
each is counted in IMAGE_ADJUSTMENTS. The order and the width in which the entries of an image stand, and that a load completion brings the image with it, are
the model's choices (log 6), and so are what the length of an image counts (log 7) and a prescale as the place of its value (log 19). -/
def Obligations.LoadedImageGivesTheSavedSettings : Prop :=
  (∀ s x : State, (∀ r ∈ imageRefs, judgeValue r.kind (x.getRef r) = some (x.getRef r, false) ∨ r.kind = .absent ∧ x.getRef r = 0) →
    ((s.takeImage (some x.imageOf)).mgmt.config = .loaded ∧ ∀ r ∈ imageRefs, (s.takeImage (some x.imageOf)).getRef r = x.getRef r) ∧
    ∀ time, s.settled = true → s.loading = true → (∀ c, s.inService c = false) → (∀ c det, ((s.ch c).detState det).latched = false) →
      ∃ t, exec (.loadCompletion (some x.imageOf) time) s = .next t ∧ t.mgmt = { s.mgmt with config := .loaded } ∧ t.pending = s.pending ∧
        (∀ r ∈ imageRefs, t.getRef r = x.getRef r) ∧ t.time = { s.time with rate := x.time.rate, timer := some (time + x.time.rate.period) } ∧
        t.counter (.whole .imageAdjustments) = s.counter (.whole .imageAdjustments) ∧
        ∀ c,
          let y := t.ch c
          let d := if y.settings.delayOverride = 0 then (s.ch c).align.measurement.measured else y.settings.delayOverride
          ((x.ch c).control.mode = .outOfService → y.control.state = .outOfService ∧ y.align = (s.ch c).align ∧ y.monitor = (s.ch c).monitor) ∧
          ((x.ch c).control.mode ≠ .outOfService →
            y.control =
              { (s.ch c).control with
                mode := (x.ch c).control.mode, state := .main, pin := .none, cause := none, returnOrigin := none, guard := none, returnPosition := none
                suspended := false, awaitingRecue := false, current := none } ∧
            y.output.delivered = .main ∧ y.align.d = some d ∧ y.align.mainFloor = t.wrap ((s.time.h : Int) - d) ∧ y.align.standbyFloor = s.time.h ∧
            y.monitor.verdict = .healthy ∧ y.monitor.reference = none ∧
            ∀ det, (y.detCfg det).enabled = true → 1 ≤ (y.detCfg det).settleFrames →
              (y.detState det).phase = .settling ∧ (y.detState det).settle = (y.detCfg det).settleFrames)) ∧
  (∀ (s : State) (r : SettingRef), s.defaultSettings.getRef r = r.stated.2 ∧ r.kind = r.stated.1) ∧
  (∀ (s : State) (x : Image), imageFault (some x) = none →
    ∃ t, (imageRefs.foldl loadEntry (s.defaultSettings, x.contents)).1 = t ∧ s.takeImage (some x) = { t with mgmt := { t.mgmt with config := .loaded } }) ∧
  ∀ (s : State) (r : SettingRef) (bytes rest : List Byte), bytes.length = r.kind.width →
    let v := bigEndian bytes
    let adjusted := s.bump (.whole .imageAdjustments)
    (∀ w lo hi, r.kind = .number w lo hi → lo ≤ hi →
      loadEntry (s, bytes ++ rest) r = ((if lo ≤ v ∧ v ≤ hi then s else adjusted).putRef r (max lo (min hi v)), rest)) ∧
    (∀ n, r.kind = .enum n → loadEntry (s, bytes ++ rest) r = (if v < n then s.putRef r v else adjusted, rest)) ∧
    (r.kind = .flag → loadEntry (s, bytes ++ rest) r = (if v < 2 then s.putRef r v else adjusted, rest))

/-! ## The house timeline (Chapter 1) -/

/-- R5, R7: every position of the cycle is the position of its label, and every label that names a frame is the label of its position. -/
def Obligations.LabelsAndPositionsAgree : Prop :=
  ∀ r : Rate,
    (∀ p, p < r.cycle → ValidLabel r (positionLabel r p) ∧ labelPosition r (positionLabel r p) = p) ∧
    ∀ l, ValidLabel r l → labelPosition r l < r.cycle ∧ positionLabel r (labelPosition r l) = l

/-- R6: a label in range that names no frame is moved to ff = k for a schedule event, which is stored with NORMALISED set, and makes a REFERENCE pulse not
valid; a label in range that names a frame is converted unchanged. -/
def Obligations.LabelsThatNameNoFrame : Prop :=
  ∀ (r : Rate) (l : Label), l.hh < 24 → l.mm < 60 → l.ss < 60 → l.ff < r.n → l.day < 65536 →
    ((l.ss = 0 ∧ l.mm % 10 ≠ 0 ∧ l.ff < r.k) →
      pulsePosition r l = none ∧ labelPosition r { l with ff := r.k } < r.cycle ∧
      ∀ e m, e.label = l → carriedMaterial e = some m → 1 ≤ e.duration → e.duration ≤ r.fday →
        wellFormedEvent r e =
          .ok { id := e.id, start := labelPosition r { l with ff := r.k }, duration := e.duration, material := m
                normalised := true, headTrimmed := false, tailTrimmed := false }) ∧
    (¬(l.ss = 0 ∧ l.mm % 10 ≠ 0 ∧ l.ff < r.k) →
      pulsePosition r l = some (labelPosition r l) ∧
      ∀ e m, e.label = l → carriedMaterial e = some m → 1 ≤ e.duration → e.duration ≤ r.fday →
        wellFormedEvent r e =
          .ok { id := e.id, start := labelPosition r l, duration := e.duration, material := m
                normalised := false, headTrimmed := false, tailTrimmed := false })

/-- R9: a pulse that is not valid is counted and does nothing else; a valid one yields the position of its label; before the load no pulse is taken. -/
def Obligations.PulsesThatAreNotValid : Prop :=
  ∀ (s : State) (l : Label) (time : Nat), s.settled = true →
    (s.loading = true → exec (.referencePulse l time) s = .next s) ∧
    (s.loading = false → ¬ValidLabel s.time.rate l → exec (.referencePulse l time) s = .next (s.bump (.whole .refBadPulses))) ∧
    (ValidLabel s.time.rate l → pulsePosition s.time.rate l = some (labelPosition s.time.rate l))

/-- R10: a valid pulse in LOCKED that is no matched late pulse makes a PULSE boundary: with the difference 0 to H + 1, with +1 to H + 2, with −1 to H, and with
any other to H + 1 in REF_MISMATCH, counted and reported. That the report is raised before the boundary is delivered is the model's choice (log 14). -/
def Obligations.PulseInLocked : Prop :=
  ∀ (s : State) (l : Label) (time : Nat), Running s → ValidLabel s.time.rate l → s.time.lock = .locked → s.time.realignPending = false →
    ¬(s.latePulse time = true ∧ labelPosition s.time.rate l = s.time.h) →
    let δ := s.signed (labelPosition s.time.rate l) (s.wrap (s.time.h + 1 : Nat))
    let made (new : Nat) (lock : LockState) (period : Nat) : State :=
      { s with
        time :=
          { h := new, rate := s.time.rate, lock := lock, realignPending := false, absence := 0, lastDifference := some δ
            timer := some (time + period), boundaryKind := some .pulse, boundaryTime := time } }
    let one := s.wrap (s.time.h + 1 : Nat)
    let long := s.time.rate.period + s.time.rate.period / 4
    (δ = 0 → exec (.referencePulse l time) s = .next ((made one .locked long).takeBoundary s.time.h false)) ∧
    (δ = 1 →
      exec (.referencePulse l time) s =
        .next (((made (s.wrap (s.time.h + 2 : Nat)) .locked long).bump (.whole .refAdjusts)).takeBoundary s.time.h false)) ∧
    (δ = -1 → exec (.referencePulse l time) s = .next (((made s.time.h .locked long).bump (.whole .refAdjusts)).takeBoundary s.time.h false)) ∧
    (δ ≠ 0 → δ ≠ 1 → δ ≠ -1 →
      exec (.referencePulse l time) s =
        .next
          ((((made one .refMismatch s.time.rate.period).bump (.whole .refMismatches)).raise
            (.reference .locked .refMismatch one (some δ))).takeBoundary s.time.h false))

/-- R11: a late pulse whose position is H, in LOCKED or REF_LOST with no realignment pending, makes no boundary: the part is LOCKED, and the timer runs from it.
R12, R13: a valid pulse in REF_LOST that is no matched late pulse locks with the difference 0, +1 or −1 and is a mismatch otherwise; in REF_MISMATCH the
difference is recorded and nothing else follows. That the report is raised before the boundary is delivered is the model's choice (log 14). -/
def Obligations.LatePulsesAndReturningReference : Prop :=
  (∀ (s : State) (l : Label) (time : Nat), Running s → ValidLabel s.time.rate l → (s.time.lock = .locked ∨ s.time.lock = .refLost) →
    s.time.realignPending = false → s.time.boundaryKind = some .timer → s.time.boundaryTime ≤ time →
    4 * (time - s.time.boundaryTime) < s.time.rate.period → labelPosition s.time.rate l = s.time.h →
    let t : State :=
      { s with
        time :=
          { s.time with
            lock := .locked, absence := 0, lastDifference := some 0, timer := some (time + (s.time.rate.period + s.time.rate.period / 4)) } }
    exec (.referencePulse l time) s =
      .next (if s.time.lock = .locked then t else t.raise (.reference .refLost .locked s.time.h (some 0)))) ∧
  (∀ (s : State) (l : Label) (time : Nat), Running s → ValidLabel s.time.rate l → s.time.realignPending = false →
    let δ := s.signed (labelPosition s.time.rate l) (s.wrap (s.time.h + 1 : Nat))
    let made (new : Nat) : State :=
      { s with
        time :=
          { h := new, rate := s.time.rate, lock := .locked, realignPending := false, absence := 0, lastDifference := some δ
            timer := some (time + (s.time.rate.period + s.time.rate.period / 4)), boundaryKind := some .pulse, boundaryTime := time } }
    (s.time.lock = .refLost → ¬(s.latePulse time = true ∧ labelPosition s.time.rate l = s.time.h) →
      (δ = 0 →
        exec (.referencePulse l time) s =
          .next (((made (s.wrap (s.time.h + 1 : Nat))).raise
            (.reference .refLost .locked (s.wrap (s.time.h + 1 : Nat)) (some δ))).takeBoundary s.time.h false)) ∧
      (δ = 1 →
        exec (.referencePulse l time) s =
          .next ((((made (s.wrap (s.time.h + 2 : Nat))).bump (.whole .refAdjusts)).raise
            (.reference .refLost .locked (s.wrap (s.time.h + 2 : Nat)) (some δ))).takeBoundary s.time.h false)) ∧
      (δ = -1 →
        exec (.referencePulse l time) s =
          .next ((((made s.time.h).bump (.whole .refAdjusts)).raise (.reference .refLost .locked s.time.h (some δ))).takeBoundary s.time.h false)) ∧
      (δ ≠ 0 → δ ≠ 1 → δ ≠ -1 →
        exec (.referencePulse l time) s =
          .next ((({ s with time := { s.time with lock := .refMismatch, absence := 0, lastDifference := some δ } } : State).bump
            (.whole .refMismatches)).raise (.reference .refLost .refMismatch s.time.h (some δ))))) ∧
    (s.time.lock = .refMismatch →
      exec (.referencePulse l time) s =
        .next { s with time := { s.time with absence := 0, lastDifference := some δ } }))

/-- R14: REALIGN is refused with REF_LOCKED in LOCKED; in every other lock state the realign-pending flag is set and the REPLY reports acceptance. -/
def Obligations.RealignSetsTheFlag : Prop :=
  ∀ (s : State) (rx : ControlRx), Whole s .console rx →
    exec (.realign rx) s =
      .next
        (if s.time.lock = .locked then (s.heard rx).answered .console rx 0x38 .refLocked []
         else ({ s.heard rx with time := { s.time with realignPending := true } } : State).answered .console rx 0x38 .accepted [])

/-- R15: with a realignment pending, or in UNREFERENCED, a valid pulse locks the part: as the pulse of the TIMER boundary just made, by a PULSE boundary to H +
1, or by a REALIGNED boundary to its own position. That the report is raised before the boundary is delivered is the model's choice (log 14). -/
def Obligations.PulseEndsFreeRunning : Prop :=
  ∀ (s : State) (l : Label) (time : Nat), Running s → ValidLabel s.time.rate l → s.time.lock ≠ .locked →
    (s.time.realignPending = true ∨ s.time.lock = .unreferenced) →
    let p := labelPosition s.time.rate l
    let δ := s.signed p (s.wrap (s.time.h + 1 : Nat))
    let locked (u : State) (new : Nat) (kind : Option BoundaryKind) (at_ : Nat) : State :=
      State.raise
        { u with
          time :=
            { h := new, rate := s.time.rate, lock := .locked, realignPending := false, absence := 0, lastDifference := some δ
              timer := some (time + (s.time.rate.period + s.time.rate.period / 4)), boundaryKind := kind, boundaryTime := at_ } }
        (.reference s.time.lock .locked new (some δ))
    (s.latePulse time = true ∧ p = s.time.h →
      exec (.referencePulse l time) s = .next (locked s s.time.h s.time.boundaryKind s.time.boundaryTime)) ∧
    (¬(s.latePulse time = true ∧ p = s.time.h) → p = s.wrap (s.time.h + 1 : Nat) →
      exec (.referencePulse l time) s = .next ((locked s p (some .pulse) time).takeBoundary s.time.h false)) ∧
    (¬(s.latePulse time = true ∧ p = s.time.h) → p ≠ s.wrap (s.time.h + 1 : Nat) →
      exec (.referencePulse l time) s =
        .next ((locked (s.bump (.whole .realignments)) p (some .realigned) time).takeBoundary s.time.h true))

/-- R8: the frame timer's expiry makes a TIMER boundary to H + 1 and raises the absence count to at most 2; in LOCKED it is a coast, and at an absence count of
2 in LOCKED or REF_MISMATCH the part is REF_LOST. The model's choices: while the timer does not run an expiry changes nothing (log 3), and the report is raised
before the boundary is delivered (log 14). -/
def Obligations.FrameTimerMakesABoundary : Prop :=
  ∀ s : State, s.settled = true →
    (s.time.timer = none → exec .frameTimerExpiry s = .next s) ∧
    ∀ at_, s.time.timer = some at_ →
      let absence := min (s.time.absence + 1) 2
      let lost := (s.time.lock = .locked ∨ s.time.lock = .refMismatch) ∧ absence = 2
      let h1 := s.wrap (s.time.h + 1 : Nat)
      let lock := if lost then LockState.refLost else s.time.lock
      let a : State :=
        { s with
          time :=
            { s.time with
              h := h1, lock := lock, absence := absence, timer := some (at_ + s.time.rate.period)
              boundaryKind := some .timer, boundaryTime := at_ } }
      let b := if s.time.lock = .locked then a.bump (.whole .coastedBoundaries) else a
      let t := if lost then (b.bump (.whole .refLosses)).raise (.reference s.time.lock .refLost h1 s.time.lastDifference) else b
      exec .frameTimerExpiry s = .next (t.takeBoundary s.time.h false)

/-- R1, R25: what the blocks take of a boundary leaves the Timeline Unit, the settings, the link states, the tables' windows, the queue and every port's counters
as they were, counts the paths, and touches a channel out of service in its schedule alone. R81, R111, R112, R132, R133: it counts the keepalive timer, the
snapshot and resync timers and each return guard, and leaves due what has reached its period, its length or its return position. R113: it retires from the live and
the shadow list the events at their head that end at or before the edge. R114: at the cycle end it clears every list to EMPTY and sends RESYNC. R44, R45,
R47, R51, R53: of the channels in service, in increasing number, each takes its standby release, then with no retime due its main release, from H − d − 1 at a REALIGNED
boundary; a retime due applies first at such a boundary and is left due at another. R62, R132, R169, R174: then its guard counts, its cues are realigned at a REALIGNED
boundary, the cue and controller steps are left due, and once no retime, cue or controller step of it is due its frame is assembled and the judgement of the release is
taken, once each. The model's choices: what falls due is left to rows of its own, and the order of the blocks and of the channels (log 2), the timers do not count
at a cycle end (log 27), and retirement uses the old d (log 35). -/
def Obligations.BoundaryLeaves : Prop :=
  (∀ (s : State) (prev : Nat) (realigned : Bool), ∃ t, s.takeBoundary prev realigned = t ∧
    t.time = s.time ∧ t.settings = s.settings ∧ t.ports.links = s.ports.links ∧ t.mgmt.quiet = s.mgmt.quiet ∧ t.pending = s.pending ∧
    s.outbox <+: t.outbox ∧ { t.site with elapsed := s.site.elapsed } = s.site ∧ (∀ p k, t.counter (.port p k) = s.counter (.port p k)) ∧
    (∀ side, (t.path side).up = (s.path side).up ∧ (t.path side).traffic = false ∧
      (t.path side).silence = (if (s.path side).traffic then 0 else min ((s.path side).silence + 1) 250) ∧
      (t.path side).run = (if (s.path side).traffic then min ((s.path side).run + 1) 250 else 0)) ∧
    ∀ c, (t.ch c).settings = (s.ch c).settings ∧ (t.ch c).control.mode = (s.ch c).control.mode ∧ (t.ch c).control.pin = (s.ch c).control.pin ∧
      (t.ch c).control.owner = (s.ch c).control.owner ∧ (t.ch c).align.measurement = (s.ch c).align.measurement ∧
      (s.inService c = false → cycleEndMark s.time.rate prev s.time.h = false →
        { t.ch c with schedule := (s.ch c).schedule, work := (s.ch c).work } = s.ch c)) ∧
  (∀ (s : State) (prev : Nat) (realigned : Bool), ∃ t, s.takeBoundary prev realigned = t ∧
    (∀ side, t.pathDue side =
      (if (s.path side).traffic then !(s.path side).up && decide (s.settings.pathRestore ≤ min ((s.path side).run + 1) 250)
       else (s.path side).up && decide (s.settings.pathTimeout ≤ min ((s.path side).silence + 1) 250))) ∧
    (s.site.timerRunning = true →
      t.site.elapsed = s.site.elapsed + 1 ∧
        t.work.keepalive = decide (s.settings.keepaliveCount * 2 ^ s.settings.keepalivePrescale.val ≤ s.site.elapsed + 1)) ∧
    (s.site.timerRunning = false → t.site.elapsed = s.site.elapsed ∧ t.work.keepalive = false) ∧
    t.work.report = true ∧ t.work.warmEnd = s.mgmt.restarting.isSome ∧
    ∀ c, s.inService c = true → s.retimeDue c = false →
      (∀ n, (s.ch c).control.state = .returnGuard → (s.ch c).control.guard = some n →
        let m := min (n + 1) 65535
        (t.ch c).work.control = decide ((s.ch c).settings.guardLength ≤ m) ∧
          ((s.ch c).settings.guardLength ≤ m ∨ (t.ch c).monitor.verdict = (s.ch c).monitor.verdict → (t.ch c).control.guard = some m)) ∧
      (∀ p, (s.ch c).control.state = .returning → (s.ch c).control.returnPosition = some p →
        (t.ch c).work.control = (realigned || decide (s.signed p s.time.h ≤ 0)))) ∧
  (∀ (s : State) (prev : Nat) (realigned : Bool), ∃ t, s.takeBoundary prev realigned = t ∧ ∀ c,
    let x := (s.ch c).schedule
    let y := (t.ch c).schedule
    let past (e : Event) : Bool := decide ((e.start + e.duration : Int) ≤ (s.time.h : Int) - (if s.inService c then s.delay c else 15))
    let snapshot := s.settings.snapshotCount * 2 ^ s.settings.snapshotPrescale.val
    let resync := s.settings.resyncCount * 2 ^ s.settings.resyncPrescale.val
    let kept (l : List Event) : Nat := (l.dropWhile past).length
    (cycleEndMark s.time.rate prev s.time.h = false →
      y.state = x.state ∧ y.expected = x.expected ∧ y.live = x.live.map (fun l => l.dropWhile past) ∧
      y.shadow = x.shadow.map (fun z => { z with events := z.events.dropWhile past }) ∧
      t.counter (.chan c .eventsRetired) =
        min (s.counter (.chan c .eventsRetired) +
          (((x.live.getD []).length - kept (x.live.getD [])) +
            (((x.shadow.map Shadow.events).getD []).length - kept ((x.shadow.map Shadow.events).getD [])))) 4294967295 ∧
      y.snapshotTimer = x.snapshotTimer.map (· + 1) ∧ y.resyncTimer = x.resyncTimer.map (· + 1) ∧
      (t.ch c).work.snapshot = (match x.snapshotTimer with | some n => decide (snapshot ≤ n + 1) | none => false) ∧
      (t.ch c).work.resync = (match x.resyncTimer with | some n => decide (resync ≤ n + 1) | none => false)) ∧
    (cycleEndMark s.time.rate prev s.time.h = true →
      y = { live := none, shadow := none, state := .empty, expected := x.expected, snapshotTimer := none, resyncTimer := some 0 } ∧
      ∀ side, ∃ z ∈ t.outbox, z.port = .contribution side ∧ z.stamp = s.time.h ∧ z.what = .resync c x.expected .empty)) ∧
  (∀ (s : State) (prev : Nat) (realigned : Bool), ∃ u : Nat → State,
    u 0 =
      (State.countKeepalive (State.takePathsBoundary
        { s with
          work :=
            { slates := s.slates.map Slate.state, pathA := false, pathB := false, keepalive := false, warmEnd := false
              report := false } })).takeScheduleBoundary (cycleEndMark s.time.rate prev s.time.h) ∧
    s.takeBoundary prev realigned = { u 16 with work := { (u 16).work with warmEnd := s.mgmt.restarting.isSome, report := true } } ∧
    ∀ c : Chan,
      let v := u c.val
      let w := u (c.val + 1)
      let t := v.takeStandbyBoundary c realigned
      let follow (a : State) : State := (a.takeMainBoundary c).1.afterRelease c (a.takeMainBoundary c).2 realigned
      let rebased (a : State) : State := a.modAlign c fun x => { x with mainFloor := a.wrap ((a.time.h : Int) - a.delay c - 1) }
      v.time = s.time ∧
      (cycleEndMark s.time.rate prev s.time.h = false →
        { v.ch c with
          schedule := (s.ch c).schedule
          work := { (v.ch c).work with snapshot := (s.ch c).work.snapshot, resync := (s.ch c).work.resync } } = s.ch c) ∧
      (v.inService c = false → w = v) ∧
      (v.inService c = true →
        ((t.ch c).align.retime = none → w = follow (if realigned then rebased t else t)) ∧
        ∀ r, (t.ch c).align.retime = some r →
          (0 < s.signed r.target s.time.h → w = follow (if realigned then rebased t else t)) ∧
          (s.signed r.target s.time.h ≤ 0 →
            w =
              (if realigned then follow (rebased ((t.modAlign c fun x => { x with d := some r.value, retime := none }).bump (.chan c .retimes)))
               else t.modWork c fun y => { y with retime := true })))) ∧
  ∀ (s : State) (c : Chan) (j : Option Judgement) (realigned : Bool),
    (let counted : State :=
      if (s.ch c).control.state = .returnGuard then s.modControl c fun y => { y with guard := y.guard.map fun n => min (n + 1) 65535 } else s
    let a := if realigned then counted.realignCues c else counted
    let x := (a.ch c).control
    let cue : Bool := !realigned && (a.cueStep c).isSome
    let control : Bool := match x.state, x.guard, x.returnPosition with
      | .returnGuard, some n, _ => (a.ch c).settings.guardLength ≤ n
      | .returning, _, some p => realigned || a.signed p a.time.h ≤ 0
      | _, _, _ => false
    s.afterRelease c j realigned = (a.modWork c fun w => { w with cue := cue, control := control, frame := true, judgement := j }).finishChannel c) ∧
    let w := (s.ch c).work
    let sent := (s.modWork c fun w => { w with frame := false, judgement := none }).assemble c
    (w.frame = true → w.retime = false → w.cue = false → w.control = false →
      (w.judgement = none → s.finishChannel c = sent) ∧ ∀ k, w.judgement = some k → s.finishChannel c = sent.judge c k) ∧
    (w.frame = false ∨ w.retime = true ∨ w.cue = true ∨ w.control = true → s.finishChannel c = s)

/-! ## Ports, carriers and frames (Chapters 2, 3 and 11) -/

/-- R24: a link change is counted and shown; the link state already held changes nothing. R25, R83 to R85: a path whose change is due goes DOWN or UP, counted,
its view delivered; in STARTING the first path to come UP ends STARTING, in LOST nothing is evaluated, and otherwise the site state follows Table 5-2. A
change that is not due changes nothing (log 3). -/
def Obligations.LinksAndPaths : Prop :=
  (∀ (s : State) (p : Port) (up : Bool), s.settled = true →
    (s.linkUp p = up → exec (.linkChange p up) s = .next s) ∧
    (s.linkUp p ≠ up → ∃ t, exec (.linkChange p up) s = .next t ∧ t.linkUp p = up ∧ (∀ q, q ≠ p → t.linkUp q = s.linkUp q) ∧
      t.counter (.port p .linkChanges) = min (s.counter (.port p .linkChanges) + 1) 4294967295 ∧
      (∀ key, key ≠ .port p .linkChanges → t.counter key = s.counter key) ∧
      ({ t with ports := { t.ports with links := s.ports.links }, counters := s.counters } : State) = s)) ∧
  (∀ (s : State) (side : Side) (up : Bool),
    let i := if up then Instr.pathUp side else Instr.pathDown side
    let a := match side with
      | .a => up
      | .b => s.site.viewA
    let b := match side with
      | .a => s.site.viewB
      | .b => up
    let view : Site := { s.site with viewA := a, viewB := b }
    let new := siteTable a b s.site.automation
    let t : State := ((s.clearPathDue side).modPath side fun x => { x with up := up }).bump (.path side (if up then .ups else .downs))
    let quiet := s.site.state = .lost ∨ (s.site.state = .starting ∧ up = false) ∨ new = s.site.state
    (s.pathDue side = false ∨ (s.path side).up = up → exec i s = .next s) ∧
    (s.pathDue side = true → (s.path side).up = !up →
      (quiet → exec i s = .next { t with site := view }) ∧
      (¬quiet → new ≠ .lost →
        exec i s =
          .next (({ t with site := { view with state := new } } : State).raise (.site s.site.state new s.time.h .path a b s.site.automation))) ∧
      (¬quiet → new = .lost →
        ∃ u, exec i s = .next u ∧ u.site = { view with state := .lost, loss := some { cause := .conditions, position := s.time.h, left := s.site.state } } ∧
          ∀ c, (u.ch c).control.owner = .localSite)))

/-- R20, R21, R207: the checks of a received Ethernet frame in their order: the first that fails decides the one counter in which the frame is counted. BAD_FIELD
takes a kind that is not known, a payload shorter than its length field or longer than 1,408 bytes, a stamp at or above C, a fragment index or count out of its
range, and a channel out of the range of its kind and port. That the same checks judge a payload shorter than the header, its fields read from the bytes that there
are, is the model's choice (log 58). -/
def Obligations.FramesThatAreDropped : Prop :=
  ∀ (s : State) (p : Port) (f : EthFrame) (time : Nat), Running s →
    let counted : State := s.bump (.port p .carriersIn)
    let drop (k : PortCtr) : Prop := exec (.ethernetFrame p f time) s = .next (s.bump (.port p k))
    let discard (k : PortCtr) : Prop := exec (.ethernetFrame p f time) s = .next (counted.bump (.port p k))
    let carriage := f.checkOk = true ∧ f.etherType = 0x88B5
    let checked := carriage ∧ headerSum f.payload = field f.payload 16 2
    ((∃ side, p = .output side) → drop .ignored) ∧
    ((∀ side, p ≠ .output side) →
      (f.checkOk = false → drop .fcsErrors) ∧
      (f.checkOk = true → f.etherType ≠ 0x88B5 → drop .notCarriage) ∧
      (carriage → headerSum f.payload ≠ field f.payload 16 2 → discard .badCheck) ∧
      (checked → field f.payload 0 1 ≠ 1 → discard .badVersion) ∧
      (checked → field f.payload 0 1 = 1 →
        let kind := field f.payload 1 1
        let channel := field f.payload 2 1
        let index := field f.payload 10 2
        let count := field f.payload 12 2
        (kind = 0 ∨ 4 < kind ∨ f.payload.length < 18 + field f.payload 14 2 ∨ 1408 < field f.payload 14 2 ∨ s.cycle ≤ field f.payload 4 6 ∨ count ≤ index ∨
            (kind = 1 ∧ 1024 < count) ∨ (kind = 2 ∧ 64 < count) ∨ (3 ≤ kind ∧ (index ≠ 0 ∨ count ≠ 1)) ∨
            (kind ≤ 3 ∧ (∃ side, p = .contribution side) ∧ 16 ≤ channel) ∨ (kind ≤ 3 ∧ (∃ n, p = .standby n) ∧ 32 ≤ channel) ∨
            (kind = 4 ∧ 16 ≤ channel ∧ channel ≠ 255)) →
          discard .badField))

/-- R20 to R22, R207 to R210: the bytes that spell a control command, in an Ethernet frame with any flags and any padding, do on an inbound port what the
command does; and so do the same bytes under BAD_COMMAND and MISDIRECTED_CONTROL (log 39: the model's choice). Table 11-5, R200: a SELECT carries its
channels as a set, channel c in bit c, and does what the command with those channels does. The codes by which PIN names MAIN and STANDBY and SET_SERVICE names OUT
are the model's reading (log 34). -/
def Obligations.ControlFramesDoWhatTheySpell : Prop :=
  (∀ (s : State) (i : Instr) (rx : ControlRx) (code : Nat) (body padding : List Byte) (flags time : Nat),
    controlForm i = some (rx, code, body) → i.wf = true → sentAt i time → (∀ side, rx.port ≠ .output side) →
    let payload := controlPayload rx code body
    ∃ t, exec i s = .next t ∧
      exec (.ethernetFrame rx.port (carriageFrame (carrierBytes 4 rx.channel flags rx.stamp 0 1 payload) padding) time) s = .next t ∧
      exec (.badCommand { port := rx.port, stamp := rx.stamp, channel := rx.channel, payload := payload, time := time }) s = .next t ∧
      exec (.misdirectedControl { port := rx.port, stamp := rx.stamp, channel := rx.channel, payload := payload, time := time }) s = .next t) ∧
  (∀ (s : State) (rx : ControlRx) (mask : BitVec 16) (padding : List Byte) (flags time : Nat),
    rx.wf = true → (∀ side, rx.port ≠ .output side) →
    ∃ t, exec (.select rx (channelSet mask)) s = .next t ∧
      exec
          (.ethernetFrame rx.port
            (carriageFrame (carrierBytes 4 rx.channel flags rx.stamp 0 1 (controlPayload rx 0x40 (toBytes 2 mask.toNat))) padding) time) s =
        .next t)

/-- R20, R21, R207, R208: the bytes of a media carrier, with any flags and padding, do on a contribution or a standby port what the carrier does. -/
def Obligations.MediaFramesDoWhatTheySpell : Prop :=
  ∀ (s : State) (m : Media) (padding : List Byte) (flags time : Nat), m.wf = true →
    let code := match m.kind with
      | .video => 1
      | .audio => 2
      | .summary => 3
    let frame := carriageFrame (carrierBytes code m.channel flags m.stamp m.fragIndex m.fragCount m.payload) padding
    (∀ side, ∃ t, exec (.mainMediaCarrier side m) s = .next t ∧ exec (.ethernetFrame (.contribution side) frame time) s = .next t) ∧
    ∀ n, ∃ t, exec (.standbyMediaCarrier n m) s = .next t ∧ exec (.ethernetFrame (.standby n) frame time) s = .next t

/-- R178, R207, R208, Table 11-1, Table 11-2: every carrier the part sends has a header check that sums, names version 1, its stamp and its own payload
length, and a SUMMARY payload whose fields are in range reads back as it was. -/
def Obligations.SentCarriersAreWellFormed : Prop :=
  (∀ (x : Outgoing) (stamp : Nat) (bytes : List Byte), bytes ∈ x.carriersAt stamp →
    18 ≤ bytes.length ∧ headerSum bytes = field bytes 16 2 ∧ field bytes 0 1 = 1 ∧ field bytes 4 6 = (match x with | .frame f => f.stamp | _ => stamp) % 256 ^ 6 ∧
      field bytes 14 2 = (bytes.length - 18) % 65536) ∧
  ∀ x : Summary, 1 ≤ x.vc → x.vc ≤ 1024 → x.ac ≤ 64 → x.luma ≤ 1023 → x.peaks.length ≤ 8 → (∀ p ∈ x.peaks, p ≤ 32767) → parseSummary x.bytes = some x

/-- R23, R28, R35: a media carrier on a contribution port: out of range, for a channel out of service, LATE with no tracker for its stamp, or EARLY, it is
counted and discarded, and when in range the path has its traffic flag. R29 to R33, R36, R38, R43: on either path, a carrier of any kind in the window opens a
FREE slot or reclaims one that holds another stamp; with no unit free, the held frame of the path off air is given up first. In a FILLING slot of its stamp it
is a duplicate, makes the slot CORRUPT by its count or as a bad SUMMARY, or is stored; with the SUMMARY and every piece stored the slot is COMPLETE, on the
main path with its signature and a lateness sample handed over, on the standby path with neither. A COMPLETE slot takes duplicates, bad SUMMARYs and discards,
and a CORRUPT one discards. The model's choices: a bad SUMMARY leaves a COMPLETE slot of the standby path as it stands and is counted in
STANDBY_CORRUPT_FRAMES alone where it makes a FILLING one CORRUPT (log 25), and the window, the completion position and the sample use the H that the part
holds, also where no boundary has carried it yet (log 57). -/
def Obligations.MainCarriersAndSlots : Prop :=
  (∀ (s : State) (side : Side) (m : Media) (c : Chan), Running s → m.channel = c.val →
    let p := Port.contribution side
    let t := s.signed m.stamp ((s.time.h : Int) - s.delay c)
    (¬InRange s m 16 → exec (.mainMediaCarrier side m) s = .next ((s.bump (.port p .carriersIn)).bump (.port p .badField))) ∧
    (InRange s m 16 →
      (s.inService c = false → exec (.mainMediaCarrier side m) s = .next ((s.arrived p).bump (.port p .outOfService))) ∧
      (s.inService c = true →
        (16 < t → exec (.mainMediaCarrier side m) s = .next ((s.arrived p).bump (.port p .early))) ∧
        (t ≤ 0 → (∀ k, (s.ch c).slots.tracker = some k → k.stamp ≠ m.stamp) →
          exec (.mainMediaCarrier side m) s = .next ((s.arrived p).bump (.port p .late)))))) ∧
  (∀ (s : State) (c : Chan) (path : SourcePath) (p : Port) (m : Media) (i : Instr), Placed s c path p m i →
    let t := s.arrived p
    let slot := (s.ch c).slots.at path m.stamp
    let put (u : State) (x : Slot) : State := u.modSlots c fun y => y.put path m.stamp x
    let piece : Piece := { index := m.fragIndex, payload := m.payload }
    let bad := m.kind = .summary ∧ parseSummary m.payload = none
    let corrupted (u : State) : State := match path with
      | .main => (if bad then u.bump (.chan c .badSummaries) else u).bump (.chan c .corruptFrames)
      | .standby => u.bump (.chan c .standbyCorruptFrames)
    let opened : Slot := match m.kind with
      | .video => .filling { stamp := m.stamp, vc := some m.fragCount, ac := none, video := [piece], audio := [], summary := none }
      | .audio => .filling { stamp := m.stamp, vc := none, ac := some m.fragCount, video := [], audio := [piece], summary := none }
      | .summary =>
        match parseSummary m.payload with
        | some x => .filling { stamp := m.stamp, vc := some x.vc, ac := some x.ac, video := [], audio := [], summary := some x }
        | none => .corrupt m.stamp
    let judged (u : State) : State := if bad then corrupted u else u
    (slot = .free → exec i s = .next (judged
      ((put (if (s.ch c).align.freeUnits = 0 then t.evictHeld c else t) opened).modAlign c fun x => { x with freeUnits := x.freeUnits - 1 }))) ∧
    (∀ q, slot.stamp = some q → q ≠ m.stamp → exec i s = .next (judged ((put t opened).bump (.chan c .staleReclaims)))) ∧
    (∀ r : Collect, slot = .filling r → r.stamp = m.stamp →
      let held := match m.kind with
        | .video => m.fragIndex ∈ r.video.map Piece.index
        | .audio => m.fragIndex ∈ r.audio.map Piece.index
        | .summary => r.summary ≠ none
      let agrees := match m.kind with
        | .video => r.vc = none ∨ r.vc = some m.fragCount
        | .audio => r.ac = none ∨ r.ac = some m.fragCount
        | .summary => ∀ x, parseSummary m.payload = some x → (r.vc = none ∨ r.vc = some x.vc) ∧ (r.ac = none ∨ r.ac = some x.ac)
      let q : Collect := match m.kind with
        | .video => { r with vc := some m.fragCount, video := insertPiece piece r.video }
        | .audio => { r with ac := some m.fragCount, audio := insertPiece piece r.audio }
        | .summary =>
          { r with
            vc := (parseSummary m.payload).map Summary.vc, ac := (parseSummary m.payload).map Summary.ac, summary := parseSummary m.payload }
      let whole := ∃ v a, q.vc = some v ∧ q.ac = some a ∧ (∀ n, n < v → n ∈ q.video.map Piece.index) ∧ ∀ n, n < a → n ∈ q.audio.map Piece.index
      (held → exec i s = .next (t.bump (.port p .duplicates))) ∧
      (¬held → bad ∨ ¬agrees → exec i s = .next (corrupted (put t (.corrupt m.stamp)))) ∧
      (¬held → ¬bad → agrees →
        (¬(q.summary ≠ none ∧ whole) → exec i s = .next (put t (.filling q))) ∧
        ∀ x, q.summary = some x → whole →
          let frame (signature : Option (BitVec 32)) : Slot :=
            .complete { stamp := m.stamp, summary := x, video := q.video.map Piece.payload, audio := q.audio.map Piece.payload, signature := signature } s.time.h
          exec i s = .next (match path with
            | .main => (put t (frame (some (crc32 (q.video.map Piece.payload).flatten)))).takeSample c (s.signed s.time.h m.stamp)
            | .standby => put t (frame none)))) ∧
    (slot = .corrupt m.stamp → exec i s = .next (t.bump (.chan c .corruptDiscards))) ∧
    ∀ f h, slot = .complete f h → f.stamp = m.stamp →
      let pieces := match m.kind with
        | .video => f.video.length
        | .audio => f.audio.length
        | .summary => 1
      exec i s =
        .next
          (if bad then t.bump (.chan c .badSummaries)
           else if m.fragIndex < pieces then t.bump (.port p .duplicates)
           else t.bump (.chan c .corruptDiscards))) ∧
  ∀ (s : State) (c : Chan),
    let main := (s.ch c).control.state = .standby ∨ (s.ch c).control.state = .returnGuard ∨ (s.ch c).control.state = .returning
    let x := (s.ch c).align
    let t := s.evictHeld c
    (t.ch c).align =
        (if main then { x with mainHeld := none, freeUnits := x.freeUnits + (if x.mainHeld.isSome then 1 else 0) }
         else { x with standbyHeld := none, freeUnits := x.freeUnits + (if x.standbyHeld.isSome then 1 else 0) }) ∧
      { t.ch c with align := x } = s.ch c ∧ (∀ c', c' ≠ c → t.ch c' = s.ch c') ∧
      t.counter (.chan c .heldEvictions) = min (s.counter (.chan c .heldEvictions) + 1) 4294967295 ∧
      ∀ i : Fin 8, t.slates[i.val] =
        (match s.slates[i.val].request with
          | some r =>
            if r.chan = c ∧ r.path = (if main then .main else .standby) ∧ r.copying.isSome then
              { state := .empty, request := some { r with copying := none } }
            else s.slates[i.val]
          | none => s.slates[i.val])

/-- R37, R52: a media carrier on a standby port: the first of the five cases that applies names its counter or its channel, and outside the four stamps after
H it is counted LATE or EARLY. R29 to R33, R38: inside them it opens a FREE slot, is a duplicate, makes the slot CORRUPT, is stored, or completes the slot,
with no signature; a bad SUMMARY for a frame that is complete leaves it as it stands, and one for a FILLING slot is counted in STANDBY_CORRUPT_FRAMES alone
(log 25: the model's choice). R35: a late carrier of the stamp that a channel's late tracker holds is counted LATE and joins it: a VIDEO, AUDIO or SUMMARY
duplicate is counted, a count that disagrees, in a piece or in a SUMMARY, or a bad SUMMARY ends it with LATE_ABANDONED alone (log 25: the model's choice), a
first copy is recorded, and the last one ends it with a lateness sample. The H is that which the part holds, also where no boundary has carried it yet (log
57: the model's choice). -/
def Obligations.StandbyCarriersAreAssigned : Prop :=
  (∀ (s : State) (n : Fin 4) (m : Media), Running s → InRange s m 32 →
    let p := Port.standby n
    let t := s.bump (.port p .carriersIn)
    let entry := s.settings.servers[(m.channel / 4) % 8]
    let named (c : Chan) : Prop := s.inService c = true ∧ (s.ch c).settings.server.val = m.channel / 4 ∧ (s.ch c).settings.player.val = m.channel % 4
    (entry.mapped = false → exec (.standbyMediaCarrier n m) s = .next (t.bump (.port p .standbyUnmapped))) ∧
    (entry.mapped = true → entry.port ≠ n → exec (.standbyMediaCarrier n m) s = .next (t.bump (.port p .standbyWrongPort))) ∧
    (entry.mapped = true → entry.port = n →
      ((∀ c, ¬named c) → exec (.standbyMediaCarrier n m) s = .next (t.bump (.port p .standbyUnassigned))) ∧
      (∀ c c', c ≠ c' → named c → named c' → exec (.standbyMediaCarrier n m) s = .next (t.bump (.port p .standbyAmbiguous))) ∧
      ∀ c, named c → (∀ c', named c' → c' = c) →
        let slot := (s.ch c).slots.at .standby m.stamp
        let put (x : Slot) : State := t.modSlots c fun y => y.put .standby m.stamp x
        let piece : Piece := { index := m.fragIndex, payload := m.payload }
        let inWindow := 1 ≤ s.signed m.stamp s.time.h ∧ s.signed m.stamp s.time.h ≤ 4
        (s.signed m.stamp s.time.h ≤ 0 → exec (.standbyMediaCarrier n m) s = .next (t.bump (.chan c .standbyLate))) ∧
        (4 < s.signed m.stamp s.time.h → exec (.standbyMediaCarrier n m) s = .next (t.bump (.chan c .standbyEarly))) ∧
        (inWindow → slot = .free → 1 ≤ (s.ch c).align.freeUnits → m.kind = .video →
          exec (.standbyMediaCarrier n m) s =
            .next
              ((put (.filling { stamp := m.stamp, vc := some m.fragCount, ac := none, video := [piece], audio := [], summary := none })).modAlign c
                fun x => { x with freeUnits := x.freeUnits - 1 })) ∧
        (∀ r : Collect, inWindow → slot = .filling r → r.stamp = m.stamp →
          (m.kind = .video →
            (m.fragIndex ∈ r.video.map Piece.index → exec (.standbyMediaCarrier n m) s = .next (t.bump (.port p .duplicates))) ∧
            (m.fragIndex ∉ r.video.map Piece.index → ∀ v, r.vc = some v → v ≠ m.fragCount →
              exec (.standbyMediaCarrier n m) s = .next ((put (.corrupt m.stamp)).bump (.chan c .standbyCorruptFrames))) ∧
            (m.fragIndex ∉ r.video.map Piece.index → (r.vc = none ∨ r.vc = some m.fragCount) → r.summary = none →
              exec (.standbyMediaCarrier n m) s = .next (put (.filling { r with vc := some m.fragCount, video := insertPiece piece r.video })))) ∧
          (m.kind = .summary → r.summary = none →
            (parseSummary m.payload = none →
              exec (.standbyMediaCarrier n m) s = .next ((put (.corrupt m.stamp)).bump (.chan c .standbyCorruptFrames))) ∧
            ∀ x, parseSummary m.payload = some x → (r.vc = none ∨ r.vc = some x.vc) → (r.ac = none ∨ r.ac = some x.ac) →
              (∀ i, i < x.vc → i ∈ r.video.map Piece.index) → (∀ i, i < x.ac → i ∈ r.audio.map Piece.index) →
              exec (.standbyMediaCarrier n m) s =
                .next
                  (put
                    (.complete
                      { stamp := m.stamp, summary := x, video := r.video.map Piece.payload, audio := r.audio.map Piece.payload, signature := none }
                      s.time.h)))) ∧
        (∀ f h, inWindow → slot = .complete f h → f.stamp = m.stamp → m.kind = .summary →
          exec (.standbyMediaCarrier n m) s =
            .next (if parseSummary m.payload = none then t.bump (.chan c .badSummaries) else t.bump (.port p .duplicates))) ∧
        (inWindow → slot = .corrupt m.stamp → exec (.standbyMediaCarrier n m) s = .next (t.bump (.chan c .corruptDiscards))))) ∧
  ∀ (s : State) (side : Side) (m : Media) (c : Chan) (k : Tracker), Running s → m.channel = c.val → InRange s m 16 → s.inService c = true →
    s.signed m.stamp ((s.time.h : Int) - s.delay c) ≤ 0 → (s.ch c).slots.tracker = some k → k.stamp = m.stamp →
    let p := Port.contribution side
    let t := (s.arrived p).bump (.port p .late)
    let track (x : Option Tracker) : State := t.modSlots c fun y => { y with tracker := x }
    let abandoned : State := (track none).bump (.chan c .lateAbandoned)
    let completed : State := ((track none).takeSample c (s.signed s.time.h m.stamp)).bump (.chan c .lateCompletions)
    let every (n : Nat) (got : List Nat) : Prop := ∀ i, i < n → i ∈ got
    (m.kind = .video →
      (m.fragIndex ∈ k.video → exec (.mainMediaCarrier side m) s = .next (t.bump (.port p .duplicates))) ∧
      (m.fragIndex ∉ k.video → ∀ v, k.vc = some v → v ≠ m.fragCount → exec (.mainMediaCarrier side m) s = .next abandoned) ∧
      (m.fragIndex ∉ k.video → (k.vc = none ∨ k.vc = some m.fragCount) →
        let last := k.summary = true ∧ every m.fragCount (m.fragIndex :: k.video) ∧ ∃ a, k.ac = some a ∧ every a k.audio
        (last → exec (.mainMediaCarrier side m) s = .next completed) ∧
        (¬last →
          exec (.mainMediaCarrier side m) s = .next (track (some { k with vc := some m.fragCount, video := insertNat m.fragIndex k.video }))))) ∧
    (m.kind = .audio →
      (m.fragIndex ∈ k.audio → exec (.mainMediaCarrier side m) s = .next (t.bump (.port p .duplicates))) ∧
      (m.fragIndex ∉ k.audio → ∀ a, k.ac = some a → a ≠ m.fragCount → exec (.mainMediaCarrier side m) s = .next abandoned) ∧
      (m.fragIndex ∉ k.audio → (k.ac = none ∨ k.ac = some m.fragCount) →
        let last := k.summary = true ∧ every m.fragCount (m.fragIndex :: k.audio) ∧ ∃ v, k.vc = some v ∧ every v k.video
        (last → exec (.mainMediaCarrier side m) s = .next completed) ∧
        (¬last →
          exec (.mainMediaCarrier side m) s = .next (track (some { k with ac := some m.fragCount, audio := insertNat m.fragIndex k.audio }))))) ∧
    (m.kind = .summary →
      (k.summary = true → exec (.mainMediaCarrier side m) s = .next (t.bump (.port p .duplicates))) ∧
      (k.summary = false →
        (parseSummary m.payload = none → exec (.mainMediaCarrier side m) s = .next abandoned) ∧
        ∀ x, parseSummary m.payload = some x →
          let agrees := (k.vc = none ∨ k.vc = some x.vc) ∧ (k.ac = none ∨ k.ac = some x.ac)
          let last := every x.vc k.video ∧ every x.ac k.audio
          (¬agrees → exec (.mainMediaCarrier side m) s = .next abandoned) ∧
          (agrees → last → exec (.mainMediaCarrier side m) s = .next completed) ∧
          (agrees → ¬last →
            exec (.mainMediaCarrier side m) s = .next (track (some { k with vc := some x.vc, ac := some x.ac, summary := true })))))

/-- R48: a sample taken below count 255 raises the count by one, and the greatest lateness is the maximum of it and the greatest so far. One taken at count 255
leaves the count and waits (log 2), and ends the measurement window: the measured delay is the greatest lateness, one and the margin, brought into 1 to 15, and
the window starts afresh. With no such sample nothing changes (log 3). R50: RETIME names a value, clamped to 1 to 15, or the measured delay; the delay already
in force clears what is pending, and any other is pending with its target. R51: a retime due at a boundary applies before the release: it is cleared, d takes
its value, RETIMES rises, and the main release follows with the new d. -/
def Obligations.DelayWindowsAndRetimes : Prop :=
  (∀ (s : State) (c : Chan) (l : Int),
    let m := (s.ch c).align.measurement
    let taken (m' : Measurement) : State := s.modAlign c fun x => { x with measurement := m' }
    let greatest : Int := match m.greatest with
      | none => l
      | some g => max g l
    let n : Int := greatest + 1 + (s.ch c).settings.delayMargin
    (m.count < 255 → s.takeSample c l = taken { m with count := m.count + 1, greatest := some greatest }) ∧
    (255 ≤ m.count →
      s.takeSample c l = taken { m with waiting := some l } ∧
      exec (.delayWindowEnd c) (s.takeSample c l) =
        .next
          ((taken
            { count := 0, greatest := none, measured := if n < 1 then 1 else if 15 < n then 15 else n.toNat, waiting := none }).bump
            (.chan c .delayWindows)))) ∧
  (∀ (s : State) (c : Chan),
    ((s.ch c).align.measurement.waiting = none → exec (.delayWindowEnd c) s = .next s) ∧
    ∀ l, (s.ch c).align.measurement.waiting = some l →
      let greatest : Int := match (s.ch c).align.measurement.greatest with
        | none => l
        | some g => max g l
      let n : Int := greatest + 1 + (s.ch c).settings.delayMargin
      exec (.delayWindowEnd c) s =
        .next
          ((s.modAlign c fun x =>
            { x with
              measurement :=
                { count := 0, greatest := none, measured := if n < 1 then 1 else if 15 < n then 15 else n.toNat, waiting := none } }).bump
            (.chan c .delayWindows))) ∧
  (∀ (s : State) (rx : ControlRx) (c : Chan) (value : Option Nat), Named s .console rx c →
    let d := s.delay c
    let new := match value with
      | none => (s.ch c).align.measurement.measured
      | some v => if v < 1 then 1 else if 15 < v then 15 else v
    let offset := if new < d then new else d
    let target := match ((s.ch c).schedule.live.getD []).find? fun e => s.time.h < e.start + offset with
      | some e => s.wrap (e.start + offset : Nat)
      | none => s.wrap (s.time.h + 1 : Nat)
    let sent (t : State) (contents : List Atom) : State :=
      t.reply .console rx.port
        { request := rx.request, kind := 0x30, channel := rx.channel, result := .accepted, clamped := value.any fun v => v < 1 || 15 < v
          contents := contents }
    (s.inService c = false → exec (.retime rx value) s = .next ((s.heard rx).answered .console rx 0x30 .outOfService [])) ∧
    (s.inService c = true → new = d → exec (.retime rx value) s = .next (sent ((s.heard rx).modAlign c fun x => { x with retime := none }) [.num 1 0])) ∧
    (s.inService c = true → new ≠ d →
      exec (.retime rx value) s =
        .next (sent ((s.heard rx).modAlign c fun x => { x with retime := some { value := new, target := target } })
          ([.num 1 1, .num 1 new] ++ labelAtoms (positionLabel s.time.rate target))))) ∧
  (∀ (s : State) (c : Chan) (r : Retime),
    ((s.ch c).work.retime = false → exec (.retimeApply c) s = .next s) ∧
    ((s.ch c).work.retime = true → (s.ch c).align.retime = some r →
      let a := ((s.modWork c fun w => { w with retime := false }).modAlign c fun x => { x with d := some r.value, retime := none }).bump (.chan c .retimes)
      let b := a.takeMainBoundary c
      exec (.retimeApply c) s = .next (b.1.afterRelease c b.2 false) ∧ (a.ch c).align.d = some r.value ∧
        a.dueStamp c = s.wrap ((s.time.h : Int) - r.value)))

/-- R27, R41, R42, R44 to R46: the main path at a boundary. A due stamp past the floor is released, the stamps between skipped and counted: complete it is
FRESH, held and judged, missing it is judged so and the held frame offered while its count allows. At or before the floor it is a repeat, with no judgement.
No slot is left outside the window, and one inside it is kept as it is. R34: a stamp released missing is given to the late tracker with what its slot
collected, or with nothing received where its slot is FREE or held by another stamp, which keeps its record while in the window; a record that the tracker
held is abandoned and counted. A CORRUPT slot of the stamp leaves the tracker. R53: the standby path releases stamp H alike, with no judgement, and from H − 1
at a REALIGNED boundary; a boundary that does not pass its floor offers the held frame again. With the channel's 21 units accounted for, a slot emptied
because it fell outside the window is counted in WINDOW_DISCARDS, on the standby path in STANDBY_DISCARDS, unless its stamp was released or skipped, and its
unit is free again, but for the one that the path's first held frame takes. -/
def Obligations.MainPathAtABoundary : Prop :=
  ∀ (s : State) (c : Chan), Inv s →
    (let q := s.dueStamp c
      let g := s.signed q (s.ch c).align.mainFloor
      let r := s.takeMainBoundary c
      let x := (s.ch c).align
      let y := (r.1.ch c).align
      let held := min (x.mainHeldCount + 1) 255
      (1 ≤ g → r.1.counter (.chan c .skippedFrames) = min (s.counter (.chan c .skippedFrames) + (g - 1).toNat) 4294967295 ∧ y.mainFloor = q) ∧
      (1 ≤ g → ∀ f n, (s.ch c).slots.at .main q = .complete f n → f.stamp = q →
        r.2 = some (.complete q f.summary f.signature) ∧ y.mainOffer = .fresh ∧ y.mainHeld = some f ∧ y.mainHeldCount = 0 ∧
          (r.1.ch c).slots.tracker = (s.ch c).slots.tracker) ∧
      (1 ≤ g → (∀ f n, (s.ch c).slots.at .main q = .complete f n → f.stamp ≠ q) →
        r.2 = some (.missing q) ∧ y.mainHeld = x.mainHeld ∧ y.mainHeldCount = held ∧
          y.mainOffer = (if x.mainHeld.isSome ∧ held ≤ (s.ch c).settings.mainHoldLimit then .held else .none) ∧
          r.1.counter (.chan c .mainMissing) = min (s.counter (.chan c .mainMissing) + 1) 4294967295) ∧
      (1 ≤ g → ∀ k, (s.ch c).slots.at .main q = .filling k → k.stamp = q →
        (r.1.ch c).slots.tracker =
          some
            { stamp := q, vc := k.vc, ac := k.ac, summary := k.summary.isSome, video := k.video.map Piece.index, audio := k.audio.map Piece.index } ∧
        r.1.counter (.chan c .lateAbandoned) =
          min (s.counter (.chan c .lateAbandoned) + (if (s.ch c).slots.tracker = none then 0 else 1)) 4294967295) ∧
      (1 ≤ g → ((s.ch c).slots.at .main q).stamp ≠ some q →
        (r.1.ch c).slots.tracker = some { stamp := q, vc := none, ac := none, summary := false, video := [], audio := [] } ∧
        r.1.counter (.chan c .lateAbandoned) =
          min (s.counter (.chan c .lateAbandoned) + (if (s.ch c).slots.tracker = none then 0 else 1)) 4294967295 ∧
        ∀ p, ((s.ch c).slots.at .main q).stamp = some p → s.inMainWindow c p = true → (r.1.ch c).slots.at .main q = (s.ch c).slots.at .main q) ∧
      (1 ≤ g → (s.ch c).slots.at .main q = .corrupt q →
        (r.1.ch c).slots.tracker = (s.ch c).slots.tracker ∧ r.1.counter (.chan c .lateAbandoned) = s.counter (.chan c .lateAbandoned)) ∧
      (g ≤ 0 →
        r.2 = none ∧ y.mainHeld = x.mainHeld ∧ y.mainHeldCount = x.mainHeldCount ∧ y.mainFloor = x.mainFloor ∧
          y.mainOffer = (if x.mainHeld.isSome then .held else .none) ∧
          r.1.counter (.chan c .repeats) = min (s.counter (.chan c .repeats) + 1) 4294967295) ∧
      (∀ (i : Fin 16) p, (r.1.ch c).slots.main[i.val].stamp = some p → s.inMainWindow c p = true) ∧
      ((r.1.ch c).slots.standby = (s.ch c).slots.standby ∧ ∀ i : Fin 16, (r.1.ch c).slots.main[i.val] =
        match (s.ch c).slots.main[i.val].stamp with
        | none => .free
        | some p => if s.inMainWindow c p = true then (s.ch c).slots.main[i.val] else .free) ∧
      (UnitInv (s.ch c) →
        let freed (lost : Nat → Bool) : Nat := (s.ch c).slots.main.toList.countP fun k => k.holds lost
        let outside (p : Nat) : Bool := !s.inMainWindow c p
        let skipped (p : Nat) : Bool := decide (0 < s.signed p x.mainFloor ∧ s.signed p x.mainFloor < g)
        r.1.counter (.chan c .windowDiscards) =
          min (s.counter (.chan c .windowDiscards) + freed fun p => outside p && (decide (g ≤ 0) || (p != q && !skipped p))) 4294967295 ∧
        y.freeUnits + (if y.mainHeld.isSome ∧ x.mainHeld = none then 1 else 0) = x.freeUnits + freed outside) ∧
      ∀ c', c' ≠ c → r.1.ch c' = s.ch c') ∧
    ∀ realigned : Bool,
      let floor := if realigned then s.wrap ((s.time.h : Int) - 1) else (s.ch c).align.standbyFloor
      let g := s.signed s.time.h floor
      let t := s.takeStandbyBoundary c realigned
      let x := (s.ch c).align
      let y := (t.ch c).align
      let held := min (x.standbyHeldCount + 1) 255
      (1 ≤ g → y.standbyFloor = s.time.h) ∧
      (1 ≤ g → ∀ f n, (s.ch c).slots.at .standby s.time.h = .complete f n → f.stamp = s.time.h →
        y.standbyOffer = .fresh ∧ y.standbyHeld = some f ∧ y.standbyHeldCount = 0 ∧
          t.counter (.chan c .standbyMissing) = s.counter (.chan c .standbyMissing)) ∧
      (1 ≤ g → (∀ f n, (s.ch c).slots.at .standby s.time.h = .complete f n → f.stamp ≠ s.time.h) →
        y.standbyHeld = x.standbyHeld ∧ y.standbyHeldCount = held ∧
          y.standbyOffer = (if x.standbyHeld.isSome ∧ held ≤ (s.ch c).settings.standbyHoldLimit then .held else .none) ∧
          t.counter (.chan c .standbyMissing) = min (s.counter (.chan c .standbyMissing) + 1) 4294967295) ∧
      (g ≤ 0 →
        y.standbyHeld = x.standbyHeld ∧ y.standbyHeldCount = x.standbyHeldCount ∧ y.standbyFloor = floor ∧
          y.standbyOffer = (if x.standbyHeld.isSome then .held else .none) ∧
          t.counter (.chan c .standbyMissing) = s.counter (.chan c .standbyMissing)) ∧
      (∀ (i : Fin 4) p, (t.ch c).slots.standby[i.val].stamp = some p → s.inStandbyWindow p = true) ∧
      ((t.ch c).slots.main = (s.ch c).slots.main ∧ ∀ i : Fin 4, (t.ch c).slots.standby[i.val] =
        match (s.ch c).slots.standby[i.val].stamp with
        | none => .free
        | some p => if s.inStandbyWindow p = true then (s.ch c).slots.standby[i.val] else .free) ∧
      (UnitInv (s.ch c) →
        let freed (lost : Nat → Bool) : Nat := (s.ch c).slots.standby.toList.countP fun k => k.holds lost
        let outside (p : Nat) : Bool := !s.inStandbyWindow p
        let skipped (p : Nat) : Bool := decide (0 < s.signed p floor ∧ s.signed p floor < g)
        t.counter (.chan c .standbyDiscards) =
          min (s.counter (.chan c .standbyDiscards) + freed fun p => outside p && (decide (g ≤ 0) || (p != s.time.h && !skipped p))) 4294967295 ∧
        y.freeUnits + (if y.standbyHeld.isSome ∧ x.standbyHeld = none then 1 else 0) = x.freeUnits + freed outside) ∧
      ∀ c', c' ≠ c → t.ch c' = s.ch c'

/-- R55, R56: CAPTURE_SLATE becomes the slate's WAITING request; a request that it replaces ends with REPLACED. A COMPLETE frame released on the request's
channel and path starts its copy, or starts it again: the request is COPYING with the H of the release and the slate CAPTURING; a boundary that releases no
COMPLETE frame there leaves the slate. The copy's end fills the slate from the held frame and ends the request with CAPTURED; with no copy under way nothing
changes (log 3). A channel that leaves service ends each request that names it with ABANDONED, in increasing slate number (log 36), and a slate whose request
was COPYING is EMPTY. -/
def Obligations.SlateCaptures : Prop :=
  (∀ (s : State) (c : Chan) (path : SourcePath) (realigned : Bool) (i : Fin 8),
    let stamp : Nat := match path with
      | .main => s.wrap ((s.time.h : Int) - s.delay c)
      | .standby => s.time.h
    let floor : Nat := match path with
      | .main => (s.ch c).align.mainFloor
      | .standby => if realigned then s.wrap ((s.time.h : Int) - 1) else (s.ch c).align.standbyFloor
    let t : State := match path with
      | .main => (s.takeMainBoundary c).1
      | .standby => s.takeStandbyBoundary c realigned
    let released := 1 ≤ s.signed stamp floor ∧ ∃ f n, (s.ch c).slots.at path stamp = .complete f n ∧ f.stamp = stamp
    (∀ r, s.slates[i.val].request = some r → r.chan = c → r.path = path → released →
      t.slates[i.val] = { state := .capturing, request := some { r with copying := some s.time.h } }) ∧
    (¬released ∨ (∀ r, s.slates[i.val].request = some r → ¬(r.chan = c ∧ r.path = path)) → t.slates[i.val] = s.slates[i.val])) ∧
  (∀ (s : State) (rx : ControlRx) (c : Chan), Named s .console rx c → s.inService c = true →
    ∃ (u : State) (cues : List Sent), exec (.setServiceOut rx) s = .next (u.acceptedFor .console rx 0x20 c) ∧
      (∀ i : Fin 8, u.slates[i.val] =
        match s.slates[i.val].request with
        | none => s.slates[i.val]
        | some r =>
          if r.chan = c then { state := if r.copying.isSome then .empty else s.slates[i.val].state, request := none } else s.slates[i.val]) ∧
      (∀ x ∈ cues, ∀ r, x.what ≠ .reply r) ∧
      u.outbox =
        s.outbox ++ cues ++
          ([0, 1, 2, 3, 4, 5, 6, 7] : List (Fin 8)).filterMap fun i =>
            match s.slates[i.val].request with
            | none => none
            | some r =>
              if r.chan = c ∧ s.linkUp r.port = true then
                some
                  { port := r.port, stamp := s.time.h, unitNumber := s.settings.unitNumber
                    what := .reply
                      { request := r.request, kind := 0x31, channel := c.val, result := .abandoned, clamped := false, contents := [] } }
              else none) ∧
  (∀ (s : State) (rx : ControlRx) (c : Chan) (slate path : Nat), Named s .console rx c →
    (8 ≤ slate ∨ 1 < path → exec (.captureSlate rx slate path) s = .next ((s.heard rx).answered .console rx 0x31 .badValue []))) ∧
  (∀ (s : State) (rx : ControlRx) (c : Chan) (i : Fin 8) (path : Nat), Named s .console rx c →
    (path ≤ 1 → s.inService c = false → exec (.captureSlate rx i.val path) s = .next ((s.heard rx).answered .console rx 0x31 .outOfService [])) ∧
    (path ≤ 1 → s.inService c = true →
      let x : Capture :=
        { chan := c, path := if path = 0 then .main else .standby, copying := none, port := rx.port, request := rx.request }
      (s.slates[i.val].request = none →
        exec (.captureSlate rx i.val path) s = .next ((s.heard rx).modSlate i fun y => { y with request := some x })) ∧
      ∀ old, s.slates[i.val].request = some old →
        exec (.captureSlate rx i.val path) s =
          .next
            ((((s.heard rx).reply .console old.port
              { request := old.request, kind := 0x31, channel := old.chan.val, result := .replaced, clamped := false, contents := [] })).modSlate i
              fun y => { state := if old.copying.isSome then .empty else y.state, request := some x }))) ∧
  ∀ (s : State) (i : Fin 8), s.settled = true →
    (s.slates[i.val].request = none → exec (.copyCompletion i) s = .next s) ∧
    ∀ r h f, s.slates[i.val].request = some r → r.copying = some h → (s.ch r.chan).align.heldOn r.path = some f →
      exec (.copyCompletion i) s =
        .next
          ((s.modSlate i fun _ =>
            { state := .filled { video := f.video, luma := f.summary.luma, chan := r.chan, path := r.path, position := h }, request := none }).reply
            .console r.port
            { request := r.request, kind := 0x31, channel := r.chan.val, result := .captured, clamped := false
              contents := [.num 1 r.chan.val, .enum (match r.path with | .main => 0 | .standby => 1), .pos h] })

/-! ## Continuity monitoring and the site (Chapters 4 and 5) -/

/-- R64, R65: from CLEAR with no run, frames classed bad assert the detector at the assert count and at none before; from ASSERTED with no run, frames classed
good clear it at the clear count and at none before; a frame of the other class takes the run back to 0 and one classed neither leaves it. R66, R67:
settling counts judgements without classing them, and when its counter is 0 it ends with the latched verdict as the phase and no edge. A settling that is
not over is left (log 3). R62, R63, Table 4-2: how each detector classes a complete and a missing frame; a judgement steps each detector once, a disabled one
not at all, then replaces the reference signature when it is complete, and then the verdict held is the one evaluated. -/
def Obligations.DetectorRunsAndSettling : Prop :=
  (∀ (cfg : DetectorSettings) (x : DetectorState), 1 ≤ cfg.assertCount → 1 ≤ cfg.clearCount →
    let run (n : Nat) (k : FrameClass) : DetectorState := (List.replicate n k).foldl (fun y k => (countFrame cfg y k).1) x
    (x.phase = .clear → x.bad = 0 →
      (∀ n, n < cfg.assertCount → run n .bad = { x with bad := n }) ∧
      run cfg.assertCount .bad = { x with phase := .asserted, latched := true, bad := 0, good := 0 } ∧
      (countFrame cfg { x with bad := cfg.assertCount - 1 } .bad).2 = some .rise) ∧
    (x.phase = .asserted → x.good = 0 →
      (∀ n, n < cfg.clearCount → run n .good = { x with good := n }) ∧
      run cfg.clearCount .good = { x with phase := .clear, latched := false, bad := 0, good := 0 } ∧
      (countFrame cfg { x with good := cfg.clearCount - 1 } .good).2 = some .fall) ∧
    (x.phase = .clear → countFrame cfg x .good = ({ x with bad := 0 }, none)) ∧ (x.phase = .asserted → countFrame cfg x .bad = ({ x with good := 0 }, none)) ∧
    countFrame cfg x .neither = (x, none)) ∧
  ((∀ (s : State) (c : Chan) (det : Detector),
    ((s.ch c).settings.detectors[(detectorIndex det).val].enabled = true ∧ ((s.ch c).detState det).phase = .settling ∧
        ((s.ch c).detState det).settle = 0 →
      exec (.settlingEnd c det) s =
        .next (s.modMonitor c fun m =>
          { m with
            detectors := vmod m.detectors (detectorIndex det) fun x => { x with phase := if x.latched then .asserted else .clear } })) ∧
    (((s.ch c).detState det).settle ≠ 0 → exec (.settlingEnd c det) s = .next s)) ∧
  (∀ (det : Detector) (cfg : DetectorSettings) (set : BitVec 8) (reference : Option (BitVec 32)) (j : Judgement) (x : DetectorState),
    (cfg.enabled = true → x.phase = .settling → detectorStep det cfg set reference j x = ({ x with settle := x.settle - 1 }, none)) ∧
      (cfg.enabled = true → x.phase ≠ .settling → detectorStep det cfg set reference j x = countFrame cfg x (classify det cfg set reference j)) ∧
      (cfg.enabled = false → detectorStep det cfg set reference j x = (x, none)))) ∧
  (∀ (cfg : DetectorSettings) (set : BitVec 8) (reference : Option (BitVec 32)) (q : Nat) (x : Summary) (signature : Option (BitVec 32)) (threshold : Nat),
    let bad (p : Prop) (k : FrameClass) : Prop := (p → k = .bad) ∧ (¬p → k = .good)
    classify .arrival cfg set reference (.missing q) = .bad ∧ (∀ det, det ≠ .arrival → classify det cfg set reference (.missing q) = .neither) ∧
    classify .arrival cfg set reference (.complete q x signature) = .good ∧
    (reference = none → classify .freeze cfg set reference (.complete q x signature) = .neither) ∧
    (∀ y, reference = some y → bad (signature = some y) (classify .freeze cfg set reference (.complete q x signature))) ∧
    (cfg.threshold = some threshold → bad (x.luma ≤ threshold) (classify .black cfg set reference (.complete q x signature)) ∧
      bad (∀ i, i < 8 → set.getLsbD i = true → x.peaks.length ≤ i ∨ ∃ peak, x.peaks[i]? = some peak ∧ peak ≤ threshold)
        (classify .silence cfg set reference (.complete q x signature)))) ∧
  ∀ (s : State) (c : Chan) (j : Judgement),
    let x := s.ch c
    let y := (s.judge c j).ch c
    (∀ det, y.detState det = (detectorStep det (x.detCfg det) x.settings.pairSet x.monitor.reference j (x.detState det)).1) ∧
      y.monitor.reference = (match j with | .complete _ _ signature => signature | .missing _ => x.monitor.reference) ∧
      y.monitor.verdict = y.evaluate ∧ y.settings = x.settings ∧ ∀ c', c' ≠ c → (s.judge c j).ch c' = s.ch c'

/-- R68 to R70: the verdict is FAILED exactly when an enabled detector of policy TAKEOVER stands asserted and is not held back by the chain, or the chained pair
of BLACK and SILENCE is failing; and HEALTHY exactly when no enabled detector of policy ALARM or TAKEOVER stands asserted or has a bad run. R71: a verdict that
changes is held, counted and notified. R125 to R127: FAILED takes a PROTECTED channel with no pin from MAIN to FILL with cause DETECTOR and opens its record, and a
PROTECTED channel from CUEING to FILL. R131: HEALTHY starts the return guard in STANDBY and FILL under its conditions. R132 to R134: SUSPECT restarts a running
guard, FAILED calls a return off. Any other notice changes nothing. -/
def Obligations.VerdictRules : Prop :=
  (∀ x : Channel,
    let cfg (det : Detector) : DetectorSettings := x.settings.detectors[(detectorIndex det).val]
    let run (det : Detector) : DetectorState := x.monitor.detectors[(detectorIndex det).val]
    let asserted (det : Detector) : Prop := (cfg det).enabled = true ∧ (run det).latched = true
    let heard (det : Detector) : Prop := (cfg det).enabled = true ∧ (cfg det).policy ≠ .ignore
    (x.evaluate = .failed ↔
      (∃ det, asserted det ∧ (cfg det).policy = .takeover ∧ ¬(x.settings.chain = true ∧ (det = .black ∨ det = .silence))) ∨
        (x.settings.chain = true ∧ heard .black ∧ heard .silence ∧ asserted .black ∧ asserted .silence ∧
          ((cfg .black).policy = .takeover ∨ (cfg .silence).policy = .takeover))) ∧
    (x.evaluate = .healthy ↔ ∀ det, heard det → (run det).latched = false ∧ (run det).bad = 0)) ∧
  (∀ (s : State) (c : Chan) (cause : EvalCause),
    let new := (s.ch c).evaluate
    s.evaluate c cause =
      (if new = (s.ch c).monitor.verdict then s
       else ((s.modMonitor c fun y => { y with verdict := new }).bump (.chan c .verdictChanges)).takeVerdict
        { chan := c, old := (s.ch c).monitor.verdict, new := new, position := s.time.h, cause := cause, asserted := (s.ch c).assertedList })) ∧
  ∀ (s : State) (n : VerdictNotice),
    let c := n.chan
    let x := (s.ch c).control
    let t := s.takeVerdict n
    let y := (t.ch c).control
    let counted (k : ChanCtr) : Prop := t.counter (.chan c k) = min (s.counter (.chan c k) + 1) 4294967295
    let takes := x.state = .main ∧ n.new = .failed ∧ x.mode = .protected_ ∧ x.pin = .none
    let fails := x.state = .cueing ∧ n.new = .failed ∧ x.mode = .protected_
    let guards := (x.state = .standby ∨ x.state = .fill) ∧ n.new = .healthy ∧ x.cause = some .detector ∧ (s.ch c).settings.autoReturn = true ∧
      x.pin = .none ∧ x.suspended = false ∧ s.site.state ≠ .lost
    let restarts := x.state = .returnGuard ∧ n.new = .suspect
    let callsOff := n.new = .failed ∧ (x.state = .returnGuard ∨ x.state = .returning ∧ x.pin = .none)
    CueLocal c s t ∧
    (takes →
      y.state = .fill ∧ y.cause = some .detector ∧ y.sticky = true ∧ y.returnAck = false ∧ y.suspended = false ∧ y.awaitingRecue = false ∧
        y.current = some x.nextSequence ∧ (t.ch c).output.delivered = .fill ∧ counted .takeovers ∧
        ∃ r ∈ y.ring, r.sequence = x.nextSequence ∧ r.causes = [.detector] ∧ r.asserted = n.asserted ∧ r.origin = none ∧ r.decision = s.time.h) ∧
    (fails →
      y = { x with
          state := .fill, cause := some .detector
          ring := x.ring.map fun r =>
            if x.current = some r.sequence then { r with causes := r.causes ++ [.detector], asserted := n.asserted } else r } ∧
        (t.ch c).cue = (s.ch c).cue ∧ (t.ch c).output = { (s.ch c).output with delivered := .fill } ∧ t.counters = s.counters ∧ t.outbox = s.outbox) ∧
    (guards →
      y = { x with state := .returnGuard, guard := some 0, returnOrigin := some (if x.state = .standby then .standby else .fill) } ∧
        (t.ch c).cue = (if x.state = .standby then (s.ch c).cue else { (s.ch c).cue with pendingCue := none, wait := none }) ∧
        (t.ch c).output = { (s.ch c).output with delivered := .returnGuard }) ∧
    (restarts → t = (s.modControl c fun z => { z with guard := some 0 }).bump (.chan c .guardRestarts)) ∧
    (callsOff →
      (x.state = .returnGuard → counted .guardCancels) ∧ (x.state = .returning → t.counter (.chan c .guardCancels) = s.counter (.chan c .guardCancels)) ∧
        y.guard = none ∧ y.returnPosition = none ∧ y.returnOrigin = none ∧ (t.ch c).output.delivered = y.state ∧
        (x.returnOrigin = some .standby → y.state = .standby ∧ (t.ch c).cue.playing = (s.ch c).cue.playing) ∧
        (x.returnOrigin = some .fill → y.state = .fill ∧ (t.ch c).cue.playing = none)) ∧
    (¬takes → ¬fails → ¬guards → ¬restarts → ¬callsOff → t = s)

/-- R80, R81, R84, R85, R91: a KEEPALIVE of the main automation restarts the timer, is counted by its port and by its sequence, and is recorded, and so is the
first after automation UNKNOWN or LOST, which makes the automation ALIVE: the site takes its state by the paths it sees, NORMAL, DEGRADED or ISOLATED, and a
change is reported with cause AUTOMATION, but in STARTING and LOST it keeps its state; one of the console is counted and has no other effect. The timer's
expiry makes the automation LOST, and the site DEGRADED or LOST by the paths it sees, but in STARTING and LOST. The model's choices: an expiry that is not due
changes nothing (log 3), and a KEEPALIVE flagged GROUP, which R190 refuses, has no effect beyond being heard (log 45). -/
def Obligations.KeepalivesAndTheirExpiry : Prop :=
  (∀ (s : State) (o : Origin) (rx : ControlRx) (sequence : Nat), Heard s o rx → rx.group = true → exec (.keepalive rx sequence) s = .next (s.heard rx)) ∧
  (∀ (s : State) (rx : ControlRx) (side : Side) (sequence : Nat), Heard s .mainSite rx → rx.group = false → rx.port = .contribution side →
    s.site.automation = .alive →
    let a := (s.heard rx).bump (.whole (match side with | .a => .keepalivesA | .b => .keepalivesB))
    let b := match s.site.lastKeepalive with
      | none => a
      | some k =>
        if sequence = k.sequence then a.bump (.whole .keepaliveDuplicates)
        else if sequence = (k.sequence + 1) % 65536 then a
        else a.bump (.whole .keepaliveGaps)
    exec (.keepalive rx sequence) s =
      .next { b with
        site :=
          { s.site with
            elapsed := 0, timerRunning := true, lastKeepalive := some { sequence := sequence, side := side, position := s.time.h } } }) ∧
  (∀ (s : State) (rx : ControlRx) (sequence : Nat), Heard s .console rx → rx.group = false →
    exec (.keepalive rx sequence) s = .next ((s.heard rx).bump (.whole .keepalivesIgnored))) ∧
  (∀ (s : State) (rx : ControlRx) (side : Side) (sequence : Nat), Heard s .mainSite rx → rx.group = false → rx.port = .contribution side →
    s.site.automation ≠ .alive →
    let old := s.site.state
    let new : SiteState :=
      if old = .starting ∨ old = .lost then old
      else if s.site.viewA = true ∧ s.site.viewB = true then .normal
      else if s.site.viewA = true ∨ s.site.viewB = true then .degraded
      else .isolated
    let restarted : State :=
      { s.heard rx with site := { s.site with elapsed := 0, timerRunning := true, automation := .alive, state := new } }
    let told := if new = old then restarted else restarted.raise (.site old new s.time.h .automation s.site.viewA s.site.viewB .alive)
    let a := told.bump (.whole (match side with | .a => .keepalivesA | .b => .keepalivesB))
    let b := match s.site.lastKeepalive with
      | none => a
      | some k =>
        if sequence = k.sequence then a.bump (.whole .keepaliveDuplicates)
        else if sequence = (k.sequence + 1) % 65536 then a
        else a.bump (.whole .keepaliveGaps)
    exec (.keepalive rx sequence) s =
      .next { b with
        site := { restarted.site with lastKeepalive := some { sequence := sequence, side := side, position := s.time.h } } }) ∧
  (∀ (s : State) (rx : ControlRx) (sequence : Nat), Heard s .mainSite rx → rx.group = false → ∃ t, exec (.keepalive rx sequence) s = .next t ∧
    t.site.automation = .alive ∧ t.site.timerRunning = true ∧ t.site.elapsed = 0) ∧
  ∀ s : State,
    (s.work.keepalive = false → exec .keepaliveExpiry s = .next s) ∧
    (s.work.keepalive = true → ∃ t, exec .keepaliveExpiry s = .next t ∧ t.site.automation = .lost ∧ t.site.timerRunning = false ∧
      t.counter (.whole .keepaliveExpiries) = min (s.counter (.whole .keepaliveExpiries) + 1) 4294967295 ∧
      t.site.state =
        (if s.site.state = .starting ∨ s.site.state = .lost then s.site.state
         else if s.site.viewA = true ∨ s.site.viewB = true then .degraded else .lost))

/-- R86, R87, R134: DECLARE_SITE_LOST makes the site LOST with its loss entry, and every channel's owner LOCAL; a channel in MAIN that is PROTECTED and not pinned
MAIN leaves it with cause SITE, and one out of service is left. One in RETURN_GUARD or RETURNING goes back to STANDBY: with return origin STANDBY its cues are
kept, and a follow-on that is due is cued where none is pending (log 12: the model's reading); with return origin FILL a join is asked for. In LOST it
changes nothing and answers with the loss entry. That one in RETURN_GUARD or RETURNING is called off in MONITOR and pinned MAIN too is log 12's reading, against
the sentence of R87 that leaves such a channel its owner alone. One in CUEING, FILL or STANDBY, and one in MAIN that is not PROTECTED or is pinned MAIN, keeps
all but its owner. R89, R90: RESTORE_SITE is refused with NOT_LOST outside LOST and with NOT_READY unless a path is UP
and the automation ALIVE; otherwise the site is NORMAL or DEGRADED and the loss entry cleared. -/
def Obligations.SiteLostAndRestored : Prop :=
  (∀ (s : State) (rx : ControlRx), Whole s .console rx →
    (s.site.state = .lost →
      exec (.declareSiteLost rx) s =
        .next ((s.heard rx).answered .console rx 0x39 .accepted
          (match s.site.loss with
            | none => [.num 1 0]
            | some x => [.num 1 1, .enum (lossCode x.cause), .pos x.position]))) ∧
    (s.site.state ≠ .lost → ∃ t, exec (.declareSiteLost rx) s = .next t ∧
      t.site = { s.site with state := .lost, loss := some { cause := .declared, position := s.time.h, left := s.site.state } } ∧
      t.counter (.whole .siteLosses) = min (s.counter (.whole .siteLosses) + 1) 4294967295 ∧
      t.time = s.time ∧ t.settings = s.settings ∧ t.poolFree = s.poolFree ∧ t.slates = s.slates ∧ t.pending = s.pending ∧
      ∀ c,
        (t.ch c).control.owner = .localSite ∧
        { t.ch c with control := (s.ch c).control, cue := (s.ch c).cue, output := (s.ch c).output } = s.ch c ∧
        ((s.ch c).control.state ∈ [.outOfService, .cueing, .fill, .standby] →
          t.ch c = { s.ch c with control := { (s.ch c).control with owner := .localSite } }) ∧
        ((s.ch c).control.state = .returnGuard ∨ (s.ch c).control.state = .returning → (s.ch c).control.returnOrigin = some .standby →
          (t.ch c).control =
              { (s.ch c).control with owner := .localSite, guard := none, returnPosition := none, returnOrigin := none, state := .standby } ∧
            (t.ch c).cue.playing = (s.ch c).cue.playing ∧
            ((s.ch c).cue.pendingCue ≠ none ∨ (s.ch c).cue.playing = none → (t.ch c).cue = (s.ch c).cue) ∧
            ∀ p e, (s.ch c).cue.pendingCue = none → (s.ch c).cue.playing = some p →
              (((s.ch c).schedule.live.getD []).find? fun e => p.playingEnd ≤ e.start && s.time.h < e.start + s.delay c) = some e →
              s.signed ((e.start + s.delay c : Nat) - ((s.ch c).settings.lead : Int)) s.time.h ≤ 0 →
              s.settings.servers[(s.ch c).settings.server.val].mapped = true →
              s.linkUp (.standby s.settings.servers[(s.ch c).settings.server.val].port) = true →
              (t.ch c).cue =
                { (s.ch c).cue with
                  nextNumber := ((s.ch c).cue.nextNumber + 1) % 256
                  pendingCue :=
                    some
                      { number := some (s.ch c).cue.nextNumber, kind := .followOn, server := (s.ch c).settings.server
                        player := (s.ch c).settings.player, event := e, offset := 0, materialPosition := e.material.inPoint.map fun i => i + 0
                        playLength := e.duration, switchPosition := s.wrap (e.start + s.delay c : Nat), used := 0
                        limit := (s.ch c).settings.cueAttempts, status := .sent } }) ∧
        ((s.ch c).control.state = .returnGuard ∨ (s.ch c).control.state = .returning → (s.ch c).control.returnOrigin = some .fill →
          { (t.ch c).control with ring := (s.ch c).control.ring, state := .standby } =
              { (s.ch c).control with owner := .localSite, guard := none, returnPosition := none, returnOrigin := none, state := .standby } ∧
            ((t.ch c).control.state = .standby ∧ (t.ch c).cue.playing = (s.ch c).cue.playing ∧
                (∃ x, (t.ch c).cue.pendingCue = some x ∧ x.kind = .join ∧ x.status = .sent) ∨
              (t.ch c).control.state = .fill ∧ (t.ch c).cue.playing = none ∧ (t.ch c).cue.pendingCue = none)) ∧
        ((s.ch c).control.state = .main → (s.ch c).control.mode = .protected_ → (s.ch c).control.pin ≠ .main →
          (t.ch c).control.state = .fill ∧ (t.ch c).control.cause = some .site ∧ (t.ch c).control.sticky = true ∧
            (t.ch c).control.current = some (s.ch c).control.nextSequence) ∧
        ((s.ch c).control.state = .main → ¬((s.ch c).control.mode = .protected_ ∧ (s.ch c).control.pin ≠ .main) →
          t.ch c = { s.ch c with control := { (s.ch c).control with owner := .localSite } }))) ∧
  (∀ (s : State) (rx : ControlRx), Whole s .console rx →
    (s.site.state ≠ .lost → exec (.restoreSite rx) s = .next ((s.heard rx).answered .console rx 0x3A .notLost [])) ∧
    (s.site.state = .lost → ¬((s.site.viewA = true ∨ s.site.viewB = true) ∧ s.site.automation = .alive) →
      exec (.restoreSite rx) s = .next (((s.heard rx).bump (.whole .restoreRefusals)).answered .console rx 0x3A .notReady [])) ∧
    (s.site.state = .lost → (s.site.viewA = true ∨ s.site.viewB = true) ∧ s.site.automation = .alive →
      ∃ t, exec (.restoreSite rx) s = .next t ∧
        t.site = { s.site with state := if s.site.viewA = true ∧ s.site.viewB = true then .normal else .degraded, loss := none } ∧
        t.counter (.whole .siteRestores) = min (s.counter (.whole .siteRestores) + 1) 4294967295 ∧
        ∀ c,
          { t.ch c with control := (s.ch c).control, cue := (s.ch c).cue, output := (s.ch c).output } = s.ch c ∧
          ((s.ch c).monitor.verdict = .healthy → (s.ch c).control.cause = some .detector → (s.ch c).settings.autoReturn = true →
            (s.ch c).control.pin = .none → (s.ch c).control.suspended = false → (s.ch c).control.state = .standby ∨ (s.ch c).control.state = .fill →
            (t.ch c).control.state = .returnGuard ∧ (t.ch c).control.guard = some 0) ∧
          ((s.ch c).monitor.verdict ≠ .healthy → t.ch c = s.ch c)))

/-! ## Schedule replication (Chapter 6) -/

/-- R98, R99: a schedule carrier for no channel is discarded; an amendment in a state other than CURRENT is discarded, an old one is counted, and one ahead of
the expected revision is a gap: STALE, with RESYNC on both contribution ports. R99, R100, R116: the amendment of the expected revision advances it; refused,
it is counted and answered with AMEND_REFUSED on both contribution ports and the list stands; applied, the list and the pool take the change and the Cue
Engine takes the notice. The model's choices: the id that AMEND_REFUSED names (log 17), that the schedule edge is computed from H as it stands between a change
of house rate and the next boundary too (log 49), and that a schedule carrier flagged GROUP, which R190 refuses, has no effect beyond being heard (log 45). -/
def Obligations.AmendmentsAgainstTheRevision : Prop :=
  (∀ (s : State) (o : Origin) (i : Instr) (rx : ControlRx) (revision : Nat) (a : Amendment), Heard s o rx → amendmentOf i = some (rx, revision, a) →
    (rx.group = true → exec i s = .next (s.heard rx)) ∧
    (rx.group = false →
    (rx.channel = 255 → exec i s = .next ((s.heard rx).bump (.whole .scheduleNoChannel))) ∧
    ∀ c : Chan, rx.channel = c.val →
      let x := (s.ch c).schedule
      let diff := ((revision : Int) - x.expected) % 65536
      (x.state ≠ .current → exec i s = .next ((s.heard rx).bump (.chan c .amendDiscarded))) ∧
      (x.state = .current → 32768 ≤ diff → exec i s = .next ((s.heard rx).bump (.chan c .amendOld))) ∧
      (x.state = .current → 1 ≤ diff → diff ≤ 32767 →
        let a := (((s.heard rx).bump (.chan c .amendGaps)).modSchedule c fun y => { y with state := .stale }).bump (.chan c .replicationChanges)
        let b := a.raise (.replication c .current .stale s.time.h x.expected .gap)
        let d := ((b.send (.contribution .a) (.resync c x.expected .stale)).send (.contribution .b) (.resync c x.expected .stale)).bump (.chan c .resyncsSent)
        exec i s = .next (d.modSchedule c fun y => { y with resyncTimer := some 0 })))) ∧
  (∀ (s : State) (o : Origin) (i : Instr) (rx : ControlRx) (revision : Nat) (a : Amendment) (c : Chan), Heard s o rx → amendmentOf i = some (rx, revision, a) →
    rx.group = false → rx.channel = c.val → (s.ch c).schedule.state = .current → ((revision : Int) - (s.ch c).schedule.expected) % 65536 = 0 →
    let next := ((s.ch c).schedule.expected + 1) % 65536
    let l := (s.ch c).schedule.live.getD []
    let outcome := applyAmendment s.time.rate ((s.time.h : Int) - (if s.inService c then s.delay c else 15)) s.poolFree l a
    (∀ reason, outcome = .error reason →
      let t := (s.heard rx).modSchedule c fun y => { y with expected := next }
      let u := (if reason = .poolFull then t.bump (.whole .poolExhaustions) else t).bump (.chan c .refusedAmendments)
      let refusal : Outgoing := .amendRefused c revision a.code (some a.id) reason
      exec i s = .next ((u.send (.contribution .a) refusal).send (.contribution .b) refusal)) ∧
    ∀ x, outcome = .ok x →
      let t : State := { s.heard rx with poolFree := s.poolFree + l.length - x.events.length }
      let u := t.modSchedule c fun y => { y with expected := next, live := some x.events }
      let v := ((u.bumpBy (.chan c .overlapRemovals) x.removals).bumpBy (.chan c .overlapTrims) x.trims).bump (.chan c .amendApplied)
      exec i s = .next (v.takeNotice c (.amendment revision x.items)))

/-- R101 to R106, Table 6-2: what each amendment does to a list in order, and every reason for which INSERT, REPLACE, DELETE, TRIM and SHIFT_FROM are refused,
in the order of the checks. INSERT, REPLACE and a TRIM to another duration place their event as one that governs (what it does to the events it meets is
OverlapResolution); where it meets none, the list is given. A TRIM to the duration held and a SHIFT_FROM by 0 change nothing and have no items. SHIFT_FROM by
a positive delta moves the named event and those after it; by a negative one each of them, in start order, governs among the events before it, and where they
meet none the list is given. `edge` is the schedule edge. -/
def Obligations.AmendmentsToAList : Prop :=
  ∀ (r : Rate) (edge : Int) (free : Nat) (l : List Event), Ordered l →
    let apply := applyAmendment r edge free l
    let unchanged : Applied := { events := l, items := [], removals := 0, trims := 0 }
    let governed (e : Event) (others : List Event) (outcome : Except AmendReason Applied) : Prop :=
      ∃ x, outcome = .ok x ∧ x.events = (placeEvents [e] others []).events ∧ x.removals = (placeEvents [e] others []).removals ∧
        x.trims = (placeEvents [e] others []).trims
    (∀ c e, wellFormedEvent r c = .ok e →
      (e.id ∈ l.map Event.id → apply (.insert c) = .error .duplicateId) ∧
      (e.id ∉ l.map Event.id → (e.finish : Int) ≤ edge → apply (.insert c) = .error .inPast) ∧
      (e.id ∉ l.map Event.id → edge < e.finish →
        let p := placeEvents [e] l []
        (1024 < p.events.length → apply (.insert c) = .error .listFull) ∧
        (p.events.length ≤ 1024 → free + p.removals = 0 → apply (.insert c) = .error .poolFull) ∧
        (p.events.length ≤ 1024 → 1 ≤ free + p.removals → governed e l (apply (.insert c)))) ∧
      (e.id ∉ l.map Event.id → edge < e.finish → (∀ y ∈ l, y.finish ≤ e.start ∨ e.finish ≤ y.start) →
        (1024 ≤ l.length → apply (.insert c) = .error .listFull) ∧
        (l.length < 1024 → free = 0 → apply (.insert c) = .error .poolFull) ∧
        (l.length < 1024 → 1 ≤ free →
          apply (.insert c) =
            .ok { events := insertEvent e l, removals := 0, trims := 0
                  items := [{ id := e.id, change := .added, before := none, after := some (e.start, e.finish) }] }))) ∧
    (∀ c reason, wellFormedEvent r c = .error reason →
      apply (.insert c) = .error reason ∧ ∀ id, apply (.replace id c) = .error reason) ∧
    (∀ id, id ∉ l.map Event.id → apply (.delete id) = .error .noSuchId) ∧
    (∀ e, e ∈ l →
      apply (.delete e.id) =
        .ok { events := l.filter fun y => y.id != e.id, removals := 0, trims := 0
              items := [{ id := e.id, change := .removed, before := some (e.start, e.finish), after := none }] }) ∧
    (∀ c e, wellFormedEvent r c = .ok e →
      (∀ id, id ∉ l.map Event.id → apply (.replace id c) = .error .noSuchId) ∧
      ∀ old, old ∈ l →
        (e.id ≠ old.id → e.id ∈ l.map Event.id → apply (.replace old.id c) = .error .duplicateId) ∧
        ((e.id = old.id ∨ e.id ∉ l.map Event.id) → (e.finish : Int) ≤ edge → apply (.replace old.id c) = .error .inPast) ∧
        ((e.id = old.id ∨ e.id ∉ l.map Event.id) → edge < e.finish →
          governed e (l.filter fun y => y.id != old.id) (apply (.replace old.id c)) ∧
          ((∀ y ∈ l, y.id ≠ old.id → y.finish ≤ e.start ∨ e.finish ≤ y.start) →
            ∃ x, apply (.replace old.id c) = .ok x ∧ x.events = insertEvent e (l.filter fun y => y.id != old.id) ∧
              x.removals = 0 ∧ x.trims = 0))) ∧
    ((∀ id n, n = 0 ∨ r.fday < n → apply (.trim id n) = .error .badTime) ∧
      (∀ id n, 1 ≤ n → n ≤ r.fday → id ∉ l.map Event.id → apply (.trim id n) = .error .noSuchId) ∧
      ∀ e n, e ∈ l → 1 ≤ n → n ≤ r.fday →
        let others := l.filter fun y => y.id != e.id
        (((e.start + n : Nat) : Int) ≤ edge → apply (.trim e.id n) = .error .inPast) ∧
        (edge < (e.start + n : Nat) →
          (n = e.duration → apply (.trim e.id n) = .ok unchanged) ∧
          (n ≠ e.duration → governed { e with duration := n } others (apply (.trim e.id n))) ∧
          (n ≠ e.duration → (∀ y ∈ l, e.start < y.start → e.start + n ≤ y.start) →
            apply (.trim e.id n) =
              .ok { events := insertEvent { e with duration := n } others, removals := 0, trims := 0
                    items := [{ id := e.id, change := .resized, before := some (e.start, e.finish), after := some (e.start, e.start + n) }] }))) ∧
    (∀ id (delta : Int), delta < -(r.fday : Int) ∨ (r.fday : Int) < delta → apply (.shiftFrom id delta) = .error .badTime) ∧
    (∀ id (delta : Int), -(r.fday : Int) ≤ delta → delta ≤ r.fday → id ∉ l.map Event.id → apply (.shiftFrom id delta) = .error .noSuchId) ∧
    (∀ e (delta : Int), e ∈ l → -(r.fday : Int) ≤ delta → delta ≤ r.fday →
      let moved (y : Event) : Event := { y with start := ((y.start : Int) + delta).toNat }
      let set := l.filter fun y => e.start ≤ y.start
      let outside := l.filter fun y => y.start < e.start
      let fits := ∀ y ∈ set, 0 ≤ (y.start : Int) + delta ∧ (y.start : Int) + delta < r.cycle
      (¬fits → apply (.shiftFrom e.id delta) = .error .badTime) ∧
      (fits → (e.finish : Int) + delta ≤ edge → apply (.shiftFrom e.id delta) = .error .inPast) ∧
      (fits → edge < (e.finish : Int) + delta →
        (delta = 0 → apply (.shiftFrom e.id delta) = .ok unchanged) ∧
        (delta < 0 → ∃ x, apply (.shiftFrom e.id delta) = .ok x ∧
          x.events = (set.map moved).foldl (fun placed y => (placeEvents [y] placed []).events) outside ∧
          x.events.length + x.removals = l.length ∧
          ((∀ y ∈ outside, (y.finish : Int) ≤ (e.start : Int) + delta) → x.events = outside ++ set.map moved ∧ x.removals = 0 ∧ x.trims = 0)))) ∧
    (∀ e (delta : Nat), e ∈ l → 1 ≤ delta → delta ≤ r.fday → (∀ y ∈ l, y.start + delta < r.cycle) → edge < (e.finish + delta : Nat) →
      ∃ x, apply (.shiftFrom e.id delta) = .ok x ∧
        x.events = l.map fun y => if e.start ≤ y.start then { y with start := y.start + delta } else y)

/-- R106: a governing event placed in a list in order. The list after it is in order and holds the governing event; every other event keeps its id and stands
where it stood, is gone when the governing event covers it, is cut at its tail to end where the governing event starts, or is cut at its head to begin where
that one ends. The trims counted are the events cut at the tail or at the head, and the removals the events gone. -/
def Obligations.OverlapResolution : Prop :=
  ∀ (x : Event) (l : List Event), Ordered l → 1 ≤ x.duration → x.id ∉ l.map Event.id →
    let p := placeEvents [x] l []
    let tailCut (y : Event) : Bool := decide (y.start < x.start ∧ x.start < y.finish)
    let headCut (y : Event) : Bool :=
      decide (x.start ≤ y.start ∧ y.start < x.finish ∧ x.finish < y.finish) &&
        match y.material with
        | .fixed _ _ => false
        | .live _ => true
        | .clip _ i => decide (i + (x.finish - y.start) ≤ 4294967295)
    Ordered p.events ∧ x ∈ p.events ∧ p.events.length + p.removals = l.length + 1 ∧ p.trims = l.countP (fun y => tailCut y || headCut y) ∧
      ∀ y ∈ l,
        ((y.finish ≤ x.start ∨ x.finish ≤ y.start) → y ∈ p.events) ∧
        (x.start ≤ y.start → y.finish ≤ x.finish → y.id ∉ p.events.map Event.id) ∧
        (y.start < x.start → x.start < y.finish → { y with duration := x.start - y.start, tailTrimmed := true } ∈ p.events) ∧
        (x.start ≤ y.start → y.start < x.finish → x.finish < y.finish →
          match y.material with
          | .fixed _ _ => y.id ∉ p.events.map Event.id
          | .live _ =>
            { y with start := x.finish, duration := y.finish - x.finish, headTrimmed := true } ∈ p.events
          | .clip name i =>
            if i + (x.finish - y.start) ≤ 4294967295 then
              { y with
                start := x.finish, duration := y.finish - x.finish, headTrimmed := true, material := .clip name (i + (x.finish - y.start)) } ∈ p.events
            else y.id ∉ p.events.map Event.id)

/-- R98, R107 to R110: SNAPSHOT_BEGIN opens an empty shadow list, or, naming another revision in REBUILDING, gives up the one that stands for a new one;
SNAPSHOT_EVENT adds an event to it, and the SNAPSHOT_END of a whole snapshot makes it the live list, sets the expected revision and the state CURRENT. An
event that is not well-formed or whose id the shadow holds is received and refused with AMEND_REFUSED, and one in the past is received and counted; with no
record for it the snapshot fails. A snapshot that fails frees its shadow and ends STALE with RESYNC. Out of step, each is discarded or counted as a duplicate.
Naming channel 255, each is counted in SCHEDULE_NO_CHANNEL and does nothing else. The model's choices: a count above 1,024 is judged before the revision (log
47), the schedule edge is computed from H as it stands between a change of house rate and the next boundary too (log 49), and a carrier flagged GROUP has no
effect beyond being heard (log 45). -/
def Obligations.Snapshots : Prop :=
  (∀ (s : State) (o : Origin) (rx : ControlRx), Heard s o rx → rx.group = true →
    (∀ revision count, exec (.snapshotBegin rx revision count) s = .next (s.heard rx) ∧ exec (.snapshotEnd rx revision count) s = .next (s.heard rx)) ∧
    ∀ revision index e, exec (.snapshotEvent rx revision index e) s = .next (s.heard rx)) ∧
  (∀ (s : State) (o : Origin) (rx : ControlRx), Whole s o rx →
    let t := (s.heard rx).bump (.whole .scheduleNoChannel)
    (∀ revision count, exec (.snapshotBegin rx revision count) s = .next t ∧ exec (.snapshotEnd rx revision count) s = .next t) ∧
    ∀ revision index e, exec (.snapshotEvent rx revision index e) s = .next t) ∧
  ∀ (s : State) (o : Origin) (rx : ControlRx) (c : Chan), Named s o rx c →
    let x := (s.ch c).schedule
    let t := s.heard rx
    (∀ revision count,
      (1024 < count → exec (.snapshotBegin rx revision count) s = .next (t.bump (.chan c .snapshotDiscards))) ∧
      (count ≤ 1024 → (∃ y, x.shadow = some y ∧ y.revision = revision) →
        exec (.snapshotBegin rx revision count) s = .next (t.bump (.chan c .snapshotDuplicates))) ∧
      (count ≤ 1024 → x.state = .rebuilding → ∀ y, x.shadow = some y → y.revision ≠ revision →
        exec (.snapshotBegin rx revision count) s =
          .next
            (((({ t with poolFree := s.poolFree + y.events.length } : State).modSchedule c fun z =>
                { z with
                  live := some (x.live.getD []), shadow := some { events := [], revision := revision, count := count, received := [] }
                  snapshotTimer := some 0, resyncTimer := none }).bump (.chan c .snapshotsFailed)).bump (.chan c .snapshotsBegun))) ∧
      (count ≤ 1024 → x.shadow = none → x.state ≠ .rebuilding →
        exec (.snapshotBegin rx revision count) s =
          .next
            ((((t.modSchedule c fun y =>
                { y with
                  live := some (x.live.getD []), shadow := some { events := [], revision := revision, count := count, received := [] }
                  state := .rebuilding, snapshotTimer := some 0, resyncTimer := none }).bump (.chan c .replicationChanges)).raise
              (.replication c x.state .rebuilding s.time.h x.expected .snapshotBegin)).bump (.chan c .snapshotsBegun)))) ∧
    (∀ revision index e,
      ((∀ y, x.shadow = some y → y.revision ≠ revision ∨ y.count ≤ index) →
        exec (.snapshotEvent rx revision index e) s = .next (t.bump (.chan c .snapshotDiscards))) ∧
      ∀ y, x.shadow = some y → y.revision = revision → index < y.count →
        let received := t.modSchedule c fun z => { z with shadow := some { y with received := insertNat index y.received } }
        let edge := (s.time.h : Int) - (if s.inService c then s.delay c else 15)
        let rejected (reason : AmendReason) : Host.Outcome State Fault Refusal :=
          .next (((received.bump (.chan c .snapshotRejects)).send (.contribution .a) (.amendRefused c revision 0x19 (some e.id) reason)).send (.contribution .b)
            (.amendRefused c revision 0x19 (some e.id) reason))
        (index ∈ y.received → exec (.snapshotEvent rx revision index e) s = .next (t.bump (.chan c .snapshotDuplicates))) ∧
        (index ∉ y.received → ∀ reason, wellFormedEvent s.time.rate e = .error reason → exec (.snapshotEvent rx revision index e) s = rejected reason) ∧
        (index ∉ y.received → ∀ v, wellFormedEvent s.time.rate e = .ok v →
          (v.id ∈ y.events.map Event.id → exec (.snapshotEvent rx revision index e) s = rejected .duplicateId) ∧
          (v.id ∉ y.events.map Event.id → (v.finish : Int) ≤ edge →
            exec (.snapshotEvent rx revision index e) s = .next (received.bump (.chan c .snapshotPast))) ∧
          (v.id ∉ y.events.map Event.id → edge < v.finish → s.poolFree + (placeEvents [v] y.events []).removals < 1 →
            exec (.snapshotEvent rx revision index e) s = .next ((received.bump (.whole .poolExhaustions)).failSnapshot c .snapshotPool))) ∧
        (index ∉ y.received → ∀ v, wellFormedEvent s.time.rate e = .ok v → v.id ∉ y.events.map Event.id →
          edge < v.finish →
          let p := placeEvents [v] y.events []
          1 ≤ s.poolFree + p.removals →
          exec (.snapshotEvent rx revision index e) s =
            .next
              ((((({ t with poolFree := s.poolFree + y.events.length - p.events.length } : State).modSchedule c fun z =>
                { z with shadow := some { y with events := p.events, received := insertNat index y.received } }).bumpBy
                (.chan c .overlapRemovals) p.removals).bumpBy (.chan c .overlapTrims) p.trims)))) ∧
    ∀ revision count,
      ((∀ y, x.shadow = some y → y.revision ≠ revision) →
        exec (.snapshotEnd rx revision count) s = .next (t.bump (.chan c .snapshotDiscards))) ∧
      ∀ y, x.shadow = some y → y.revision = revision →
        (count = y.count → (∀ i, i < y.count → i ∈ y.received) → x.state = .rebuilding →
          exec (.snapshotEnd rx revision count) s =
            .next
              ((((((({ t with poolFree := s.poolFree + (x.live.getD []).length } : State).modSchedule c fun z =>
                  { z with
                    live := some y.events, shadow := none, state := .current, expected := (revision + 1) % 65536
                    snapshotTimer := none }).bump (.chan c .replicationChanges)).raise
                (.replication c .rebuilding .current s.time.h ((revision + 1) % 65536) .snapshotDone)).bump
                (.chan c .snapshotsCompleted)).takeNotice c .swap))) ∧
        (¬(count = y.count ∧ ∀ i, i < y.count → i ∈ y.received) →
          exec (.snapshotEnd rx revision count) s = .next (t.failSnapshot c .snapshotMismatch)) ∧
        ∀ cause, x.state = .rebuilding →
          let freed := { t with poolFree := s.poolFree + y.events.length }.modSchedule c fun z =>
            { z with shadow := none, snapshotTimer := none, state := .stale, resyncTimer := some 0 }
          t.failSnapshot c cause =
            ((((((freed.bump (.chan c .snapshotsFailed)).bump (.chan c .replicationChanges)).raise
              (.replication c .rebuilding .stale s.time.h x.expected cause)).send (.contribution .a) (.resync c x.expected .stale)).send (.contribution .b)
              (.resync c x.expected .stale)).bump (.chan c .resyncsSent))

/-- R111, R112: at its period a snapshot timer frees the shadow list and leaves the channel STALE with a RESYNC, and a resync interval sends RESYNC again on
both contribution ports and starts afresh. A timer that is not due changes nothing (log 3). -/
def Obligations.ScheduleTimersExpire : Prop :=
  ∀ (s : State) (c : Chan),
    let x := (s.ch c).schedule
    ((s.ch c).work.snapshot = false → exec (.snapshotTimeout c) s = .next s) ∧
    ((s.ch c).work.resync = false → exec (.resyncRepeat c) s = .next s) ∧
    ((s.ch c).work.resync = true →
      exec (.resyncRepeat c) s =
        .next
          (((((s.modWork c fun w => { w with resync := false }).send (.contribution .a) (.resync c x.expected x.state)).send (.contribution .b)
            (.resync c x.expected x.state)).bump (.chan c .resyncsSent)).modSchedule c fun y => { y with resyncTimer := some 0 })) ∧
    ((s.ch c).work.snapshot = true → ∀ y, x.shadow = some y → x.state = .rebuilding → ∃ t, exec (.snapshotTimeout c) s = .next t ∧
      t.poolFree = s.poolFree + y.events.length ∧
      (t.ch c).schedule = { x with shadow := none, snapshotTimer := none, state := .stale, resyncTimer := some 0 } ∧
      t.counter (.chan c .snapshotTimeouts) = min (s.counter (.chan c .snapshotTimeouts) + 1) 4294967295 ∧
      t.counter (.chan c .snapshotsFailed) = min (s.counter (.chan c .snapshotsFailed) + 1) 4294967295 ∧
      t.counter (.chan c .resyncsSent) = min (s.counter (.chan c .resyncsSent) + 1) 4294967295 ∧
      (∀ side, ∃ z ∈ t.outbox, z.port = .contribution side ∧ z.what = .resync c x.expected .stale) ∧ Elsewhere c { s with poolFree := t.poolFree } t ∧
      { t.ch c with schedule := x, work := (s.ch c).work } = s.ch c)

/-! ## Channel commands (Chapter 7) -/

/-- R140: SEIZE makes the owner LOCAL and RELEASE MAIN_SITE, in every state of the channel, and change nothing else; RELEASE is refused with SITE_LOST while the
site is LOST. R135, R143: a channel command that names one channel is taken for it and answered; flagged GROUP, it is taken in turn, as if sent alone, for the
channel it names and those of the sending origin's mask, in increasing number, each with its own result; no other channel changes, and one REPLY answers with
the channel, the result and, when accepted, the state, pin and owner of each. A SEIZE flagged GROUP makes the owner of each LOCAL. That the REPLY's result is
ACCEPTED, that its items leave out the mode and d of an entry, and that no other event falls among the channels are the model's choices (log 41), as is the
code of the mode in the REPLY of an entry that names one channel (log 34). -/
def Obligations.SeizeReleaseAndGroups : Prop :=
  (∀ (s : State) (rx : ControlRx) (c : Chan), Named s .console rx c →
    exec (.seize rx) s = .next (((s.heard rx).modControl c fun y => { y with owner := .localSite }).acceptedFor .console rx 0x26 c) ∧
    exec (.release rx) s =
      .next
        (if s.site.state = .lost then (s.heard rx).answered .console rx 0x27 .siteLost []
         else ((s.heard rx).modControl c fun y => { y with owner := .mainSite }).acceptedFor .console rx 0x27 c)) ∧
  (∀ (s : State) (rx : ControlRx), Heard s .console rx → rx.group = true →
    ∃ (t : State) (contents : List (List Atom)), exec (.seize rx) s = .next (t.answered .console rx 0x26 .accepted (.num 1 contents.length :: contents.flatten)) ∧
      contents.length = (Chan.all.filter fun c => s.mgmt.console.mask.getLsbD c.val || rx.channel == c.val).length ∧
      ∀ c : Chan, t.ch c =
        if s.mgmt.console.mask.getLsbD c.val = true ∨ rx.channel = c.val then { s.ch c with control := { (s.ch c).control with owner := .localSite } }
        else s.ch c) ∧
  ∀ (s : State) (o : Origin) (i : Instr) (rx : ControlRx) (code : Nat) (k : ChannelCommand), Heard s o rx → channelForm i = some k →
    channelCommand i = some (rx, code) → (o = .console ∨ ∃ x, ownerCommand i = some x) →
    let shown (t : State) (c : Chan) : List Atom :=
      [.enum (stateCode (t.ch c).control.state), .enum (pinCode (t.ch c).control.pin), .enum (ownerCode (t.ch c).control.owner)]
    (∀ c : Chan, rx.group = false → rx.channel = c.val →
      let t := (s.heard rx).runChannel c o k
      let entered := s.inService c = false ∧ t.1.inService c = true
      exec i s =
        .next (t.1.answered o rx code t.2
          (if t.2 ≠ .accepted then []
           else if entered then shown t.1 c ++ [.enum (modeCode (t.1.ch c).control.mode), .num 1 (t.1.delay c)]
           else shown t.1 c))) ∧
    (rx.group = true →
      let l := Chan.all.filter fun c => (s.ctx o).mask.getLsbD c.val || rx.channel == c.val
      ∃ (u : Nat → State) (items : List (List Atom)), u 0 = s.heard rx ∧ items.length = l.length ∧
        (∀ (n : Nat) (c : Chan), l[n]? = some c →
          let t := (u n).runChannel c o k
          u (n + 1) = t.1 ∧ items[n]? = some (.num 1 c.val :: .enum (resultCode t.2) :: if t.2 = .accepted then shown t.1 c else [])) ∧
        exec i s = .next ((u l.length).answered o rx code .accepted (.num 1 l.length :: items.flatten)) ∧
        ∀ c, c ∉ l → (u l.length).ch c = s.ch c)

/-- R139, R141, R146: UNPIN sets the pin to NONE for a channel in service, ACK_TAKEOVER clears the sticky flag and CLEAR_RECORDS empties the ring, in every
state. -/
def Obligations.UnpinAcknowledgeAndClearRecords : Prop :=
  ∀ (s : State) (rx : ControlRx) (c : Chan), Named s .console rx c →
    exec (.clearRecords rx) s =
      .next (((s.heard rx).modControl c fun y => { y with ring := [], overflow := false, current := none }).acceptedFor .console rx 0x2A c) ∧
    exec (.ackTakeover rx) s = .next (((s.heard rx).modControl c fun y => { y with sticky := false }).acceptedFor .console rx 0x28 c) ∧
    exec (.unpin rx) s =
      .next
        (if (s.ch c).control.state = .outOfService then (s.heard rx).answered .console rx 0x25 .outOfService []
         else ((s.heard rx).modControl c fun y => { y with pin := .none }).acceptedFor .console rx 0x25 c)

/-- R135, R143, R189, R190, R195, R196: a command that needs the owner is refused with NOT_OWNER to the other origin, one that only the console may send
(WRITE left out) is refused with NOT_AUTHORISED to the main automation, and a channel command for channel 255 with BAD_VALUE, from either origin that may send
it. A request of the whole unit that names another channel or is flagged GROUP, and RETIME and CAPTURE_SLATE flagged GROUP, are refused with BAD_VALUE. None
of these changes anything but its counters, the REPLY and what hearing a carrier changes. A window request flagged GROUP is refused with BAD_VALUE, the sticky
error of SET_WINDOW, READ and WRITE where none is held, and in a context whose walk is in flight with BUSY, the walk ended (log 40: the model's reading). -/
def Obligations.CommandsThatAreRefused : Prop :=
  (∀ (s : State) (o : Origin) (i : Instr) (rx : ControlRx) (code : Nat) (c : Chan), Named s o rx c → ownerCommand i = some (rx, code) →
    ((o = .mainSite ∧ (s.ch c).control.owner = .localSite) ∨ (o = .console ∧ (s.ch c).control.owner = .mainSite ∧ code ≠ 0x28)) →
    exec i s = .next ((s.heard rx).answered o rx code .notOwner [])) ∧
  (∀ (s : State) (i : Instr) (rx : ControlRx) (code : Nat), Heard s .mainSite rx → consoleCommand i = some (rx, code) →
    exec i s = .next (((s.heard rx).bump (.origin .mainSite .notAuthorisedRefusals)).answered .mainSite rx code .notAuthorised [])) ∧
  (∀ (s : State) (i : Instr) (rx : ControlRx) (code : Nat), Whole s .console rx → channelCommand i = some (rx, code) →
    exec i s = .next ((s.heard rx).answered .console rx code .badValue [])) ∧
  (∀ (s : State) (i : Instr) (rx : ControlRx) (code : Nat), Whole s .mainSite rx → ownerCommand i = some (rx, code) →
    exec i s = .next ((s.heard rx).answered .mainSite rx code .badValue [])) ∧
  (∀ (s : State) (o : Origin) (i : Instr) (rx : ControlRx) (code : Nat), Heard s o rx → unitRequestOf i = some (rx, code) →
    (o = .console ∨ ∃ channels, i = .select rx channels) → rx.channel ≠ 255 ∨ rx.group = true →
    exec i s = .next ((s.heard rx).answered o rx code .badValue [])) ∧
  (∀ (s : State) (rx : ControlRx), Heard s .console rx → rx.group = true →
    (∀ value, exec (.retime rx value) s = .next ((s.heard rx).answered .console rx 0x30 .badValue [])) ∧
    ∀ slate path, exec (.captureSlate rx slate path) s = .next ((s.heard rx).answered .console rx 0x31 .badValue [])) ∧
  ∀ (s : State) (o : Origin) (i : Instr) (rx : ControlRx) (code : Nat), Heard s o rx → windowRequestOf i = some (rx, code) → rx.group = true →
    (o = .console ∨ code ≠ 0x43) →
    let x := s.ctx o
    let stick (code : Result) : State :=
      (s.heard rx).modCtx o fun y =>
        if y.sticky.isSome then y else { y with sticky := some { code := code, request := rx.request, offset := y.window.offset } }
    (x.walk = none →
      exec i s = .next ((if code = 0x44 then s.heard rx else stick .badValue).answered o rx code .badValue [])) ∧
    ∀ w, x.walk = some w →
      exec i s =
        .next
          ((((stick .busy).answered o rx code .busy []).modCtx o fun y => { y with walk := none }).reply o w.port
            { request := w.request, kind := 0x42, channel := w.channel, result := .busy, clamped := false, contents := [] })

/-- R126, R135, R145, R147: TAKE in MAIN opens a takeover record, goes to CUEING with cause COMMAND, sets the sticky flag, counts and reports the takeover and
asks for a join; it is refused out of service, with pin MAIN, and in any other state. That the takeover started report is raised before the join is asked for is
the model's choice (log 13). -/
def Obligations.TakeOpensARecordAndCues : Prop :=
  ∀ (s : State) (o : Origin) (rx : ControlRx) (c : Chan), Named s o rx c → s.owns c o = true →
    let x := (s.ch c).control
    let refuse (code : Result) : Host.Outcome State Fault Refusal := .next ((s.heard rx).answered o rx 0x21 code [])
    (x.state = .outOfService → exec (.take rx) s = refuse .outOfService) ∧
    (x.state ≠ .outOfService → x.pin = .main → exec (.take rx) s = refuse .pinned) ∧
    (x.state ≠ .outOfService → x.pin ≠ .main → x.state ≠ .main → exec (.take rx) s = refuse .alreadyTaken) ∧
    (x.state = .main → x.pin ≠ .main →
      let record : TakeoverRecord :=
        { sequence := x.nextSequence, causes := [.command], asserted := [], origin := some o, decision := s.time.h
          replication := (s.ch c).schedule.state, event := none, switchPosition := none, outcome := .pending, returnPosition := none }
      let full := 8 ≤ x.ring.length
      let a := if full then (s.heard rx).bump (.chan c .recordsOverwritten) else s.heard rx
      let b := a.modControl c fun y =>
        { y with
          current := some x.nextSequence, nextSequence := (x.nextSequence + 1) % 65536
          ring := (if full then x.ring.drop 1 else x.ring) ++ [record], overflow := x.overflow || decide full
          cause := some .command, sticky := true, returnAck := false, suspended := false, awaitingRecue := false, state := .cueing }
      let d := ((b.modOutput c fun y => { y with delivered := .cueing }).bump (.chan c .takeovers)).raise
        (.takeoverStarted c x.nextSequence .command [] (some o) s.time.h (s.ch c).schedule.state .cueing)
      exec (.take rx) s = .next (((d.modCue c fun y => { y with recordLink := true }).requestJoin c).acceptedFor o rx 0x21 c))

/-- R133, R134, R136, R137, R138, R145, R147, R151: RETURN from STANDBY or FILL enters RETURNING with that return origin, from RETURN_GUARD with the origin
kept, and in RETURNING changes nothing; a pending follow-on that switches at or after the return position is cancelled, and any other pending cue is kept.
RETURN in CUEING cancels the cue, ends the record ABANDONED with its return position, and reports the return, with no sequence or outcome where the record is
gone (log 43: the model's choice). HOLD suspends automatic return in STANDBY and FILL and calls off a return in RETURN_GUARD and RETURNING: to STANDBY where
the origin is STANDBY, the playing cue kept and the follow-on check made, and where it is FILL to FILL, the playing cue stopped and a join asked for. Each is
refused in the states and with the codes that its rule gives, RETURN with PINNED under either pin. -/
def Obligations.ReturnAndHold : Prop :=
  ∀ (s : State) (o : Origin) (rx : ControlRx) (c : Chan), Named s o rx c → s.owns c o = true →
    let x := (s.ch c).control
    let t := s.heard rx
    let refuse (code : Nat) (r : Result) : Host.Outcome State Fault Refusal := .next (t.answered o rx code r [])
    let following := ((s.ch c).schedule.live.getD []).find? fun e => s.time.h < e.start + s.delay c
    let returnAt :=
      if (s.ch c).settings.returnMode = .immediate ∨ (s.ch c).schedule.state = .empty then s.wrap (s.time.h + 1 : Nat)
      else match following with
        | some e => s.wrap (e.start + s.delay c : Nat)
        | none => s.wrap (s.time.h + 1 : Nat)
    let entering (origin : Option ReturnOrigin) (r : Nat) : State :=
      (t.modOutput c fun z => { z with delivered := .returning }).modControl c fun z =>
        { z with state := .returning, guard := none, returnOrigin := origin, returnPosition := some r }
    let told (v : State) (r : Nat) : State :=
      match (v.ch c).cue.pendingCue with
      | some y => if y.kind = .followOn ∧ 0 ≤ s.signed y.switchPosition r then v.cancelPending c else v
      | none => v
    let toldCue (r : Nat) : CueContext :=
      match (s.ch c).cue.pendingCue with
      | some y => if y.kind = .followOn ∧ 0 ≤ s.signed y.switchPosition r then { (s.ch c).cue with pendingCue := none } else (s.ch c).cue
      | none => (s.ch c).cue
    (s.site.state = .lost → exec (.returnToMain rx) s = refuse 0x22 .siteLost) ∧
    (s.site.state ≠ .lost → x.state = .outOfService → exec (.returnToMain rx) s = refuse 0x22 .outOfService) ∧
    (s.site.state ≠ .lost → x.state ≠ .outOfService → x.pin ≠ .none → exec (.returnToMain rx) s = refuse 0x22 .pinned) ∧
    (s.site.state ≠ .lost → x.pin = .none →
      (x.state = .main → exec (.returnToMain rx) s = refuse 0x22 .notTaken) ∧
      (x.state = .returning → exec (.returnToMain rx) s = .next (t.acceptedFor o rx 0x22 c)) ∧
      (x.state = .standby → ∃ u, exec (.returnToMain rx) s = .next (u.acceptedFor o rx 0x22 c) ∧
        (u.ch c).control = { x with state := .returning, guard := none, returnOrigin := some .standby, returnPosition := some returnAt } ∧
        u = told (entering (some .standby) returnAt) returnAt ∧ (u.ch c).cue = toldCue returnAt ∧ CueLocal c t u) ∧
      (x.state = .fill → ∃ u, exec (.returnToMain rx) s = .next (u.acceptedFor o rx 0x22 c) ∧
        (u.ch c).control =
          { x with state := .returning, guard := none, returnOrigin := some .fill, returnPosition := some (s.wrap (s.time.h + 1 : Nat)) } ∧
        (u.ch c).cue = { (s.ch c).cue with pendingCue := none, wait := none } ∧ CueLocal c t u) ∧
      (x.state = .returnGuard → ∃ u r, exec (.returnToMain rx) s = .next (u.acceptedFor o rx 0x22 c) ∧
        (u.ch c).control = { x with state := .returning, guard := none, returnPosition := some r } ∧
        r = (if x.returnOrigin = some .fill then s.wrap (s.time.h + 1 : Nat) else returnAt) ∧
        u = told (entering x.returnOrigin r) r ∧ (u.ch c).cue = toldCue r ∧ CueLocal c t u) ∧
      (x.state = .cueing → ∃ u, exec (.returnToMain rx) s = .next (u.acceptedFor o rx 0x22 c) ∧
        (u.ch c).control.state = .main ∧ (u.ch c).control.cause = none ∧ (u.ch c).control.current = none ∧ (u.ch c).cue.pendingCue = none ∧
        u.counter (.chan c .returns) = min (s.counter (.chan c .returns) + 1) 4294967295 ∧ CueLocal c t u) ∧
      (x.state = .cueing →
        let record := x.ring.find? fun r => x.current = some r.sequence
        let back := ((t.requestCancel c).modOutput c fun y => { y with delivered := .main }).modControl c fun y =>
          { y with
            state := .main, cause := none, current := none
            ring := x.ring.map fun r => if x.current = some r.sequence then { r with returnPosition := some s.time.h, outcome := .abandoned } else r }
        ((t.requestCancel c).ch c).cue = { (s.ch c).cue with pendingCue := none, wait := none } ∧
        exec (.returnToMain rx) s =
          .next
            (((back.bump (.chan c .returns)).raise (.returned c (record.map TakeoverRecord.sequence) s.time.h (record.map fun _ => .abandoned))).acceptedFor o
              rx 0x22 c))) ∧
    (x.state = .outOfService → exec (.hold rx) s = refuse 0x23 .outOfService) ∧
    (x.state = .main ∨ x.state = .cueing → exec (.hold rx) s = refuse 0x23 .notTaken) ∧
    (x.state = .standby ∨ x.state = .fill →
      exec (.hold rx) s = .next ((t.modControl c fun y => { y with suspended := true }).acceptedFor o rx 0x23 c)) ∧
    (x.state = .returnGuard → x.returnOrigin = some .standby → ∃ u, exec (.hold rx) s = .next (u.acceptedFor o rx 0x23 c) ∧
      (u.ch c).control = { x with state := .standby, suspended := true, guard := none, returnPosition := none, returnOrigin := none } ∧
      u.counter (.chan c .guardCancels) = min (s.counter (.chan c .guardCancels) + 1) 4294967295 ∧ CueLocal c t u) ∧
    (x.state = .returning → x.returnOrigin = some .standby → ∃ u, exec (.hold rx) s = .next (u.acceptedFor o rx 0x23 c) ∧
      (u.ch c).control = { x with state := .standby, suspended := true, guard := none, returnPosition := none, returnOrigin := none } ∧
      CueLocal c t u) ∧
    (x.state = .returnGuard ∨ x.state = .returning → x.returnOrigin = some .standby →
      let counted := if x.state = .returnGuard then t.bump (.chan c .guardCancels) else t
      let back := (counted.modOutput c fun z => { z with delivered := .standby }).modControl c fun z =>
        { z with state := .standby, suspended := true, guard := none, returnPosition := none, returnOrigin := none }
      exec (.hold rx) s = .next ((back.followOnCheck c).acceptedFor o rx 0x23 c) ∧
        ((back.followOnCheck c).ch c).cue.playing = (s.ch c).cue.playing ∧ ((s.ch c).cue.pendingCue ≠ none → back.followOnCheck c = back)) ∧
    (x.state = .returnGuard ∨ x.state = .returning → x.returnOrigin = some .fill →
      let counted := if x.state = .returnGuard then t.bump (.chan c .guardCancels) else t
      let back := (counted.modOutput c fun z => { z with delivered := .fill }).modControl c fun z =>
        { z with state := .fill, suspended := true, guard := none, returnPosition := none, returnOrigin := none }
      exec (.hold rx) s = .next (((back.stopPlaying c).requestJoin c).acceptedFor o rx 0x23 c) ∧
        ((back.stopPlaying c).ch c).cue.playing = none)

/-- R134, R138, R139, R185: a pin that changes ends a running ramp. PIN MAIN clears the awaiting-recue flag, keeps a channel in MAIN, abandons the takeover of one
in CUEING, brings one in FILL, STANDBY or RETURN_GUARD to RETURNING with R at H + 1 and no pending cue, and in RETURNING brings a later R to H + 1. PIN STANDBY takes
over a channel in MAIN, keeps one in CUEING, FILL or STANDBY, and calls off the return of one in RETURN_GUARD or RETURNING: with return origin STANDBY the playing
cue is kept and a follow-on is computed where none is pending, with FILL it is stopped and a join is asked for. Out of service both are refused, PIN MAIN is
refused in FILL and STANDBY while the site is LOST, and the pin already held changes nothing (log 31: the model's choice). That the returned report's sequence and
outcome are absent with its record is the model's choice (log 43). -/
def Obligations.Pins : Prop :=
  ∀ (s : State) (rx : ControlRx) (c : Chan), Named s .console rx c →
    let x := (s.ch c).control
    let t := s.heard rx
    let cut : State :=
      if (s.ch c).output.ramp = .idle then t else (t.modOutput c fun y => { y with ramp := .idle }).bump (.chan c .rampsCut)
    let h1 := s.wrap (s.time.h + 1 : Nat)
    let ended (u : State) : Prop :=
      (u.ch c).output.ramp = .idle ∧
        u.counter (.chan c .rampsCut) =
          if (s.ch c).output.ramp = .idle then s.counter (.chan c .rampsCut) else min (s.counter (.chan c .rampsCut) + 1) 4294967295
    (x.state = .outOfService →
      exec (.pinMain rx) s = .next (t.answered .console rx 0x24 .outOfService []) ∧
      exec (.pinStandby rx) s = .next (t.answered .console rx 0x24 .outOfService [])) ∧
    (s.site.state = .lost → x.state = .fill ∨ x.state = .standby → exec (.pinMain rx) s = .next (t.answered .console rx 0x24 .siteLost [])) ∧
    (x.state = .main → x.pin ≠ .main →
      exec (.pinMain rx) s = .next ((cut.modControl c fun y => { y with pin := .main, awaitingRecue := false }).acceptedFor .console rx 0x24 c)) ∧
    (x.state = .cueing → x.pin ≠ .main →
      let record := x.ring.find? fun r => x.current = some r.sequence
      let back := ((cut.requestCancel c).modOutput c fun y => { y with delivered := .main }).modControl c fun y =>
        { y with
          pin := .main, awaitingRecue := false, state := .main, cause := none, current := none
          ring := x.ring.map fun r => if x.current = some r.sequence then { r with returnPosition := some s.time.h, outcome := .abandoned } else r }
      exec (.pinMain rx) s =
        .next
          (((back.bump (.chan c .returns)).raise (.returned c (record.map TakeoverRecord.sequence) s.time.h (record.map fun _ => .abandoned))).acceptedFor .console
            rx 0x24 c)) ∧
    (x.state = .fill ∨ x.state = .standby ∨ x.state = .returnGuard → x.pin ≠ .main → ¬(s.site.state = .lost ∧ x.state ≠ .returnGuard) →
      ∃ u, exec (.pinMain rx) s = .next (u.acceptedFor .console rx 0x24 c) ∧
        (u.ch c).control =
          { x with
            pin := .main, awaitingRecue := false, state := .returning, guard := none, returnPosition := some h1
            returnOrigin := if x.state = .fill then some .fill else if x.state = .standby then some .standby else x.returnOrigin } ∧
        (u.ch c).cue = { (s.ch c).cue with pendingCue := none, wait := none } ∧ (u.ch c).output.delivered = .returning ∧ ended u ∧ CueLocal c t u) ∧
    (x.state = .returning → x.pin ≠ .main → ∃ u, exec (.pinMain rx) s = .next (u.acceptedFor .console rx 0x24 c) ∧
      (u.ch c).control =
        { x with
          pin := .main, awaitingRecue := false
          returnPosition := match x.returnPosition with
            | some r => if 0 < s.signed r h1 then some h1 else some r
            | none => none } ∧
      (u.ch c).cue = { (s.ch c).cue with pendingCue := none, wait := none } ∧ ended u ∧ CueLocal c t u) ∧
    (x.state ≠ .outOfService → x.pin = .main → ¬(s.site.state = .lost ∧ (x.state = .fill ∨ x.state = .standby)) →
      exec (.pinMain rx) s = .next (t.acceptedFor .console rx 0x24 c)) ∧
    (x.state ≠ .outOfService → x.pin = .standby → exec (.pinStandby rx) s = .next (t.acceptedFor .console rx 0x24 c)) ∧
    (x.state = .cueing ∨ x.state = .fill ∨ x.state = .standby → x.pin ≠ .standby →
      exec (.pinStandby rx) s = .next ((cut.modControl c fun y => { y with pin := .standby }).acceptedFor .console rx 0x24 c)) ∧
    (x.state = .main → x.pin ≠ .standby → ∃ u, exec (.pinStandby rx) s = .next (u.acceptedFor .console rx 0x24 c) ∧
      (u.ch c).control.pin = .standby ∧ (u.ch c).control.current = some x.nextSequence ∧ (u.ch c).control.sticky = true ∧
      (u.ch c).output.ramp = .idle ∧ CueLocal c t u) ∧
    (x.state = .returnGuard ∨ x.state = .returning → x.pin ≠ .standby →
      let counted := if x.state = .returnGuard then cut.bump (.chan c .guardCancels) else cut
      let back (y : ChannelState) : State :=
        (counted.modOutput c fun z => { z with delivered := y }).modControl c fun z =>
          { z with pin := .standby, state := y, guard := none, returnPosition := none, returnOrigin := none }
      (x.returnOrigin = some .standby →
        exec (.pinStandby rx) s = .next (((back .standby).followOnCheck c).acceptedFor .console rx 0x24 c) ∧
        (((back .standby).followOnCheck c).ch c).cue.playing = (s.ch c).cue.playing ∧
        ((s.ch c).cue.pendingCue ≠ none → (back .standby).followOnCheck c = back .standby)) ∧
      (x.returnOrigin = some .fill →
        exec (.pinStandby rx) s = .next ((((back .fill).stopPlaying c).requestJoin c).acceptedFor .console rx 0x24 c) ∧
        (((back .fill).stopPlaying c).ch c).cue.playing = none))

/-- R142: RECUE asks for a join with fresh attempts in CUEING, FILL and STANDBY, resumes a takeover that awaits it in MAIN, and is refused in the return states,
with pin MAIN, out of service, and in MAIN otherwise. -/
def Obligations.RecueAsksForAJoin : Prop :=
  ∀ (s : State) (rx : ControlRx) (c : Chan), Named s .console rx c →
    let x := (s.ch c).control
    let t := s.heard rx
    let refuse (r : Result) : Host.Outcome State Fault Refusal := .next (t.answered .console rx 0x29 r [])
    (x.state = .outOfService → exec (.recue rx) s = refuse .outOfService) ∧
    (x.state ≠ .outOfService → x.pin = .main → exec (.recue rx) s = refuse .pinned) ∧
    (x.pin ≠ .main →
      (x.state = .cueing ∨ x.state = .fill ∨ x.state = .standby →
        exec (.recue rx) s = .next ((t.requestJoin c).acceptedFor .console rx 0x29 c)) ∧
      (x.state = .returnGuard ∨ x.state = .returning → exec (.recue rx) s = refuse .inReturn) ∧
      (x.state = .main → x.awaitingRecue = false → exec (.recue rx) s = refuse .notTaken) ∧
      (x.state = .main → x.awaitingRecue = true →
        let a := t.modControl c fun y =>
          { y with
            state := .cueing, awaitingRecue := false, cause := some .command, sticky := true
            ring := y.ring.map fun r => if y.current = some r.sequence then { r with outcome := .pending } else r }
        exec (.recue rx) s = .next (((a.modOutput c fun y => { y with delivered := .cueing }).requestJoin c).acceptedFor .console rx 0x29 c)))

/-- R49, R72, R123, R124, R173: SET_SERVICE takes a channel into service in MAIN with d latched and its detectors settling, changes the mode alone for one in
service, and takes one out of service with its cues ended, a PENDING current record ABANDONED and the rest of the ring kept, its suspended and awaiting-recue
flags clear, its guard, return position and return origin absent, its slots free and its output buffer empty, with no overrun counted. The model's choices:
the modes' codes (log 34), that the carriers of a frame being sent at an exit stay sent and the ports are free at once (log 64), and floors from the H that
the part holds, also where no boundary has carried it yet (log 57). -/
def Obligations.SetServiceEntersAndLeaves : Prop :=
  ∀ (s : State) (rx : ControlRx) (c : Chan), Named s .console rx c →
    let x := s.ch c
    let t := s.heard rx
    (∀ mode m, (mode = 0 ∧ m = ServiceMode.monitor ∨ mode = 1 ∧ m = .protected_) →
      (x.control.state ≠ .outOfService →
        exec (.setService rx mode) s = .next ((t.modControl c fun y => { y with mode := m }).acceptedFor .console rx 0x20 c)) ∧
      (x.control.state = .outOfService → (∀ det, (x.detState det).latched = false) → ∃ u, exec (.setService rx mode) s = .next u ∧
        (u.ch c).control =
          { x.control with
            mode := m, state := .main, pin := .none, cause := none, returnOrigin := none, guard := none, returnPosition := none
            suspended := false, awaitingRecue := false, current := none } ∧
        (u.ch c).align.d = some (if x.settings.delayOverride = 0 then x.align.measurement.measured else x.settings.delayOverride) ∧
        (u.ch c).align.mainFloor = s.wrap ((s.time.h : Int) - (if x.settings.delayOverride = 0 then x.align.measurement.measured else x.settings.delayOverride)) ∧
        (u.ch c).align.standbyFloor = s.time.h ∧ (u.ch c).align.mainHeld = none ∧ (u.ch c).align.standbyHeld = none ∧ (u.ch c).align.retime = none ∧
        (u.ch c).monitor.reference = none ∧ (u.ch c).output.delivered = .main ∧ (u.ch c).schedule = x.schedule ∧
        ∀ det, (x.settings.detectors[(detectorIndex det).val]).enabled = true → 1 ≤ (x.settings.detectors[(detectorIndex det).val]).settleFrames →
          ((u.ch c).detState det).phase = .settling ∧ ((u.ch c).detState det).settle = (x.settings.detectors[(detectorIndex det).val]).settleFrames)) ∧
    (∀ mode, 3 ≤ mode → exec (.setService rx mode) s = .next (t.answered .console rx 0x20 .badValue [])) ∧
    exec (.setService rx 2) s = exec (.setServiceOut rx) s ∧
    (x.control.state = .outOfService → exec (.setServiceOut rx) s = .next (t.acceptedFor .console rx 0x20 c)) ∧
    (x.control.state ≠ .outOfService → ∃ u, exec (.setServiceOut rx) s = .next u ∧
      (u.ch c).control.state = .outOfService ∧ (u.ch c).control.mode = .outOfService ∧ (u.ch c).control.pin = .none ∧ (u.ch c).control.cause = none ∧
      (u.ch c).control.current = none ∧ (u.ch c).control.owner = x.control.owner ∧ (u.ch c).control.sticky = x.control.sticky ∧
      (u.ch c).control.returnAck = x.control.returnAck ∧ (u.ch c).cue.pendingCue = none ∧ (u.ch c).cue.playing = none ∧
      (u.ch c).slots = { main := Vector.replicate 16 .free, standby := Vector.replicate 4 .free, tracker := none } ∧ (u.ch c).align.freeUnits = 21 ∧
      (u.ch c).align.d = none ∧ (u.ch c).align.measurement.measured = x.align.measurement.measured ∧ (u.ch c).schedule = x.schedule ∧
      (∀ det, (u.ch c).detState det = { phase := .clear, latched := false, settle := 0, bad := 0, good := 0 }) ∧
      (u.ch c).monitor.verdict = .healthy ∧
      (u.ch c).control =
        { x.control with
          mode := .outOfService, state := .outOfService, pin := .none, cause := none, returnOrigin := none, guard := none, returnPosition := none
          suspended := false, awaitingRecue := false, current := none
          ring := x.control.ring.map fun r =>
            if x.control.current = some r.sequence ∧ r.outcome = .pending then { r with outcome := .abandoned } else r } ∧
      (u.ch c).output = { delivered := .outOfService, lastCategory := none, lastTag := none, ramp := .idle, sending := none, waiting := none } ∧
      u.counter (.chan c .outputOverruns) = s.counter (.chan c .outputOverruns) ∧ ∀ c', c' ≠ c → u.ch c' = s.ch c')

/-! ## Cueing (Chapter 8) -/

/-- R152, R153: the join decided at H with the lead L: the event at S = H + L − d, if there is one, is joined at the offset S − E.start when it is LIVE, when it
is FIXED and S is its start, and when it is CLIP with at least the join margin left; otherwise, and in a gap, the next event is cued from its start. -/
def Obligations.JoinsFollowTheTable : Prop :=
  ∀ (l : List Event) (h lead d margin : Nat), Ordered l →
    let at_ : Int := (h : Int) + lead - d
    let j := chooseJoin l h lead d margin
    let next := (l.find? fun e => at_ < (e.start : Int)).map fun e => (e, 0, e.start + d)
    (∀ e ∈ l, (e.start : Int) ≤ at_ → at_ < (e.finish : Int) →
      let o := (at_ - e.start).toNat
      j.found = some (e, o) ∧ o < e.duration ∧
        j.cued =
          (match e.material with
            | .live _ => some (e, o, h + lead)
            | .fixed _ _ => if o = 0 then some (e, 0, h + lead) else next
            | .clip _ _ => if margin ≤ e.duration - o then some (e, o, h + lead) else next)) ∧
    ((∀ e ∈ l, ¬((e.start : Int) ≤ at_ ∧ at_ < (e.finish : Int))) → j = { found := none, cued := next })

/-- R129, R150, R151, R154, R155, R170: a join with fresh attempts cancels the pending cue and clears the schedule wait. It sends a CUE with the next number to the
channel's server, finds no event and leaves the schedule wait, or, with the server out of reach, uses up its attempts. R154: with the record link set, as a
takeover sets it, the join first writes into the current record the event id and the offset found at S, when S lies in an event and the join cues one, and clears
the link; it is then taken as with the link clear. The event start that the CUE carries is reduced modulo C, which is the model's choice (log 16). -/
def Obligations.JoinRequests : Prop :=
  (∀ (s : State) (c : Chan), (s.ch c).cue.recordLink = true →
    let j := chooseJoin ((s.ch c).schedule.live.getD []) s.time.h (s.ch c).settings.lead (s.delay c) (s.ch c).settings.joinMargin
    let linked (r : TakeoverRecord) : TakeoverRecord := match j.found, j.cued with
      | some (e, o), some _ => { r with event := some (e.id, o) }
      | _, _ => r
    s.requestJoin c =
      ((s.modControl c fun y => { y with ring := y.ring.map fun r => if y.current = some r.sequence then linked r else r }).modCue c fun y =>
        { y with recordLink := false }).requestJoin c) ∧
  ∀ (s : State) (c : Chan), 1 ≤ (s.ch c).settings.cueAttempts → (s.ch c).cue.recordLink = false →
    let limit := (s.ch c).settings.cueAttempts
    let j := chooseJoin ((s.ch c).schedule.live.getD []) s.time.h (s.ch c).settings.lead (s.delay c) (s.ch c).settings.joinMargin
    let entry := s.settings.servers[(s.ch c).settings.server.val]
    let up := entry.mapped = true ∧ s.linkUp (.standby entry.port) = true
    let n := (s.ch c).cue.nextNumber
    (∀ x, (s.ch c).cue.pendingCue = some x →
      s.requestJoin c = ((s.cancelPending c).requestJoin c) ∧ ((s.cancelPending c).ch c).cue.pendingCue = none ∧ CueLocal c s (s.cancelPending c)) ∧
    ((s.ch c).cue.pendingCue = none →
      (∀ e o t, j.cued = some (e, o, t) → up →
        s.requestJoin c =
          (((s.modCue c fun y =>
            { y with
              wait := none, nextNumber := (n + 1) % 256
              pendingCue :=
                some
                  { number := some n, kind := .join, server := (s.ch c).settings.server, player := (s.ch c).settings.player, event := e, offset := o
                    materialPosition := e.material.inPoint.map fun i => i + o, playLength := e.duration - o, switchPosition := s.wrap (t : Int), used := 0
                    limit := limit, status := .sent } }).bump (.chan c .cuesSent)).send
            (.standby entry.port) (.cue (s.ch c).settings.player n .join { e with start := s.wrap (e.start : Int) } o (s.wrap (t : Int))))) ∧
      (j.cued = none →
        ((s.ch c).control.state = .cueing ∨ (s.ch c).control.state = .fill →
            ((s.requestJoin c).ch c).cue = { (s.ch c).cue with wait := some (0, limit) } ∧ ((s.requestJoin c).ch c).control.state = .fill) ∧
          ((s.ch c).control.state = .standby →
            ((s.requestJoin c).ch c).cue = { (s.ch c).cue with wait := some (0, limit), playing := none } ∧
              ((s.requestJoin c).ch c).control.state = .fill)) ∧
      (∀ e o t, j.cued = some (e, o, t) → ¬up →
        (s.requestJoin c).counter (.chan c .noServerFailures) = min (s.counter (.chan c .noServerFailures) + limit) 4294967295 ∧
          ((s.requestJoin c).ch c).cue.pendingCue = none ∧ ((s.requestJoin c).ch c).cue.wait = none ∧
          ((s.ch c).control.state = .fill → ((s.requestJoin c).ch c).control.state = .fill) ∧
          ((s.ch c).control.state = .cueing →
            ((s.requestJoin c).ch c).control.state = .main ∧ ((s.requestJoin c).ch c).control.awaitingRecue = true ∧
              ((s.requestJoin c).ch c).control.cause = none)))

/-- R156, R157, R158: a READY or REFUSED of a server whose player carries one channel's cue. READY makes a SENT cue READY, is a duplicate of one that is READY
or playing, and is otherwise answered with CANCEL and counted as stray. REFUSED of a pending JOIN counts and settles it; of a FAILED cue or another number it
is stray. An answer for no channel is unmatched. R162: REFUSED of a pending FOLLOW_ON cancels it, and it is computed again while attempts are left and its
switch position is 2 or more ahead, and otherwise stays pending as FAILED. The model's choices: where the CANCEL for a FAILED cue goes (log 51), that its
attempts used stay at 7 (log 50), that a follow-on computed again is dropped where its check sends nothing (log 63), and that a cue that was never sent holds
no number (log 61). -/
def Obligations.ServerAnswers : Prop :=
  ∀ (s : State) (rx : ControlRx) (server : Fin 8) (player number reason : Nat), FromServer s rx server → player < 4 →
    let t := s.bump (.port rx.port .carriersIn)
    let concerns (c : Chan) : Prop :=
      s.inService c = true ∧ (sentTo (s.ch c).cue.pendingCue server.val player = true ∨ sentTo (s.ch c).cue.playing server.val player = true)
    ((∀ c, ¬concerns c) →
      exec (.ready rx player number) s = .next (t.bump (.whole .cueAnswersUnmatched)) ∧
      exec (.refused rx player number reason) s = .next (t.bump (.whole .cueAnswersUnmatched))) ∧
    ∀ c, concerns c → (∀ c', concerns c' → c' = c) →
      (∀ x, (s.ch c).cue.pendingCue = some x → x.number = some number →
        (x.status = .sent →
          exec (.ready rx player number) s = .next (t.modCue c fun y => { y with pendingCue := some { x with status := .ready } })) ∧
        (x.status = .ready → exec (.ready rx player number) s = .next (t.bump (.chan c .readyDuplicates))) ∧
        (x.status = .failed →
          exec (.ready rx player number) s =
            .next
              ((match s.reach server with
                | some p => (t.bump (.chan c .cancelsSent)).send p (.cancel player number)
                | none => t.bump (.chan c .cueControlsUnsent)).bump (.chan c .strayReadies)) ∧
          exec (.refused rx player number reason) s = .next (t.bump (.chan c .strayRefusals))) ∧
        (x.status ≠ .failed → x.kind = .join →
          let a := (t.bump (.chan c .cueRefusals)).cancelPending c
          exec (.refused rx player number reason) s = .next (if x.used + 1 < x.limit then a.join c (x.used + 1) x.limit else a.exhausted c)) ∧
        (x.status ≠ .failed → x.kind = .followOn →
          let a := (t.bump (.chan c .cueRefusals)).cancelPending c
          let again := x.used + 1 < x.limit ∧ 2 ≤ forwardDistance s.cycle s.time.h x.switchPosition
          (again → exec (.refused rx player number reason) s = .next (a.runFollowOn (x.limit + 1) c (x.used + 1) x.limit)) ∧
          (¬again →
            exec (.refused rx player number reason) s =
              .next (a.modCue c fun y => { y with pendingCue := some { x with used := min (x.used + 1) 7, status := .failed } })))) ∧
      ((∀ x, (s.ch c).cue.pendingCue = some x → x.number ≠ some number) →
        ((∃ x, (s.ch c).cue.playing = some x ∧ x.number = some number) →
          exec (.ready rx player number) s = .next (t.bump (.chan c .readyDuplicates))) ∧
        ((∀ x, (s.ch c).cue.playing = some x → x.number ≠ some number) →
          exec (.ready rx player number) s =
            .next
              ((match s.reach server with
                | some p => (t.bump (.chan c .cancelsSent)).send p (.cancel player number)
                | none => t.bump (.chan c .cueControlsUnsent)).bump (.chan c .strayReadies))) ∧
        exec (.refused rx player number reason) s = .next (t.bump (.chan c .strayRefusals)))

/-- R158 to R160: at its switch position a READY join becomes the playing cue, and a channel in CUEING or FILL is in STANDBY; one that is not READY has
expired, is cancelled, and is computed again or exhausted. R128, R147, R159, R170: in STANDBY, RETURN_GUARD and RETURNING the state stays, in CUEING and FILL
the current record becomes ON_STANDBY with the switch position unless it is so; in each of the five a playing cue of another server or player is stopped, one
of the same is replaced without STOP, SWITCHES rises, a switched report is raised and the follow-on check is made. Neither is taken when it is not due (log
3). R165 to R168: a notice that touches the pending cue cancels it, counts RECOMPUTES, and computes it again with its attempts (where the check of a follow-on
sends nothing at once they are forgotten, log 63: the model's choice); the playing cue takes its event as it now stands, or, when that event is gone, a join
with fresh attempts is computed; a schedule wait in FILL is looked at again. The order of these, with one join or follow-on computed, is the model's choice
(log 15). R169: what a realignment does to the cues in each state. -/
def Obligations.JoinsAtTheirSwitchPosition : Prop :=
  (∀ (s : State) (c : Chan) (x : Cue),
    ((s.ch c).work.cue = false → exec (.joinSwitch c) s = .next s ∧ exec (.joinExpiry c) s = .next s) ∧
    ((s.ch c).work.cue = true → (s.ch c).cue.pendingCue = some x → x.kind = .join → s.signed x.switchPosition s.time.h ≤ 0 →
      let t := s.modWork c fun w => { w with cue := false }
      (x.status = .ready → (s.ch c).control.state = .cueing ∨ (s.ch c).control.state = .fill → ∃ u, exec (.joinSwitch c) s = .next (u.finishChannel c) ∧
        (u.ch c).control.state = .standby ∧ (u.ch c).output.delivered = .standby ∧ (u.ch c).cue.playing = some x ∧
        (∀ y, (u.ch c).cue.pendingCue = some y → y.kind = .followOn) ∧
        u.counter (.chan c .switches) = min (s.counter (.chan c .switches) + 1) 4294967295 ∧ CueLocal c t u) ∧
      (x.status = .ready → (s.ch c).control.state ≠ .main → (s.ch c).control.state ≠ .outOfService →
        let y := (s.ch c).control
        let stopped : State := match (s.ch c).cue.playing with
          | none => t
          | some p =>
            if p.server = x.server ∧ p.player = x.player then t
            else match p.number, s.reach p.server with
              | none, _ => t
              | some n, some port => (t.bump (.chan c .stopsSent)).send port (.stop p.player.val n)
              | some _, none => t.bump (.chan c .cueControlsUnsent)
        let playing := (stopped.modCue c fun z => { z with pendingCue := none, playing := some x }).bump (.chan c .switches)
        let onStandby (r : TakeoverRecord) : TakeoverRecord :=
          if y.current = some r.sequence ∧ r.outcome ≠ .onStandby then { r with outcome := .onStandby, switchPosition := some x.switchPosition } else r
        let entered := y.state = .cueing ∨ y.state = .fill
        let u : State :=
          if entered then
            (playing.modControl c fun z => { z with state := .standby, ring := z.ring.map onStandby }).modOutput c fun z => { z with delivered := .standby }
          else playing
        let sequence := (y.ring.find? fun r => y.current = some r.sequence).map TakeoverRecord.sequence
        let reported := u.raise (.switched c sequence .join x.switchPosition (if entered then .standby else y.state))
        exec (.joinSwitch c) s = .next ((reported.followOnCheck c).finishChannel c)) ∧
      (x.status ≠ .ready →
        let a := (t.bump (.chan c .cueExpiries)).cancelPending c
        exec (.joinExpiry c) s =
          .next ((if x.used + 1 < x.limit then a.join c (x.used + 1) x.limit else a.exhausted c).finishChannel c)))) ∧
  (∀ (s : State) (c : Chan) (n : Notice),
    let cue := (s.ch c).cue
    let named (id : Nat) : Prop := match n with
      | .amendment _ items => ∃ i ∈ items, i.id = id
      | _ => True
    let shares (lo hi : Int) : Prop := match n with
      | .amendment _ items => ∃ i ∈ items, ∃ a b, (i.before = some (a, b) ∨ i.after = some (a, b)) ∧ ∃ q : Int, lo ≤ q ∧ q ≤ hi ∧ (a : Int) ≤ q ∧ q < (b : Int)
      | _ => True
    let touched (x : Cue) : Prop := match x.kind with
      | .join =>
        named x.event.id ∨
          shares ((s.time.h : Int) + (s.ch c).settings.lead - s.delay c) ((s.time.h : Int) + forwardDistance s.cycle s.time.h x.switchPosition - s.delay c)
      | .followOn =>
        named x.event.id ∨ ∃ p, cue.playing = some p ∧ (named p.event.id ∨ shares ((p.event.start : Int) + p.event.duration) (x.event.start : Int))
    let live := (s.ch c).schedule.live.getD []
    let looked (p : Cue) : Prop := cue.playing = some p ∧ named p.event.id
    let gone (p : Cue) : Prop := ∀ e ∈ live, e.id ≠ p.event.id
    let cancelled : State := (s.cancelPending c).bump (.chan c .recomputes)
    let kept (t : State) (e : Event) : State := t.modCue c fun y => { y with playing := y.playing.map fun q => { q with event := e } }
    let recheck (t : State) (x : Cue) : State := t.runFollowOn (x.limit + 1) c x.used x.limit
    let again (t : State) (x : Cue) : State := if x.kind = .join then t.join c x.used x.limit else recheck t x
    (∀ x, cue.pendingCue = some x → touched x →
      ((∀ p, ¬looked p) → s.takeNotice c n = again cancelled x) ∧
      (∀ p e, looked p → live.find? (fun e => e.id == p.event.id) = some e → s.takeNotice c n = again (kept cancelled e) x) ∧
      ∀ p, looked p → gone p →
        let t := cancelled.join c 0 (s.ch c).settings.cueAttempts
        s.takeNotice c n = (if x.kind = .join then t else recheck t x)) ∧
    ((∀ x, cue.pendingCue = some x → ¬touched x) →
      (∀ p e, looked p → live.find? (fun e => e.id == p.event.id) = some e → s.takeNotice c n = kept s e) ∧
      (∀ p, looked p → gone p → s.takeNotice c n = (s.cancelPending c).join c 0 (s.ch c).settings.cueAttempts) ∧
      ((∀ p, ¬looked p) →
        (∀ used limit, (s.ch c).control.state = .fill → cue.wait = some (used, limit) → n ≠ .cleared →
          s.takeNotice c n = (s.modCue c fun y => { y with wait := none }).join c used limit) ∧
        ((s.ch c).control.state ≠ .fill ∨ cue.wait = none ∨ n = .cleared → s.takeNotice c n = s)))) ∧
  ∀ (s : State) (c : Chan),
    let cue := (s.ch c).cue
    let state := (s.ch c).control.state
    let cancelled : State := (s.cancelPending c).bump (.chan c .recomputes)
    (state = .cueing ∨ state = .fill →
      (∀ x, cue.pendingCue = some x → s.realignCues c = cancelled.join c x.used x.limit) ∧ (cue.pendingCue = none → s.realignCues c = s)) ∧
    (state = .standby ∨ state = .returnGuard →
      (∀ x, cue.pendingCue = some x → x.kind = .join → s.realignCues c = cancelled.join c x.used x.limit) ∧
      ((∃ x, cue.pendingCue = some x ∧ x.kind = .followOn) ∨ (cue.pendingCue = none ∧ cue.playing ≠ none) →
        s.realignCues c = cancelled.join c 0 (s.ch c).settings.cueAttempts) ∧
      (cue.pendingCue = none → cue.playing = none → s.realignCues c = s)) ∧
    (state = .returning → s.realignCues c = s.cancelPending c) ∧ (state = .main ∨ state = .outOfService → s.realignCues c = s)

/-- R130, R161, R163, R164: on the standby path with no pending cue, the next event past the playing end is cued once its issue position is reached; a READY
follow-on at its switch position becomes the playing cue; one that is not READY, and the end of the schedule, stop the playing cue and take a channel from
STANDBY to FILL, or set the return origin FILL. R161, R162: in RETURNING no follow-on goes out that would switch at or after the return position; with the server
out of reach each attempt fails at once, until none is left or the switch position is less than 2 ahead, and the follow-on stays pending as FAILED. The model's
choices: a step that is not due changes nothing (log 3), the event start that the CUE carries is reduced modulo C (log 16), and a follow-on that is FAILED with the
server out of reach holds no number (log 61). -/
def Obligations.FollowOns : Prop :=
  (∀ (s : State) (c : Chan),
    let t := s.modWork c fun w => { w with cue := false }
    let state := (s.ch c).control.state
    let failed (u : State) : Prop :=
      (u.ch c).cue.playing = none ∧ u.counter (.chan c .followOnFailures) = min (s.counter (.chan c .followOnFailures) + 1) 4294967295 ∧
        (state = .standby → (u.ch c).control.state = .fill ∧ (u.ch c).output.delivered = .fill) ∧
        (state = .returnGuard ∨ state = .returning →
          (u.ch c).control = { (s.ch c).control with returnOrigin := some .fill } ∧ (u.ch c).cue.pendingCue = none) ∧
        CueLocal c t u
    ((s.ch c).work.cue = false →
      exec (.followOnCheck c) s = .next s ∧ exec (.followOnSwitch c) s = .next s ∧ exec (.followOnFailure c) s = .next s ∧ exec (.endOfSchedule c) s = .next s) ∧
    ((s.ch c).work.cue = true →
      (∀ x, (s.ch c).cue.pendingCue = some x → x.kind = .followOn → s.signed x.switchPosition s.time.h ≤ 0 →
        (x.status = .ready → ∃ u, exec (.followOnSwitch c) s = .next (u.finishChannel c) ∧
          (u.ch c).cue.playing = some x ∧ (u.ch c).control = (s.ch c).control ∧
          u.counter (.chan c .switches) = min (s.counter (.chan c .switches) + 1) 4294967295 ∧ CueLocal c t u) ∧
        (x.status ≠ .ready → ∃ u, exec (.followOnFailure c) s = .next (u.finishChannel c) ∧ failed u)) ∧
      (∀ p, (s.ch c).cue.pendingCue = none → (s.ch c).cue.playing = some p → state = .standby ∨ state = .returnGuard ∨ state = .returning →
        let next := ((s.ch c).schedule.live.getD []).find? fun e => p.playingEnd ≤ e.start && s.time.h < e.start + s.delay c
        (next = none → s.signed (p.playingEnd + s.delay c : Nat) s.time.h ≤ 0 → ∃ u, exec (.endOfSchedule c) s = .next (u.finishChannel c) ∧ failed u) ∧
        ∀ e, next = some e → s.signed ((e.start + s.delay c : Nat) - ((s.ch c).settings.lead : Int)) s.time.h ≤ 0 →
          let entry := s.settings.servers[(s.ch c).settings.server.val]
          let n := (s.ch c).cue.nextNumber
          let before := ∀ q, (s.ch c).control.returnPosition = some q → s.signed (e.start + s.delay c : Nat) q < 0
          (state = .returning → ¬before → exec (.followOnCheck c) s = .next s) ∧
          (state ≠ .returning ∨ before → entry.mapped = true → s.linkUp (.standby entry.port) = true →
          exec (.followOnCheck c) s =
            .next
              (((((t.modCue c fun y =>
                { y with
                  nextNumber := (n + 1) % 256
                  pendingCue :=
                    some
                      { number := some n, kind := .followOn, server := (s.ch c).settings.server, player := (s.ch c).settings.player, event := e
                        offset := 0, materialPosition := e.material.inPoint.map fun i => i + 0, playLength := e.duration
                        switchPosition := s.wrap (e.start + s.delay c : Nat), used := 0, limit := (s.ch c).settings.cueAttempts
                        status := .sent } }).bump (.chan c .cuesSent)).send (.standby entry.port)
                (.cue (s.ch c).settings.player n .followOn { e with start := s.wrap (e.start : Int) } 0
                  (s.wrap (e.start + s.delay c : Nat))))).finishChannel c))))) ∧
  ∀ (s : State) (c : Chan) (p : Cue) (e : Event) (used limit : Nat), used < limit → limit ≤ 7 → (s.ch c).cue.pendingCue = none →
    (s.ch c).cue.playing = some p → (s.ch c).control.state = .standby ∨ (s.ch c).control.state = .returnGuard →
    (((s.ch c).schedule.live.getD []).find? fun e => p.playingEnd ≤ e.start && s.time.h < e.start + s.delay c) = some e →
    s.signed ((e.start + s.delay c : Nat) - ((s.ch c).settings.lead : Int)) s.time.h ≤ 0 → s.reach (s.ch c).settings.server = none →
    let at_ := s.wrap (e.start + s.delay c : Nat)
    let tries := if 2 ≤ forwardDistance s.cycle s.time.h at_ then limit - used else 1
    s.runFollowOn (limit + 1) c used limit =
      (s.bumpBy (.chan c .noServerFailures) tries).modCue c fun y =>
        { y with
          pendingCue :=
            some
              { number := none, kind := .followOn, server := (s.ch c).settings.server, player := (s.ch c).settings.player, event := e, offset := 0
                materialPosition := e.material.inPoint.map fun i => i + 0, playLength := e.duration, switchPosition := at_, used := used + tries
                limit := limit, status := .failed } }

/-- R132, R133, R151: a guard that expires leaves the guard counter absent, counts the expiry and enters RETURNING with its return position, cancelling a
pending follow-on that switches at or after it and keeping any other cue; a channel in RETURNING that arrives is in MAIN with its cues ended, its record
closed and the return-ack flag set. Neither is taken when it is not due (log 3: the model's choice). -/
def Obligations.GuardExpiryAndArrival : Prop :=
  ∀ (s : State) (c : Chan),
    let x := (s.ch c).control
    let t := s.modWork c fun w => { w with control := false }
    let returnAt :=
      if x.returnOrigin = some .fill ∨ (s.ch c).settings.returnMode = .immediate ∨ (s.ch c).schedule.state = .empty then s.wrap (s.time.h + 1 : Nat)
      else match ((s.ch c).schedule.live.getD []).find? fun e => s.time.h < e.start + s.delay c with
        | some e => s.wrap (e.start + s.delay c : Nat)
        | none => s.wrap (s.time.h + 1 : Nat)
    ((s.ch c).work.control = false → exec (.guardExpiry c) s = .next s ∧ exec (.returnArrival c) s = .next s) ∧
    ((s.ch c).work.control = true → x.state = .returnGuard → ∃ u, exec (.guardExpiry c) s = .next (u.finishChannel c) ∧
      (u.ch c).control = { x with state := .returning, guard := none, returnPosition := some returnAt } ∧
      u.counter (.chan c .guardExpiries) = min (s.counter (.chan c .guardExpiries) + 1) 4294967295 ∧ CueLocal c t u ∧
      let entered := ((t.bump (.chan c .guardExpiries)).modOutput c fun z => { z with delivered := .returning }).modControl c fun z =>
        { z with state := .returning, guard := none, returnPosition := some returnAt }
      let told (y : Cue) : Prop := (s.ch c).cue.pendingCue = some y ∧ y.kind = .followOn ∧ 0 ≤ s.signed y.switchPosition returnAt
      ((∃ y, told y) → u = entered.cancelPending c ∧ (u.ch c).cue = { (s.ch c).cue with pendingCue := none }) ∧
        ((∀ y, ¬told y) → u = entered ∧ (u.ch c).cue = (s.ch c).cue)) ∧
    ((s.ch c).work.control = true → x.state = .returning → ∃ u, exec (.returnArrival c) s = .next (u.finishChannel c) ∧
      (u.ch c).control =
        { x with
          state := .main, cause := none, returnOrigin := none, returnPosition := none, returnAck := true, current := none
          ring := x.ring.map fun r =>
            if x.current = some r.sequence then
              { r with
                returnPosition := some s.time.h
                outcome := if r.outcome = .pending ∨ r.outcome = .noSchedule then .fillOnly else r.outcome }
            else r } ∧
      (u.ch c).cue = { (s.ch c).cue with pendingCue := none, playing := none, wait := none, recordLink := false } ∧
      (u.ch c).output.delivered = .main ∧ u.counter (.chan c .returns) = min (s.counter (.chan c .returns) + 1) 4294967295 ∧ CueLocal c t u)

/-! ## Output assembly (Chapter 9) -/

/-- R174 to R178, R180 to R182, R184, R186: the frame of a channel in service is stamped H, tagged with its source and counted. A frame whose category is the last
and for which no ramp runs goes out as it came; a change of category with ramps enabled starts a ramp, counted, at two sixteenths; a frame of a ramp that runs
on is scaled by twice its step, and the ramp's advance is due once RAMP_STEP frames are spent. A frame still waiting is replaced and counted. Out of service nothing
is assembled. R54, R176: the slates are read as they stood when the boundary came. -/
def Obligations.FramesAreAssembled : Prop :=
  (∀ (s : State) (prev : Nat) (realigned : Bool), (s.takeBoundary prev realigned).work.slates = s.slates.map Slate.state) ∧
  ∀ (s : State) (c : Chan),
    let x := s.ch c
    let out := x.output
    let slate := s.work.slates[x.settings.fillSlate.val]
    let source : SourceTag × Summary × List (List Byte) × List (List Byte) :=
      let main := out.delivered = .main ∨ out.delivered = .cueing
      let offer := if main then x.align.mainOffer else x.align.standbyOffer
      let held := if main then x.align.mainHeld else x.align.standbyHeld
      let fill : SourceTag × Summary × List (List Byte) × List (List Byte) :=
        match slate with
        | .filled p => (.slate, { vc := p.video.length, ac := 0, luma := p.luma, peaks := [] }, p.video, [])
        | _ => (.slateEmpty, { vc := 0, ac := 0, luma := 0, peaks := [] }, [], [])
      if out.delivered = .fill then fill
      else match offer, held with
        | .fresh, some f => (if main then .main else .standby, f.summary, f.video, f.audio)
        | .held, some f => (if main then .mainHeld else .standbyHeld, f.summary, f.video, f.audio)
        | _, _ => fill
    (out.delivered = .outOfService → s.assemble c = s) ∧
    (out.delivered ≠ .outOfService →
      let t := s.assemble c
      let starts := out.lastCategory ≠ some (categoryOf source.1) ∧ x.settings.rampEnable = true
      (t.ch c).output.lastTag = some source.1 ∧ (t.ch c).output.lastCategory = some (categoryOf source.1) ∧
        t.counter (.chan c (emittedCounter source.1)) = min (s.counter (.chan c (emittedCounter source.1)) + 1) 4294967295 ∧
        (out.waiting ≠ none → t.counter (.chan c .outputOverruns) = min (s.counter (.chan c .outputOverruns) + 1) 4294967295) ∧
        (out.waiting = none → t.counter (.chan c .outputOverruns) = s.counter (.chan c .outputOverruns)) ∧
        (starts → t.counter (.chan c .rampsStarted) = min (s.counter (.chan c .rampsStarted) + 1) 4294967295 ∧
          (t.ch c).work.ramp = decide (x.settings.rampStep ≤ 1)) ∧
        (¬starts → t.counter (.chan c .rampsStarted) = s.counter (.chan c .rampsStarted)) ∧
        (∀ step spent, ¬starts → out.ramp = .running step spent → step ≤ 7 → (t.ch c).output.ramp = .running step (spent + 1) ∧
          (t.ch c).work.ramp = decide (x.settings.rampStep ≤ spent + 1) ∧
          (t.ch c).output.waiting =
            some
              { stream := x.settings.streamId, tag := source.1, stamp := s.time.h, video := source.2.2.1
                summary := { source.2.1 with peaks := source.2.1.peaks.map fun p => p * (2 * step) / 16 }
                audio := source.2.2.2.map (scalePayload (2 * step)) }) ∧
        (starts → (t.ch c).output.ramp = .running 1 1 ∧
          (t.ch c).output.waiting =
            some
              { stream := x.settings.streamId, tag := source.1, stamp := s.time.h, video := source.2.2.1
                summary := { source.2.1 with peaks := source.2.1.peaks.map fun p => p * 2 / 16 }
                audio := source.2.2.2.map (scalePayload 2) }) ∧
        (¬starts → out.ramp = .idle → (t.ch c).output.ramp = .idle ∧
          (t.ch c).output.waiting =
            some
              { stream := x.settings.streamId, tag := source.1, stamp := s.time.h, summary := source.2.1, video := source.2.2.1
                audio := source.2.2.2 }))

/-- R180, R182, R183: once a boundary's frames are assembled, the lowest channel with a frame waiting has it sent on each output port whose link is UP, and
dropped and counted on one whose link is DOWN; on free ports the sending starts before the next command is taken. A ramp step advances to the next, and past
step 7 the ramp is IDLE; a sample scaled by g sixteenths keeps its sign and is rounded toward zero. R183, R208: every whole sample of a payload, three bytes
with the sign first, is scaled in its place, and a part-sample at the end is left. The model's choices: a frame is sent whole, FRAME_SEND ends the one before
it, also with no frame waiting, which changes nothing else (log 24), and a FRAME_SEND with nothing to send and a ramp step that is not due change nothing (log
3). -/
def Obligations.FramesAreSentAndRampsAdvance : Prop :=
  (∀ s : State, s.assembled = true → s.pending = [] → (∀ c, (s.ch c).output.sending = none) → (∃ c, (s.ch c).output.waiting ≠ none) →
    step s = exec .frameSend s) ∧
  (∀ s : State, s.assembled = true →
    ((∀ c, (s.ch c).output.waiting = none ∧ (s.ch c).output.sending = none) → exec .frameSend s = .next s) ∧
    ∀ c f, (s.ch c).output.waiting = some f → (∀ c' : Chan, c'.val < c.val → (s.ch c').output.waiting = none) → ∃ t, exec .frameSend s = .next t ∧
      (t.ch c).output.sending = some f ∧ (t.ch c).output.waiting = none ∧
      (∀ c' : Chan, c' ≠ c → t.ch c' = { s.ch c' with output := { (s.ch c').output with sending := none } }) ∧
      { t.ch c with output := (s.ch c).output } = s.ch c ∧
      (∀ side,
        t.counter (.port (.output side) .carriersOut) =
            (if s.linkUp (.output side) then min (s.counter (.port (.output side) .carriersOut) + (1 + f.video.length + f.audio.length)) 4294967295
             else s.counter (.port (.output side) .carriersOut)) ∧
          t.counter (.port (.output side) .outputDropped) =
            (if s.linkUp (.output side) then s.counter (.port (.output side) .outputDropped)
             else min (s.counter (.port (.output side) .outputDropped) + (1 + f.video.length + f.audio.length)) 4294967295)) ∧
      t.outbox =
        s.outbox ++
          ([Side.a, Side.b].filter fun side => s.linkUp (.output side)).map fun side =>
            { port := .output side, stamp := f.stamp, unitNumber := s.settings.unitNumber, what := .frame f }) ∧
  (∀ s : State, s.assembled = true → (∀ c, (s.ch c).output.waiting = none) → ∃ t, exec .frameSend s = .next t ∧
    (∀ c, t.ch c = { s.ch c with output := { (s.ch c).output with sending := none } }) ∧ { t with chans := s.chans } = s) ∧
  (∀ (s : State) (c : Chan),
    ((s.ch c).work.ramp = false → exec (.rampStepAdvance c) s = .next s) ∧
    ∀ step spent, (s.ch c).work.ramp = true → (s.ch c).output.ramp = .running step spent →
      exec (.rampStepAdvance c) s =
        .next
          ((s.modWork c fun w => { w with ramp := false }).modOutput c fun y =>
            { y with ramp := if step < 7 then .running (step + 1) 0 else .idle })) ∧
  (∀ (g : Nat) (payload : List Byte),
    let scaled := scalePayload g payload
    let whole := payload.length / 3
    scaled.length = payload.length ∧ scaled.drop (3 * whole) = payload.drop (3 * whole) ∧
    ∀ (i : Nat) (a b d : Byte), i < whole → (payload.drop (3 * i)).take 3 = [a, b, d] →
      (scaled.drop (3 * i)).take 3 = sampleBytes (scaleSample g (sampleOf a b d)) ∧
      sampleOf a b d = ((a.toNat * 65536 + b.toNat * 256 + d.toNat : Nat) : Int) - (if 128 ≤ a.toNat then 16777216 else 0)) ∧
  ∀ (g : Nat) (x : Int), g ≤ 16 → -8388608 ≤ x → x < 8388608 →
    16 * (scaleSample g x).natAbs ≤ x.natAbs * g ∧ x.natAbs * g < 16 * (scaleSample g x).natAbs + 16 ∧ (0 ≤ x → 0 ≤ scaleSample g x) ∧
      (x ≤ 0 → scaleSample g x ≤ 0) ∧
      ∀ a b d, sampleBytes x = [a, b, d] → sampleOf a b d = x

/-! ## Management (Chapter 10) -/

/-- R197, R200: SELECT sets the sending origin's mask, SUBSCRIBE the named origin's levels of the kinds that it lists, clamped to 3, and leaves the others as they
are; CLEAR_COUNTERS sets every counter to 0. A SELECT with a channel out of range and a SUBSCRIBE with a report kind out of range are refused with BAD_VALUE, and nothing
changes. R39, R191, R197: a COUNTERS page shows every counter of the channel, and page 255 those of the unit, ports, paths and origins, in chapter order. The model's
choices: a SUBSCRIBE with an origin code of 2 or more is refused with BAD_VALUE, and nothing changes (log 21), of two pairs for one kind the later stands (log 55),
CLEAR_COUNTERS counts its own REPLY after the clearing (log 28), and the place of the counters of one listing (log 18). -/
def Obligations.SelectSubscribeAndClearCounters : Prop :=
  (∀ (s : State) (o : Origin) (rx : ControlRx) (channels : List Nat), Whole s o rx →
    ((∀ n ∈ channels, n < 16) → ∃ mask : BitVec 16, (∀ i, i < 16 → mask.getLsbD i = decide (i ∈ channels)) ∧
      exec (.select rx channels) s = .next (((s.heard rx).modCtx o fun x => { x with mask := mask }).answered o rx 0x40 .accepted [])) ∧
    ((∃ n ∈ channels, 16 ≤ n) → exec (.select rx channels) s = .next ((s.heard rx).answered o rx 0x40 .badValue []))) ∧
  ∀ (s : State) (rx : ControlRx), Whole s .console rx →
    (∀ (pairs : List (Nat × Nat)) (o : Origin) (code : Nat), (code = match o with | .mainSite => 0 | .console => 1) → (∀ p ∈ pairs, p.1 < 8) →
      ∃ levels : Vector Nat 8,
        (∀ kind : Fin 8, levels[kind.val] =
          match (pairs.filter fun p => p.1 = kind.val).getLast? with
          | some p => min p.2 3
          | none => (s.ctx o).levels[kind.val]) ∧
        exec (.subscribe rx code pairs) s =
          .next
            (((s.heard rx).modCtx o fun x => { x with levels := levels }).reply .console rx.port
              { request := rx.request, kind := 0x45, channel := 255, result := .accepted, clamped := pairs.any fun p => 3 < p.2, contents := [] })) ∧
    (∀ (code : Nat) (pairs : List (Nat × Nat)), 2 ≤ code ∨ (∃ p ∈ pairs, 8 ≤ p.1) →
      exec (.subscribe rx code pairs) s = .next ((s.heard rx).answered .console rx 0x45 .badValue [])) ∧
    exec (.clearCounters rx) s = .next (({ s.heard rx with counters := .zero } : State).answered .console rx 0x46 .accepted []) ∧
      (∀ key, Counters.zero.get key = 0) ∧
      (∀ c : Chan, s.page .counters c.val =
        some
          ([ChanCtr.staleReclaims, .corruptFrames, .corruptDiscards, .badSummaries, .lateCompletions, .lateAbandoned, .standbyCorruptFrames,
              .mainMissing, .skippedFrames, .repeats, .windowDiscards, .heldEvictions, .delayWindows, .retimes, .standbyLate, .standbyEarly, .standbyMissing,
              .standbyDiscards, .assertArrival, .assertFreeze, .assertBlack, .assertSilence, .clearArrival, .clearFreeze, .clearBlack, .clearSilence,
              .verdictChanges, .amendApplied, .refusedAmendments, .amendDiscarded, .amendGaps, .amendOld, .overlapRemovals, .overlapTrims, .snapshotsBegun,
              .snapshotsCompleted, .snapshotsFailed, .snapshotTimeouts, .snapshotDuplicates, .snapshotDiscards, .snapshotRejects, .snapshotPast,
              .eventsRetired, .resyncsSent, .replicationChanges, .takeovers, .cueFailures, .guardExpiries, .guardRestarts, .guardCancels, .returns,
              .recordsOverwritten, .cuesSent, .noServerFailures, .cueRefusals, .cueExpiries, .readyDuplicates, .strayReadies, .strayRefusals, .switches,
              .followOnFailures, .recomputes, .cancelsSent, .stopsSent, .cueControlsUnsent, .emittedMain, .emittedMainHeld, .emittedStandby,
              .emittedStandbyHeld, .emittedSlate, .emittedSlateEmpty, .outputOverruns, .rampsStarted, .rampsCut].map fun k =>
            [.num 4 (s.counter (.chan c k))])) ∧
      let contribution := [Port.contribution .a, .contribution .b]
      let standby := [Port.standby 0, .standby 1, .standby 2, .standby 3]
      let output := [Port.output .a, .output .b]
      let inbound : List Port := contribution ++ standby
      let whole (l : List UnitCtr) : List CounterKey := l.map CounterKey.whole
      let ports (l : List PortCtr) (p : List Port) : List CounterKey := l.flatMap fun k => p.map fun x => CounterKey.port x k
      let keys : List (List CounterKey) :=
        [whole [.refBadPulses, .refAdjusts, .refMismatches, .refLosses, .coastedBoundaries, .realignments],
          ports [.fcsErrors, .notCarriage, .carriersIn] inbound, ports [.ignored] output, ports [.badCheck, .badVersion, .badField, .senderMismatch] inbound,
          ports [.outOfService] contribution, ports [.linkChanges] (inbound ++ output), ports [.duplicates] inbound, ports [.early, .late] contribution,
          ports [.standbyUnmapped, .standbyWrongPort, .standbyUnassigned, .standbyAmbiguous] standby,
          [.path .a .downs, .path .b .downs, .path .a .ups, .path .b .ups],
          whole [.keepalivesA, .keepalivesB, .keepaliveDuplicates, .keepaliveGaps, .keepalivesIgnored, .keepaliveExpiries, .siteLosses, .siteRestores,
            .restoreRefusals, .poolExhaustions, .scheduleNoChannel, .cueAnswersUnmatched],
          ports [.carriersOut, .outputDropped] output,
          [.origin .mainSite .repliesSent, .origin .console .repliesSent, .origin .mainSite .repliesUnsent, .origin .console .repliesUnsent,
            .origin .mainSite .notAuthorisedRefusals, .origin .console .notAuthorisedRefusals, .origin .mainSite .reportsSent,
            .origin .console .reportsSent, .origin .mainSite .reportsDropped, .origin .console .reportsDropped],
          whole [.misdirectedControl, .badCommands, .restartDiscards, .imageAdjustments]]
      s.page .counters 255 = some (keys.flatten.map fun key => [.num 4 (s.counter key)])

/-- R18, R24, R25, R37, R39, R57, R59, R77, R91, R118, R121, R144, R148, R171, R179, R186, R191, R204, R205, R209: what CHANNEL, DETECTORS, SERVERS, OUTPUT_MAP,
SITE, IDENTITY and RESTART show, entry by entry, the entry of an event in SCHEDULE, and what STATUS shows of a channel and of the unit on page 255, item by item
in chapter order. R192, R193, R195, R196: SET_WINDOW takes its four values or sets the sticky error; READ on a page at rest (EDGES left out) returns its entries
and advances the offset, with a sticky error held returns that, and past the page sets BAD_OFFSET; CLEAR_ERROR clears the error; SET_WINDOW, READ, WRITE and
CLEAR_ERROR in a busy context are refused with BUSY, which becomes the sticky error, and end the walk. R189, R195: a WRITE of MAIN_SITE is refused with
NOT_AUTHORISED, which becomes the sticky error, and a walk in flight ends (log 52: the model's choice). R193, R196: READ on a SCHEDULE window begins a walk. Its
first reach takes the event at the window's offset, or ends it with BAD_OFFSET; a later reach takes the first event that starts past the cursor; it ends, with
its REPLY, when it has its count or finds no event. In an idle context a reach changes nothing (log 3). The model's choices: the sticky error's offset is the
window's (log 33), the end mark is one flag (log 30), the codes of the sticky error count in the order of R191 and each part that may be absent has a presence
byte, and the items of STATUS stand in the order in which their rules name them (log 18), a mode counts in the order of R120 (log 34), an event moved past the
cursor is reached again (log 59), the end of an event follows its start and CONFIG_STATE is 2 during a load (log 60), a position shown is below C (log 16), the
number of a cue has a presence byte (log 61), and a prescale is its place (log 19). -/
def Obligations.WindowsReadsAndWalks : Prop :=
  (∀ s : State,
    (∀ c : Chan,
      let x := (s.ch c).settings
      s.page .channel c.val =
          some
            [[.num 1 x.lead], [.num 1 x.joinMargin], [.num 1 x.cueAttempts], [.enum x.server.val], [.enum x.player.val],
              [.enum (match x.returnMode with
                | .boundary => 0
                | .immediate => 1)],
              [.flag x.autoReturn], [.num 2 x.guardLength], [.num 1 x.mainHoldLimit], [.num 1 x.standbyHoldLimit], [.enum x.fillSlate.val],
              [.num 1 x.delayOverride], [.num 1 x.delayMargin], [.flag x.rampEnable], [.num 1 x.rampStep],
              [.enum (match (s.ch c).control.mode with
                | .outOfService => 0
                | .monitor => 1
                | .protected_ => 2)]] ∧
        s.page .detectors c.val =
          some
            ((([(0, false), (1, false), (2, true), (3, true)] : List (Fin 4 × Bool)).flatMap fun d =>
                let y := x.detectors[d.1.val]
                [[.flag y.enabled],
                  [.enum (match y.policy with
                    | .ignore => 0
                    | .alarm => 1
                    | .takeover => 2)],
                  [.num 2 y.assertCount], [.num 2 y.clearCount], [.num 1 y.settleFrames],
                  if d.2 then [.num 1 1, .num 2 (y.threshold.getD 0)] else [.num 1 0], [.flag y.riseReport], [.flag y.fallReport]]) ++
              [[.flag x.chain], [.num 1 x.pairSet.toNat]])) ∧
    s.page .servers 255 =
      some (([0, 1, 2, 3, 4, 5, 6, 7] : List (Fin 8)).flatMap fun i =>
        [[.flag s.settings.servers[i.val].mapped], [.enum s.settings.servers[i.val].port.val]]) ∧
    s.page .outputMap 255 =
      some (([0, 1, 2, 3, 4, 5, 6, 7, 8, 9, 10, 11, 12, 13, 14, 15] : List Chan).map fun c => [.num 1 (s.ch c).settings.streamId]) ∧
    s.page .site 255 =
      some
        [[.enum (match s.time.rate with
            | .fr25 => 0
            | .fr30d => 1
            | .fr50 => 2
            | .fr60d => 3)],
          [.num 1 s.settings.pathTimeout], [.num 1 s.settings.pathRestore], [.num 1 s.settings.keepaliveCount], [.enum s.settings.keepalivePrescale.val],
          [.num 1 s.settings.snapshotCount], [.enum s.settings.snapshotPrescale.val], [.num 1 s.settings.resyncCount],
          [.enum s.settings.resyncPrescale.val], [.num 2 s.settings.unitNumber]] ∧
    s.page .identity 255 = some [[.num 2 0x4A57], [.num 2 1620], [.num 1 1], [.num 2 s.settings.unitNumber]] ∧
    s.page .restart 255 =
      some
        [[.enum (match s.mgmt.resetCause with
            | .powerOn => 0
            | .resetLine => 1
            | .warmRestart => 2)],
          [.num 4 s.mgmt.warmRestarts], [.num 4 s.mgmt.lineResets]] ∧
    (∀ page, 16 ≤ page → s.page .channel page = none ∧ s.page .detectors page = none) ∧
    (∀ page, page ≠ 255 →
      s.page .servers page = none ∧ s.page .outputMap page = none ∧ s.page .site page = none ∧ s.page .identity page = none ∧ s.page .restart page = none) ∧
    let label (p : Nat) : List Atom :=
      let l := positionLabel s.time.rate (s.wrap (p : Int))
      [.num 2 l.day, .num 1 l.hh, .num 1 l.mm, .num 1 l.ss, .num 1 l.ff]
    let material (m : Material) : List Atom :=
      let characters (name : List Byte) : List Atom := .num 1 name.length :: name.map fun b => .num 1 b.toNat
      match m with
      | .clip name i => .enum 0 :: .num 1 1 :: characters name ++ [.num 1 1, .num 4 i, .num 1 0]
      | .fixed name i => .enum 1 :: .num 1 1 :: characters name ++ [.num 1 1, .num 4 i, .num 1 0]
      | .live source => [.enum 2, .num 1 0, .num 1 0, .num 1 1, .num 2 source]
    let opt {α : Type} (x : Option α) (f : α → List Atom) : List Atom := match x with
      | none => [.num 1 0]
      | some y => .num 1 1 :: f y
    (∀ e : Event,
      let flags : Nat := (if e.normalised then 1 else 0) + (if e.headTrimmed then 2 else 0) + (if e.tailTrimmed then 4 else 0)
      s.scheduleEntry e =
        List.flatten [[.num 4 e.id], label e.start, label (e.start + e.duration), [.num 4 e.duration], material e.material, [.num 1 flags]]) ∧
    (∀ page, 16 ≤ page → page ≠ 255 → s.page .status page = none) ∧
    (∀ c : Chan,
      let x := s.ch c
      let a := x.align
      let y := x.schedule
      let z := x.control
      let slot (v : Slot) : List Atom := [.enum (match v with
        | .free => 0
        | .filling _ => 1
        | .complete .. => 2
        | .corrupt _ => 3)]
      let cue (q : Cue) : List Atom :=
        List.flatten
          [opt q.number fun n => [.num 1 n],
            [.enum (match q.kind with
              | .join => 0
              | .followOn => 1),
              .enum q.server.val, .enum q.player.val, .num 4 q.event.id, .pos (s.wrap (q.event.start : Int)), .num 4 q.event.duration],
            material q.event.material, [.num 4 q.offset], opt q.materialPosition fun p => [.pos p],
            [.num 4 q.playLength, .pos q.switchPosition, .num 1 q.used, .num 1 q.limit,
              .enum (match q.status with
                | .sent => 0
                | .ready => 1
                | .failed => 2)]]
      s.page .status c.val =
        some
          (x.slots.main.toList.map slot ++
            [[.flag x.slots.tracker.isSome], opt a.d fun d => [.num 1 d], [.num 1 a.measurement.measured, .num 1 a.measurement.count],
              opt a.retime fun r => .num 1 r.value :: label r.target,
              [.num 1 a.mainHeldCount, .num 1 a.standbyHeldCount, .flag a.mainHeld.isSome, .flag a.standbyHeld.isSome], [.num 1 a.freeUnits]] ++
            x.slots.standby.toList.map slot ++
            [[.enum (match x.monitor.verdict with
                | .healthy => 0
                | .suspect => 1
                | .failed => 2)],
              [.flag x.monitor.reference.isSome]] ++
            (([0, 1, 2, 3] : List (Fin 4)).map fun i =>
              let d := x.monitor.detectors[i.val]
              [.enum (match d.phase with
                | .settling => 0
                | .clear => 1
                | .asserted => 2),
                .enum (if d.latched then 1 else 0), .num 1 d.settle, .num 2 d.bad, .num 2 d.good,
                .flag (x.settings.detectors[i.val].enabled && d.latched)]) ++
            [[.enum (match y.state with
                | .empty => 0
                | .current => 1
                | .stale => 2
                | .rebuilding => 3)],
              [.num 2 y.expected], (opt y.live fun l => [.num 2 l.length]) ++ opt y.shadow fun v => [.num 2 v.events.length],
              opt y.shadow fun v => [.num 2 v.revision, .num 2 v.count, .num 2 v.received.length], opt y.snapshotTimer fun n => [.num 2 n],
              opt y.resyncTimer fun n => [.num 2 n],
              [.enum (match z.mode with
                | .outOfService => 0
                | .monitor => 1
                | .protected_ => 2)],
              [.enum (match z.state with
                | .outOfService => 0
                | .main => 1
                | .cueing => 2
                | .fill => 3
                | .standby => 4
                | .returnGuard => 5
                | .returning => 6)],
              [.enum (match z.pin with
                | .none => 0
                | .main => 1
                | .standby => 2)],
              [.enum (match z.owner with
                | .mainSite => 0
                | .localSite => 1)],
              opt z.cause fun k => [.enum (match k with
                | .detector => 0
                | .command => 1
                | .site => 2)],
              opt z.returnOrigin fun k => [.enum (match k with
                | .standby => 0
                | .fill => 1)],
              opt z.guard fun n => [.num 2 n], [.num 2 x.settings.guardLength], opt z.returnPosition label, [.flag z.suspended], [.flag z.sticky],
              [.flag z.returnAck], [.flag z.awaitingRecue], opt (z.ring.find? fun r => z.current = some r.sequence) fun r => [.num 2 r.sequence],
              [.num 2 z.nextSequence], [.flag z.overflow], [.num 1 z.ring.length], opt x.cue.pendingCue cue, opt x.cue.playing cue,
              [.num 1 x.cue.nextNumber], opt x.cue.wait fun w => [.num 1 w.1, .num 1 w.2], [.flag x.cue.recordLink], [.num 1 x.settings.streamId],
              opt x.output.lastTag fun k => [.enum (match k with
                | .main => 0
                | .mainHeld => 1
                | .standby => 2
                | .standbyHeld => 3
                | .slate => 4
                | .slateEmpty => 5)],
              opt x.output.lastCategory fun k => [.enum (match k with
                | .main => 0
                | .standby => 1
                | .slate => 2)],
              match x.output.ramp with
                | .idle => [.enum 0, .num 1 0, .num 1 0]
                | .running step spent => [.enum 1, .num 1 1, .num 1 step, .num 1 1, .num 1 spent],
              [.num 1 ((if x.output.sending.isSome then 1 else 0) + (if x.output.waiting.isSome then 1 else 0))]])) ∧
    let up (b : Bool) : List Atom := [.enum (if b then 0 else 1)]
    let site (k : SiteState) : Atom := .enum (match k with
      | .starting => 0
      | .normal => 1
      | .degraded => 2
      | .isolated => 3
      | .lost => 4)
    let each (f : Context → List Atom) : List (List Atom) := [f s.mgmt.mainSite, f s.mgmt.console]
    let member (x : Context) (c : Chan) : Bool := x.mask.getLsbD c.val
    let onMain (c : Chan) : Bool := decide ((s.ch c).control.state = .main)
    let onStandby (c : Chan) : Bool :=
      decide ((s.ch c).control.state = .standby ∨ (s.ch c).control.state = .returnGuard ∨ (s.ch c).control.state = .returning)
    let summaries : List (Context → Bool) :=
      [fun x => decide ((∃ c, member x c = true) ∧ ∀ c, member x c = true → onMain c = true), fun x => decide (∃ c, member x c = true ∧ onMain c = true),
        fun x => decide ((∃ c, member x c = true) ∧ ∀ c, member x c = true → onStandby c = true),
        fun x => decide (∃ c, member x c = true ∧ onStandby c = true), fun x => decide (∃ c, member x c = true ∧ (s.ch c).control.sticky = true)]
    s.page .status 255 =
      some
        ((let l := positionLabel s.time.rate s.time.h
          [[.num 2 l.day, .num 4 (s.time.h % s.time.rate.fday), .num 1 l.hh, .num 1 l.mm, .num 1 l.ss, .num 1 l.ff],
            [.enum (match s.time.rate with
              | .fr25 => 0
              | .fr30d => 1
              | .fr50 => 2
              | .fr60d => 3)],
            [.enum (match s.time.lock with
              | .unreferenced => 0
              | .locked => 1
              | .refLost => 2
              | .refMismatch => 3)],
            opt s.time.lastDifference fun d => [.int d], [.flag s.time.realignPending]]) ++
          s.ports.links.toList.map up ++ [up s.ports.pathA.up, up s.ports.pathB.up] ++
          (s.slates.toList.map fun v => match v.state with
            | .empty => [.enum 0, .num 1 0, .num 1 0, .num 1 0]
            | .capturing => [.enum 1, .num 1 0, .num 1 0, .num 1 0]
            | .filled p =>
              [.enum 2, .num 1 1, .num 1 p.chan.val, .num 1 1, .enum (match p.path with
                  | .main => 0
                  | .standby => 1),
                .num 1 1, .pos p.position]) ++
          [[site s.site.state],
            [.enum (match s.site.automation with
              | .unknown => 0
              | .alive => 1
              | .lost => 2)],
            [.num 2 s.site.elapsed, .flag s.site.timerRunning],
            opt s.site.lastKeepalive fun k => [.num 2 k.sequence, .enum (match k.side with
              | .a => 0
              | .b => 1), .pos k.position],
            opt s.site.loss fun k => [.enum (match k.cause with
              | .conditions => 0
              | .declared => 1), .pos k.position, site k.left],
            [.num 2 s.poolFree]] ++
          (summaries.flatMap fun f => each fun x => [.flag (f x)]) ++
          [match s.mgmt.config with
            | .loaded => [.enum 0, .num 1 0]
            | .defaulted f => [.enum 1, .num 1 1, .enum (match f with
              | .noMemory => 0
              | .badMark => 1
              | .badVersion => 2
              | .badCrc => 3)]
            | .loading => [.enum 2, .num 1 0],
            (opt s.mgmt.lastSave fun v => [.enum (if v.1 then 0 else 1), .pos v.2]) ++ [.flag s.mgmt.save.isSome], [.flag s.mgmt.restarting.isSome]] ++
          (each fun x =>
            [.enum (match x.window.table with
              | .status => 0
              | .counters => 1
              | .edges => 2
              | .schedule => 3
              | .records => 4
              | .channel => 5
              | .detectors => 6
              | .servers => 7
              | .outputMap => 8
              | .site => 9
              | .identity => 10
              | .restart => 11), .num 1 x.window.page, .num 2 x.window.offset, .flag x.window.auto]) ++
          (each fun x => opt x.walk fun w => [.num 1 w.gathered.length]) ++
          (each fun x => match x.sticky with
            | none => [.enum 0, .num 1 0, .num 1 0]
            | some e => [.enum (match e.code with
                | .busy => 1
                | .badTable => 2
                | .badOffset => 3
                | .readOnly => 4
                | .notAuthorised => 5
                | .badValue => 6
                | _ => 0), .num 1 1, .num 2 e.request, .num 1 1, .num 2 e.offset]) ++
          (each fun x => [.num 2 x.mask.toNat]) ++ (each fun x => x.levels.toList.map fun n => .num 1 n) ++
          (each fun x => [.num 1 x.queue.length, .num 2 x.nextSequence]) ++ [opt s.mgmt.consolePort fun n => [.enum n.val]])) ∧
  (∀ (s : State) (o : Origin) (rx : ControlRx), Heard s o rx → rx.group = false →
    let x := s.ctx o
    let t := s.heard rx
    let stick (code : Result) : State :=
      t.modCtx o fun y => if y.sticky.isSome then y else { y with sticky := some { code := code, request := rx.request, offset := y.window.offset } }
    (x.walk = none →
      (∀ table page offset auto,
        (12 ≤ table → exec (.setWindow rx table page offset auto) s = .next ((stick .badTable).answered o rx 0x41 .badTable [])) ∧
        ∀ k, tableOf table = some k →
          (s.hasPage k page = false → exec (.setWindow rx table page offset auto) s = .next ((stick .badOffset).answered o rx 0x41 .badOffset [])) ∧
          (s.hasPage k page = true → auto < 2 →
            exec (.setWindow rx table page offset auto) s =
              .next ((t.modCtx o fun y => { y with window := { table := k, page := page, offset := offset, auto := auto == 1 } }).answered o rx 0x41 .accepted []))) ∧
      exec (.clearError rx) s =
        .next ((t.modCtx o fun y => { y with sticky := none }).answered o rx 0x44 .accepted
          (match x.sticky with
            | none => [.enum 0]
            | some e => [.enum (stickyCode (some e.code))])) ∧
      (∀ e count, x.sticky = some e → exec (.read rx count) s = .next (t.answered o rx 0x42 e.code [])) ∧
      (∀ entries count, x.sticky = none → x.window.table.walked = false → x.window.table ≠ .edges →
        t.page x.window.table x.window.page = some entries → 1 ≤ count → count ≤ 16 →
        (entries.length < x.window.offset + count → exec (.read rx count) s = .next ((stick .badOffset).answered o rx 0x42 .badOffset [])) ∧
        (x.window.offset + count ≤ entries.length →
          exec (.read rx count) s =
            .next ((if x.window.auto then t.modCtx o fun y => { y with window := { y.window with offset := (y.window.offset + count) % 65536 } } else t).answered
              o rx 0x42 .accepted
              (.num 1 count :: (numberedFrom x.window.offset ((entries.drop x.window.offset).take count)).flatMap entryAtoms))))) ∧
    let ended (u : State) (w : Walk) : State :=
      (u.modCtx o fun y => { y with walk := none }).reply o w.port
        { request := w.request, kind := 0x42, channel := w.channel, result := .busy, clamped := false, contents := [] }
    (∀ w (i : Instr) code, x.walk = some w →
      (∃ count, i = .read rx count ∧ code = 0x42) ∨ (∃ table page offset auto, i = .setWindow rx table page offset auto ∧ code = 0x41) ∨
        (i = .clearError rx ∧ code = 0x44) ∨ (o = .console ∧ ∃ values time, i = .write rx values time ∧ code = 0x43) →
      exec i s = .next (ended ((stick .busy).answered o rx code .busy []) w)) ∧
    (o = .mainSite → ∀ values time,
      let refused := (State.modCtx (t.bump (.origin o .notAuthorisedRefusals)) o fun y =>
        if y.sticky.isSome then y else { y with sticky := some { code := .notAuthorised, request := rx.request, offset := y.window.offset } }).answered
          o rx 0x43 .notAuthorised []
      exec (.write rx values time) s = .next (match x.walk with
        | some w => ended refused w
        | none => refused))) ∧
  ((∀ (s : State) (o : Origin) (rx : ControlRx) (count : Nat), Heard s o rx → rx.group = false → (s.ctx o).walk = none → (s.ctx o).sticky = none →
    (s.ctx o).window.table = .schedule → 1 ≤ count → count ≤ 16 →
    exec (.read rx count) s =
      .next ((s.heard rx).modCtx o fun y =>
        { y with
          walk :=
            some
              { table := .schedule, page := (s.ctx o).window.page, count := count, clamped := false, request := rx.request, port := rx.port
                channel := rx.channel, gathered := [], cursor := none } })) ∧
  ∀ (s : State) (o : Origin), s.settled = true →
    ((s.ctx o).walk = none → exec (.walkReach o) s = .next s) ∧
    ∀ (w : Walk) (c : Chan), (s.ctx o).walk = some w → w.table = .schedule → w.page = c.val →
      let l := (s.ch c).schedule.live.getD []
      let base := (s.ctx o).window.offset
      let ended (offset : Nat) (t : State) : State :=
        if (s.ctx o).window.auto then t.modCtx o fun y => { y with window := { y.window with offset := (y.window.offset + offset) % 65536 } } else t
      let answer (t : State) (gathered : List (Nat × List Atom)) (ranOut : Bool) : State :=
        t.reply o w.port
          { request := w.request, kind := 0x42, channel := w.channel, result := .accepted, clamped := w.clamped
            contents := (.num 1 gathered.length :: gathered.flatMap entryAtoms) ++ [.flag ranOut] }
      let idle := s.modCtx o fun y => { y with walk := none }
      (∀ i e, (w.cursor = none ∧ i = base ∧ l[i]? = some e) ∨
          (∃ q, w.cursor = some q ∧ l[i]? = some e ∧ q < e.start ∧ ∀ j y, j < i → l[j]? = some y → y.start ≤ q) →
        let gathered := w.gathered ++ [(i, s.scheduleEntry e)]
        (gathered.length < w.count →
          exec (.walkReach o) s = .next (s.modCtx o fun y => { y with walk := some { w with gathered := gathered, cursor := some e.start } })) ∧
        (w.count ≤ gathered.length → exec (.walkReach o) s = .next (ended gathered.length (answer idle gathered false)))) ∧
      (∀ q, w.cursor = some q → (∀ y ∈ l, y.start ≤ q) → exec (.walkReach o) s = .next (ended w.gathered.length (answer idle w.gathered true))) ∧
      (w.cursor = none → l.length ≤ base →
        exec (.walkReach o) s =
          .next
            ((idle.modCtx o fun y =>
                if y.sticky.isSome then y else { y with sticky := some { code := .badOffset, request := w.request, offset := y.window.offset } }).reply o w.port
              { request := w.request, kind := 0x42, channel := w.channel, result := .badOffset, clamped := false, contents := [] })))

/-- R194: a WRITE of any values deals with them one after another at the entries from the window's offset on, and answers with what it dealt with, clamped,
refused and stopped at; what stopped it becomes the sticky error, with the entry's offset. With a sticky error held, or no value, it changes nothing. R17, R60,
R61, R121, R185, R194: at one entry of CHANNEL, DETECTORS, SERVERS, OUTPUT_MAP or SITE, a read-only entry, an enumeration or flag outside its values, a
read-only table and an offset past the page stop it; a number is clamped; a value written stands in its entry alone. RAMP_ENABLE written as off ends a running
ramp; a detector of a channel in service that is enabled starts settling, and that, its disabling, its policy and the chain flag, where they change, evaluate
the verdict. R17: HOUSE_RATE is refused with IN_SERVICE while a channel is in service; a change of it keeps the day, hour, minute and second of H, with ff 0,
makes the part UNREFERENCED, arms the timer for one period of the new rate, and clears every list. R26, R37, R59, R82, R111, R112, R121, R179, R204: the entries
of each page stand in the order of Table 10-3 and Table 7-1, each of the kind and range that the spec states. The model's choices: a refused HOUSE_RATE counts
as dealt with, is listed and is not sticky (log 20), the timer runs from the instant of the WRITE (log 29), a prescale is the place of its value (log 19), the
evaluation's cause (log 37), and at a change of rate the reports of the lock state and of the replication states carry H as re-expressed, that of the lock state
first (log 48), the RESYNCs are stamped with it (log 56), and the lists are cleared in channel order (log 36). -/
def Obligations.WritesAndHouseRate : Prop :=
  (∀ (s : State) (rx : ControlRx) (time : Nat), Heard s .console rx → rx.group = false → s.mgmt.console.walk = none →
    let w := s.mgmt.console.window
    let t := s.heard rx
    let advanced (u : State) : State :=
      if w.auto then u.modCtx .console fun y => { y with window := { y.window with offset := (y.window.offset + 1) % 65536 } } else u
    let reply (u : State) (result : Result) (clamped : Bool) (contents : List Atom) : State :=
      u.reply .console rx.port { request := rx.request, kind := 0x43, channel := rx.channel, result := result, clamped := clamped, contents := contents }
    (∀ e values, s.mgmt.console.sticky = some e → exec (.write rx values time) s = .next (t.answered .console rx 0x43 e.code [])) ∧
    (s.mgmt.console.sticky = none →
      exec (.write rx [] time) s = .next (reply (if w.auto then t.modCtx .console fun y => { y with window := { y.window with offset := y.window.offset % 65536 } } else t)
        .accepted false [.num 1 0, .num 1 0, .num 1 0, .num 1 0]) ∧
      (∀ (c : Chan) k width lo hi v, w.table = .channel → w.page = c.val → chanSettings[w.offset]? = some k → k.kind = .number width lo hi →
        let n := max lo (min hi v)
        exec (.write rx [v] time) s =
          .next
            (reply (advanced (t.modSettings c fun x => x.put k n)) .accepted (n != v)
              (if n = v then [.num 1 1, .num 1 0, .num 1 0, .num 1 0] else [.num 1 1, .num 1 1, .num 2 w.offset, .num 1 0, .num 1 0]))) ∧
      (∀ (c : Chan) k n v values, w.table = .channel → w.page = c.val → chanSettings[w.offset]? = some k → k ≠ .serviceMode → k.kind = .enum n →
        n ≤ v → ∃ u contents, exec (.write rx (v :: values) time) s = .next (reply u .badValue false contents) ∧
          u.mgmt.console.sticky = some { code := .badValue, request := rx.request, offset := w.offset } ∧ u.chans = s.chans ∧ u.settings = s.settings) ∧
      (∀ v values, w.table.writable = false → ∃ u contents, exec (.write rx (v :: values) time) s = .next (reply u .readOnly false contents) ∧
        u.mgmt.console.sticky = some { code := .readOnly, request := rx.request, offset := w.offset } ∧ u.chans = s.chans ∧ u.settings = s.settings) ∧
      (∀ (c : Chan) v values, w.table = .channel → w.page = c.val → 16 ≤ w.offset → ∃ u contents,
        exec (.write rx (v :: values) time) s = .next (reply u .badOffset false contents) ∧
        u.mgmt.console.sticky = some { code := .badOffset, request := rx.request, offset := w.offset } ∧ u.chans = s.chans ∧ u.settings = s.settings) ∧
      (∀ (c : Chan) v, w.table = .site → w.page = 255 → w.offset = 0 → v < 4 → (s.ch c).control.mode ≠ .outOfService →
        exec (.write rx [v] time) s =
          .next (reply (advanced t) .inService false [.num 1 1, .num 1 0, .num 1 1, .num 2 0, .enum 16, .num 1 0])) ∧
      (∀ (c : Chan) v values, w.table = .site → w.page = 255 → w.offset = 0 → v < 4 → (s.ch c).control.mode ≠ .outOfService →
        ∃ u contents, exec (.write rx (v :: values) time) s = .next (reply u .inService false contents)) ∧
      (∀ v r, w.table = .site → w.page = 255 → w.offset = 0 → [Rate.fr25, .fr30d, .fr50, .fr60d][v]? = some r → r ≠ s.time.rate →
        (∀ c, (s.ch c).control.mode = .outOfService) →
        exec (.write rx [v] time) s = .next (reply (advanced (t.changeRate r time)) .accepted false [.num 1 1, .num 1 0, .num 1 0, .num 1 0])) ∧
      ∀ values,
        let y := t.writeTable w values time
        let u := match y.stopped with
          | some (code, at_) => y.state.modCtx .console fun z => { z with sticky := some { code := code, request := rx.request, offset := at_ } }
          | none => y.state
        let result := match y.refused, y.stopped with
          | (_, code) :: _, _ => code
          | [], some (code, _) => code
          | [], none => .accepted
        exec (.write rx values time) s =
          .next
            (reply (if w.auto then u.modCtx .console fun z => { z with window := { z.window with offset := (z.window.offset + y.dealt) % 65536 } } else u) result
              (result = .accepted ∧ y.clamped ≠ [])
              ([.num 1 y.dealt, .num 1 y.clamped.length] ++ y.clamped.map (fun i => .num 2 i) ++
                (.num 1 y.refused.length :: y.refused.flatMap fun z => [.num 2 z.1, .enum (resultCode z.2)]) ++
                (match y.stopped with
                  | none => [.num 1 0]
                  | some (code, at_) => [.num 1 1, .enum (resultCode code), .num 2 at_]))))) ∧
  (∀ (s : State) (w : Window) (time : Nat),
    let start : Writing := { state := s, dealt := 0, clamped := [], refused := [], stopped := none }
    s.writeTable w [] time = start ∧
    (w.table.writable = false → ∀ v values, s.writeTable w (v :: values) time = { start with stopped := some (.readOnly, w.offset) }) ∧
    (w.table.writable = true → ∀ values v,
      s.writeTable w (values ++ [v]) time = (s.writeTable w values time).step ((pageRefs w.table w.page).getD []) w.offset time v)) ∧
  (∀ (x : Writing) (refs : List SettingRef) (offset time v : Nat),
    let at_ := offset + x.dealt
    let s := x.state
    let stop (code : Result) : Writing := { x with stopped := some (code, at_) }
    let wrote (t : State) (n : Nat) : Writing := { x with state := t, dealt := x.dealt + 1, clamped := if n = v then x.clamped else x.clamped ++ [at_] }
    let y := x.step refs offset time v
    (x.stopped ≠ none → y = x) ∧
    (x.stopped = none → refs.length ≤ at_ → y = stop .badOffset) ∧
    ∀ r, x.stopped = none → refs[at_]? = some r →
      (r.kind = .absent ∨ (∃ c, r = .chan c .serviceMode) → y = stop .readOnly) ∧
      ((∀ c, r ≠ .chan c .serviceMode) →
        ((∃ n, r.kind = .enum n ∧ n ≤ v) ∨ (r.kind = .flag ∧ 2 ≤ v) ∨ (r.kind = .pairs ∧ 256 ≤ v) → y = stop .badValue) ∧
        ∀ n, (∃ width lo hi, r.kind = .number width lo hi ∧ n = max lo (min hi v)) ∨ (∃ k, r.kind = .enum k ∧ v < k ∧ n = v) ∨
            (r.kind = .flag ∧ v < 2 ∧ n = v) ∨ (r.kind = .pairs ∧ v < 256 ∧ n = v) →
          let t := s.putRef r n
          match r with
          | .chan c .rampEnable =>
            y = wrote (if v = 0 ∧ (s.ch c).output.ramp ≠ .idle then (t.modOutput c fun z => { z with ramp := .idle }).bump (.chan c .rampsCut) else t) n
          | .det c det k =>
            (s.getRef r = n → y = wrote s n) ∧
            (s.getRef r ≠ n →
              (s.inService c = false ∨ k ∉ [.enabled, .policy] → y = wrote t n) ∧
              (s.inService c = true → k = .policy ∨ (k = .enabled ∧ v = 0) → y = wrote (t.evaluate c .setting) n) ∧
              (s.inService c = true → k = .enabled → v = 1 →
                y = wrote ((t.modDetector c det (startSettling (t.ch c).settings.detectors[(detectorIndex det).val])).evaluate c .settling) n))
          | .chain c => y = wrote (if s.getRef r = n then s else if s.inService c then t.evaluate c .setting else t) n
          | .site .houseRate =>
            ((∃ c, (s.ch c).control.mode ≠ .outOfService) → y = { x with dealt := x.dealt + 1, refused := x.refused ++ [(at_, .inService)] }) ∧
            ((∀ c, (s.ch c).control.mode = .outOfService) → ∀ rate, [Rate.fr25, .fr30d, .fr50, .fr60d][v]? = some rate →
              y = wrote (if rate = s.time.rate then s else s.changeRate rate time) n)
          | _ => y = wrote t n)) ∧
  (∀ (s : State) (r : SettingRef) (n : Nat), judgeValue r.kind n = some (n, false) → (∀ c, r ≠ .chan c .serviceMode) → r ≠ .site .houseRate →
    let t := s.putRef r n
    t.getRef r = (match r with
      | .det c det .threshold => if ((s.ch c).settings.detectors[(detectorIndex det).val]).threshold = none then 0 else n
      | _ => n) ∧
    (∀ r', r' ≠ r → t.getRef r' = s.getRef r') ∧ (∀ c, { t.ch c with settings := (s.ch c).settings } = s.ch c) ∧
    { t with chans := s.chans, settings := s.settings } = s) ∧
  (∀ (s : State) (r : Rate) (time : Nat), s.time.h < s.cycle →
    let t := s.changeRate r time
    let l := positionLabel s.time.rate s.time.h
    let l' := positionLabel r t.time.h
    t.time =
        { h := t.time.h, rate := r, lock := .unreferenced, realignPending := false, absence := 0, lastDifference := none
          timer := some (time + r.period), boundaryKind := s.time.boundaryKind, boundaryTime := s.time.boundaryTime } ∧
      t.time.h < r.cycle ∧ l'.day = l.day ∧ l'.hh = l.hh ∧ l'.mm = l.mm ∧ l'.ss = l.ss ∧
      l'.ff = (if l.ss = 0 ∧ l.mm % 10 ≠ 0 then r.k else 0) ∧
      ∀ c, (t.ch c).schedule.live = none ∧ (t.ch c).schedule.shadow = none ∧ (t.ch c).schedule.state = .empty) ∧
  (∀ r : SettingRef, r.kind = r.stated.1) ∧
  (∀ c : Chan,
    pageRefs .channel c.val =
        some
          [.chan c .lead, .chan c .joinMargin, .chan c .cueAttempts, .chan c .server, .chan c .player, .chan c .returnMode, .chan c .autoReturn,
            .chan c .guardLength, .chan c .mainHoldLimit, .chan c .standbyHoldLimit, .chan c .fillSlate, .chan c .delayOverride, .chan c .delayMargin,
            .chan c .rampEnable, .chan c .rampStep, .chan c .serviceMode] ∧
      pageRefs .detectors c.val =
        some
          (([Detector.arrival, .freeze, .black, .silence].flatMap fun d =>
              [.det c d .enabled, .det c d .policy, .det c d .assertCount, .det c d .clearCount, .det c d .settleFrames, .det c d .threshold,
                .det c d .riseReport, .det c d .fallReport]) ++ [.chain c, .pairs c])) ∧
  pageRefs .servers 255 = some ([0, 1, 2, 3, 4, 5, 6, 7].flatMap fun i => [.mapped i, .serverPort i]) ∧
  pageRefs .outputMap 255 = some (([0, 1, 2, 3, 4, 5, 6, 7, 8, 9, 10, 11, 12, 13, 14, 15] : List Chan).map SettingRef.stream) ∧
  pageRefs .site 255 =
    some
      [.site .houseRate, .site .pathTimeout, .site .pathRestore, .site .keepaliveCount, .site .keepalivePrescale, .site .snapshotCount,
        .site .snapshotPrescale, .site .resyncCount, .site .resyncPrescale, .site .unitNumber] ∧
  (∀ page, 16 ≤ page → pageRefs .channel page = none ∧ pageRefs .detectors page = none) ∧
  ∀ page, page ≠ 255 → pageRefs .servers page = none ∧ pageRefs .outputMap page = none ∧ pageRefs .site page = none

/-- R66, R71, R79, R92, R191, R202, R203, R204: WARM_RESTART takes the window, walk, sticky error, mask and levels of both contexts to their reset values,
empties their report queues with nothing counted, so that a queue then holds only what the restart itself raised, ends their walks without a REPLY, leaves a
save in flight owing none, restarts the keepalive timer and is in progress. The channels in service restart their monitors in increasing number (log 36): an
enabled detector starts settling, a disabled one loses its runs, latched verdicts, edges and the reference stay, and a verdict that changes is notified with
cause RESTART and counted, of the monitor's counters, in VERDICT_CHANGES alone (log 62: the model's choice). A save that owes no REPLY completes with
LAST_SAVE alone; a request heard meanwhile is discarded (log 23: which requests is the model's choice); at the next boundary it ends and is answered. An end
that is not due changes nothing (log 3: the model's choice). -/
def Obligations.WarmRestarts : Prop :=
  (∀ (s : State) (rx : ControlRx), Whole s .console rx → ∃ t, exec (.warmRestart rx) s = .next t ∧
    (∀ o, (t.ctx o).window = { table := .status, page := 255, offset := 0, auto := false } ∧ (t.ctx o).walk = none ∧ (t.ctx o).sticky = none ∧
      (t.ctx o).mask = 0 ∧ (t.ctx o).levels = Vector.replicate 8 2) ∧
    t.mgmt.consolePort = none ∧ t.mgmt.restarting = some { port := rx.port, request := rx.request } ∧ t.mgmt.resetCause = .warmRestart ∧
    t.mgmt.warmRestarts = min (s.mgmt.warmRestarts + 1) 4294967295 ∧ t.mgmt.lineResets = s.mgmt.lineResets ∧ t.mgmt.config = s.mgmt.config ∧
    t.time = s.time ∧ t.settings = s.settings ∧ t.poolFree = s.poolFree ∧ t.slates = s.slates ∧ t.pending = s.pending ∧
    t.site = { s.site with elapsed := 0, timerRunning := decide (s.site.automation = .alive) } ∧
    ∀ c, (t.ch c).settings = (s.ch c).settings ∧ (t.ch c).slots = (s.ch c).slots ∧ (t.ch c).align = (s.ch c).align ∧ (t.ch c).schedule = (s.ch c).schedule ∧
      (s.inService c = false → t.ch c = s.ch c)) ∧
  (∀ (s : State) (rx : ControlRx), Whole s .console rx →
    let x := s.heard rx
    let base : State :=
      { x with
        mgmt :=
          { x.mgmt with
            mainSite := .reset, console := .reset, consolePort := none, save := x.mgmt.save.map fun y => { y with reply := none }
            restarting := some { port := rx.port, request := rx.request }, resetCause := .warmRestart
            warmRestarts := min (x.mgmt.warmRestarts + 1) 4294967295 } }
    let restarted := Chan.all.foldl (fun v c => if v.inService c then v.monitorRestart c else v) base
    let t := restarted.modSite fun y => { y with elapsed := 0, timerRunning := y.automation == .alive }
    exec (.warmRestart rx) s = .next t ∧ t.mgmt.save = (s.mgmt.save.map fun x => { x with reply := none }) ∧ t.mgmt.lastSave = s.mgmt.lastSave ∧
    (∃ sent, t.outbox = s.outbox ++ sent ∧ ∀ x ∈ sent, ∀ r, x.what ≠ .reply r) ∧
    (∀ o,
      (∀ (i : Nat) (y : QueuedReport), (t.ctx o).queue[i]? = some y → y.sequence = i ∧ y.position = s.time.h) ∧
      ((∀ c, s.inService c = true → (t.ch c).monitor.verdict = (s.ch c).monitor.verdict ∨ (t.ch c).monitor.verdict ≠ .failed) →
        (t.ctx o).queue = [] ∧ (t.ctx o).nextSequence = 0 ∧ t.counter (.origin o .reportsDropped) = s.counter (.origin o .reportsDropped))) ∧
    ∀ c, s.inService c = true →
      let cfg (det : Detector) : DetectorSettings := (s.ch c).settings.detectors[(detectorIndex det).val]
      let held := (s.ch c).monitor.verdict
      let new := (t.ch c).monitor.verdict
      (∀ det,
        let run := (s.ch c).detState det
        (t.ch c).detState det =
          if (cfg det).enabled then
            { phase := if (cfg det).settleFrames = 0 then (if run.latched then .asserted else .clear) else .settling
              latched := run.latched, settle := (cfg det).settleFrames, bad := 0, good := 0 }
          else { run with bad := 0, good := 0 }) ∧
      (t.ch c).monitor.reference = (s.ch c).monitor.reference ∧ (t.ch c).monitor.edges = (s.ch c).monitor.edges ∧ new = (t.ch c).evaluate ∧
      (held = (s.ch c).evaluate → new = held ∨ held = .suspect ∧ new = .healthy) ∧
      (new = held → t.ch c = { s.ch c with monitor := (t.ch c).monitor }) ∧
      t.counter (.chan c .verdictChanges) =
        (if new = held then s.counter (.chan c .verdictChanges) else min (s.counter (.chan c .verdictChanges) + 1) 4294967295) ∧
      ∀ det k, t.counter (.chan c (edgeCounter det k)) = s.counter (.chan c (edgeCounter det k))) ∧
  (∀ (s : State) (c : Chan),
    let restarted := s.modMonitor c fun m =>
      { m with
        detectors := Vector.ofFn fun i : Fin 4 =>
          let cfg := (s.ch c).settings.detectors[i.val]
          let run := m.detectors[i.val]
          if cfg.enabled then
            { run with
              bad := 0, good := 0, settle := cfg.settleFrames
              phase := if cfg.settleFrames = 0 then (if run.latched then .asserted else .clear) else .settling }
          else { run with bad := 0, good := 0 } }
    let new := (restarted.ch c).evaluate
    s.monitorRestart c =
      (if new = (s.ch c).monitor.verdict then restarted
       else ((restarted.modMonitor c fun m => { m with verdict := new }).bump (.chan c .verdictChanges)).takeVerdict
        { chan := c, old := (s.ch c).monitor.verdict, new := new, position := s.time.h, cause := .restart
          asserted := (restarted.ch c).assertedList })) ∧
  (∀ (s : State) (x : Save) (readBack : Option Image), s.settled = true → s.mgmt.save = some x → x.reply = none →
    exec (.saveCompletion readBack) s =
      .next { s with mgmt := { s.mgmt with save := none, lastSave := some ((readBack.map readBackGood).getD false, s.time.h) } }) ∧
  (∀ (s : State) (o : Origin) (rx : ControlRx) (i : Instr) (owed : ReplyTo), s.settled = true → s.loading = false → s.mgmt.restarting = some owed →
    rx.stamp < s.cycle → (rx.channel < 16 ∨ rx.channel = 255) → fromOrigin o rx = true → requestOf i = some rx →
    exec i s = .next ((s.heard rx).bump (.whole .restartDiscards))) ∧
  ∀ s : State,
    (s.work.warmEnd = false → exec .warmRestartEnd s = .next s) ∧
    ∀ owed, s.work.warmEnd = true → s.mgmt.restarting = some owed →
      exec .warmRestartEnd s =
        .next
          (({ s with work := { s.work with warmEnd := false }, mgmt := { s.mgmt with restarting := none } } : State).reply .console owed.port
            { request := owed.request, kind := 0x48, channel := 255, result := .accepted, clamped := false, contents := [] })

/-- R190, R198, R199: a report offered to an origin is admitted while its queue is below the number of its level, and otherwise dropped and counted, its
sequence used; a report raised is offered to both origins, each judging it by its own queue. A REPLY goes out on the port of its request with REPLIES_SENT
counted, or, with its link down, is dropped and counted in REPLIES_UNSENT. The main automation can be reached while a contribution path is UP, on each
contribution port whose link is UP; the console while a console port is known and its link is UP. At a boundary an origin that can be reached is sent up to
two reports, the oldest first, and one that cannot be reached keeps them. The model's choices: a REPORT that is not due changes nothing (log 3), MAIN_SITE is
sent to before CONSOLE (log 14), a report counts as sent on however many ports (log 46), and the stamp is H as it stands between a change of house rate and
the next boundary too (log 56). -/
def Obligations.ReportsAreQueuedAndSent : Prop :=
  (∀ (s : State) (o : Origin) (r : Report),
    let x := s.ctx o
    let level := x.levels[(reportKind r).val]
    let room := if level = 1 then 8 else if level = 2 then 24 else 32
    (level = 0 → s.offer o r = s) ∧
    (level ≠ 0 → x.queue.length < room →
      s.offer o r = s.modCtx o fun y =>
        { y with
          queue := y.queue ++ [{ sequence := y.nextSequence, position := s.time.h, report := r }], nextSequence := (y.nextSequence + 1) % 65536 }) ∧
    (level ≠ 0 → room ≤ x.queue.length →
      s.offer o r = (s.modCtx o fun y => { y with nextSequence := (y.nextSequence + 1) % 65536 }).bump (.origin o .reportsDropped))) ∧
  (∀ s : State,
    (∀ r : Report, s.raise r = (s.offer .mainSite r).offer .console r ∧
      ∀ o, (s.raise r).ctx o = (s.offer o r).ctx o ∧ (s.raise r).counter (.origin o .reportsDropped) = (s.offer o r).counter (.origin o .reportsDropped)) ∧
    (∀ (o : Origin) (p : Port) (r : Reply),
      (s.linkUp p = true →
        s.reply o p r =
          { s.bump (.origin o .repliesSent) with
            outbox := s.outbox ++ [{ port := p, stamp := s.time.h, unitNumber := s.settings.unitNumber, what := .reply r }] }) ∧
      (s.linkUp p = false → s.reply o p r = s.bump (.origin o .repliesUnsent))) ∧
    (s.reachable .mainSite = true ↔ s.ports.pathA.up = true ∨ s.ports.pathB.up = true) ∧
    (s.reachable .console = true ↔ ∃ n, s.mgmt.consolePort = some n ∧ s.linkUp (.standby n) = true) ∧
    (s.reachable .mainSite = true →
      s.reportPorts .mainSite = [Port.contribution .a, Port.contribution .b].filter fun p => s.linkUp p) ∧
    ∀ n, s.mgmt.consolePort = some n → s.linkUp (.standby n) = true → s.reportPorts .console = [Port.standby n]) ∧
  ∀ s : State,
    (s.work.report = false → exec .report s = .next s) ∧
    (s.work.report = true → ∃ t, exec .report s = .next t ∧
      (∀ o, (t.ctx o).queue = if s.reachable o then (s.ctx o).queue.drop 2 else (s.ctx o).queue) ∧
      (∀ o, t.counter (.origin o .reportsSent) =
        if s.reachable o ∧ (s.ctx o).queue ≠ [] then min (s.counter (.origin o .reportsSent) + min (s.ctx o).queue.length 2) 4294967295
        else s.counter (.origin o .reportsSent)) ∧
      t.outbox =
        s.outbox ++
          [Origin.mainSite, Origin.console].flatMap fun o =>
            (if s.reachable o then (s.ctx o).queue.take 2 else []).flatMap fun r =>
              (s.reportPorts o).map fun p => { port := p, stamp := s.time.h, unitNumber := s.settings.unitNumber, what := .report r })

/-- R188, R190, R209: a control carrier from an origin that is of no known kind, or whose body is not the length that its envelope names and that its kind and
contents require, is refused with BAD_COMMAND and counted; a KEEPALIVE or a schedule carrier of the wrong length is counted alone. One of a kind that only the
part sends, a cue answer from an origin, and anything but a cue answer from a server, or a cue answer of the wrong length, is discarded and counted as
misdirected. R22: a carrier whose sender may not use its port is counted in SENDER_MISMATCH and has no other effect. A payload shorter than the 8 bytes of an
envelope is judged alike by the kind and sender that it holds. The model's choices: in such a payload what is missing reads as 0, so that it is answered with
request 0 or kind 0, and one with no bytes is counted in SENDER_MISMATCH (log 22), a cue answer, or a kind that only the part sends, of the wrong length from
an origin is misdirected and not refused with BAD_COMMAND (log 53), and a carrier from a server is counted as misdirected during a warm restart too (log 23).
-/
def Obligations.BadAndMisdirectedCarriers : Prop :=
  (∀ (s : State) (o : Origin) (raw : RawControl) (rx : ControlRx) (code named : Nat) (body : List Byte), Heard s o rx → code < 256 → rx.request < 65536 →
    named < 65536 → body.length ≤ 1400 → raw.port = rx.port → raw.stamp = rx.stamp → raw.channel = rx.channel →
    raw.payload = controlEnvelope rx code named ++ body →
    (code ∉ controlCodes → exec (.badCommand raw) s = .next (((s.heard rx).bump (.whole .badCommands)).answered o rx code .badCommand [])) ∧
    (code ∈ controlCodes → code < 0x50 → WrongLength code named body →
      (notAnswered code → exec (.badCommand raw) s = .next ((s.heard rx).bump (.whole .badCommands))) ∧
      (¬notAnswered code →
        exec (.badCommand raw) s = .next (((s.heard rx).bump (.whole .badCommands)).answered o rx code .badCommand []))) ∧
    (code ∈ controlCodes → 0x50 ≤ code → exec (.misdirectedControl raw) s = .next ((s.heard rx).bump (.whole .misdirectedControl)))) ∧
  (∀ (s : State) (rx : ControlRx) (server : Fin 8) (code named : Nat) (body : List Byte) (raw : RawControl), FromServer s rx server → code < 256 →
    rx.request < 65536 → named < 65536 → body.length ≤ 1400 → raw.port = rx.port → raw.stamp = rx.stamp → raw.channel = rx.channel →
    raw.payload = controlEnvelope rx code named ++ body → (code ≠ 0x50 ∧ code ≠ 0x51) ∨ WrongLength code named body →
    exec (.misdirectedControl raw) s = .next ((s.bump (.port rx.port .carriersIn)).bump (.whole .misdirectedControl))) ∧
  (∀ (s : State) (rx : ControlRx) (code named n : Nat) (raw : RawControl), code < 256 → rx.request < 65536 → raw.port = rx.port → raw.stamp = rx.stamp →
    raw.channel = rx.channel → raw.payload = (controlEnvelope rx code named).take n → n < 8 →
    let kind := if 2 ≤ n then code else 0
    let back : ControlRx := { rx with request := if 4 ≤ n then rx.request else 0 }
    (∀ o, Heard s o rx → 1 ≤ n →
      (kind ∉ controlCodes → exec (.badCommand raw) s = .next (((s.heard rx).bump (.whole .badCommands)).answered o back kind .badCommand [])) ∧
      (kind ∈ controlCodes → kind < 0x50 →
        (notAnswered kind → exec (.badCommand raw) s = .next ((s.heard rx).bump (.whole .badCommands))) ∧
        (¬notAnswered kind →
          exec (.badCommand raw) s = .next (((s.heard rx).bump (.whole .badCommands)).answered o back kind .badCommand []))) ∧
      (kind ∈ controlCodes → 0x50 ≤ kind → exec (.misdirectedControl raw) s = .next ((s.heard rx).bump (.whole .misdirectedControl)))) ∧
    (∀ server : Fin 8, FromServer s rx server → 1 ≤ n →
      exec (.misdirectedControl raw) s = .next ((s.bump (.port rx.port .carriersIn)).bump (.whole .misdirectedControl))) ∧
    (Running s → rx.stamp < s.cycle → (rx.channel < 16 ∨ rx.channel = 255) → (∀ side, rx.port ≠ .output side) → n = 0 →
      exec (.badCommand raw) s = .next ((s.arrived rx.port).bump (.port rx.port .senderMismatch)))) ∧
  ∀ (s : State) (i : Instr) (rx : ControlRx), Running s → rx.stamp < s.cycle → (rx.channel < 16 ∨ rx.channel = 255) →
    (∀ side, rx.port ≠ .output side) → (∀ o, fromOrigin o rx = false) →
    (∀ server : Fin 8, rx.sender = 0x10 + server.val → s.settings.servers[server.val].mapped = true →
      rx.port ≠ .standby s.settings.servers[server.val].port) →
    ((∃ code body, controlForm i = some (rx, code, body)) ∨ (∃ channels, i = .select rx channels) →
      exec i s = .next ((s.arrived rx.port).bump (.port rx.port .senderMismatch))) ∧
    ∀ (raw : RawControl) (code named : Nat) (body : List Byte), rx.sender < 256 → body.length ≤ 1400 → raw.port = rx.port → raw.stamp = rx.stamp →
      raw.channel = rx.channel → raw.payload = controlEnvelope rx code named ++ body → (i = .badCommand raw ∨ i = .misdirectedControl raw) →
      exec i s = .next ((s.arrived rx.port).bump (.port rx.port .senderMismatch))

/-- R64, R65, R74: an assertion or a clearing of an enabled detector whose policy is not IGNORE is latched into its own entry: a clear entry takes count 1 and
both positions, a latched one counts on, to 255, and takes its latest position; under IGNORE no entry changes. R75, R193: a READ on an EDGES page returns the
entries that it reaches and clears them, and no others; refused with BAD_OFFSET it clears none. A READ of a count of 0 or above 16 is one of 1 or 16, on any
table: at once with CLAMPED in its REPLY, unless it is refused, or as a walk, whose REPLY carries CLAMPED when it ends. R145, R196: READ on a RECORDS window
begins a walk; its first reach takes the record at the window's offset, or ends it with BAD_OFFSET, and a later reach the oldest one opened after the record
last reached, within half the cycle of sequences. R74, R145, R209: what an entry of EDGES and one of RECORDS shows, field by field. The model's choices: a
presence byte for each field of an entry that may be absent, one for an event's id and offset (log 18), that half cycle and the one end-mark flag of a REPLY
(log 30), and that the sticky error of a refused EDGES READ and of a walk that ends with BAD_OFFSET carries the window's offset (log 33). -/
def Obligations.EdgesAndRecordWalks : Prop :=
  (edgeEntry none = [.flag false, .num 1 0, .num 1 0, .num 1 0] ∧
    ∀ e : Edge, edgeEntry (some e) = [.flag true, .num 1 e.count, .num 1 1, .pos e.first, .num 1 1, .pos e.latest]) ∧
  (∀ (s : State) (c : Chan) (j : Judgement) (det : Detector),
    let cfg := (s.ch c).settings.detectors[(detectorIndex det).val]
    let run := (s.ch c).detState det
    let frame := classify det cfg (s.ch c).settings.pairSet (s.ch c).monitor.reference j
    let x := (s.ch c).monitor.edges
    let t := (s.judgeDetector c j det).1
    let rises := cfg.enabled = true ∧ run.phase = .clear ∧ frame = .bad ∧ cfg.assertCount ≤ run.bad + 1
    let falls := cfg.enabled = true ∧ run.phase = .asserted ∧ frame = .good ∧ cfg.clearCount ≤ run.good + 1
    (∀ i : Fin 8, (t.ch c).monitor.edges[i.val] =
      if cfg.policy ≠ .ignore ∧ (rises ∧ i.val = 2 * (detectorIndex det).val ∨ falls ∧ i.val = 2 * (detectorIndex det).val + 1) then
        match x[i.val] with
        | none => some { count := 1, first := s.time.h, latest := s.time.h }
        | some e => some { count := min (e.count + 1) 255, first := e.first, latest := s.time.h }
      else x[i.val]) ∧
    ((t.ch c).detState det).latched = (if rises then true else if falls then false else run.latched) ∧
    ∀ c', c' ≠ c → t.ch c' = s.ch c') ∧
  (∀ (s : State) (o : Origin) (rx : ControlRx) (count : Nat) (c : Chan), Heard s o rx → rx.group = false → (s.ctx o).walk = none →
    (s.ctx o).sticky = none → (s.ctx o).window.page = c.val → 1 ≤ count → count ≤ 16 →
    let t := s.heard rx
    let w := (s.ctx o).window
    (w.table = .edges →
      (8 < w.offset + count →
        exec (.read rx count) s =
          .next
            ((t.modCtx o fun y => { y with sticky := some { code := .badOffset, request := rx.request, offset := w.offset } }).answered o rx 0x42
              .badOffset [])) ∧
      (w.offset + count ≤ 8 →
        let u := t.modMonitor c fun m =>
          { m with edges := Vector.ofFn fun i : Fin 8 => if w.offset ≤ i.val ∧ i.val < w.offset + count then none else m.edges[i.val] }
        let v := if w.auto then u.modCtx o fun y => { y with window := { y.window with offset := (y.window.offset + count) % 65536 } } else u
        exec (.read rx count) s =
          .next
            (v.answered o rx 0x42 .accepted
              (.num 1 count ::
                (numberedFrom w.offset ((((s.ch c).monitor.edges.toList.map edgeEntry).drop w.offset).take count)).flatMap entryAtoms)))) ∧
    (w.table = .records →
      exec (.read rx count) s =
        .next (t.modCtx o fun y =>
          { y with
            walk :=
              some
                { table := .records, page := c.val, count := count, clamped := false, request := rx.request, port := rx.port, channel := rx.channel
                  gathered := [], cursor := none } }))) ∧
  (∀ (s : State) (o : Origin) (rx : ControlRx) (count : Nat), Heard s o rx → rx.group = false → (s.ctx o).walk = none → (s.ctx o).sticky = none →
    count < 1 ∨ 16 < count →
    let n := if count < 1 then 1 else 16
    let t := s.heard rx
    let w := (s.ctx o).window
    (w.table = .schedule ∨ w.table = .records →
      exec (.read rx count) s =
        .next (t.modCtx o fun y =>
          { y with
            walk :=
              some
                { table := w.table, page := w.page, count := n, clamped := true, request := rx.request, port := rx.port, channel := rx.channel
                  gathered := [], cursor := none } })) ∧
    ∀ entries, w.table ≠ .schedule → w.table ≠ .records → t.page w.table w.page = some entries →
      (entries.length < w.offset + n →
        exec (.read rx count) s =
          .next
            ((t.modCtx o fun y => { y with sticky := some { code := .badOffset, request := rx.request, offset := w.offset } }).answered o rx 0x42
              .badOffset [])) ∧
      (w.offset + n ≤ entries.length → ∃ u, exec (.read rx count) s = .next u ∧
        u.outbox =
          (t.reply o rx.port
            { request := rx.request, kind := 0x42, channel := rx.channel, result := .accepted, clamped := true
              contents := .num 1 n :: (numberedFrom w.offset ((entries.drop w.offset).take n)).flatMap entryAtoms }).outbox ∧
        (u.ctx o).window = (if w.auto then { w with offset := (w.offset + n) % 65536 } else w) ∧
        ∀ c, u.ch c =
          if w.table = .edges ∧ w.page = c.val then
            { s.ch c with
              monitor :=
                { (s.ch c).monitor with
                  edges := Vector.ofFn fun i : Fin 8 =>
                    if w.offset ≤ i.val ∧ i.val < w.offset + n then none else (s.ch c).monitor.edges[i.val] } }
          else s.ch c)) ∧
  ∀ (s : State) (o : Origin) (w : Walk) (c : Chan), s.settled = true → (s.ctx o).walk = some w → w.table = .records → w.page = c.val →
    let l := (s.ch c).control.ring
    let after (q : Nat) (r : TakeoverRecord) : Prop := 1 ≤ ((r.sequence : Int) - q) % 65536 ∧ ((r.sequence : Int) - q) % 65536 < 32768
    let ended (t : State) (gathered : List (Nat × List Atom)) (ranOut : Bool) : State :=
      let u := t.reply o w.port
        { request := w.request, kind := 0x42, channel := w.channel, result := .accepted, clamped := w.clamped
          contents := (.num 1 gathered.length :: gathered.flatMap entryAtoms) ++ [.flag ranOut] }
      if (s.ctx o).window.auto then u.modCtx o fun y => { y with window := { y.window with offset := (y.window.offset + gathered.length) % 65536 } }
      else u
    let idle := s.modCtx o fun y => { y with walk := none }
    (∀ r : TakeoverRecord,
      let absent (x : Option Nat) : List Atom := match x with
        | none => [.num 1 0]
        | some p => [.num 1 1, .pos p]
      let causes : List Atom := r.causes.map fun k => .enum (match k with
        | .detector => 0
        | .command => 1
        | .site => 2)
      let origin : List Atom := match r.origin with
        | none => [.num 1 0]
        | some .mainSite => [.num 1 1, .enum 0]
        | some .console => [.num 1 1, .enum 1]
      let event : List Atom := match r.event with
        | none => [.num 1 0]
        | some (id, offset) => [.num 1 1, .num 4 id, .num 4 offset]
      let replication : Nat := match r.replication with
        | .empty => 0
        | .current => 1
        | .stale => 2
        | .rebuilding => 3
      let outcome : Nat := match r.outcome with
        | .pending => 0
        | .onStandby => 1
        | .fillOnly => 2
        | .noSchedule => 3
        | .cueFailed => 4
        | .abandoned => 5
      recordEntry r =
        List.flatten
          [[.num 2 r.sequence, .num 1 r.causes.length], causes, [.num 1 (detectorSet r.asserted)], origin, [.pos r.decision, .enum replication], event,
            absent r.switchPosition, [.enum outcome], absent r.returnPosition]) ∧
    (∀ i r, (w.cursor = none ∧ i = (s.ctx o).window.offset ∧ l[i]? = some r) ∨
        (∃ q, w.cursor = some q ∧ l[i]? = some r ∧ after q r ∧ ∀ j y, j < i → l[j]? = some y → ¬after q y) →
      let gathered := w.gathered ++ [(i, recordEntry r)]
      (gathered.length < w.count →
        exec (.walkReach o) s = .next (s.modCtx o fun y => { y with walk := some { w with gathered := gathered, cursor := some r.sequence } })) ∧
      (w.count ≤ gathered.length → exec (.walkReach o) s = .next (ended idle gathered false))) ∧
    (∀ q, w.cursor = some q → (∀ y ∈ l, ¬after q y) → exec (.walkReach o) s = .next (ended idle w.gathered true)) ∧
    (w.cursor = none → l.length ≤ (s.ctx o).window.offset →
      exec (.walkReach o) s =
        .next
          ((idle.modCtx o fun y =>
              if y.sticky.isSome then y else { y with sticky := some { code := .badOffset, request := w.request, offset := y.window.offset } }).reply o w.port
            { request := w.request, kind := 0x42, channel := w.channel, result := .badOffset, clamped := false, contents := [] }))
end

