-- ==== Sys2Proof/Laws/State.lean ====
section
/-! SUPPORT. What each named update of the state leaves unchanged, field by field, and what a channel, a counter and a table entry read after one. -/

namespace Sys2Proof.Machine

/-! ## Fixed tables -/

@[simp] theorem vmod_get_same {α : Type} {n : Nat} (v : Vector α n) (i : Fin n) (f : α → α) : (vmod v i f)[i.val] = f v[i.val] := by
  simp [vmod]

theorem vmod_get {α : Type} {n : Nat} (v : Vector α n) (i j : Fin n) (f : α → α) :
    (vmod v i f)[j.val] = if j = i then f v[j.val] else v[j.val] := by
  by_cases h : j = i
  · subst h; simp
  · have h' : ¬ i.val = j.val := fun e => h (Fin.ext e.symm)
    simp [vmod, h, h']

@[simp] theorem vmod_get_ne {α : Type} {n : Nat} (v : Vector α n) (i j : Fin n) (f : α → α) (h : j ≠ i) : (vmod v i f)[j.val] = v[j.val] := by
  simp [vmod_get, h]

/-! ## One channel -/

theorem State.ch_modCh (s : State) (c c' : Chan) (f : Channel → Channel) : (s.modCh c f).ch c' = if c' = c then f (s.ch c') else s.ch c' := by
  simp only [State.ch, State.modCh, vmod_get]

@[simp] theorem State.ch_modCh_same (s : State) (c : Chan) (f : Channel → Channel) : (s.modCh c f).ch c = f (s.ch c) := by
  simp [State.ch_modCh]

@[simp] theorem State.ch_modCh_ne (s : State) (c c' : Chan) (f : Channel → Channel) (h : c' ≠ c) : (s.modCh c f).ch c' = s.ch c' := by
  simp [State.ch_modCh, h]

@[simp] theorem State.ch_modSettings_same (s : State) (c : Chan) (f : ChannelSettings → ChannelSettings) : (s.modSettings c f).ch c = { s.ch c with settings := f (s.ch c).settings } := by
  simp [State.modSettings]

@[simp] theorem State.ch_modSettings_ne (s : State) (c' : Chan) (c : Chan) (f : ChannelSettings → ChannelSettings) (h : c' ≠ c) : (s.modSettings c f).ch c' = s.ch c' := by
  simp [State.modSettings, h]

@[simp] theorem State.ch_modSlots_same (s : State) (c : Chan) (f : Slots → Slots) : (s.modSlots c f).ch c = { s.ch c with slots := f (s.ch c).slots } := by
  simp [State.modSlots]

@[simp] theorem State.ch_modSlots_ne (s : State) (c' : Chan) (c : Chan) (f : Slots → Slots) (h : c' ≠ c) : (s.modSlots c f).ch c' = s.ch c' := by
  simp [State.modSlots, h]

@[simp] theorem State.ch_modAlign_same (s : State) (c : Chan) (f : Align → Align) : (s.modAlign c f).ch c = { s.ch c with align := f (s.ch c).align } := by
  simp [State.modAlign]

@[simp] theorem State.ch_modAlign_ne (s : State) (c' : Chan) (c : Chan) (f : Align → Align) (h : c' ≠ c) : (s.modAlign c f).ch c' = s.ch c' := by
  simp [State.modAlign, h]

@[simp] theorem State.ch_modMonitor_same (s : State) (c : Chan) (f : Monitor → Monitor) : (s.modMonitor c f).ch c = { s.ch c with monitor := f (s.ch c).monitor } := by
  simp [State.modMonitor]

@[simp] theorem State.ch_modMonitor_ne (s : State) (c' : Chan) (c : Chan) (f : Monitor → Monitor) (h : c' ≠ c) : (s.modMonitor c f).ch c' = s.ch c' := by
  simp [State.modMonitor, h]

@[simp] theorem State.ch_modSchedule_same (s : State) (c : Chan) (f : Schedule → Schedule) : (s.modSchedule c f).ch c = { s.ch c with schedule := f (s.ch c).schedule } := by
  simp [State.modSchedule]

@[simp] theorem State.ch_modSchedule_ne (s : State) (c' : Chan) (c : Chan) (f : Schedule → Schedule) (h : c' ≠ c) : (s.modSchedule c f).ch c' = s.ch c' := by
  simp [State.modSchedule, h]

@[simp] theorem State.ch_modControl_same (s : State) (c : Chan) (f : Control → Control) : (s.modControl c f).ch c = { s.ch c with control := f (s.ch c).control } := by
  simp [State.modControl]

@[simp] theorem State.ch_modControl_ne (s : State) (c' : Chan) (c : Chan) (f : Control → Control) (h : c' ≠ c) : (s.modControl c f).ch c' = s.ch c' := by
  simp [State.modControl, h]

@[simp] theorem State.ch_modCue_same (s : State) (c : Chan) (f : CueContext → CueContext) : (s.modCue c f).ch c = { s.ch c with cue := f (s.ch c).cue } := by
  simp [State.modCue]

@[simp] theorem State.ch_modCue_ne (s : State) (c' : Chan) (c : Chan) (f : CueContext → CueContext) (h : c' ≠ c) : (s.modCue c f).ch c' = s.ch c' := by
  simp [State.modCue, h]

@[simp] theorem State.ch_modOutput_same (s : State) (c : Chan) (f : Output → Output) : (s.modOutput c f).ch c = { s.ch c with output := f (s.ch c).output } := by
  simp [State.modOutput]

@[simp] theorem State.ch_modOutput_ne (s : State) (c' : Chan) (c : Chan) (f : Output → Output) (h : c' ≠ c) : (s.modOutput c f).ch c' = s.ch c' := by
  simp [State.modOutput, h]

@[simp] theorem State.ch_modWork_same (s : State) (c : Chan) (f : ChannelWork → ChannelWork) : (s.modWork c f).ch c = { s.ch c with work := f (s.ch c).work } := by
  simp [State.modWork]

@[simp] theorem State.ch_modWork_ne (s : State) (c' : Chan) (c : Chan) (f : ChannelWork → ChannelWork) (h : c' ≠ c) : (s.modWork c f).ch c' = s.ch c' := by
  simp [State.modWork, h]

/-- Two changes of one entry are one. -/
@[simp] theorem vmod_vmod {α : Type} {n : Nat} (v : Vector α n) (i : Fin n) (f g : α → α) : vmod (vmod v i f) i g = vmod v i fun x => g (f x) := by
  simp [vmod]

/-- Two changes of one channel are one. -/
theorem State.modCh_modCh (s : State) (c : Chan) (f g : Channel → Channel) : (s.modCh c f).modCh c g = s.modCh c fun x => g (f x) := by
  simp [State.modCh]

/-- A channel changed by nothing leaves the part as it was. -/
theorem State.modCh_id (s : State) (c : Chan) (f : Channel → Channel) (h : f (s.ch c) = s.ch c) : s.modCh c f = s := by
  obtain ⟨_, _, _, _, _, chans, _, _, _, _, _, _⟩ := s
  simp only [State.modCh, State.ch, vmod] at *
  congr 1
  rw [h]
  exact Vector.set_getElem_self _

/-- The channels of two states agree when each channel does. -/
theorem State.chans_ext {s t : State} (h : ∀ c, s.ch c = t.ch c) : s.chans = t.chans := by
  apply Vector.ext
  intro i hi
  exact h ⟨i, hi⟩

/-! ## Fields that an update leaves -/

@[simp] theorem State.modCh_time (s : State) (c : Chan) (f : Channel → Channel) : (s.modCh c f).time = s.time := rfl
@[simp] theorem State.modCh_ports (s : State) (c : Chan) (f : Channel → Channel) : (s.modCh c f).ports = s.ports := rfl
@[simp] theorem State.modCh_site (s : State) (c : Chan) (f : Channel → Channel) : (s.modCh c f).site = s.site := rfl
@[simp] theorem State.modCh_poolFree (s : State) (c : Chan) (f : Channel → Channel) : (s.modCh c f).poolFree = s.poolFree := rfl
@[simp] theorem State.modCh_slates (s : State) (c : Chan) (f : Channel → Channel) : (s.modCh c f).slates = s.slates := rfl
@[simp] theorem State.modCh_settings (s : State) (c : Chan) (f : Channel → Channel) : (s.modCh c f).settings = s.settings := rfl
@[simp] theorem State.modCh_mgmt (s : State) (c : Chan) (f : Channel → Channel) : (s.modCh c f).mgmt = s.mgmt := rfl
@[simp] theorem State.modCh_counters (s : State) (c : Chan) (f : Channel → Channel) : (s.modCh c f).counters = s.counters := rfl
@[simp] theorem State.modCh_work (s : State) (c : Chan) (f : Channel → Channel) : (s.modCh c f).work = s.work := rfl
@[simp] theorem State.modCh_outbox (s : State) (c : Chan) (f : Channel → Channel) : (s.modCh c f).outbox = s.outbox := rfl
@[simp] theorem State.modCh_pending (s : State) (c : Chan) (f : Channel → Channel) : (s.modCh c f).pending = s.pending := rfl
@[simp] theorem State.counter_modCh (s : State) (c : Chan) (f : Channel → Channel) (key : CounterKey) : (s.modCh c f).counter key = s.counter key := rfl

@[simp] theorem State.modSettings_time (s : State) (c : Chan) (f : ChannelSettings → ChannelSettings) : (s.modSettings c f).time = s.time := rfl
@[simp] theorem State.modSettings_ports (s : State) (c : Chan) (f : ChannelSettings → ChannelSettings) : (s.modSettings c f).ports = s.ports := rfl
@[simp] theorem State.modSettings_site (s : State) (c : Chan) (f : ChannelSettings → ChannelSettings) : (s.modSettings c f).site = s.site := rfl
@[simp] theorem State.modSettings_poolFree (s : State) (c : Chan) (f : ChannelSettings → ChannelSettings) : (s.modSettings c f).poolFree = s.poolFree := rfl
@[simp] theorem State.modSettings_slates (s : State) (c : Chan) (f : ChannelSettings → ChannelSettings) : (s.modSettings c f).slates = s.slates := rfl
@[simp] theorem State.modSettings_settings (s : State) (c : Chan) (f : ChannelSettings → ChannelSettings) : (s.modSettings c f).settings = s.settings := rfl
@[simp] theorem State.modSettings_mgmt (s : State) (c : Chan) (f : ChannelSettings → ChannelSettings) : (s.modSettings c f).mgmt = s.mgmt := rfl
@[simp] theorem State.modSettings_counters (s : State) (c : Chan) (f : ChannelSettings → ChannelSettings) : (s.modSettings c f).counters = s.counters := rfl
@[simp] theorem State.modSettings_work (s : State) (c : Chan) (f : ChannelSettings → ChannelSettings) : (s.modSettings c f).work = s.work := rfl
@[simp] theorem State.modSettings_outbox (s : State) (c : Chan) (f : ChannelSettings → ChannelSettings) : (s.modSettings c f).outbox = s.outbox := rfl
@[simp] theorem State.modSettings_pending (s : State) (c : Chan) (f : ChannelSettings → ChannelSettings) : (s.modSettings c f).pending = s.pending := rfl
@[simp] theorem State.counter_modSettings (s : State) (c : Chan) (f : ChannelSettings → ChannelSettings) (key : CounterKey) : (s.modSettings c f).counter key = s.counter key := rfl

@[simp] theorem State.modSlots_time (s : State) (c : Chan) (f : Slots → Slots) : (s.modSlots c f).time = s.time := rfl
@[simp] theorem State.modSlots_ports (s : State) (c : Chan) (f : Slots → Slots) : (s.modSlots c f).ports = s.ports := rfl
@[simp] theorem State.modSlots_site (s : State) (c : Chan) (f : Slots → Slots) : (s.modSlots c f).site = s.site := rfl
@[simp] theorem State.modSlots_poolFree (s : State) (c : Chan) (f : Slots → Slots) : (s.modSlots c f).poolFree = s.poolFree := rfl
@[simp] theorem State.modSlots_slates (s : State) (c : Chan) (f : Slots → Slots) : (s.modSlots c f).slates = s.slates := rfl
@[simp] theorem State.modSlots_settings (s : State) (c : Chan) (f : Slots → Slots) : (s.modSlots c f).settings = s.settings := rfl
@[simp] theorem State.modSlots_mgmt (s : State) (c : Chan) (f : Slots → Slots) : (s.modSlots c f).mgmt = s.mgmt := rfl
@[simp] theorem State.modSlots_counters (s : State) (c : Chan) (f : Slots → Slots) : (s.modSlots c f).counters = s.counters := rfl
@[simp] theorem State.modSlots_work (s : State) (c : Chan) (f : Slots → Slots) : (s.modSlots c f).work = s.work := rfl
@[simp] theorem State.modSlots_outbox (s : State) (c : Chan) (f : Slots → Slots) : (s.modSlots c f).outbox = s.outbox := rfl
@[simp] theorem State.modSlots_pending (s : State) (c : Chan) (f : Slots → Slots) : (s.modSlots c f).pending = s.pending := rfl
@[simp] theorem State.counter_modSlots (s : State) (c : Chan) (f : Slots → Slots) (key : CounterKey) : (s.modSlots c f).counter key = s.counter key := rfl

@[simp] theorem State.modAlign_time (s : State) (c : Chan) (f : Align → Align) : (s.modAlign c f).time = s.time := rfl
@[simp] theorem State.modAlign_ports (s : State) (c : Chan) (f : Align → Align) : (s.modAlign c f).ports = s.ports := rfl
@[simp] theorem State.modAlign_site (s : State) (c : Chan) (f : Align → Align) : (s.modAlign c f).site = s.site := rfl
@[simp] theorem State.modAlign_poolFree (s : State) (c : Chan) (f : Align → Align) : (s.modAlign c f).poolFree = s.poolFree := rfl
@[simp] theorem State.modAlign_slates (s : State) (c : Chan) (f : Align → Align) : (s.modAlign c f).slates = s.slates := rfl
@[simp] theorem State.modAlign_settings (s : State) (c : Chan) (f : Align → Align) : (s.modAlign c f).settings = s.settings := rfl
@[simp] theorem State.modAlign_mgmt (s : State) (c : Chan) (f : Align → Align) : (s.modAlign c f).mgmt = s.mgmt := rfl
@[simp] theorem State.modAlign_counters (s : State) (c : Chan) (f : Align → Align) : (s.modAlign c f).counters = s.counters := rfl
@[simp] theorem State.modAlign_work (s : State) (c : Chan) (f : Align → Align) : (s.modAlign c f).work = s.work := rfl
@[simp] theorem State.modAlign_outbox (s : State) (c : Chan) (f : Align → Align) : (s.modAlign c f).outbox = s.outbox := rfl
@[simp] theorem State.modAlign_pending (s : State) (c : Chan) (f : Align → Align) : (s.modAlign c f).pending = s.pending := rfl
@[simp] theorem State.counter_modAlign (s : State) (c : Chan) (f : Align → Align) (key : CounterKey) : (s.modAlign c f).counter key = s.counter key := rfl

@[simp] theorem State.modMonitor_time (s : State) (c : Chan) (f : Monitor → Monitor) : (s.modMonitor c f).time = s.time := rfl
@[simp] theorem State.modMonitor_ports (s : State) (c : Chan) (f : Monitor → Monitor) : (s.modMonitor c f).ports = s.ports := rfl
@[simp] theorem State.modMonitor_site (s : State) (c : Chan) (f : Monitor → Monitor) : (s.modMonitor c f).site = s.site := rfl
@[simp] theorem State.modMonitor_poolFree (s : State) (c : Chan) (f : Monitor → Monitor) : (s.modMonitor c f).poolFree = s.poolFree := rfl
@[simp] theorem State.modMonitor_slates (s : State) (c : Chan) (f : Monitor → Monitor) : (s.modMonitor c f).slates = s.slates := rfl
@[simp] theorem State.modMonitor_settings (s : State) (c : Chan) (f : Monitor → Monitor) : (s.modMonitor c f).settings = s.settings := rfl
@[simp] theorem State.modMonitor_mgmt (s : State) (c : Chan) (f : Monitor → Monitor) : (s.modMonitor c f).mgmt = s.mgmt := rfl
@[simp] theorem State.modMonitor_counters (s : State) (c : Chan) (f : Monitor → Monitor) : (s.modMonitor c f).counters = s.counters := rfl
@[simp] theorem State.modMonitor_work (s : State) (c : Chan) (f : Monitor → Monitor) : (s.modMonitor c f).work = s.work := rfl
@[simp] theorem State.modMonitor_outbox (s : State) (c : Chan) (f : Monitor → Monitor) : (s.modMonitor c f).outbox = s.outbox := rfl
@[simp] theorem State.modMonitor_pending (s : State) (c : Chan) (f : Monitor → Monitor) : (s.modMonitor c f).pending = s.pending := rfl
@[simp] theorem State.counter_modMonitor (s : State) (c : Chan) (f : Monitor → Monitor) (key : CounterKey) : (s.modMonitor c f).counter key = s.counter key := rfl

@[simp] theorem State.modSchedule_time (s : State) (c : Chan) (f : Schedule → Schedule) : (s.modSchedule c f).time = s.time := rfl
@[simp] theorem State.modSchedule_ports (s : State) (c : Chan) (f : Schedule → Schedule) : (s.modSchedule c f).ports = s.ports := rfl
@[simp] theorem State.modSchedule_site (s : State) (c : Chan) (f : Schedule → Schedule) : (s.modSchedule c f).site = s.site := rfl
@[simp] theorem State.modSchedule_poolFree (s : State) (c : Chan) (f : Schedule → Schedule) : (s.modSchedule c f).poolFree = s.poolFree := rfl
@[simp] theorem State.modSchedule_slates (s : State) (c : Chan) (f : Schedule → Schedule) : (s.modSchedule c f).slates = s.slates := rfl
@[simp] theorem State.modSchedule_settings (s : State) (c : Chan) (f : Schedule → Schedule) : (s.modSchedule c f).settings = s.settings := rfl
@[simp] theorem State.modSchedule_mgmt (s : State) (c : Chan) (f : Schedule → Schedule) : (s.modSchedule c f).mgmt = s.mgmt := rfl
@[simp] theorem State.modSchedule_counters (s : State) (c : Chan) (f : Schedule → Schedule) : (s.modSchedule c f).counters = s.counters := rfl
@[simp] theorem State.modSchedule_work (s : State) (c : Chan) (f : Schedule → Schedule) : (s.modSchedule c f).work = s.work := rfl
@[simp] theorem State.modSchedule_outbox (s : State) (c : Chan) (f : Schedule → Schedule) : (s.modSchedule c f).outbox = s.outbox := rfl
@[simp] theorem State.modSchedule_pending (s : State) (c : Chan) (f : Schedule → Schedule) : (s.modSchedule c f).pending = s.pending := rfl
@[simp] theorem State.counter_modSchedule (s : State) (c : Chan) (f : Schedule → Schedule) (key : CounterKey) : (s.modSchedule c f).counter key = s.counter key := rfl

@[simp] theorem State.modControl_time (s : State) (c : Chan) (f : Control → Control) : (s.modControl c f).time = s.time := rfl
@[simp] theorem State.modControl_ports (s : State) (c : Chan) (f : Control → Control) : (s.modControl c f).ports = s.ports := rfl
@[simp] theorem State.modControl_site (s : State) (c : Chan) (f : Control → Control) : (s.modControl c f).site = s.site := rfl
@[simp] theorem State.modControl_poolFree (s : State) (c : Chan) (f : Control → Control) : (s.modControl c f).poolFree = s.poolFree := rfl
@[simp] theorem State.modControl_slates (s : State) (c : Chan) (f : Control → Control) : (s.modControl c f).slates = s.slates := rfl
@[simp] theorem State.modControl_settings (s : State) (c : Chan) (f : Control → Control) : (s.modControl c f).settings = s.settings := rfl
@[simp] theorem State.modControl_mgmt (s : State) (c : Chan) (f : Control → Control) : (s.modControl c f).mgmt = s.mgmt := rfl
@[simp] theorem State.modControl_counters (s : State) (c : Chan) (f : Control → Control) : (s.modControl c f).counters = s.counters := rfl
@[simp] theorem State.modControl_work (s : State) (c : Chan) (f : Control → Control) : (s.modControl c f).work = s.work := rfl
@[simp] theorem State.modControl_outbox (s : State) (c : Chan) (f : Control → Control) : (s.modControl c f).outbox = s.outbox := rfl
@[simp] theorem State.modControl_pending (s : State) (c : Chan) (f : Control → Control) : (s.modControl c f).pending = s.pending := rfl
@[simp] theorem State.counter_modControl (s : State) (c : Chan) (f : Control → Control) (key : CounterKey) : (s.modControl c f).counter key = s.counter key := rfl

@[simp] theorem State.modCue_time (s : State) (c : Chan) (f : CueContext → CueContext) : (s.modCue c f).time = s.time := rfl
@[simp] theorem State.modCue_ports (s : State) (c : Chan) (f : CueContext → CueContext) : (s.modCue c f).ports = s.ports := rfl
@[simp] theorem State.modCue_site (s : State) (c : Chan) (f : CueContext → CueContext) : (s.modCue c f).site = s.site := rfl
@[simp] theorem State.modCue_poolFree (s : State) (c : Chan) (f : CueContext → CueContext) : (s.modCue c f).poolFree = s.poolFree := rfl
@[simp] theorem State.modCue_slates (s : State) (c : Chan) (f : CueContext → CueContext) : (s.modCue c f).slates = s.slates := rfl
@[simp] theorem State.modCue_settings (s : State) (c : Chan) (f : CueContext → CueContext) : (s.modCue c f).settings = s.settings := rfl
@[simp] theorem State.modCue_mgmt (s : State) (c : Chan) (f : CueContext → CueContext) : (s.modCue c f).mgmt = s.mgmt := rfl
@[simp] theorem State.modCue_counters (s : State) (c : Chan) (f : CueContext → CueContext) : (s.modCue c f).counters = s.counters := rfl
@[simp] theorem State.modCue_work (s : State) (c : Chan) (f : CueContext → CueContext) : (s.modCue c f).work = s.work := rfl
@[simp] theorem State.modCue_outbox (s : State) (c : Chan) (f : CueContext → CueContext) : (s.modCue c f).outbox = s.outbox := rfl
@[simp] theorem State.modCue_pending (s : State) (c : Chan) (f : CueContext → CueContext) : (s.modCue c f).pending = s.pending := rfl
@[simp] theorem State.counter_modCue (s : State) (c : Chan) (f : CueContext → CueContext) (key : CounterKey) : (s.modCue c f).counter key = s.counter key := rfl

@[simp] theorem State.modOutput_time (s : State) (c : Chan) (f : Output → Output) : (s.modOutput c f).time = s.time := rfl
@[simp] theorem State.modOutput_ports (s : State) (c : Chan) (f : Output → Output) : (s.modOutput c f).ports = s.ports := rfl
@[simp] theorem State.modOutput_site (s : State) (c : Chan) (f : Output → Output) : (s.modOutput c f).site = s.site := rfl
@[simp] theorem State.modOutput_poolFree (s : State) (c : Chan) (f : Output → Output) : (s.modOutput c f).poolFree = s.poolFree := rfl
@[simp] theorem State.modOutput_slates (s : State) (c : Chan) (f : Output → Output) : (s.modOutput c f).slates = s.slates := rfl
@[simp] theorem State.modOutput_settings (s : State) (c : Chan) (f : Output → Output) : (s.modOutput c f).settings = s.settings := rfl
@[simp] theorem State.modOutput_mgmt (s : State) (c : Chan) (f : Output → Output) : (s.modOutput c f).mgmt = s.mgmt := rfl
@[simp] theorem State.modOutput_counters (s : State) (c : Chan) (f : Output → Output) : (s.modOutput c f).counters = s.counters := rfl
@[simp] theorem State.modOutput_work (s : State) (c : Chan) (f : Output → Output) : (s.modOutput c f).work = s.work := rfl
@[simp] theorem State.modOutput_outbox (s : State) (c : Chan) (f : Output → Output) : (s.modOutput c f).outbox = s.outbox := rfl
@[simp] theorem State.modOutput_pending (s : State) (c : Chan) (f : Output → Output) : (s.modOutput c f).pending = s.pending := rfl
@[simp] theorem State.counter_modOutput (s : State) (c : Chan) (f : Output → Output) (key : CounterKey) : (s.modOutput c f).counter key = s.counter key := rfl

@[simp] theorem State.modWork_time (s : State) (c : Chan) (f : ChannelWork → ChannelWork) : (s.modWork c f).time = s.time := rfl
@[simp] theorem State.modWork_ports (s : State) (c : Chan) (f : ChannelWork → ChannelWork) : (s.modWork c f).ports = s.ports := rfl
@[simp] theorem State.modWork_site (s : State) (c : Chan) (f : ChannelWork → ChannelWork) : (s.modWork c f).site = s.site := rfl
@[simp] theorem State.modWork_poolFree (s : State) (c : Chan) (f : ChannelWork → ChannelWork) : (s.modWork c f).poolFree = s.poolFree := rfl
@[simp] theorem State.modWork_slates (s : State) (c : Chan) (f : ChannelWork → ChannelWork) : (s.modWork c f).slates = s.slates := rfl
@[simp] theorem State.modWork_settings (s : State) (c : Chan) (f : ChannelWork → ChannelWork) : (s.modWork c f).settings = s.settings := rfl
@[simp] theorem State.modWork_mgmt (s : State) (c : Chan) (f : ChannelWork → ChannelWork) : (s.modWork c f).mgmt = s.mgmt := rfl
@[simp] theorem State.modWork_counters (s : State) (c : Chan) (f : ChannelWork → ChannelWork) : (s.modWork c f).counters = s.counters := rfl
@[simp] theorem State.modWork_work (s : State) (c : Chan) (f : ChannelWork → ChannelWork) : (s.modWork c f).work = s.work := rfl
@[simp] theorem State.modWork_outbox (s : State) (c : Chan) (f : ChannelWork → ChannelWork) : (s.modWork c f).outbox = s.outbox := rfl
@[simp] theorem State.modWork_pending (s : State) (c : Chan) (f : ChannelWork → ChannelWork) : (s.modWork c f).pending = s.pending := rfl
@[simp] theorem State.counter_modWork (s : State) (c : Chan) (f : ChannelWork → ChannelWork) (key : CounterKey) : (s.modWork c f).counter key = s.counter key := rfl

@[simp] theorem State.setState_time (s : State) (c : Chan) (x : ChannelState) : (s.setState c x).time = s.time := rfl
@[simp] theorem State.setState_ports (s : State) (c : Chan) (x : ChannelState) : (s.setState c x).ports = s.ports := rfl
@[simp] theorem State.setState_site (s : State) (c : Chan) (x : ChannelState) : (s.setState c x).site = s.site := rfl
@[simp] theorem State.setState_poolFree (s : State) (c : Chan) (x : ChannelState) : (s.setState c x).poolFree = s.poolFree := rfl
@[simp] theorem State.setState_slates (s : State) (c : Chan) (x : ChannelState) : (s.setState c x).slates = s.slates := rfl
@[simp] theorem State.setState_settings (s : State) (c : Chan) (x : ChannelState) : (s.setState c x).settings = s.settings := rfl
@[simp] theorem State.setState_mgmt (s : State) (c : Chan) (x : ChannelState) : (s.setState c x).mgmt = s.mgmt := rfl
@[simp] theorem State.setState_counters (s : State) (c : Chan) (x : ChannelState) : (s.setState c x).counters = s.counters := rfl
@[simp] theorem State.setState_work (s : State) (c : Chan) (x : ChannelState) : (s.setState c x).work = s.work := rfl
@[simp] theorem State.setState_outbox (s : State) (c : Chan) (x : ChannelState) : (s.setState c x).outbox = s.outbox := rfl
@[simp] theorem State.setState_pending (s : State) (c : Chan) (x : ChannelState) : (s.setState c x).pending = s.pending := rfl
@[simp] theorem State.counter_setState (s : State) (c : Chan) (x : ChannelState) (key : CounterKey) : (s.setState c x).counter key = s.counter key := rfl

@[simp] theorem State.bumpBy_time (s : State) (key : CounterKey) (n : Nat) : (s.bumpBy key n).time = s.time := rfl
@[simp] theorem State.bumpBy_ports (s : State) (key : CounterKey) (n : Nat) : (s.bumpBy key n).ports = s.ports := rfl
@[simp] theorem State.bumpBy_site (s : State) (key : CounterKey) (n : Nat) : (s.bumpBy key n).site = s.site := rfl
@[simp] theorem State.bumpBy_poolFree (s : State) (key : CounterKey) (n : Nat) : (s.bumpBy key n).poolFree = s.poolFree := rfl
@[simp] theorem State.bumpBy_slates (s : State) (key : CounterKey) (n : Nat) : (s.bumpBy key n).slates = s.slates := rfl
@[simp] theorem State.bumpBy_chans (s : State) (key : CounterKey) (n : Nat) : (s.bumpBy key n).chans = s.chans := rfl
@[simp] theorem State.bumpBy_settings (s : State) (key : CounterKey) (n : Nat) : (s.bumpBy key n).settings = s.settings := rfl
@[simp] theorem State.bumpBy_mgmt (s : State) (key : CounterKey) (n : Nat) : (s.bumpBy key n).mgmt = s.mgmt := rfl
@[simp] theorem State.bumpBy_work (s : State) (key : CounterKey) (n : Nat) : (s.bumpBy key n).work = s.work := rfl
@[simp] theorem State.bumpBy_outbox (s : State) (key : CounterKey) (n : Nat) : (s.bumpBy key n).outbox = s.outbox := rfl
@[simp] theorem State.bumpBy_pending (s : State) (key : CounterKey) (n : Nat) : (s.bumpBy key n).pending = s.pending := rfl
@[simp] theorem State.ch_bumpBy (s : State) (key : CounterKey) (n : Nat) (c : Chan) : (s.bumpBy key n).ch c = s.ch c := rfl

@[simp] theorem State.bump_time (s : State) (key : CounterKey) : (s.bump key).time = s.time := rfl
@[simp] theorem State.bump_ports (s : State) (key : CounterKey) : (s.bump key).ports = s.ports := rfl
@[simp] theorem State.bump_site (s : State) (key : CounterKey) : (s.bump key).site = s.site := rfl
@[simp] theorem State.bump_poolFree (s : State) (key : CounterKey) : (s.bump key).poolFree = s.poolFree := rfl
@[simp] theorem State.bump_slates (s : State) (key : CounterKey) : (s.bump key).slates = s.slates := rfl
@[simp] theorem State.bump_chans (s : State) (key : CounterKey) : (s.bump key).chans = s.chans := rfl
@[simp] theorem State.bump_settings (s : State) (key : CounterKey) : (s.bump key).settings = s.settings := rfl
@[simp] theorem State.bump_mgmt (s : State) (key : CounterKey) : (s.bump key).mgmt = s.mgmt := rfl
@[simp] theorem State.bump_work (s : State) (key : CounterKey) : (s.bump key).work = s.work := rfl
@[simp] theorem State.bump_outbox (s : State) (key : CounterKey) : (s.bump key).outbox = s.outbox := rfl
@[simp] theorem State.bump_pending (s : State) (key : CounterKey) : (s.bump key).pending = s.pending := rfl
@[simp] theorem State.ch_bump (s : State) (key : CounterKey) (c : Chan) : (s.bump key).ch c = s.ch c := rfl

@[simp] theorem State.bumpCh_time (s : State) (c : Chan) (k : ChanCtr) : (s.bumpCh c k).time = s.time := rfl
@[simp] theorem State.bumpCh_ports (s : State) (c : Chan) (k : ChanCtr) : (s.bumpCh c k).ports = s.ports := rfl
@[simp] theorem State.bumpCh_site (s : State) (c : Chan) (k : ChanCtr) : (s.bumpCh c k).site = s.site := rfl
@[simp] theorem State.bumpCh_poolFree (s : State) (c : Chan) (k : ChanCtr) : (s.bumpCh c k).poolFree = s.poolFree := rfl
@[simp] theorem State.bumpCh_slates (s : State) (c : Chan) (k : ChanCtr) : (s.bumpCh c k).slates = s.slates := rfl
@[simp] theorem State.bumpCh_chans (s : State) (c : Chan) (k : ChanCtr) : (s.bumpCh c k).chans = s.chans := rfl
@[simp] theorem State.bumpCh_settings (s : State) (c : Chan) (k : ChanCtr) : (s.bumpCh c k).settings = s.settings := rfl
@[simp] theorem State.bumpCh_mgmt (s : State) (c : Chan) (k : ChanCtr) : (s.bumpCh c k).mgmt = s.mgmt := rfl
@[simp] theorem State.bumpCh_work (s : State) (c : Chan) (k : ChanCtr) : (s.bumpCh c k).work = s.work := rfl
@[simp] theorem State.bumpCh_outbox (s : State) (c : Chan) (k : ChanCtr) : (s.bumpCh c k).outbox = s.outbox := rfl
@[simp] theorem State.bumpCh_pending (s : State) (c : Chan) (k : ChanCtr) : (s.bumpCh c k).pending = s.pending := rfl
@[simp] theorem State.ch_bumpCh (s : State) (c0 : Chan) (k : ChanCtr) (c : Chan) : (s.bumpCh c0 k).ch c = s.ch c := rfl

@[simp] theorem State.bumpUnit_time (s : State) (k : UnitCtr) : (s.bumpUnit k).time = s.time := rfl
@[simp] theorem State.bumpUnit_ports (s : State) (k : UnitCtr) : (s.bumpUnit k).ports = s.ports := rfl
@[simp] theorem State.bumpUnit_site (s : State) (k : UnitCtr) : (s.bumpUnit k).site = s.site := rfl
@[simp] theorem State.bumpUnit_poolFree (s : State) (k : UnitCtr) : (s.bumpUnit k).poolFree = s.poolFree := rfl
@[simp] theorem State.bumpUnit_slates (s : State) (k : UnitCtr) : (s.bumpUnit k).slates = s.slates := rfl
@[simp] theorem State.bumpUnit_chans (s : State) (k : UnitCtr) : (s.bumpUnit k).chans = s.chans := rfl
@[simp] theorem State.bumpUnit_settings (s : State) (k : UnitCtr) : (s.bumpUnit k).settings = s.settings := rfl
@[simp] theorem State.bumpUnit_mgmt (s : State) (k : UnitCtr) : (s.bumpUnit k).mgmt = s.mgmt := rfl
@[simp] theorem State.bumpUnit_work (s : State) (k : UnitCtr) : (s.bumpUnit k).work = s.work := rfl
@[simp] theorem State.bumpUnit_outbox (s : State) (k : UnitCtr) : (s.bumpUnit k).outbox = s.outbox := rfl
@[simp] theorem State.bumpUnit_pending (s : State) (k : UnitCtr) : (s.bumpUnit k).pending = s.pending := rfl
@[simp] theorem State.ch_bumpUnit (s : State) (k : UnitCtr) (c : Chan) : (s.bumpUnit k).ch c = s.ch c := rfl

@[simp] theorem State.send_time (s : State) (p : Port) (what : Outgoing) : (s.send p what).time = s.time := rfl
@[simp] theorem State.send_ports (s : State) (p : Port) (what : Outgoing) : (s.send p what).ports = s.ports := rfl
@[simp] theorem State.send_site (s : State) (p : Port) (what : Outgoing) : (s.send p what).site = s.site := rfl
@[simp] theorem State.send_poolFree (s : State) (p : Port) (what : Outgoing) : (s.send p what).poolFree = s.poolFree := rfl
@[simp] theorem State.send_slates (s : State) (p : Port) (what : Outgoing) : (s.send p what).slates = s.slates := rfl
@[simp] theorem State.send_chans (s : State) (p : Port) (what : Outgoing) : (s.send p what).chans = s.chans := rfl
@[simp] theorem State.send_settings (s : State) (p : Port) (what : Outgoing) : (s.send p what).settings = s.settings := rfl
@[simp] theorem State.send_mgmt (s : State) (p : Port) (what : Outgoing) : (s.send p what).mgmt = s.mgmt := rfl
@[simp] theorem State.send_counters (s : State) (p : Port) (what : Outgoing) : (s.send p what).counters = s.counters := rfl
@[simp] theorem State.send_work (s : State) (p : Port) (what : Outgoing) : (s.send p what).work = s.work := rfl
@[simp] theorem State.send_pending (s : State) (p : Port) (what : Outgoing) : (s.send p what).pending = s.pending := rfl
@[simp] theorem State.ch_send (s : State) (p : Port) (what : Outgoing) (c : Chan) : (s.send p what).ch c = s.ch c := rfl
@[simp] theorem State.counter_send (s : State) (p : Port) (what : Outgoing) (key : CounterKey) : (s.send p what).counter key = s.counter key := rfl

@[simp] theorem State.sendMain_time (s : State) (what : Outgoing) : (s.sendMain what).time = s.time := rfl
@[simp] theorem State.sendMain_ports (s : State) (what : Outgoing) : (s.sendMain what).ports = s.ports := rfl
@[simp] theorem State.sendMain_site (s : State) (what : Outgoing) : (s.sendMain what).site = s.site := rfl
@[simp] theorem State.sendMain_poolFree (s : State) (what : Outgoing) : (s.sendMain what).poolFree = s.poolFree := rfl
@[simp] theorem State.sendMain_slates (s : State) (what : Outgoing) : (s.sendMain what).slates = s.slates := rfl
@[simp] theorem State.sendMain_chans (s : State) (what : Outgoing) : (s.sendMain what).chans = s.chans := rfl
@[simp] theorem State.sendMain_settings (s : State) (what : Outgoing) : (s.sendMain what).settings = s.settings := rfl
@[simp] theorem State.sendMain_mgmt (s : State) (what : Outgoing) : (s.sendMain what).mgmt = s.mgmt := rfl
@[simp] theorem State.sendMain_counters (s : State) (what : Outgoing) : (s.sendMain what).counters = s.counters := rfl
@[simp] theorem State.sendMain_work (s : State) (what : Outgoing) : (s.sendMain what).work = s.work := rfl
@[simp] theorem State.sendMain_pending (s : State) (what : Outgoing) : (s.sendMain what).pending = s.pending := rfl
@[simp] theorem State.ch_sendMain (s : State) (what : Outgoing) (c : Chan) : (s.sendMain what).ch c = s.ch c := rfl
@[simp] theorem State.counter_sendMain (s : State) (what : Outgoing) (key : CounterKey) : (s.sendMain what).counter key = s.counter key := rfl

@[simp] theorem State.modSlate_time (s : State) (i : Fin 8) (f : Slate → Slate) : (s.modSlate i f).time = s.time := rfl
@[simp] theorem State.modSlate_ports (s : State) (i : Fin 8) (f : Slate → Slate) : (s.modSlate i f).ports = s.ports := rfl
@[simp] theorem State.modSlate_site (s : State) (i : Fin 8) (f : Slate → Slate) : (s.modSlate i f).site = s.site := rfl
@[simp] theorem State.modSlate_poolFree (s : State) (i : Fin 8) (f : Slate → Slate) : (s.modSlate i f).poolFree = s.poolFree := rfl
@[simp] theorem State.modSlate_chans (s : State) (i : Fin 8) (f : Slate → Slate) : (s.modSlate i f).chans = s.chans := rfl
@[simp] theorem State.modSlate_settings (s : State) (i : Fin 8) (f : Slate → Slate) : (s.modSlate i f).settings = s.settings := rfl
@[simp] theorem State.modSlate_mgmt (s : State) (i : Fin 8) (f : Slate → Slate) : (s.modSlate i f).mgmt = s.mgmt := rfl
@[simp] theorem State.modSlate_counters (s : State) (i : Fin 8) (f : Slate → Slate) : (s.modSlate i f).counters = s.counters := rfl
@[simp] theorem State.modSlate_work (s : State) (i : Fin 8) (f : Slate → Slate) : (s.modSlate i f).work = s.work := rfl
@[simp] theorem State.modSlate_outbox (s : State) (i : Fin 8) (f : Slate → Slate) : (s.modSlate i f).outbox = s.outbox := rfl
@[simp] theorem State.modSlate_pending (s : State) (i : Fin 8) (f : Slate → Slate) : (s.modSlate i f).pending = s.pending := rfl
@[simp] theorem State.ch_modSlate (s : State) (i : Fin 8) (f : Slate → Slate) (c : Chan) : (s.modSlate i f).ch c = s.ch c := rfl
@[simp] theorem State.counter_modSlate (s : State) (i : Fin 8) (f : Slate → Slate) (key : CounterKey) : (s.modSlate i f).counter key = s.counter key := rfl

@[simp] theorem State.mapSlates_time (s : State) (f : Slate → Slate) : (s.mapSlates f).time = s.time := rfl
@[simp] theorem State.mapSlates_ports (s : State) (f : Slate → Slate) : (s.mapSlates f).ports = s.ports := rfl
@[simp] theorem State.mapSlates_site (s : State) (f : Slate → Slate) : (s.mapSlates f).site = s.site := rfl
@[simp] theorem State.mapSlates_poolFree (s : State) (f : Slate → Slate) : (s.mapSlates f).poolFree = s.poolFree := rfl
@[simp] theorem State.mapSlates_chans (s : State) (f : Slate → Slate) : (s.mapSlates f).chans = s.chans := rfl
@[simp] theorem State.mapSlates_settings (s : State) (f : Slate → Slate) : (s.mapSlates f).settings = s.settings := rfl
@[simp] theorem State.mapSlates_mgmt (s : State) (f : Slate → Slate) : (s.mapSlates f).mgmt = s.mgmt := rfl
@[simp] theorem State.mapSlates_counters (s : State) (f : Slate → Slate) : (s.mapSlates f).counters = s.counters := rfl
@[simp] theorem State.mapSlates_work (s : State) (f : Slate → Slate) : (s.mapSlates f).work = s.work := rfl
@[simp] theorem State.mapSlates_outbox (s : State) (f : Slate → Slate) : (s.mapSlates f).outbox = s.outbox := rfl
@[simp] theorem State.mapSlates_pending (s : State) (f : Slate → Slate) : (s.mapSlates f).pending = s.pending := rfl
@[simp] theorem State.ch_mapSlates (s : State) (f : Slate → Slate) (c : Chan) : (s.mapSlates f).ch c = s.ch c := rfl
@[simp] theorem State.counter_mapSlates (s : State) (f : Slate → Slate) (key : CounterKey) : (s.mapSlates f).counter key = s.counter key := rfl

@[simp] theorem State.modSite_time (s : State) (f : Site → Site) : (s.modSite f).time = s.time := rfl
@[simp] theorem State.modSite_ports (s : State) (f : Site → Site) : (s.modSite f).ports = s.ports := rfl
@[simp] theorem State.modSite_poolFree (s : State) (f : Site → Site) : (s.modSite f).poolFree = s.poolFree := rfl
@[simp] theorem State.modSite_slates (s : State) (f : Site → Site) : (s.modSite f).slates = s.slates := rfl
@[simp] theorem State.modSite_chans (s : State) (f : Site → Site) : (s.modSite f).chans = s.chans := rfl
@[simp] theorem State.modSite_settings (s : State) (f : Site → Site) : (s.modSite f).settings = s.settings := rfl
@[simp] theorem State.modSite_mgmt (s : State) (f : Site → Site) : (s.modSite f).mgmt = s.mgmt := rfl
@[simp] theorem State.modSite_counters (s : State) (f : Site → Site) : (s.modSite f).counters = s.counters := rfl
@[simp] theorem State.modSite_work (s : State) (f : Site → Site) : (s.modSite f).work = s.work := rfl
@[simp] theorem State.modSite_outbox (s : State) (f : Site → Site) : (s.modSite f).outbox = s.outbox := rfl
@[simp] theorem State.modSite_pending (s : State) (f : Site → Site) : (s.modSite f).pending = s.pending := rfl
@[simp] theorem State.ch_modSite (s : State) (f : Site → Site) (c : Chan) : (s.modSite f).ch c = s.ch c := rfl
@[simp] theorem State.counter_modSite (s : State) (f : Site → Site) (key : CounterKey) : (s.modSite f).counter key = s.counter key := rfl

@[simp] theorem State.modTime_ports (s : State) (f : Timeline → Timeline) : (s.modTime f).ports = s.ports := rfl
@[simp] theorem State.modTime_site (s : State) (f : Timeline → Timeline) : (s.modTime f).site = s.site := rfl
@[simp] theorem State.modTime_poolFree (s : State) (f : Timeline → Timeline) : (s.modTime f).poolFree = s.poolFree := rfl
@[simp] theorem State.modTime_slates (s : State) (f : Timeline → Timeline) : (s.modTime f).slates = s.slates := rfl
@[simp] theorem State.modTime_chans (s : State) (f : Timeline → Timeline) : (s.modTime f).chans = s.chans := rfl
@[simp] theorem State.modTime_settings (s : State) (f : Timeline → Timeline) : (s.modTime f).settings = s.settings := rfl
@[simp] theorem State.modTime_mgmt (s : State) (f : Timeline → Timeline) : (s.modTime f).mgmt = s.mgmt := rfl
@[simp] theorem State.modTime_counters (s : State) (f : Timeline → Timeline) : (s.modTime f).counters = s.counters := rfl
@[simp] theorem State.modTime_work (s : State) (f : Timeline → Timeline) : (s.modTime f).work = s.work := rfl
@[simp] theorem State.modTime_outbox (s : State) (f : Timeline → Timeline) : (s.modTime f).outbox = s.outbox := rfl
@[simp] theorem State.modTime_pending (s : State) (f : Timeline → Timeline) : (s.modTime f).pending = s.pending := rfl
@[simp] theorem State.ch_modTime (s : State) (f : Timeline → Timeline) (c : Chan) : (s.modTime f).ch c = s.ch c := rfl
@[simp] theorem State.counter_modTime (s : State) (f : Timeline → Timeline) (key : CounterKey) : (s.modTime f).counter key = s.counter key := rfl

@[simp] theorem State.modUnit_time (s : State) (f : UnitSettings → UnitSettings) : (s.modUnit f).time = s.time := rfl
@[simp] theorem State.modUnit_ports (s : State) (f : UnitSettings → UnitSettings) : (s.modUnit f).ports = s.ports := rfl
@[simp] theorem State.modUnit_site (s : State) (f : UnitSettings → UnitSettings) : (s.modUnit f).site = s.site := rfl
@[simp] theorem State.modUnit_poolFree (s : State) (f : UnitSettings → UnitSettings) : (s.modUnit f).poolFree = s.poolFree := rfl
@[simp] theorem State.modUnit_slates (s : State) (f : UnitSettings → UnitSettings) : (s.modUnit f).slates = s.slates := rfl
@[simp] theorem State.modUnit_chans (s : State) (f : UnitSettings → UnitSettings) : (s.modUnit f).chans = s.chans := rfl
@[simp] theorem State.modUnit_mgmt (s : State) (f : UnitSettings → UnitSettings) : (s.modUnit f).mgmt = s.mgmt := rfl
@[simp] theorem State.modUnit_counters (s : State) (f : UnitSettings → UnitSettings) : (s.modUnit f).counters = s.counters := rfl
@[simp] theorem State.modUnit_work (s : State) (f : UnitSettings → UnitSettings) : (s.modUnit f).work = s.work := rfl
@[simp] theorem State.modUnit_outbox (s : State) (f : UnitSettings → UnitSettings) : (s.modUnit f).outbox = s.outbox := rfl
@[simp] theorem State.modUnit_pending (s : State) (f : UnitSettings → UnitSettings) : (s.modUnit f).pending = s.pending := rfl
@[simp] theorem State.ch_modUnit (s : State) (f : UnitSettings → UnitSettings) (c : Chan) : (s.modUnit f).ch c = s.ch c := rfl
@[simp] theorem State.counter_modUnit (s : State) (f : UnitSettings → UnitSettings) (key : CounterKey) : (s.modUnit f).counter key = s.counter key := rfl

/-! ## What was sent -/

@[simp] theorem State.send_outbox (s : State) (p : Port) (what : Outgoing) :
    (s.send p what).outbox = s.outbox ++ [{ port := p, stamp := s.time.h, unitNumber := s.settings.unitNumber, what := what }] := rfl

@[simp] theorem State.modSite_site (s : State) (f : Site → Site) : (s.modSite f).site = f s.site := rfl

@[simp] theorem State.modTime_time (s : State) (f : Timeline → Timeline) : (s.modTime f).time = f s.time := rfl

@[simp] theorem State.modUnit_settings (s : State) (f : UnitSettings → UnitSettings) : (s.modUnit f).settings = f s.settings := rfl

@[simp] theorem State.modSlate_get (s : State) (i : Fin 8) (f : Slate → Slate) : (s.modSlate i f).slates[i.val] = f s.slates[i.val] := by
  simp [State.modSlate]

end Sys2Proof.Machine
end

