-- ==== Sys2Proof/Laws/Channels.lean ====
section
/-! SUPPORT. What one change made for each channel in turn does: what every such change keeps is kept, and each channel has had its own change. -/

namespace Sys2Proof.Machine

/-- What each channel's change keeps, the whole sweep keeps. -/
theorem State.eachChannel_keeps {P : State → Prop} {f : Chan → State → State} {s : State} (step : ∀ c t, P t → P (f c t)) (h : P s) :
    P (s.eachChannel f) := by
  unfold State.eachChannel
  generalize Chan.all = l
  induction l generalizing s with
  | nil => exact h
  | cons c l ih => exact ih (step c s h)

theorem Chan.mem_all (c : Chan) : c ∈ Chan.all := by revert c; decide

theorem Chan.nodup_all : Chan.all.Nodup := by decide

/-- A sweep whose change for a channel leaves the other channels alone gives each channel its own change, made in a part that keeps `P`. -/
theorem State.eachChannel_ch {P : State → Prop} {f : Chan → State → State} {Q : Chan → Channel → Prop} {s : State} (step : ∀ c t, P t → P (f c t))
    (alone : ∀ c c' t, P t → c' ≠ c → (f c t).ch c' = t.ch c') (change : ∀ c t, P t → t.ch c = s.ch c → Q c ((f c t).ch c)) (h : P s) (c : Chan) :
    Q c ((s.eachChannel f).ch c) := by
  have key : ∀ (l : List Chan) (t : State), l.Nodup → P t →
      (c ∈ l → t.ch c = s.ch c → Q c ((l.foldl (fun t c => f c t) t).ch c)) ∧ (c ∉ l → (l.foldl (fun t c => f c t) t).ch c = t.ch c) := by
    intro l
    induction l with
    | nil => intro t _ _; simp
    | cons b l ih =>
      intro t hn ht
      obtain ⟨hb, hl⟩ := List.nodup_cons.1 hn
      obtain ⟨ih1, ih2⟩ := ih (f b t) hl (step b t ht)
      refine ⟨fun hm he => ?_, fun hm => ?_⟩
      · rcases List.mem_cons.1 hm with rfl | hm
        · simp only [List.foldl_cons]
          rw [ih2 hb]
          exact change c t ht he
        · have hne : c ≠ b := fun e => hb (e ▸ hm)
          exact ih1 hm ((alone b c t ht hne).trans he)
      · simp only [List.mem_cons, not_or] at hm
        simp only [List.foldl_cons]
        rw [ih2 hm.2, alone b c t ht hm.1]
  exact (key Chan.all s Chan.nodup_all h).1 (Chan.mem_all c) rfl

/-- The same for a sweep in which each change depends on nothing but the channel. -/
theorem State.eachChannel_ch_eq {f : Chan → State → State} {g : Chan → Channel → Channel} {s : State}
    (change : ∀ c t c', (f c t).ch c' = if c' = c then g c (t.ch c') else t.ch c') (c : Chan) : (s.eachChannel f).ch c = g c (s.ch c) := by
  refine State.eachChannel_ch (P := fun _ => True) (Q := fun c x => x = g c (s.ch c)) (fun _ _ _ => trivial) ?_ ?_ trivial c
  · intro c c' t _ h; simp [change, h]
  · intro c t _ h; simp [change, h]

end Sys2Proof.Machine
end

