-- ==== Sys2Proof/Laws/Counters.lean ====
section
/-! SUPPORT. One counter after an increment: the named one rises, saturating, and every other stays (R197). -/

namespace Sys2Proof.Machine

theorem chanCtrIndex_inj {a b : ChanCtr} (h : chanCtrIndex a = chanCtrIndex b) : a = b := by
  have h := congrArg (fun x => ChanCtr.ofNat x.val) h
  simpa [chanCtrIndex, ChanCtr.ofNat_ctorIdx] using h

theorem portCtrIndex_inj {a b : PortCtr} (h : portCtrIndex a = portCtrIndex b) : a = b := by
  have h := congrArg (fun x => PortCtr.ofNat x.val) h
  simpa [portCtrIndex, PortCtr.ofNat_ctorIdx] using h

theorem pathCtrIndex_inj {a b : PathCtr} (h : pathCtrIndex a = pathCtrIndex b) : a = b := by
  have h := congrArg (fun x => PathCtr.ofNat x.val) h
  simpa [pathCtrIndex, PathCtr.ofNat_ctorIdx] using h

theorem unitCtrIndex_inj {a b : UnitCtr} (h : unitCtrIndex a = unitCtrIndex b) : a = b := by
  have h := congrArg (fun x => UnitCtr.ofNat x.val) h
  simpa [unitCtrIndex, UnitCtr.ofNat_ctorIdx] using h

theorem originCtrIndex_inj {a b : OriginCtr} (h : originCtrIndex a = originCtrIndex b) : a = b := by
  have h := congrArg (fun x => OriginCtr.ofNat x.val) h
  simpa [originCtrIndex, OriginCtr.ofNat_ctorIdx] using h

theorem sideIndex_inj {a b : Side} (h : sideIndex a = sideIndex b) : a = b := by
  cases a <;> cases b <;> first | rfl | (exact absurd h (by decide))

theorem originIndex_inj {a b : Origin} (h : originIndex a = originIndex b) : a = b := by
  cases a <;> cases b <;> first | rfl | (exact absurd h (by decide))

theorem portIndex_val (p : Port) : (portIndex p).val = match p with
    | .contribution .a => 0 | .contribution .b => 1 | .standby n => 2 + n.val | .output .a => 6 | .output .b => 7 := by
  rcases p with (_|_)|n|(_|_) <;> rfl

theorem portIndex_inj {a b : Port} (h : portIndex a = portIndex b) : a = b := by
  have h := congrArg Fin.val h
  rw [portIndex_val, portIndex_val] at h
  rcases a with (_|_)|n|(_|_) <;> rcases b with (_|_)|m|(_|_) <;>
    first | rfl | (exfalso; dsimp only at h; omega) | (congr 1; dsimp only at h; omega)

/-- A table of tables with one entry changed, read at another. -/
theorem vmod_vmod_get {α : Type} {n m : Nat} (v : Vector (Vector α m) n) (i i' : Fin n) (j j' : Fin m) (f : α → α) :
    (vmod v i fun w => vmod w j f)[i'.val][j'.val] = if i' = i ∧ j' = j then f v[i'.val][j'.val] else v[i'.val][j'.val] := by
  by_cases hi : i' = i
  · subst hi; simp [vmod_get]
  · simp [hi]

theorem Counters.get_add (x : Counters) (key k : CounterKey) (n : Nat) :
    (x.add key n).get k = if k = key then satAdd (x.get k) n else x.get k := by
  have hc : ∀ a b, chanCtrIndex a = chanCtrIndex b ↔ a = b := fun a b => ⟨chanCtrIndex_inj, fun h => by rw [h]⟩
  have hp : ∀ a b, portCtrIndex a = portCtrIndex b ↔ a = b := fun a b => ⟨portCtrIndex_inj, fun h => by rw [h]⟩
  have hq : ∀ a b, portIndex a = portIndex b ↔ a = b := fun a b => ⟨portIndex_inj, fun h => by rw [h]⟩
  have ha : ∀ a b, pathCtrIndex a = pathCtrIndex b ↔ a = b := fun a b => ⟨pathCtrIndex_inj, fun h => by rw [h]⟩
  have hs : ∀ a b, sideIndex a = sideIndex b ↔ a = b := fun a b => ⟨sideIndex_inj, fun h => by rw [h]⟩
  have hu : ∀ a b, unitCtrIndex a = unitCtrIndex b ↔ a = b := fun a b => ⟨unitCtrIndex_inj, fun h => by rw [h]⟩
  have ho : ∀ a b, originIndex a = originIndex b ↔ a = b := fun a b => ⟨originIndex_inj, fun h => by rw [h]⟩
  have hr : ∀ a b, originCtrIndex a = originCtrIndex b ↔ a = b := fun a b => ⟨originCtrIndex_inj, fun h => by rw [h]⟩
  cases key <;> cases k <;> simp only [Counters.add, Counters.get, CounterKey.chan.injEq, CounterKey.port.injEq,
    CounterKey.path.injEq, CounterKey.whole.injEq, CounterKey.origin.injEq, reduceCtorEq, if_false]
  · rw [vmod_vmod_get]; simp only [hc]
  · rw [vmod_vmod_get]; simp only [hp, hq]
  · rw [vmod_vmod_get]; simp only [ha, hs]
  · rw [vmod_get]; simp only [hu]
  · rw [vmod_vmod_get]; simp only [hr, ho]

/-- The counter named rises by `n` and saturates. Every other counter stays. -/
theorem State.counter_bumpBy (s : State) (key k : CounterKey) (n : Nat) :
    (s.bumpBy key n).counter k = if k = key then satAdd (s.counter k) n else s.counter k :=
  Counters.get_add s.counters key k n

theorem State.counter_bump (s : State) (key k : CounterKey) :
    (s.bump key).counter k = if k = key then satAdd (s.counter k) 1 else s.counter k :=
  s.counter_bumpBy key k 1

theorem State.counter_bumpCh (s : State) (c : Chan) (key : ChanCtr) (k : CounterKey) :
    (s.bumpCh c key).counter k = if k = .chan c key then satAdd (s.counter k) 1 else s.counter k :=
  s.counter_bumpBy _ k 1

theorem State.counter_bumpUnit (s : State) (key : UnitCtr) (k : CounterKey) :
    (s.bumpUnit key).counter k = if k = .whole key then satAdd (s.counter k) 1 else s.counter k :=
  s.counter_bumpBy _ k 1

/-- A saturating sum never passes the maximum. -/
theorem satAdd_le (n k : Nat) : satAdd n k ≤ counterMax := Nat.min_le_right _ _

end Sys2Proof.Machine
end

