-- ==== Sys2Proof/Laws/CueLocal.lean ====
section
/-! SUPPORT. What the Channel Controller and the Cue Engine do for one channel stays within that channel's channel record, cues and output record: one lemma per
operation, each extending a state that is so reached. -/

namespace Sys2Proof.Machine

variable {c : Chan} {s t : State}

theorem Elsewhere.refl (c : Chan) (s : State) : Elsewhere c s s :=
  ⟨rfl, rfl, rfl, rfl, rfl, rfl, rfl, rfl, rfl, List.prefix_refl _, fun _ _ => rfl, fun _ _ => rfl⟩

theorem Elsewhere.trans {u : State} (h : Elsewhere c s t) (k : Elsewhere c t u) : Elsewhere c s u :=
  ⟨k.time.trans h.time, k.ports.trans h.ports, k.site.trans h.site, k.poolFree.trans h.poolFree, k.slates.trans h.slates,
   k.settings.trans h.settings, k.mgmt.trans h.mgmt, k.work.trans h.work, k.pending.trans h.pending, h.outbox.trans k.outbox,
   fun c' hc => (k.others c' hc).trans (h.others c' hc), fun key hk => (k.counters key hk).trans (h.counters key hk)⟩

theorem CueLocal.refl (c : Chan) (s : State) : CueLocal c s s := ⟨Elsewhere.refl c s, rfl⟩

theorem CueLocal.trans {u : State} (h : CueLocal c s t) (k : CueLocal c t u) : CueLocal c s u := by
  refine ⟨h.toElsewhere.trans k.toElsewhere, ?_⟩
  have h1 := h.channel
  have h2 := k.channel
  unfold SameButCues at *
  rw [← h1, ← h2]

/-- A change of the channel within its channel record, cues and output record. -/
theorem CueLocal.modCh (h : CueLocal c s t) (f : Channel → Channel) (hf : ∀ x, SameButCues x (f x)) : CueLocal c s (t.modCh c f) := by
  refine h.trans ⟨⟨rfl, rfl, rfl, rfl, rfl, rfl, rfl, rfl, rfl, List.prefix_refl _, fun c' hc => by simp [hc], fun _ _ => rfl⟩, ?_⟩
  simpa using hf (t.ch c)

theorem CueLocal.modControl (h : CueLocal c s t) (f : Control → Control) : CueLocal c s (t.modControl c f) := h.modCh _ fun _ => rfl
theorem CueLocal.modCue (h : CueLocal c s t) (f : CueContext → CueContext) : CueLocal c s (t.modCue c f) := h.modCh _ fun _ => rfl
theorem CueLocal.modOutput (h : CueLocal c s t) (f : Output → Output) : CueLocal c s (t.modOutput c f) := h.modCh _ fun _ => rfl

/-- An increment of a counter of the channel or of an origin. -/
theorem CueLocal.bumpBy (h : CueLocal c s t) (key : CounterKey) (n : Nat) (hk : foreign c key = false) : CueLocal c s (t.bumpBy key n) := by
  refine h.trans ⟨⟨rfl, rfl, rfl, rfl, rfl, rfl, rfl, rfl, rfl, List.prefix_refl _, fun _ _ => rfl, fun k hk' => ?_⟩, rfl⟩
  rw [State.counter_bumpBy]
  have : k ≠ key := fun e => by rw [e, hk] at hk'; exact absurd hk' (by decide)
  simp [this]

theorem CueLocal.bumpCh (h : CueLocal c s t) (k : ChanCtr) : CueLocal c s (t.bumpCh c k) := h.bumpBy _ 1 (by simp [foreign])

theorem CueLocal.send (h : CueLocal c s t) (p : Port) (what : Outgoing) : CueLocal c s (t.send p what) :=
  h.trans ⟨⟨rfl, rfl, rfl, rfl, rfl, rfl, rfl, rfl, rfl, List.prefix_append _ _, fun _ _ => rfl, fun _ _ => rfl⟩, rfl⟩

/-- A report offered to one origin. -/
theorem CueLocal.offer (h : CueLocal c s t) (o : Origin) (r : Report) : CueLocal c s (t.offer o r) := by
  refine h.trans ?_
  unfold State.offer
  dsimp only
  have hq : ∀ f : Context → Context, (∀ x, { f x with queue := [], nextSequence := 0 } = ({ x with queue := [], nextSequence := 0 } : Context)) →
      CueLocal c t (t.modCtx o f) := by
    intro f hf
    cases o
    · refine ⟨⟨rfl, rfl, rfl, rfl, rfl, rfl, ?_, rfl, rfl, List.prefix_refl _, fun _ _ => rfl, fun _ _ => rfl⟩, rfl⟩
      simp only [State.modCtx, Management.quiet]
      rw [hf]
    · refine ⟨⟨rfl, rfl, rfl, rfl, rfl, rfl, ?_, rfl, rfl, List.prefix_refl _, fun _ _ => rfl, fun _ _ => rfl⟩, rfl⟩
      simp only [State.modCtx, Management.quiet]
      rw [hf]
  split
  · exact CueLocal.refl c t
  · split
    · exact hq _ fun _ => rfl
    · exact (hq (fun x => { x with nextSequence := ((t.ctx o).nextSequence + 1) % 65536 }) fun _ => rfl).bumpBy (.origin o .reportsDropped) 1 rfl

theorem CueLocal.raise (h : CueLocal c s t) (r : Report) : CueLocal c s (t.raise r) := (h.offer _ r).offer _ r

/-! ## The channel record and the cues -/

theorem CueLocal.setState (h : CueLocal c s t) (x : ChannelState) : CueLocal c s (t.setState c x) := (h.modControl _).modOutput _

theorem CueLocal.modRecord (h : CueLocal c s t) (f : TakeoverRecord → TakeoverRecord) : CueLocal c s (t.modRecord c f) := by
  unfold State.modRecord
  split
  · exact h
  · exact h.modControl _

theorem CueLocal.sendCancel (h : CueLocal c s t) (server : Fin 8) (player number : Nat) : CueLocal c s (t.sendCancel c server player number) := by
  unfold State.sendCancel
  split
  · exact (h.bumpCh _).send _ _
  · exact h.bumpCh _

theorem CueLocal.sendStop (h : CueLocal c s t) (server : Fin 8) (player number : Nat) : CueLocal c s (t.sendStop c server player number) := by
  unfold State.sendStop
  split
  · exact (h.bumpCh _).send _ _
  · exact h.bumpCh _

theorem CueLocal.cancelCue (h : CueLocal c s t) (x : Cue) : CueLocal c s (t.cancelCue c x) := by
  unfold State.cancelCue
  split
  · exact h
  · exact h.sendCancel _ _ _
  · exact h

theorem CueLocal.cancelPending (h : CueLocal c s t) : CueLocal c s (t.cancelPending c) := by
  unfold State.cancelPending
  split
  · exact h
  · exact (h.cancelCue _).modCue _

theorem CueLocal.stopPlaying (h : CueLocal c s t) : CueLocal c s (t.stopPlaying c) := by
  unfold State.stopPlaying
  split
  · exact h
  · dsimp only
    split
    · exact (h.sendStop _ _ _).modCue _
    · exact h.modCue _

theorem CueLocal.clearWait (h : CueLocal c s t) : CueLocal c s (t.clearWait c) := h.modCue _

theorem CueLocal.cueFailed (h : CueLocal c s t) : CueLocal c s (t.cueFailed c) := (h.bumpCh _).raise _

theorem CueLocal.exhausted (h : CueLocal c s t) : CueLocal c s (t.exhausted c) := by
  unfold State.exhausted
  split
  · exact (((h.modRecord _).setState _).modControl _).cueFailed
  · exact (h.modRecord _).cueFailed
  · exact ((h.setState _).stopPlaying).cueFailed
  · exact (h.modControl _).cueFailed
  · exact (h.modControl _).cueFailed
  · exact h

theorem CueLocal.noSchedule (h : CueLocal c s t) : CueLocal c s (t.noSchedule c) := by
  unfold State.noSchedule
  split
  · exact (h.modRecord _).setState _
  · exact h.modRecord _
  · exact (h.setState _).stopPlaying
  · exact h.modControl _
  · exact h.modControl _
  · exact h

theorem CueLocal.switchTaken (h : CueLocal c s t) (kind : CueKind) (x : Nat) : CueLocal c s (t.switchTaken c kind x) := by
  unfold State.switchTaken
  split
  · exact ((h.modRecord _).setState _).raise _
  · exact ((h.modRecord _).setState _).raise _
  · exact h.raise _
  · exact h.raise _
  · exact h.raise _
  · exact h

/-! ## Joins and follow-ons -/

theorem CueLocal.writeLink (h : CueLocal c s t) (j : JoinChoice) : CueLocal c s (t.writeLink c j) := by
  unfold State.writeLink
  split
  · dsimp only
    split
    · exact (h.modRecord _).modCue _
    · exact h.modCue _
  · exact h

theorem CueLocal.sendCue (h : CueLocal c s t) (p : Port) (kind : CueKind) (e : Event) (offset x used limit : Nat) :
    CueLocal c s (t.sendCue c p kind e offset x used limit) :=
  ((h.modCue _).bumpCh _).send _ _

theorem CueLocal.runJoin (h : CueLocal c s t) (fuel used limit : Nat) : CueLocal c s (State.runJoin fuel t c used limit) := by
  induction fuel generalizing t used with
  | zero => exact h
  | succ fuel ih =>
    unfold State.runJoin
    dsimp only
    split
    · exact ((h.writeLink _).modCue _).noSchedule
    · split
      · exact (h.writeLink _).sendCue _ _ _ _ _ _ _
      · split
        · exact ih ((h.writeLink _).bumpCh _) _
        · exact ((h.writeLink _).bumpCh _).exhausted

theorem CueLocal.join (h : CueLocal c s t) (used limit : Nat) : CueLocal c s (t.join c used limit) := h.runJoin _ _ _

theorem CueLocal.requestJoin (h : CueLocal c s t) : CueLocal c s (t.requestJoin c) := (h.cancelPending.clearWait).join _ _

theorem CueLocal.requestCancel (h : CueLocal c s t) : CueLocal c s (t.requestCancel c) := h.cancelPending.clearWait

theorem CueLocal.endCues (h : CueLocal c s t) : CueLocal c s (t.endCues c) := (h.cancelPending.stopPlaying).modCue _

theorem CueLocal.failJoin (h : CueLocal c s t) (x : Cue) : CueLocal c s (t.failJoin c x) := by
  unfold State.failJoin
  dsimp only
  split
  · exact h.cancelPending.join _ _
  · exact h.cancelPending.exhausted

theorem CueLocal.runFollowOn (h : CueLocal c s t) (fuel used limit : Nat) : CueLocal c s (State.runFollowOn fuel t c used limit) := by
  induction fuel generalizing t used with
  | zero => exact h
  | succ fuel ih =>
    unfold State.runFollowOn
    split
    · exact h
    · dsimp only
      split
      · exact h.sendCue _ _ _ _ _ _ _
      · split
        · exact ih (h.bumpCh _) _
        · exact (h.bumpCh _).modCue _

theorem CueLocal.followOnCheck (h : CueLocal c s t) : CueLocal c s (t.followOnCheck c) := h.runFollowOn _ _ _

/-- R150: attempts used stay within 7. -/
theorem failedAttempts_le (used : Nat) : failedAttempts used ≤ 7 := Nat.min_le_right _ _

theorem CueLocal.failFollowOn (h : CueLocal c s t) (x : Cue) : CueLocal c s (t.failFollowOn c x) := by
  unfold State.failFollowOn
  split
  · exact h.cancelPending.runFollowOn _ _ _
  · exact (h.cancelCue _).modCue _

theorem CueLocal.recheckFollowOn (h : CueLocal c s t) (x : Cue) : CueLocal c s (t.recheckFollowOn c x) := h.runFollowOn _ _ _

theorem CueLocal.recomputeCue (h : CueLocal c s t) (x : Cue) : CueLocal c s (t.recomputeCue c x) := by
  unfold State.recomputeCue
  split
  · exact h.join _ _
  · exact h.recheckFollowOn _

theorem CueLocal.recheckTouched (h : CueLocal c s t) (touched : Option Cue) : CueLocal c s (t.recheckTouched c touched) := by
  unfold State.recheckTouched
  split
  · split
    · exact h.recheckFollowOn _
    · exact h
  · exact h

/-- R165 to R168: a notice reaches nothing beyond its channel's cues, channel record and output record. -/
theorem CueLocal.takeNotice (h : CueLocal c s t) (notice : Notice) : CueLocal c s (t.takeNotice c notice) := by
  have key : CueLocal c s (if (t.touchedPending c notice).isSome then (t.cancelPending c).bumpCh c .recomputes else t) := by
    split
    · exact h.cancelPending.bumpCh _
    · exact h
  unfold State.takeNotice
  dsimp only
  generalize (if (t.touchedPending c notice).isSome then (t.cancelPending c).bumpCh c .recomputes else t) = u at key ⊢
  split
  · split
    · exact (key.cancelPending.join _ _).recheckTouched _
    · split
      · exact (key.modCue _).recomputeCue _
      · exact key.modCue _
  · split
    · exact key.recomputeCue _
    · exact key.clearWait.join _ _
    · exact key

theorem CueLocal.switchCue (h : CueLocal c s t) (x : Cue) : CueLocal c s (t.switchCue c x) := by
  have key : ∀ u, CueLocal c s u →
      CueLocal c s ((((u.modCue c fun y => { y with pendingCue := none, playing := some x }).bumpCh c .switches).switchTaken c x.kind x.switchPosition).followOnCheck c) :=
    fun u hu => (((hu.modCue _).bumpCh _).switchTaken _ _).followOnCheck
  unfold State.switchCue
  dsimp only
  split
  · split
    · exact key _ h
    · exact key _ h.stopPlaying
  · exact key _ h

/-! ## Takeovers and returns -/

theorem CueLocal.openRecord (h : CueLocal c s t) (cause : TakeoverCause) (asserted : List Detector) (origin : Option Origin) :
    CueLocal c s (t.openRecord c cause asserted origin) := by
  unfold State.openRecord
  dsimp only
  split
  · exact (h.bumpCh _).modControl _
  · exact h.modControl _

theorem CueLocal.takeover (h : CueLocal c s t) (cause : TakeoverCause) (asserted : List Detector) (origin : Option Origin) :
    CueLocal c s (t.takeover c cause asserted origin) := by
  unfold State.takeover
  split
  · exact ((((((h.openRecord _ _ _).modControl _).setState _).bumpCh _).raise _).modCue _).requestJoin
  · exact h

theorem CueLocal.followOnFailed (h : CueLocal c s t) : CueLocal c s (t.followOnFailed c) := by
  unfold State.followOnFailed
  split
  · exact (h.setState _).requestJoin
  · exact h.modControl _
  · exact h.modControl _
  · exact h

theorem CueLocal.startGuard (h : CueLocal c s t) : CueLocal c s (t.startGuard c) := by
  unfold State.startGuard
  split
  · exact (h.modControl _).setState _
  · exact (h.requestCancel.modControl _).setState _
  · exact h

theorem CueLocal.tellReturn (h : CueLocal c s t) (r : Nat) : CueLocal c s (t.tellReturn c r) := by
  unfold State.tellReturn
  split
  · split
    · exact h.cancelPending
    · exact h
  · exact h

theorem CueLocal.enterReturning (h : CueLocal c s t) (byPin : Bool) : CueLocal c s (t.enterReturning c byPin) :=
  ((h.modControl _).setState _).tellReturn _

theorem CueLocal.closeRecord (h : CueLocal c s t) : CueLocal c s (t.closeRecord c) := by
  unfold State.closeRecord
  exact ((h.bumpCh _).raise _).modControl _

theorem CueLocal.arrive (h : CueLocal c s t) : CueLocal c s (t.arrive c) := ((((h.setState _).endCues).modControl _).modRecord _).closeRecord

theorem CueLocal.abandonTakeover (h : CueLocal c s t) : CueLocal c s (t.abandonTakeover c) :=
  (((h.requestCancel.setState _).modControl _).modRecord _).closeRecord

theorem CueLocal.expireGuard (h : CueLocal c s t) : CueLocal c s (t.expireGuard c) := (h.bumpCh _).enterReturning _

theorem CueLocal.callOff (h : CueLocal c s t) (bySite : Bool) : CueLocal c s (t.callOff c bySite) := by
  unfold State.callOff
  dsimp only
  split
  · exact ((h.modControl _).setState _).requestJoin
  · exact (((h.modControl _).setState _).stopPlaying).requestJoin
  · exact ((h.modControl _).setState _).followOnCheck

theorem CueLocal.callOffReturn (h : CueLocal c s t) : CueLocal c s (t.callOffReturn c) := by
  unfold State.callOffReturn
  split
  · exact (h.bumpCh _).callOff _
  · exact h.callOff _

theorem CueLocal.cueingFailed (h : CueLocal c s t) (asserted : List Detector) : CueLocal c s (t.cueingFailed c asserted) :=
  ((h.modRecord _).modControl _).setState _

theorem CueLocal.setPin (h : CueLocal c s t) (p : Pin) : CueLocal c s (t.setPin c p) := by
  unfold State.setPin
  dsimp only
  split
  · exact ((h.modOutput _).bumpCh _).modControl _
  · exact h.modControl _

theorem CueLocal.siteLossNotice (h : CueLocal c s t) : CueLocal c s (t.siteLossNotice c) := by
  unfold State.siteLossNotice
  dsimp only
  split
  · exact (h.modControl _).callOff _
  · exact (h.modControl _).callOff _
  · split
    · exact (h.modControl _).takeover _ _ _
    · exact h.modControl _
  · exact h.modControl _

theorem CueLocal.siteRestoreNotice (h : CueLocal c s t) : CueLocal c s (t.siteRestoreNotice c) := by
  unfold State.siteRestoreNotice
  split
  · exact h.startGuard
  · exact h

/-- R169: a realignment reaches nothing beyond the channel's cues, channel record and output record. -/
theorem CueLocal.realignCues (h : CueLocal c s t) : CueLocal c s (t.realignCues c) := by
  have again : ∀ used limit, CueLocal c s (((t.cancelPending c).bumpCh c .recomputes).join c used limit) := fun _ _ => (h.cancelPending.bumpCh _).join _ _
  unfold State.realignCues
  dsimp only
  split
  · split
    · exact again _ _
    · exact h
  · split
    · exact again _ _
    · exact h
  · split
    · exact again _ _
    · exact h
  · split
    · exact again _ _
    · exact h
  · exact h.cancelPending
  · exact h

/-- A verdict notice for the channel. -/
theorem CueLocal.takeVerdict (n : VerdictNotice) (h : CueLocal n.chan s t) : CueLocal n.chan s (t.takeVerdict n) := by
  unfold State.takeVerdict
  dsimp only
  split
  · split
    · exact h.takeover _ _ _
    · exact h
  · split
    · exact h.cueingFailed _
    · exact h
  · split
    · exact h.startGuard
    · exact h
  · split
    · exact h.startGuard
    · exact h
  · exact (h.bumpCh _).modControl _
  · exact h.callOffReturn
  · split
    · exact h.callOffReturn
    · exact h
  · exact h

end Sys2Proof.Machine
end

