-- ==== Sys2Proof/Laws/CueOnly.lean ====
section
/-! SUPPORT. The operations of the Cue Engine that touch nothing but a channel's cues: CANCEL, STOP, the schedule wait, and follow-ons. They leave the channel record,
the output record, every report queue, and every counter but five of the channel's own. -/

namespace Sys2Proof.Machine

/-- The counters that sending to a server moves (R155, R170). -/
def cueCounter (c : Chan) : CounterKey → Bool
  | .chan c' .cuesSent | .chan c' .noServerFailures | .chan c' .cancelsSent | .chan c' .stopsSent | .chan c' .cueControlsUnsent => c' == c
  | _ => false

/-- Two states that differ at most in the cues of a channel, those counters, and what has been sent. -/
structure CueOnly (c : Chan) (s t : State) : Prop where
  channel : { t.ch c with cue := (s.ch c).cue } = s.ch c
  others : ∀ c' : Chan, c' ≠ c → t.ch c' = s.ch c'
  counters : ∀ key, cueCounter c key = false → t.counter key = s.counter key
  rest : { t with chans := s.chans, counters := s.counters, outbox := s.outbox } = s

variable {c : Chan} {s t : State}

theorem CueOnly.refl (c : Chan) (s : State) : CueOnly c s s := ⟨rfl, fun _ _ => rfl, fun _ _ => rfl, rfl⟩

theorem CueOnly.trans {u : State} (h : CueOnly c s t) (k : CueOnly c t u) : CueOnly c s u := by
  refine ⟨?_, fun c' hc => (k.others c' hc).trans (h.others c' hc), fun key hk => (k.counters key hk).trans (h.counters key hk), ?_⟩
  · rw [← h.channel, ← k.channel]
  · rw [← h.rest, ← k.rest]

theorem CueOnly.control (h : CueOnly c s t) : (t.ch c).control = (s.ch c).control := by rw [← h.channel]
theorem CueOnly.output (h : CueOnly c s t) : (t.ch c).output = (s.ch c).output := by rw [← h.channel]
theorem CueOnly.settings (h : CueOnly c s t) : (t.ch c).settings = (s.ch c).settings := by rw [← h.channel]
theorem CueOnly.align (h : CueOnly c s t) : (t.ch c).align = (s.ch c).align := by rw [← h.channel]
theorem CueOnly.schedule (h : CueOnly c s t) : (t.ch c).schedule = (s.ch c).schedule := by rw [← h.channel]
theorem CueOnly.monitor (h : CueOnly c s t) : (t.ch c).monitor = (s.ch c).monitor := by rw [← h.channel]
theorem CueOnly.slots (h : CueOnly c s t) : (t.ch c).slots = (s.ch c).slots := by rw [← h.channel]
theorem CueOnly.channelWork (h : CueOnly c s t) : (t.ch c).work = (s.ch c).work := by rw [← h.channel]
theorem CueOnly.time (h : CueOnly c s t) : t.time = s.time := by rw [← h.rest]
theorem CueOnly.ports (h : CueOnly c s t) : t.ports = s.ports := by rw [← h.rest]
theorem CueOnly.site (h : CueOnly c s t) : t.site = s.site := by rw [← h.rest]
theorem CueOnly.poolFree (h : CueOnly c s t) : t.poolFree = s.poolFree := by rw [← h.rest]
theorem CueOnly.slates (h : CueOnly c s t) : t.slates = s.slates := by rw [← h.rest]
theorem CueOnly.unit (h : CueOnly c s t) : t.settings = s.settings := by rw [← h.rest]
theorem CueOnly.mgmt (h : CueOnly c s t) : t.mgmt = s.mgmt := by rw [← h.rest]
theorem CueOnly.work (h : CueOnly c s t) : t.work = s.work := by rw [← h.rest]
theorem CueOnly.pending (h : CueOnly c s t) : t.pending = s.pending := by rw [← h.rest]

theorem CueOnly.modCue (h : CueOnly c s t) (f : CueContext → CueContext) : CueOnly c s (t.modCue c f) :=
  h.trans ⟨by simp, fun c' hc => by simp [hc], fun _ _ => rfl, rfl⟩

theorem CueOnly.bumpCh (h : CueOnly c s t) (k : ChanCtr) (hk : cueCounter c (.chan c k) = true) : CueOnly c s (t.bumpCh c k) := by
  refine h.trans ⟨rfl, fun _ _ => rfl, fun key hk' => ?_, rfl⟩
  rw [State.counter_bumpCh]
  have : key ≠ .chan c k := fun e => by rw [e, hk] at hk'; exact absurd hk' (by decide)
  simp [this]

theorem CueOnly.send (h : CueOnly c s t) (p : Port) (what : Outgoing) : CueOnly c s (t.send p what) :=
  h.trans ⟨rfl, fun _ _ => rfl, fun _ _ => rfl, rfl⟩

theorem CueOnly.sendCancel (h : CueOnly c s t) (server : Fin 8) (player number : Nat) : CueOnly c s (t.sendCancel c server player number) := by
  unfold State.sendCancel
  split
  · exact (h.bumpCh .cancelsSent (by simp [cueCounter])).send _ _
  · exact h.bumpCh .cueControlsUnsent (by simp [cueCounter])

theorem CueOnly.sendStop (h : CueOnly c s t) (server : Fin 8) (player number : Nat) : CueOnly c s (t.sendStop c server player number) := by
  unfold State.sendStop
  split
  · exact (h.bumpCh .stopsSent (by simp [cueCounter])).send _ _
  · exact h.bumpCh .cueControlsUnsent (by simp [cueCounter])

theorem CueOnly.cancelCue (h : CueOnly c s t) (x : Cue) : CueOnly c s (t.cancelCue c x) := by
  unfold State.cancelCue
  split
  · exact h
  · exact h.sendCancel _ _ _
  · exact h

theorem CueOnly.cancelPending (h : CueOnly c s t) : CueOnly c s (t.cancelPending c) := by
  unfold State.cancelPending
  split
  · exact h
  · exact (h.cancelCue _).modCue _

theorem CueOnly.stopPlaying (h : CueOnly c s t) : CueOnly c s (t.stopPlaying c) := by
  unfold State.stopPlaying
  split
  · exact h
  · dsimp only
    split
    · exact (h.sendStop _ _ _).modCue _
    · exact h.modCue _

theorem CueOnly.clearWait (h : CueOnly c s t) : CueOnly c s (t.clearWait c) := h.modCue _

theorem CueOnly.requestCancel (h : CueOnly c s t) : CueOnly c s (t.requestCancel c) := h.cancelPending.clearWait

theorem CueOnly.endCues (h : CueOnly c s t) : CueOnly c s (t.endCues c) := h.cancelPending.stopPlaying.modCue _

theorem CueOnly.tellReturn (h : CueOnly c s t) (r : Nat) : CueOnly c s (t.tellReturn c r) := by
  unfold State.tellReturn
  split
  · split
    · exact h.cancelPending
    · exact h
  · exact h

theorem CueOnly.sendCue (h : CueOnly c s t) (p : Port) (kind : CueKind) (e : Event) (offset x used limit : Nat) :
    CueOnly c s (t.sendCue c p kind e offset x used limit) :=
  ((h.modCue _).bumpCh .cuesSent (by simp [cueCounter])).send _ _

theorem CueOnly.runFollowOn (h : CueOnly c s t) (fuel used limit : Nat) : CueOnly c s (State.runFollowOn fuel t c used limit) := by
  induction fuel generalizing t used with
  | zero => exact h
  | succ fuel ih =>
    unfold State.runFollowOn
    split
    · exact h
    · dsimp only
      split
      · exact h.sendCue _ _ _ _ _ _ _
      · split
        · exact ih (h.bumpCh .noServerFailures (by simp [cueCounter])) _
        · exact (h.bumpCh .noServerFailures (by simp [cueCounter])).modCue _

theorem CueOnly.followOnCheck (h : CueOnly c s t) : CueOnly c s (t.followOnCheck c) := h.runFollowOn _ _ _

theorem CueOnly.recheckFollowOn (h : CueOnly c s t) (x : Cue) : CueOnly c s (t.recheckFollowOn c x) := h.runFollowOn _ _ _

theorem CueOnly.failFollowOn (h : CueOnly c s t) (x : Cue) : CueOnly c s (t.failFollowOn c x) := by
  unfold State.failFollowOn
  split
  · exact h.cancelPending.runFollowOn _ _ _
  · exact (h.cancelCue _).modCue _

/-! ## What a cue holds, and what sending one leaves -/

@[simp] theorem State.makeCue_event (s : State) (c : Chan) (kind : CueKind) (e : Event) (offset x used limit : Nat) (number : Option Nat) (status : CueStatus) :
    (s.makeCue c kind e offset x used limit number status).event = e := rfl
@[simp] theorem State.makeCue_playLength (s : State) (c : Chan) (kind : CueKind) (e : Event) (offset x used limit : Nat) (number : Option Nat) (status : CueStatus) :
    (s.makeCue c kind e offset x used limit number status).playLength = e.duration - offset := rfl
@[simp] theorem State.makeCue_materialPosition (s : State) (c : Chan) (kind : CueKind) (e : Event) (offset x used limit : Nat) (number : Option Nat) (status : CueStatus) :
    (s.makeCue c kind e offset x used limit number status).materialPosition = e.materialPosition offset := rfl
@[simp] theorem State.makeCue_status (s : State) (c : Chan) (kind : CueKind) (e : Event) (offset x used limit : Nat) (number : Option Nat) (status : CueStatus) :
    (s.makeCue c kind e offset x used limit number status).status = status := rfl

theorem State.sendCue_cue (s : State) (c : Chan) (p : Port) (kind : CueKind) (e : Event) (offset x used limit : Nat) :
    ((s.sendCue c p kind e offset x used limit).ch c).cue =
      { (s.ch c).cue with
        pendingCue := some (s.makeCue c kind e offset x used limit (some (s.ch c).cue.nextNumber) .sent)
        nextNumber := ((s.ch c).cue.nextNumber + 1) % 256 } := by
  simp [State.sendCue]

/-! ## What CANCEL and STOP leave of the cues -/

@[simp] theorem State.cancelCue_cue (s : State) (c : Chan) (x : Cue) : ((s.cancelCue c x).ch c).cue = (s.ch c).cue := by
  unfold State.cancelCue State.sendCancel
  split
  · rfl
  · split <;> rfl
  · rfl

theorem State.cancelPending_cue (s : State) (c : Chan) : ((s.cancelPending c).ch c).cue = { (s.ch c).cue with pendingCue := none } := by
  unfold State.cancelPending
  split
  · rename_i h
    rw [← h]
  · simp

theorem State.stopPlaying_cue (s : State) (c : Chan) : ((s.stopPlaying c).ch c).cue = { (s.ch c).cue with playing := none } := by
  unfold State.stopPlaying State.sendStop
  split
  · rename_i h
    rw [← h]
  · dsimp only
    split
    · split <;> simp
    · simp

theorem State.requestCancel_cue (s : State) (c : Chan) : ((s.requestCancel c).ch c).cue = { (s.ch c).cue with pendingCue := none, wait := none } := by
  simp [State.requestCancel, State.clearWait, State.cancelPending_cue]

theorem State.endCues_cue (s : State) (c : Chan) :
    ((s.endCues c).ch c).cue = { (s.ch c).cue with pendingCue := none, playing := none, wait := none, recordLink := false } := by
  simp [State.endCues, State.cancelPending_cue, State.stopPlaying_cue]

end Sys2Proof.Machine
end

