-- ==== Sys2Proof/Laws/Heard.lean ====
section
/-! SUPPORT. A control carrier of an origin that is heard reaches its owner: what reception does, once, for every request. -/

namespace Sys2Proof.Machine

/-- Nothing due but the sending of a frame: finishing the boundary changes nothing. -/
theorem State.finishBoundary_assembled {s : State} (h : s.assembled = true) : s.finishBoundary = s := by simp [State.finishBoundary, h]

/-- A settled part has assembled every frame and has none to begin sending. -/
theorem State.settled_iff (s : State) : s.settled = true ↔ s.assembled = true ∧ s.sendDue = false := by simp [State.settled]

/-- Nothing due: catching up changes nothing. -/
theorem State.catchUp_settled {s : State} (h : s.settled = true) : s.catchUp = s := by
  obtain ⟨ha, hd⟩ := s.settled_iff.1 h
  simp [State.catchUp, State.finishBoundary_assembled ha, hd]

/-- What catching up does: what is due but the sending of a frame, and then, on free ports with a frame waiting, the start of its sending. -/
theorem State.catchUp_cases (s : State) :
    (s.finishBoundary.sendDue = false ∧ s.catchUp = s.finishBoundary) ∨ (s.finishBoundary.sendDue = true ∧ s.catchUp = s.finishBoundary.sendFrame) := by
  cases h : s.finishBoundary.sendDue <;> simp [State.catchUp, h]

theorem State.heard_mgmt_restarting (s : State) (rx : ControlRx) : (s.heard rx).mgmt.restarting = s.mgmt.restarting := by
  unfold State.heard; rcases rx.port with (_|_) | n | side <;> rfl

/-- A heard carrier goes to `routeOrigin` with the part as `State.heard` leaves it. -/
theorem receive_heard {s : State} {o : Origin} {rx : ControlRx} (h : Heard s o rx) (r : Request) (time : Nat) :
    s.catchUp.receiveControl rx r time = (s.heard rx).routeOrigin o rx r time := by
  obtain ⟨hs, hl, -, hp, hc, ho⟩ := h
  rw [State.catchUp_settled hs]
  obtain ⟨port, stamp, channel, sender, request, group⟩ := rx
  have hr : ∀ p k, (s.bump (.port p k)).controlInRange stamp channel = true := by
    intro p k
    have : stamp < (s.bump (.port p k)).cycle := hp
    simp [State.controlInRange, this, hc]
  have hl' : ∀ p k, (s.bump (.port p k)).loading = false := fun _ _ => hl
  cases o <;> rcases port with side | n | side <;> simp [fromOrigin] at ho <;> subst ho <;>
    simp [State.receiveControl, State.countCarrier, State.markTraffic, State.senderOf, State.noteConsole, State.heard, hr, hl']

/-- Outside a warm restart an authorised request of an origin is passed on, and any other is refused (R189, R203). -/
theorem route_asked {s : State} {o : Origin} {rx : ControlRx} (h : Heard s o rx) (r : Request) (time : Nat)
    (hr : ∀ k, r ≠ .keepalive k ∧ (∀ x, r ≠ .schedule x) ∧ (∀ a b, r ≠ .ready a b ∧ r ≠ .refused a b) ∧ r ≠ .outbound k ∧ r ≠ .unknown k ∧ r ≠ .malformed k) :
    s.catchUp.receiveControl rx r time =
      if authorised o r then
        (s.heard rx).passOn { origin := o, port := rx.port, request := rx.request, kind := r.code, channel := rx.channel } rx.group time r
      else (s.heard rx).refuseAuthority { origin := o, port := rx.port, request := rx.request, kind := r.code, channel := rx.channel } r := by
  rw [receive_heard h]
  have hn : (s.heard rx).mgmt.restarting = none := by rw [State.heard_mgmt_restarting]; exact h.2.2.1
  have := hr 0
  unfold State.routeOrigin State.unlessRestarting
  rw [hn]
  cases r <;> first | rfl | (exfalso; have h' := hr; simp at h')

theorem chanOf_val (c : Chan) : chanOf c.val = some c := by simp [chanOf]

/-! ## What hearing a carrier leaves -/

@[simp] theorem State.heard_time (s : State) (rx : ControlRx) : (s.heard rx).time = s.time := by
  unfold State.heard; rcases rx.port with (_|_) | n | side <;> rfl
@[simp] theorem State.heard_site (s : State) (rx : ControlRx) : (s.heard rx).site = s.site := by
  unfold State.heard; rcases rx.port with (_|_) | n | side <;> rfl
@[simp] theorem State.heard_poolFree (s : State) (rx : ControlRx) : (s.heard rx).poolFree = s.poolFree := by
  unfold State.heard; rcases rx.port with (_|_) | n | side <;> rfl
@[simp] theorem State.heard_slates (s : State) (rx : ControlRx) : (s.heard rx).slates = s.slates := by
  unfold State.heard; rcases rx.port with (_|_) | n | side <;> rfl
@[simp] theorem State.heard_settings (s : State) (rx : ControlRx) : (s.heard rx).settings = s.settings := by
  unfold State.heard; rcases rx.port with (_|_) | n | side <;> rfl
@[simp] theorem State.heard_work (s : State) (rx : ControlRx) : (s.heard rx).work = s.work := by
  unfold State.heard; rcases rx.port with (_|_) | n | side <;> rfl
@[simp] theorem State.heard_outbox (s : State) (rx : ControlRx) : (s.heard rx).outbox = s.outbox := by
  unfold State.heard; rcases rx.port with (_|_) | n | side <;> rfl
@[simp] theorem State.heard_pending (s : State) (rx : ControlRx) : (s.heard rx).pending = s.pending := by
  unfold State.heard; rcases rx.port with (_|_) | n | side <;> rfl
@[simp] theorem State.heard_chans (s : State) (rx : ControlRx) : (s.heard rx).chans = s.chans := by
  unfold State.heard; rcases rx.port with (_|_) | n | side <;> rfl
@[simp] theorem State.heard_ch (s : State) (rx : ControlRx) (c : Chan) : (s.heard rx).ch c = s.ch c := by
  unfold State.heard; rcases rx.port with (_|_) | n | side <;> rfl
@[simp] theorem State.heard_ctx (s : State) (rx : ControlRx) (o : Origin) : (s.heard rx).ctx o = s.ctx o := by
  unfold State.heard; rcases rx.port with (_|_) | n | side <;> cases o <;> rfl
@[simp] theorem State.heard_linkUp (s : State) (rx : ControlRx) (p : Port) : (s.heard rx).linkUp p = s.linkUp p := by
  unfold State.heard; rcases rx.port with (_|_) | n | side <;> rfl
@[simp] theorem State.heard_save (s : State) (rx : ControlRx) : (s.heard rx).mgmt.save = s.mgmt.save := by
  unfold State.heard; rcases rx.port with (_|_) | n | side <;> rfl
@[simp] theorem State.heard_inService (s : State) (rx : ControlRx) (c : Chan) : (s.heard rx).inService c = s.inService c := by
  simp [State.inService]
@[simp] theorem State.heard_owns (s : State) (rx : ControlRx) (c : Chan) (o : Origin) : (s.heard rx).owns c o = s.owns c o := by
  unfold State.owns; simp
@[simp] theorem State.heard_chState (s : State) (rx : ControlRx) (c : Chan) : (s.heard rx).chState c = s.chState c := by
  simp [State.chState]

/-- A channel command that names one channel, from an origin that may send it, runs there and is answered. -/
theorem named_channel {s : State} {o : Origin} {rx : ControlRx} {c : Chan} (h : Named s o rx c) (k : ChannelCommand)
    (ha : authorised o (.channel k) = true) :
    s.catchUp.receiveControl rx (.channel k) 0 =
      let x := (s.heard rx).runChannel c o k
      x.1.answered o rx k.code x.2 (x.1.commandAnswer c x.2 (!s.inService c && x.1.inService c)) := by
  obtain ⟨hh, hg, hc⟩ := h
  rw [route_asked hh]
  · simp only [ha, if_true, State.passOn, State.takeChannelCommand, hg, hc, chanOf_val]
    simp [State.answered, State.answer, hc, Request.code]
  · intro k; simp

/-! ## Walks -/

/-- R196: a walk ended with BUSY changes its context's walk alone. -/
theorem State.endBusyWalk_ctx (s : State) (o : Origin) (w : Walk) : (s.endBusyWalk o w).ctx o = { s.ctx o with walk := none } := by
  have h : ∀ (t : State) p r, (t.reply o p r).mgmt = t.mgmt := by
    intro t p r; unfold State.reply; split <;> rfl
  unfold State.endBusyWalk State.answer State.ctx
  cases o <;> simp only [h, State.modCtx]

end Sys2Proof.Machine
end

