-- ==== Sys2Proof/Laws/Reports.lean ====
section
/-! SUPPORT. What raising a report and answering a request leave unchanged. -/

namespace Sys2Proof.Machine

@[simp] theorem State.offer_time (s : State) (o : Origin) (r : Report) : (s.offer o r).time = s.time := by
  unfold State.offer; cases o <;> dsimp only <;> (repeat' split) <;> rfl
@[simp] theorem State.offer_ports (s : State) (o : Origin) (r : Report) : (s.offer o r).ports = s.ports := by
  unfold State.offer; cases o <;> dsimp only <;> (repeat' split) <;> rfl
@[simp] theorem State.offer_site (s : State) (o : Origin) (r : Report) : (s.offer o r).site = s.site := by
  unfold State.offer; cases o <;> dsimp only <;> (repeat' split) <;> rfl
@[simp] theorem State.offer_poolFree (s : State) (o : Origin) (r : Report) : (s.offer o r).poolFree = s.poolFree := by
  unfold State.offer; cases o <;> dsimp only <;> (repeat' split) <;> rfl
@[simp] theorem State.offer_slates (s : State) (o : Origin) (r : Report) : (s.offer o r).slates = s.slates := by
  unfold State.offer; cases o <;> dsimp only <;> (repeat' split) <;> rfl
@[simp] theorem State.offer_chans (s : State) (o : Origin) (r : Report) : (s.offer o r).chans = s.chans := by
  unfold State.offer; cases o <;> dsimp only <;> (repeat' split) <;> rfl
@[simp] theorem State.offer_settings (s : State) (o : Origin) (r : Report) : (s.offer o r).settings = s.settings := by
  unfold State.offer; cases o <;> dsimp only <;> (repeat' split) <;> rfl
@[simp] theorem State.offer_work (s : State) (o : Origin) (r : Report) : (s.offer o r).work = s.work := by
  unfold State.offer; cases o <;> dsimp only <;> (repeat' split) <;> rfl
@[simp] theorem State.offer_outbox (s : State) (o : Origin) (r : Report) : (s.offer o r).outbox = s.outbox := by
  unfold State.offer; cases o <;> dsimp only <;> (repeat' split) <;> rfl
@[simp] theorem State.offer_pending (s : State) (o : Origin) (r : Report) : (s.offer o r).pending = s.pending := by
  unfold State.offer; cases o <;> dsimp only <;> (repeat' split) <;> rfl
@[simp] theorem State.ch_offer (s : State) (o : Origin) (r : Report) (c : Chan) : (s.offer o r).ch c = s.ch c := by
  simp [State.ch]
@[simp] theorem State.linkUp_offer (s : State) (o : Origin) (r : Report) (p' : Port) : (s.offer o r).linkUp p' = s.linkUp p' := by
  simp [State.linkUp]
@[simp] theorem State.raise_time (s : State) (r : Report) : (s.raise r).time = s.time := by
  simp [State.raise]
@[simp] theorem State.raise_ports (s : State) (r : Report) : (s.raise r).ports = s.ports := by
  simp [State.raise]
@[simp] theorem State.raise_site (s : State) (r : Report) : (s.raise r).site = s.site := by
  simp [State.raise]
@[simp] theorem State.raise_poolFree (s : State) (r : Report) : (s.raise r).poolFree = s.poolFree := by
  simp [State.raise]
@[simp] theorem State.raise_slates (s : State) (r : Report) : (s.raise r).slates = s.slates := by
  simp [State.raise]
@[simp] theorem State.raise_chans (s : State) (r : Report) : (s.raise r).chans = s.chans := by
  simp [State.raise]
@[simp] theorem State.raise_settings (s : State) (r : Report) : (s.raise r).settings = s.settings := by
  simp [State.raise]
@[simp] theorem State.raise_work (s : State) (r : Report) : (s.raise r).work = s.work := by
  simp [State.raise]
@[simp] theorem State.raise_outbox (s : State) (r : Report) : (s.raise r).outbox = s.outbox := by
  simp [State.raise]
@[simp] theorem State.raise_pending (s : State) (r : Report) : (s.raise r).pending = s.pending := by
  simp [State.raise]
@[simp] theorem State.ch_raise (s : State) (r : Report) (c : Chan) : (s.raise r).ch c = s.ch c := by
  simp [State.ch]
@[simp] theorem State.linkUp_raise (s : State) (r : Report) (p' : Port) : (s.raise r).linkUp p' = s.linkUp p' := by
  simp [State.linkUp]
@[simp] theorem State.reply_time (s : State) (o : Origin) (p : Port) (r : Reply) : (s.reply o p r).time = s.time := by
  unfold State.reply; split <;> rfl
@[simp] theorem State.reply_ports (s : State) (o : Origin) (p : Port) (r : Reply) : (s.reply o p r).ports = s.ports := by
  unfold State.reply; split <;> rfl
@[simp] theorem State.reply_site (s : State) (o : Origin) (p : Port) (r : Reply) : (s.reply o p r).site = s.site := by
  unfold State.reply; split <;> rfl
@[simp] theorem State.reply_poolFree (s : State) (o : Origin) (p : Port) (r : Reply) : (s.reply o p r).poolFree = s.poolFree := by
  unfold State.reply; split <;> rfl
@[simp] theorem State.reply_slates (s : State) (o : Origin) (p : Port) (r : Reply) : (s.reply o p r).slates = s.slates := by
  unfold State.reply; split <;> rfl
@[simp] theorem State.reply_chans (s : State) (o : Origin) (p : Port) (r : Reply) : (s.reply o p r).chans = s.chans := by
  unfold State.reply; split <;> rfl
@[simp] theorem State.reply_settings (s : State) (o : Origin) (p : Port) (r : Reply) : (s.reply o p r).settings = s.settings := by
  unfold State.reply; split <;> rfl
@[simp] theorem State.reply_work (s : State) (o : Origin) (p : Port) (r : Reply) : (s.reply o p r).work = s.work := by
  unfold State.reply; split <;> rfl
@[simp] theorem State.reply_pending (s : State) (o : Origin) (p : Port) (r : Reply) : (s.reply o p r).pending = s.pending := by
  unfold State.reply; split <;> rfl
@[simp] theorem State.ch_reply (s : State) (o : Origin) (p : Port) (r : Reply) (c : Chan) : (s.reply o p r).ch c = s.ch c := by
  simp [State.ch]
@[simp] theorem State.linkUp_reply (s : State) (o : Origin) (p : Port) (r : Reply) (p' : Port) : (s.reply o p r).linkUp p' = s.linkUp p' := by
  simp [State.linkUp]
/-- A counter that is no origin's is left. -/
@[simp] theorem State.counter_raise (s : State) (r : Report) (key : CounterKey) (h : ∀ o, key ≠ .origin o .reportsDropped) :
    (s.raise r).counter key = s.counter key := by
  have one : ∀ (t : State) o, (t.offer o r).counter key = t.counter key := by
    intro t o
    unfold State.offer
    dsimp only
    split
    · rfl
    · split
      · cases o <;> rfl
      · rw [State.counter_bump]
        simp only [h o, if_false]
        cases o <;> rfl
  simp [State.raise, one]
@[simp] theorem State.reply_mgmt (s : State) (o : Origin) (p : Port) (r : Reply) : (s.reply o p r).mgmt = s.mgmt := by
  unfold State.reply; split <;> rfl
@[simp] theorem State.raise_quiet (s : State) (r : Report) : (s.raise r).mgmt.quiet = s.mgmt.quiet := ((CueLocal.refl 0 s).raise r).mgmt

end Sys2Proof.Machine
end

