-- ==== Sys2Proof/Laws/Slates.lean ====
section
/-! SUPPORT. What each operation on the eight slates leaves in every slate (R54 to R56). -/

namespace Sys2Proof.Machine

/-- Every slate updated: each once. -/
theorem State.mapSlates_get (s : State) (f : Slate → Slate) (i : Fin 8) : (s.mapSlates f).slates[i.val] = f s.slates[i.val] := by
  simp only [State.mapSlates, slateIndices, List.foldl_cons, List.foldl_nil, vmod_get]
  fin_cases i <;> simp

/-- R56: a COMPLETE release starts, or starts again, the copy of each request that names the channel and the path, and leaves every other slate. -/
theorem State.startCopies_get (s : State) (c : Chan) (path : SourcePath) (i : Fin 8) :
    (s.startCopies c path).slates[i.val] =
      match s.slates[i.val].request with
      | some r =>
        if r.chan = c ∧ r.path = path then { state := .capturing, request := some { r with copying := some s.time.h } } else s.slates[i.val]
      | none => s.slates[i.val] := by
  rw [State.startCopies, State.mapSlates_get]
  cases h : s.slates[i.val].request <;> simp [Slate.captures, h]

/-- R43, R56: a held frame given up stops the copies from it and leaves every other slate. -/
theorem State.stopCopies_get (s : State) (c : Chan) (path : SourcePath) (i : Fin 8) :
    (s.stopCopies c path).slates[i.val] =
      match s.slates[i.val].request with
      | some r =>
        if r.chan = c ∧ r.path = path ∧ r.copying.isSome then { state := .empty, request := some { r with copying := none } } else s.slates[i.val]
      | none => s.slates[i.val] := by
  rw [State.stopCopies, State.mapSlates_get]
  cases h : s.slates[i.val].request <;> rfl

end Sys2Proof.Machine
end

