-- ==== Sys2Proof/Tests/Slice0.lean ====
section
/-! SUPPORT. Tests: ill-formed commands refused by WellFormed, worked examples of the spec, one small step for a command of each family, and for every obligation
a concrete state and operands that meet its hypotheses, clause by clause. -/

namespace Sys2Proof.Machine.Tests

open Sys2Proof Sys2Proof.Machine

set_option Elab.async false

/-! ## Small states -/

/-- What a command leaves; the state itself where it answers nothing. -/
def after (i : Instr) (s : State) : State :=
  match exec i s with
  | .next t => t
  | _ => s

/-- A part that has loaded no image, with the frame timer running. -/
def loaded : State :=
  { State.reset with
    mgmt := { State.reset.mgmt with config := .defaulted .noMemory }
    time := { State.reset.time with timer := some 4320000 } }

/-- The loaded part at a rate, a position and a lock state. -/
def clocked (rate : Rate) (h : Nat) (lock : LockState) : State :=
  { loaded with time := { loaded.time with rate := rate, h := h, lock := lock } }

/-- The loaded part with every link UP. -/
def linked : State := { loaded with ports := { loaded.ports with links := Vector.replicate 8 true } }

/-- A channel in a state and a mode, with d = 4. -/
def channel (x : ChannelState) (mode : ServiceMode) (y : Channel) : Channel :=
  { y with
    control := { y.control with state := x, mode := mode }, align := { y.align with d := some 4 }
    output := { y.output with delivered := x } }

/-- The linked part with channel 1 in a state, PROTECTED. -/
def inState (x : ChannelState) : State := linked.modCh 1 (channel x .protected_)

/-- A carrier from the console that names a channel. -/
def con (c : Nat) : ControlRx := { port := .standby 2, stamp := 0, channel := c, sender := 2, request := 7, group := false }

/-- A carrier from the main automation that names a channel. -/
def auto (c : Nat) : ControlRx := { port := .contribution .a, stamp := 0, channel := c, sender := 1, request := 7, group := false }

/-- A LIVE event. -/
def live (id start duration : Nat) : Event :=
  { id := id, start := start, duration := duration, material := .live 3, normalised := false, headTrimmed := false, tailTrimmed := false }

/-- A LIVE event as carried. -/
def carried (id : Nat) (l : Label) (duration : Nat) : EventCarried :=
  { id := id, label := l, duration := duration, kind := 2, name := none, inPoint := none, source := some 3 }

/-- A label of day 0. -/
def label (hh mm ss ff : Nat) : Label := { day := 0, hh := hh, mm := mm, ss := ss, ff := ff }

/-- The result of the last REPLY sent. -/
def lastResult (s : State) : Option Result :=
  match s.outbox.getLast? with
  | some { what := .reply r, .. } => some r.result
  | _ => none

/-! ## WellFormed: an ill-formed term for each check -/

theorem test_wf_label : (Instr.referencePulse (label 256 0 0 0) 0).wf = false ∧ (Instr.referencePulse { label 0 0 0 0 with day := 65536 } 0).wf = false := by decide
theorem test_wf_label_fields : (label 0 256 0 0).wf = false ∧ (label 0 0 256 0).wf = false ∧ (label 0 0 0 256).wf = false := by decide
/-- A media carrier with one field too wide. -/
def media (c stamp i n : Nat) (l : List Byte) : Media := { kind := .video, channel := c, stamp := stamp, fragIndex := i, fragCount := n, payload := l }
theorem test_wf_media : (Instr.mainMediaCarrier .a (media 256 0 0 1 [])).wf = false ∧ (Instr.mainMediaCarrier .a (media 0 281474976710656 0 1 [])).wf = false ∧
    (Instr.standbyMediaCarrier 0 (media 0 0 65536 1 [])).wf = false ∧ (Instr.standbyMediaCarrier 0 (media 0 0 0 65536 [])).wf = false := by decide
theorem test_wf_media_length : (media 0 0 0 1 (List.replicate 65536 0)).wf = false := by simp only [Media.wf, media, List.length_replicate]; decide
theorem test_wf_frame : (Instr.ethernetFrame (.output .a) { checkOk := true, etherType := 65536, payload := [] } 0).wf = false := by decide
theorem test_wf_header : (Instr.take { con 1 with stamp := 281474976710656 }).wf = false ∧ (Instr.take (con 256)).wf = false ∧
    (Instr.take { con 1 with sender := 256 }).wf = false ∧ (Instr.take { con 1 with request := 65536 }).wf = false := by decide
theorem test_wf_answers : (Instr.ready (con 255) 256 0).wf = false ∧ (Instr.ready (con 255) 0 256).wf = false ∧ (Instr.refused (con 255) 0 0 256).wf = false := by decide
theorem test_wf_keepalive : (Instr.keepalive (auto 255) 65536).wf = false := by decide
theorem test_wf_event : (Instr.insert (auto 1) 0 (carried 4294967296 (label 0 0 0 0) 1)).wf = false ∧ (Instr.insert (auto 1) 65536 (carried 1 (label 0 0 0 0) 1)).wf = false ∧
    (Instr.insert (auto 1) 0 { carried 1 (label 0 0 0 0) 1 with inPoint := some 4294967296 }).wf = false ∧
    (Instr.insert (auto 1) 0 { carried 1 (label 0 0 0 0) 1 with source := some 65536 }).wf = false ∧ (carried 1 (label 0 0 0 0) 4294967296).wf = false ∧
    ({ carried 1 (label 0 0 0 0) 1 with kind := 256 } : EventCarried).wf = false ∧
    ({ carried 1 (label 0 0 0 0) 1 with name := some (List.replicate 256 0x41) } : EventCarried).wf = false := by decide +kernel
theorem test_wf_amendments : (Instr.replace (auto 1) 0 4294967296 (carried 1 (label 0 0 0 0) 1)).wf = false ∧ (Instr.delete (auto 1) 0 4294967296).wf = false ∧
    (Instr.trim (auto 1) 0 1 4294967296).wf = false ∧ (Instr.shiftFrom (auto 1) 0 1 2147483648).wf = false ∧ (Instr.shiftFrom (auto 1) 0 1 (-2147483649)).wf = false := by decide
theorem test_wf_snapshots : (Instr.snapshotBegin (auto 1) 0 65536).wf = false ∧ (Instr.snapshotEnd (auto 1) 65536 0).wf = false ∧
    (Instr.snapshotEvent (auto 1) 0 65536 (carried 1 (label 0 0 0 0) 1)).wf = false := by decide
theorem test_wf_channel_commands : (Instr.setService (con 1) 256).wf = false ∧ (Instr.retime (con 1) (some 256)).wf = false ∧ (Instr.captureSlate (con 1) 256 0).wf = false ∧
    (Instr.captureSlate (con 1) 0 256).wf = false := by decide
theorem test_wf_management : (Instr.select (con 255) [256]).wf = false ∧ (Instr.subscribe (con 255) 256 []).wf = false ∧ (Instr.subscribe (con 255) 0 [(256, 0)]).wf = false ∧
    (Instr.subscribe (con 255) 0 [(0, 256)]).wf = false ∧ (Instr.setWindow (con 255) 256 0 0 0).wf = false ∧ (Instr.setWindow (con 255) 0 256 0 0).wf = false ∧
    (Instr.setWindow (con 255) 0 0 65536 0).wf = false ∧ (Instr.setWindow (con 255) 0 0 0 256).wf = false ∧ (Instr.read (con 255) 256).wf = false := by decide
theorem test_wf_lists : (Instr.subscribe (con 255) 0 (List.replicate 256 (0, 0))).wf = false ∧ (Instr.write (con 255) (List.replicate 17 0) 0).wf = false ∧
    (Instr.write (con 255) [4294967296] 0).wf = false := by decide +kernel
theorem test_wf_raw : (Instr.badCommand { port := .standby 0, stamp := 281474976710656, channel := 0, payload := [], time := 0 }).wf = false ∧
    (Instr.misdirectedControl { port := .standby 0, stamp := 0, channel := 256, payload := [], time := 0 }).wf = false := by decide
theorem test_wf_good : (Instr.take (con 1)).wf = true ∧ (Instr.write (con 255) (List.replicate 16 4294967295) 0).wf = true := by decide

/-! ## Worked examples of the spec -/

/-- Section 1.14, the label `19000 01:23:45;10` at FR30D. -/
theorem test_label_fr30d : labelPosition .fr30d { day := 19000, hh := 1, mm := 23, ss := 45, ff := 10 } = 49198902610 ∧
    positionLabel .fr30d 49198902610 = { day := 19000, hh := 1, mm := 23, ss := 45, ff := 10 } := by decide +kernel
/-- Section 8.5, H of the join at FR25. -/
theorem test_label_fr25 : labelPosition .fr25 { day := 19000, hh := 10, mm := 14, ss := 7, ff := 12 } = 41040921187 := by decide +kernel
/-- R6 at FR60D: 00:01:00;00 names no frame and is moved to ff = 4. -/
theorem test_label_normalised : pulsePosition .fr60d (label 0 1 0 0) = none ∧ labelPosition .fr60d { label 0 1 0 0 with ff := 4 } = 3600 ∧
    (wellFormedEvent .fr60d (carried 1 (label 0 1 0 0) 5)).toOption.map (fun e => (e.start, e.normalised)) = some (3600, true) := by decide +kernel
/-- R36: the signature of "123456789". -/
theorem test_signature : crc32 [0x31, 0x32, 0x33, 0x34, 0x35, 0x36, 0x37, 0x38, 0x39] = 0xCBF43926#32 := by decide +kernel
/-- Section 11.2: the emitted SUMMARY carrier, its header check and its payload. -/
theorem test_summary_carrier :
    carrierBytes 3 9 3 41040921237 0 1 ({ vc := 3, ac := 1, luma := 412, peaks := [2500, 2250] } : Summary).bytes =
      [1, 3, 9, 3, 0x00, 0x09, 0x8E, 0x3A, 0xC2, 0x95, 0, 0, 0, 1, 0, 10, 0x5A, 0xE9, 0, 3, 1, 1, 0x9C, 2, 0x09, 0xC4, 0x08, 0xCA] := by decide +kernel
/-- Section 9.4: the ramp arithmetic. -/
theorem test_ramp : [scaleSample 6 1234567, scaleSample 6 (-1234567), scaleSample 6 0, scaleSample 6 (-8388608)] = [462962, -462962, 0, -3145728] ∧
    [scaleSample 14 8388607, scaleSample 14 (-8388608)] = [7340031, -7340032] := by decide +kernel
/-- Section 8.5: the event joined, its offset and its switch position. -/
theorem test_join :
    let e : Event := { live 501 41040900000 45000 with material := .clip [0x41] 250 }
    let n : Event := { live 502 41040945000 45000 with material := .clip [0x42] 0 }
    (chooseJoin [e, n] 41040921187 50 4 25).cued = some (e, 21233, 41040921237) ∧ e.materialPosition 21233 = some 21483 ∧
      (chooseJoin [{ e with material := .fixed [0x41] 250 }, n] 41040921187 50 4 25).cued = some (n, 0, 41040945004) := by decide +kernel
/-- Section 6.4: X placed over B and C. -/
theorem test_overlap :
    let clip (id start duration i : Nat) : Event := { live id start duration with material := .clip [0x41] i }
    let p := placeEvents [clip 110 960000 15000 0] [clip 101 900000 45000 0, clip 102 945000 22500 0, clip 103 967500 22500 250] []
    p.events = [clip 101 900000 45000 0, { clip 102 945000 15000 0 with tailTrimmed := true }, clip 110 960000 15000 0,
        { clip 103 975000 15000 7750 with headTrimmed := true }] ∧ p.trims = 2 ∧ p.removals = 0 := by decide +kernel
/-- Section 4.4: the ARRIVAL run with assert count 3 and clear count 5; true is a complete frame. -/
theorem test_detector_run :
    let cfg : DetectorSettings := { DetectorSettings.default .arrival with assertCount := 3, clearCount := 5 }
    let x : DetectorState := { phase := .clear, latched := false, settle := 0, bad := 0, good := 0 }
    let run (l : List Bool) : DetectorState := l.foldl (fun y k => (countFrame cfg y (if k then .good else .bad)).1) x
    run [true, false, false, true, false, false] = { x with bad := 2 } ∧
      run [true, false, false, true, false, false, false, true, true, true, false] = { x with phase := .asserted, latched := true } ∧
      run [true, false, false, true, false, false, false, true, true, true, false, true, true, true, true, true] = x := by decide +kernel
/-- R66 and Table 4-1: the defaults of ARRIVAL and BLACK. -/
theorem test_detector_defaults : (DetectorSettings.default .arrival).assertCount = 5 ∧ (DetectorSettings.default .black).threshold = some 32 := by decide

/-- A state of the console window session of section 10.2, on CHANNEL page 9. -/
def session (l : List Instr) : State := l.foldl (fun s i => after i s) linked
/-- Section 10.2: SET_WINDOW, WRITE 300, 25, 9, and WRITE 1, 2 and a value that is no return mode. -/
theorem test_window_session :
    let s := session [.setWindow (con 255) 5 9 0 1, .write (con 255) [300, 25, 9] 0, .write (con 255) [1, 2, 2] 0]
    let x := (s.ch 9).settings
    (x.lead, x.joinMargin, x.cueAttempts, x.server, x.player, x.returnMode) = (250, 25, 7, 1, 2, .boundary) ∧ s.mgmt.console.window.offset = 5 ∧
      s.mgmt.console.sticky.map StickyError.code = some .badValue := by decide +kernel
/-- Section 10.2: after CLEAR_ERROR, READ 2 and READ 16. -/
theorem test_window_reads :
    let s := session [.setWindow (con 255) 5 9 5 1, .clearError (con 255), .read (con 255) 2]
    s.mgmt.console.window.offset = 7 ∧ lastResult s = some .accepted ∧ lastResult (after (.read (con 255) 16) s) = some .badOffset := by decide +kernel

/-! ## One step of a command of each family -/

theorem test_power_on : (after .powerOn linked).loading = true := by decide +kernel
theorem test_reset_line : (after .resetLine linked).mgmt.lineResets = 1 := by decide +kernel
theorem test_load : (after (.loadCompletion none 0) State.reset).time.timer = some 4320000 := by decide +kernel
theorem test_pulse_realigns : (after (.referencePulse (label 10 0 0 0) 0) (clocked .fr25 5 .unreferenced)).time.h = 900000 := by decide +kernel
theorem test_timer_wraps : (after .frameTimerExpiry (clocked .fr25 141557759999 .locked)).time.h = 0 := by decide +kernel
theorem test_link : (after (.linkChange (.output .b) true) loaded).linkUp (.output .b) = true := by decide +kernel
theorem test_frame_dropped : (after (.ethernetFrame (.standby 1) { checkOk := false, etherType := 0x88B5, payload := [] } 0) loaded).counter (.port (.standby 1) .fcsErrors) = 1 := by
  decide +kernel
theorem test_late_carrier : (after (.mainMediaCarrier .b (media 1 141557759996 0 1 [1])) (inState .main)).counter (.port (.contribution .b) .late) = 1 := by decide +kernel
theorem test_slot_opens : ((after (.mainMediaCarrier .b (media 1 5 0 1 [1])) (inState .main)).ch 1).align.freeUnits = 20 := by decide +kernel
theorem test_standby_unmapped : (after (.standbyMediaCarrier 3 (media 31 5 0 1 [1])) linked).counter (.port (.standby 3) .standbyUnmapped) = 1 := by decide +kernel
theorem test_path_up_not_due : (after (.pathUp .a) linked).ports.pathA.up = false := by decide +kernel
theorem test_keepalive : (after (.keepalive (auto 255) 3) linked).site.automation = .alive := by decide +kernel
theorem test_declare_lost : ((after (.declareSiteLost (con 255)) (inState .main)).ch 1).control.cause = some .site := by decide +kernel
theorem test_insert_empty : (after (.insert (auto 1) 0 (carried 4 (label 1 0 0 0) 10)) linked).counter (.chan 1 .amendDiscarded) = 1 := by decide +kernel
theorem test_snapshot : ((after (.snapshotBegin (auto 1) 9 0) linked).ch 1).schedule.state = .rebuilding ∧
    ((after (.snapshotEnd (auto 1) 9 0) (after (.snapshotBegin (auto 1) 9 0) linked)).ch 1).schedule.expected = 10 := by decide +kernel
theorem test_set_service : ((after (.setService (con 1) 1) linked).ch 1).align.d = some 4 := by decide +kernel
theorem test_take : ((after (.take (auto 1)) (inState .main)).ch 1).control.state = .fill := by decide +kernel
theorem test_return : ((after (.returnToMain (auto 1)) (inState .fill)).ch 1).control.returnPosition = some 1 := by decide +kernel
/-- R138: RETURN under either pin. -/
theorem test_return_pinned : ∀ pin ∈ [Pin.main, .standby], lastResult (after (.returnToMain (auto 1)) ((inState .standby).modControl 1 fun y => { y with pin := pin })) =
    some .pinned := by decide +kernel
theorem test_pin : ((after (.pinMain (con 1)) (inState .standby)).ch 1).control.state = .returning := by decide +kernel
theorem test_seize_then_take : lastResult (after (.take (auto 1)) (after (.seize (con 1)) (inState .main))) = some .notOwner := by decide +kernel
theorem test_retime : ((after (.retime (con 1) (some 99)) (inState .main)).ch 1).align.retime = some { value := 15, target := 1 } := by decide +kernel
theorem test_capture : lastResult (after (.captureSlate (con 1) 8 0) (inState .main)) = some .badValue := by decide +kernel
theorem test_select : (after (.select (auto 255) [0, 15]) linked).mgmt.mainSite.mask = 0x8001#16 := by decide +kernel
theorem test_subscribe : (after (.subscribe (con 255) 0 [(3, 9)]) linked).mgmt.mainSite.levels[3] = 3 := by decide +kernel
theorem test_warm_restart : lastResult (after .warmRestartEnd (after .frameTimerExpiry (after (.warmRestart (con 255)) linked))) = some .accepted := by decide +kernel
theorem test_main_site_may_not : lastResult (after (.realign (auto 255)) linked) = some .notAuthorised := by decide +kernel
theorem test_clear_counters : (after (.clearCounters (con 255)) linked).counter (.port (.standby 2) .carriersIn) = 0 := by decide +kernel
theorem test_frame_send_idle : (after .frameSend linked).outbox.length = 0 := by decide +kernel
theorem test_no_word : (State.reset.withFetchWord 8 5).pending.length = 0 := by decide

/-! ## Witnesses: the part as a whole, resets and time -/

/-- The loaded part with a command waiting. -/
def queued : State := { loaded with pending := [.frameTimerExpiry, .report] }

theorem witness_StepTakesTheFrontCommand : queued.pending = .frameTimerExpiry :: [.report] := by decide
theorem witness_IdleStepSettlesThePart : linked.pending = [] ∧ linked.settled = true ∧ (after .frameTimerExpiry linked).pending = [] ∧
    (after .frameTimerExpiry linked).settled = false := by decide +kernel

theorem counters_queued (key : CounterKey) : queued.counter key ≤ counterMax := by
  have h : queued.counters = .zero := rfl
  simp only [State.counter, h]
  cases key <;> simp [Counters.get, Counters.zero]

theorem bounds_queued : Inv queued where
  counters := counters_queued
  position := by decide +kernel
  channels c := by
    have h : ∀ c : Chan, (queued.ch c).control.ring.length ≤ 8 ∧ (queued.ch c).control.nextSequence < 65536 ∧ (queued.ch c).schedule.expected < 65536 ∧
      (queued.ch c).cue.nextNumber < 256 := by decide +kernel
    exact ⟨(h c).1, (h c).2.1, (h c).2.2.1, (h c).2.2.2⟩
  mainSite := ⟨by decide, by decide⟩
  console := ⟨by decide, by decide⟩
  beforeLoad := by decide +kernel
  realign := by decide +kernel

theorem next_queued : ∃ t, step queued = .next t := ⟨_, rfl⟩

theorem witness_EveryStepKeepsTheBounds : Inv queued ∧ ∃ t, step queued = .next t := ⟨bounds_queued, next_queued⟩

theorem lists_queued (c : Chan) : (queued.ch c).schedule = { live := none, shadow := none, state := .empty, expected := 0, snapshotTimer := none, resyncTimer := none } := by
  revert c; decide +kernel

theorem pool_queued : PoolInv queued where
  pool := by decide +kernel
  lists c := by rw [lists_queued c]; constructor <;> simp
  timers c := by
    have h : ∀ c : Chan, (queued.ch c).work.snapshot = false ∧ (queued.ch c).schedule.snapshotTimer = none := by decide +kernel
    simp [h c]

theorem witness_EveryStepKeepsThePoolAndTheLists : queued.time.h < queued.cycle ∧ PoolInv queued ∧ ∃ t, step queued = .next t :=
  ⟨by decide +kernel, pool_queued, next_queued⟩

theorem witness_PowerOnAndResetLine : linked.settled = true := by decide +kernel

/-- An image with nothing in it. -/
def blank : Image := { mark := [], version := 1, length := 0, contents := [], crc := 0 }
/-- The linked part with a save in flight. -/
def saving : State := { linked with mgmt := { linked.mgmt with save := some { image := blank, reply := some { port := .standby 2, request := 7 } } } }

theorem witness_LoadWithNoImageAndSaves :
    (loaded.settled = true ∧ loaded.loading = false) ∧ (State.reset.settled = true ∧ State.reset.loading = true) ∧
      (Whole linked .console (con 255) ∧ linked.mgmt.save = none) ∧ (Whole saving .console (con 255) ∧ saving.mgmt.save ≠ none) ∧
      (saving.settled = true ∧ saving.mgmt.save = some { image := blank, reply := some { port := .standby 2, request := 7 } }) := by
  unfold Whole Heard; decide +kernel

theorem witness_LoadedImageGivesTheSavedSettings :
    ∀ r ∈ imageRefs, judgeValue r.kind (State.reset.getRef r) = some (State.reset.getRef r, false) ∨ r.kind = .absent ∧ State.reset.getRef r = 0 := by decide +kernel

theorem witness_LabelsAndPositionsAgree : 0 < Rate.cycle .fr60d ∧ 339398885375 < Rate.cycle .fr60d ∧ ValidLabel .fr60d (label 0 0 0 0) ∧
    ValidLabel .fr60d { day := 65535, hh := 23, mm := 59, ss := 59, ff := 59 } := by unfold ValidLabel; decide +kernel

theorem witness_LabelsThatNameNoFrame :
    (∀ l ∈ [label 0 1 0 0, label 23 59 0 3, label 0 1 0 4, label 0 10 0 0, label 23 59 59 59], l.hh < 24 ∧ l.mm < 60 ∧ l.ss < 60 ∧ l.ff < Rate.n .fr60d ∧ l.day < 65536) ∧
      (∀ l ∈ [label 0 1 0 0, label 23 59 0 3], l.ss = 0 ∧ l.mm % 10 ≠ 0 ∧ l.ff < Rate.k .fr60d) ∧
      (∀ l ∈ [label 0 1 0 4, label 0 10 0 0, label 23 59 59 59], ¬(l.ss = 0 ∧ l.mm % 10 ≠ 0 ∧ l.ff < Rate.k .fr60d)) ∧
      ∀ n ∈ [1, Rate.fday .fr60d], (carried 1 (label 0 1 0 0) n).label = label 0 1 0 0 ∧ carriedMaterial (carried 1 (label 0 1 0 0) n) = some (.live 3) ∧
        1 ≤ (carried 1 (label 0 1 0 0) n).duration ∧ (carried 1 (label 0 1 0 0) n).duration ≤ Rate.fday .fr60d := by decide +kernel

theorem witness_PulsesThatAreNotValid : (State.reset.settled = true ∧ State.reset.loading = true) ∧
    (linked.settled = true ∧ linked.loading = false ∧ ¬ValidLabel linked.time.rate (label 0 0 0 25)) ∧ ValidLabel linked.time.rate (label 0 0 0 24) := by
  unfold ValidLabel; decide +kernel

/-- A TIMER boundary made at instant 1000. -/
def timed (s : State) : State := { s with time := { s.time with boundaryKind := some .timer, boundaryTime := 1000 } }

theorem witness_PulseInLocked :
    let s := timed (clocked .fr25 30 .locked)
    (Running s ∧ s.time.lock = .locked ∧ s.time.realignPending = false) ∧
      (∀ f ∈ [(label 0 0 1 6, (0 : Int)), (label 0 0 1 7, 1), (label 0 0 1 5, -1), (label 0 0 1 8, 2)], ValidLabel s.time.rate f.1 ∧
        ¬(s.latePulse 1081000 = true ∧ labelPosition s.time.rate f.1 = s.time.h) ∧ (f.1 = label 0 0 1 5 ∨ ¬(s.latePulse 1000 = true ∧ labelPosition s.time.rate f.1 = s.time.h)) ∧
        s.signed (labelPosition s.time.rate f.1) (s.wrap (s.time.h + 1 : Nat)) = f.2) := by
  unfold Running ValidLabel; decide +kernel

theorem witness_LatePulsesAndReturningReference :
    (∀ k ∈ [LockState.locked, .refLost], let s := timed (clocked .fr25 30 k)
      Running s ∧ ValidLabel s.time.rate (label 0 0 1 5) ∧ s.time.lock = k ∧ s.time.realignPending = false ∧ s.time.boundaryKind = some .timer ∧
        s.time.boundaryTime ≤ 1000 ∧ 4 * (1000 - s.time.boundaryTime) < s.time.rate.period ∧ 4 * (1080999 - s.time.boundaryTime) < s.time.rate.period ∧
        labelPosition s.time.rate (label 0 0 1 5) = s.time.h) ∧
      (let s := timed (clocked .fr25 30 .refLost)
      ∀ f ∈ [(label 0 0 1 6, (0 : Int)), (label 0 0 1 7, 1), (label 0 0 1 5, -1), (label 0 0 1 8, 2)], ValidLabel s.time.rate f.1 ∧
        ¬(s.latePulse 1081000 = true ∧ labelPosition s.time.rate f.1 = s.time.h) ∧
        s.signed (labelPosition s.time.rate f.1) (s.wrap (s.time.h + 1 : Nat)) = f.2) ∧
      (let s := clocked .fr25 30 .refMismatch
      Running s ∧ ValidLabel s.time.rate (label 0 0 1 6) ∧ s.time.realignPending = false ∧ s.time.lock = .refMismatch) := by
  unfold Running ValidLabel; decide +kernel

theorem witness_RealignSetsTheFlag : ∀ k ∈ [LockState.locked, .unreferenced, .refLost, .refMismatch], Whole (clocked .fr25 30 k) .console (con 255) := by
  unfold Whole Heard; decide +kernel

theorem witness_PulseEndsFreeRunning :
    let s := timed (clocked .fr25 30 .unreferenced)
    let r : State := { timed (clocked .fr25 30 .refMismatch) with time := { (timed (clocked .fr25 30 .refMismatch)).time with realignPending := true } }
    (∀ x ∈ [s, r], Running x ∧ x.time.lock ≠ .locked ∧ (x.time.realignPending = true ∨ x.time.lock = .unreferenced)) ∧
      (∀ l ∈ [label 0 0 1 5, label 0 0 1 6, label 0 0 1 4], ValidLabel s.time.rate l) ∧
      (s.latePulse 1000 = true ∧ labelPosition s.time.rate (label 0 0 1 5) = s.time.h) ∧
      (¬(s.latePulse 1000 = true ∧ labelPosition s.time.rate (label 0 0 1 6) = s.time.h) ∧ labelPosition s.time.rate (label 0 0 1 6) = s.wrap (s.time.h + 1 : Nat)) ∧
      (¬(s.latePulse 1081000 = true ∧ labelPosition s.time.rate (label 0 0 1 5) = s.time.h) ∧ labelPosition s.time.rate (label 0 0 1 5) ≠ s.wrap (s.time.h + 1 : Nat)) := by
  unfold Running ValidLabel; decide +kernel

theorem witness_FrameTimerMakesABoundary : (State.reset.settled = true ∧ State.reset.time.timer = none) ∧
    ((clocked .fr25 141557759999 .locked).settled = true ∧ (clocked .fr25 141557759999 .locked).time.timer = some 4320000) := by decide +kernel

theorem witness_BoundaryLeaves : linked.inService 3 = false ∧ cycleEndMark linked.time.rate 0 linked.time.h = false := by decide +kernel

/-! ## Witnesses: ports, carriers and frames -/

/-- The linked part with a change of path A due, in a site state, with the automation ALIVE or LOST. -/
def pathDue (up : Bool) (x : SiteState) (k : Automation) : State :=
  { linked with
    work := { linked.work with pathA := true }, ports := { linked.ports with pathA := { up := !up, traffic := false, silence := 0, run := 0 } }
    site := { linked.site with state := x, automation := k, viewA := !up } }

theorem witness_LinksAndPaths :
    (linked.settled = true ∧ linked.linkUp (.output .b) = true ∧ linked.linkUp (.contribution .a) ≠ false) ∧
      (linked.pathDue .a = false ∧ (pathDue true .normal .alive).pathDue .a = true ∧ ((pathDue true .normal .alive).path .a).up = !true ∧
        ((pathDue false .normal .alive).path .a).up = !false) ∧
      ((pathDue true .lost .alive).site.state = .lost ∧ (pathDue false .starting .alive).site.state = .starting ∧
        siteTable true false .alive = .degraded ∧ siteTable true false .alive = (pathDue true .degraded .alive).site.state) ∧
      (¬((pathDue true .starting .unknown).site.state = .lost ∨ siteTable true false .unknown = (pathDue true .starting .unknown).site.state) ∧
        siteTable true false .unknown ≠ .lost) ∧
      (¬((pathDue false .degraded .lost).site.state = .lost ∨ (pathDue false .degraded .lost).site.state = .starting) ∧
        siteTable false false .lost ≠ (pathDue false .degraded .lost).site.state ∧ siteTable false false .lost = .lost) := by decide +kernel

/-- A carrier of version 1 and kind 1 with no payload, in an Ethernet frame of the carriage type. -/
def good : EthFrame := carriageFrame (carrierBytes 1 1 0 5 0 1 []) []
/-- The good frame with its carrier's bytes changed. -/
def spelt (l : List Byte) : EthFrame := { good with payload := l }

theorem witness_FramesThatAreDropped :
    Running linked ∧ ({ good with checkOk := false } : EthFrame).checkOk = false ∧ (good.checkOk = true ∧ ({ good with etherType := 0x88B6 } : EthFrame).etherType ≠ 0x88B5) ∧
      (good.etherType = 0x88B5 ∧ headerSum (spelt (List.replicate 18 1)).payload ≠ field (spelt (List.replicate 18 1)).payload 16 2) ∧
      (let f := spelt ([2] ++ List.replicate 15 0 ++ [2, 0]);
        headerSum f.payload = field f.payload 16 2 ∧ field f.payload 0 1 ≠ 1) ∧
      (∀ k ∈ [0, 5], let f := carriageFrame (carrierBytes k 1 0 5 0 1 []) [];
        headerSum f.payload = field f.payload 16 2 ∧ field f.payload 0 1 = 1 ∧ (field f.payload 1 1 = 0 ∨ 4 < field f.payload 1 1)) ∧
      (let f := spelt ((carrierBytes 1 1 0 5 0 1 [7]).take 18);
        headerSum f.payload = field f.payload 16 2 ∧ field f.payload 0 1 = 1 ∧ f.payload.length < 18 + field f.payload 14 2) := by
  unfold Running; decide +kernel

theorem witness_FramesThatAreDropped_ports : (∃ side, Port.output .a = .output side) ∧ ∀ side, Port.standby 0 ≠ .output side := ⟨⟨.a, rfl⟩, by simp⟩

theorem witness_ControlFramesDoWhatTheySpell :
    (controlForm (.insert (auto 1) 9 (carried 4 (label 1 0 0 0) 10)) = some (auto 1, 0x10, toBytes 2 9 ++ eventBytes (carried 4 (label 1 0 0 0) 10)) ∧
      (Instr.insert (auto 1) 9 (carried 4 (label 1 0 0 0) 10)).wf = true ∧ sentAt (.insert (auto 1) 9 (carried 4 (label 1 0 0 0) 10)) 5) ∧
      (controlForm (.write (con 255) [1, 4294967295] 5) = some (con 255, 0x43, [2, 0, 0, 0, 1, 255, 255, 255, 255]) ∧
        (Instr.write (con 255) [1, 4294967295] 5).wf = true ∧ sentAt (.write (con 255) [1, 4294967295] 5) 5) ∧
      (con 255).wf = true ∧ ∀ side, (auto 1).port ≠ .output side ∧ (con 255).port ≠ .output side :=
  ⟨⟨rfl, by decide, trivial⟩, ⟨by decide +kernel, by decide, rfl⟩, by decide, fun side => by simp [auto, con]⟩

theorem witness_MediaFramesDoWhatTheySpell : (media 15 141557759999 0 1024 [1, 2]).wf = true ∧ ({ media 31 0 0 1 [] with kind := .summary } : Media).wf = true := by decide

/-- A SUMMARY content. -/
def content : Summary := { vc := 1, ac := 0, luma := 400, peaks := [] }
/-- A frame to be sent. -/
def outFrame : OutFrame := { stream := 1, tag := .main, stamp := 9, summary := content, video := [[7]], audio := [] }

theorem witness_SentCarriersAreWellFormed :
    (Outgoing.frame outFrame).carriersAt 9 ≠ [] ∧ (Outgoing.cancel 1 2).carriersAt 9 ≠ [] ∧
      (∀ x ∈ [content, { vc := 1024, ac := 64, luma := 1023, peaks := List.replicate 8 32767 }], 1 ≤ x.vc ∧ x.vc ≤ 1024 ∧ x.ac ≤ 64 ∧ x.luma ≤ 1023 ∧ x.peaks.length ≤ 8 ∧
        ∀ p ∈ x.peaks, p ≤ 32767) := by decide +kernel

/-- Channel 1 in MAIN at H = 100 with d = 4, and a slot of its main buffer. -/
def slotted (stamp : Nat) (x : Slot) : State :=
  (({ inState .main with time := { linked.time with h := 100 } } : State).modSlots 1 fun y => y.put .main stamp x)
/-- A FILLING record for stamp 100 that holds piece 0 of 2. -/
def filling : Collect := { stamp := 100, vc := some 2, ac := none, video := [{ index := 0, payload := [7] }], audio := [], summary := none }
/-- A SUMMARY carrier for stamp 100. -/
def summaryOf (x : Summary) : Media := { kind := .summary, channel := 1, stamp := 100, fragIndex := 0, fragCount := 1, payload := x.bytes }

theorem witness_MainCarriersAndSlots_outside :
    let s := slotted 100 .free
    Running s ∧ (media 1 0 0 1 []).channel = 1 ∧ ¬InRange s (media 1 0 1 1 []) 16 ∧ ¬InRange s (media 1 141557760000 0 1 []) 16 ∧
      (InRange linked (media 1 5 0 1 []) 16 ∧ linked.inService 1 = false) ∧
      (InRange s (media 1 113 0 1 []) 16 ∧ s.inService 1 = true ∧ 16 < s.signed 113 ((s.time.h : Int) - s.delay 1)) ∧
      (InRange s (media 1 96 0 1 []) 16 ∧ s.signed 96 ((s.time.h : Int) - s.delay 1) ≤ 0 ∧ (s.ch 1).slots.tracker = none) := by
  unfold Running InRange media; decide +kernel

theorem witness_MainCarriersAndSlots_window :
    let s := slotted 100 .free
    let r := slotted 100 (.filling filling)
    (∀ n ∈ [97, 112], InRange s (media 1 n 0 1 [7]) 16 ∧ s.inService 1 = true ∧ 1 ≤ s.signed n ((s.time.h : Int) - s.delay 1) ∧
        s.signed n ((s.time.h : Int) - s.delay 1) ≤ 16 ∧ (s.ch 1).slots.at .main n = .free ∧ 1 ≤ (s.ch 1).align.freeUnits) ∧
      ((r.ch 1).slots.at .main 100 = .filling filling ∧ filling.stamp = 100 ∧ 0 ∈ filling.video.map Piece.index ∧ 1 ∉ filling.video.map Piece.index ∧
        filling.vc = some 2 ∧ (2 : Nat) ≠ 3 ∧ filling.summary = none) ∧
      (InRange r (media 1 100 1 3 [7]) 16 ∧ InRange r (media 1 100 1 2 [7]) 16) ∧
      (parseSummary [0] = none ∧ InRange r { summaryOf content with payload := [0] } 16) ∧
      (let whole : Collect := { filling with vc := some 1 };
        parseSummary content.bytes = some content ∧ InRange r (summaryOf content) 16 ∧ (whole.vc = some content.vc) ∧ whole.ac = none ∧
          (∀ i, i < content.vc → i ∈ whole.video.map Piece.index) ∧ ∀ i, i < content.ac → i ∈ whole.audio.map Piece.index) := by
  unfold InRange media summaryOf; decide +kernel

/-- The linked part with server 1 mapped to STANDBY 2, and channels in service for its player 0. -/
def served (l : List Chan) : State :=
  l.foldl (fun s c => (s.modCh c (channel .main .protected_)).modSettings c fun x => { x with server := 1, player := 0 })
    { linked with
      settings := { linked.settings with servers := linked.settings.servers.set 1 { mapped := true, port := 2 } }, time := { linked.time with h := 100 } }

theorem witness_StandbyCarriersAreAssigned_assigned :
    let named (s : State) (c : Chan) : Bool := s.inService c && decide ((s.ch c).settings.server.val = 1) && decide ((s.ch c).settings.player.val = 0)
    Running (served []) ∧ InRange (served []) (media 4 101 0 1 []) 32 ∧ InRange (served []) (media 31 101 0 1 []) 32 ∧
      ((served []).settings.servers[7].mapped = false) ∧ ((served []).settings.servers[1].mapped = true ∧ (served []).settings.servers[1].port ≠ 3) ∧
      ((served []).settings.servers[1].port = 2 ∧ ∀ c, named (served []) c = false) ∧ (named (served [1, 2]) 1 = true ∧ named (served [1, 2]) 2 = true) ∧
      (named (served [1]) 1 = true ∧ (∀ c, named (served [1]) c = true → c = 1) ∧ InRange (served [1]) (media 4 100 0 1 []) 32 ∧ Running (served [1]) ∧
        (served [1]).signed 100 (served [1]).time.h ≤ 0 ∧ 4 < (served [1]).signed 105 (served [1]).time.h) := by
  unfold Running InRange media; decide +kernel

/-- Channel 1 with a slot of its standby buffer. -/
def standbySlot (stamp : Nat) (x : Slot) : State := (served [1]).modSlots 1 fun y => y.put .standby stamp x
/-- A SUMMARY carrier of server 1 and player 0 for a stamp. -/
def standbySummary (stamp : Nat) (l : List Byte) : Media := { kind := .summary, channel := 4, stamp := stamp, fragIndex := 0, fragCount := 1, payload := l }

theorem witness_StandbyCarriersAreAssigned_opened :
    (∀ n ∈ [101, 104], let s := standbySlot n .free
      1 ≤ s.signed n s.time.h ∧ s.signed n s.time.h ≤ 4 ∧ (s.ch 1).slots.at .standby n = .free ∧ 1 ≤ (s.ch 1).align.freeUnits ∧
        s.settings.servers[1].mapped = true ∧ s.settings.servers[1].port = 2 ∧ s.inService 1 = true) ∧
      (Running (standbySlot 101 .free) ∧ InRange (standbySlot 101 .free) (media 4 101 0 1 [7]) 32) ∧
      Running (standbySlot 104 .free) ∧ InRange (standbySlot 104 .free) (media 4 104 0 1 [7]) 32 := by
  unfold Running InRange media; decide +kernel

theorem witness_StandbyCarriersAreAssigned_joined :
    let r : Collect := { filling with stamp := 102 }
    let s := standbySlot 102 (.filling r)
    (Running s ∧ (s.ch 1).slots.at .standby 102 = .filling r ∧ 0 ∈ r.video.map Piece.index ∧ 1 ∉ r.video.map Piece.index ∧ r.vc = some 2 ∧ (2 : Nat) ≠ 3 ∧
      r.summary = none) ∧
      (InRange s (media 4 102 1 2 [7]) 32 ∧ InRange s (media 4 102 1 3 [7]) 32) ∧ (InRange s (standbySummary 102 [0]) 32 ∧ parseSummary [0] = none) := by
  unfold Running InRange media standbySummary; decide +kernel

theorem witness_StandbyCarriersAreAssigned_completed :
    let r : Collect := { filling with stamp := 102, vc := some 1 }
    let s := standbySlot 102 (.filling r)
    let f : Frame := { stamp := 102, summary := content, video := [[7]], audio := [], signature := none }
    (Running s ∧ (s.ch 1).slots.at .standby 102 = .filling r ∧ InRange s (standbySummary 102 content.bytes) 32) ∧
      (parseSummary content.bytes = some content ∧ r.vc = some content.vc ∧ r.ac = none ∧ (∀ i, i < content.vc → i ∈ r.video.map Piece.index) ∧
        ∀ i, i < content.ac → i ∈ r.audio.map Piece.index) ∧
      ((standbySlot 102 (.complete f 100)).ch 1).slots.at .standby 102 = .complete f 100 ∧
      ((standbySlot 102 (.corrupt 102)).ch 1).slots.at .standby 102 = .corrupt 102 := by
  unfold Running InRange standbySummary; decide +kernel

/-- Channel 1 in MAIN at H = 100, its late tracker at a stamp. -/
def tracked (k : Tracker) : State := (slotted 100 .free).modSlots 1 fun y => { y with tracker := some k }
/-- A tracker of stamp 96 that has piece 0 of 2. -/
def lateTwo : Tracker := { stamp := 96, vc := some 2, ac := some 0, summary := false, video := [0], audio := [] }

/-- That tracker with its SUMMARY received or not and a count of pieces. -/
def lateWith (summary : Bool) (vc : Option Nat) : Tracker := { lateTwo with summary := summary, vc := vc }

theorem witness_StandbyCarriersAreAssigned_late :
    (∀ k ∈ [lateTwo, lateWith true (some 2), lateWith false (some 1)], let s := tracked k
      s.settled = true ∧ s.loading = false ∧ s.inService 1 = true ∧ s.signed 96 ((s.time.h : Int) - s.delay 1) ≤ 0 ∧ (s.ch 1).slots.tracker = some k ∧ k.stamp = 96 ∧
        s.cycle = linked.cycle) ∧
      (InRange linked (media 1 96 0 2 [7]) 16 ∧ InRange linked (media 1 96 1 2 [7]) 16 ∧ InRange linked (media 1 96 1 3 [7]) 16 ∧
        InRange linked { summaryOf content with stamp := 96 } 16) ∧
      (0 ∈ lateTwo.video ∧ 1 ∉ lateTwo.video ∧ (∀ i, i < 2 → i ∈ lateTwo.video ∨ i = 1) ∧ ¬(∀ i, i < 3 → i ∈ lateTwo.video ∨ i = 1)) ∧
      (parseSummary content.bytes = some content ∧ (∀ i, i < content.vc → i ∈ lateTwo.video) ∧ ∀ i, i < content.ac → i ∈ lateTwo.audio) := by
  unfold InRange media summaryOf; decide +kernel

/-- A late AUDIO carrier of stamp 96. -/
def lateAudio (i n : Nat) : Media := { kind := .audio, channel := 1, stamp := 96, fragIndex := i, fragCount := n, payload := [7] }
/-- A late SUMMARY carrier of stamp 96. -/
def lateSummary (x : Summary) : Media := { kind := .summary, channel := 1, stamp := 96, fragIndex := 0, fragCount := 1, payload := x.bytes }
/-- A tracker of stamp 96 that has its one piece of video and piece 0 of 2 of audio. -/
def lateSound (summary : Bool) : Tracker := { stamp := 96, vc := some 1, ac := some 2, summary := summary, video := [0], audio := [0] }

theorem witness_StandbyCarriersAreAssigned_lateAudioAndSummary :
    (∀ k ∈ [lateSound true, lateSound false, { lateSound true with ac := none, audio := [] }], let s := tracked k
      s.settled = true ∧ s.loading = false ∧ s.inService 1 = true ∧ s.signed 96 ((s.time.h : Int) - s.delay 1) ≤ 0 ∧ (s.ch 1).slots.tracker = some k ∧ k.stamp = 96 ∧
        s.cycle = linked.cycle) ∧
      (InRange linked (lateAudio 0 2) 16 ∧ InRange linked (lateAudio 1 2) 16 ∧ InRange linked (lateAudio 1 3) 16 ∧ InRange linked (lateAudio 63 64) 16) ∧
      (0 ∈ (lateSound true).audio ∧ 1 ∉ (lateSound true).audio ∧ (lateSound true).ac = some 2 ∧ (2 : Nat) ≠ 3 ∧
        (∀ i, i < 2 → i ∈ 1 :: (lateSound true).audio) ∧ (∀ i, i < 1 → i ∈ (lateSound true).video) ∧ ¬∀ i, i < 64 → i ∈ [63]) ∧
      (∀ n ∈ [0, 2], InRange linked (lateSummary { content with ac := n }) 16 ∧ parseSummary (lateSummary { content with ac := n }).payload = some { content with ac := n }) ∧
      (¬((lateSound false).ac = none ∨ (lateSound false).ac = some content.ac) ∧ ¬(lateTwo.vc = none ∨ lateTwo.vc = some content.vc) ∧
        (lateSound false).vc = some content.vc ∧ ¬∀ i, i < 2 → i ∈ (lateSound false).audio) := by
  unfold InRange lateAudio lateSummary
  refine ⟨by decide +kernel, by decide +kernel, by decide +kernel, by decide +kernel, by decide +kernel⟩

/-- Channel 1 in MAIN with a sample that ends its window. -/
def sampled (greatest : Option Int) (l : Int) : State :=
  (inState .main).modAlign 1 fun x => { x with measurement := { x.measurement with count := 255, greatest := greatest, waiting := some l } }
/-- Channel 1 in MAIN with a retime due. -/
def retiming : State := ((inState .main).modAlign 1 fun x => { x with retime := some { value := 15, target := 0 } }).modWork 1 fun w => { w with retime := true }

theorem witness_DelayWindowsAndRetimes :
    (((inState .main).ch 1).align.measurement.waiting = none ∧ ((sampled none (-3)).ch 1).align.measurement.waiting = some (-3) ∧
        ((sampled (some 20) 2).ch 1).align.measurement.greatest = some 20) ∧
      (Named linked .console (con 1) 1 ∧ linked.inService 1 = false) ∧
      (Named (inState .main) .console (con 1) 1 ∧ (inState .main).inService 1 = true ∧ (inState .main).delay 1 = 4 ∧ ((inState .main).ch 1).align.measurement.measured = 4) ∧
      (((inState .main).ch 1).work.retime = false ∧ (retiming.ch 1).work.retime = true ∧ (retiming.ch 1).align.retime = some { value := 15, target := 0 }) := by
  unfold Named Heard; decide +kernel

/-- Channel 1 in MAIN with a sample count and a greatest lateness. -/
def counted (n : Nat) (greatest : Option Int) : State :=
  (inState .main).modAlign 1 fun x => { x with measurement := { x.measurement with count := n, greatest := greatest } }

theorem witness_DelayWindowsAndRetimes_samples :
    (∀ n ∈ [0, 254], ((counted n none).ch 1).align.measurement.count < 255) ∧ 255 ≤ ((counted 255 (some 3)).ch 1).align.measurement.count ∧
      ((counted 254 (some 3)).ch 1).align.measurement.greatest = some 3 ∧ ((counted 0 none).ch 1).align.measurement.greatest = none := by decide +kernel

/-- R48: the count rises below 255; the sample at 255 ends the window with the greatest lateness, one and the margin of 1. -/
theorem test_samples_at_254_and_255 :
    let x (s : State) := (s.ch 1).align.measurement
    x ((counted 254 (some 3)).takeSample 1 6) = { x linked with count := 255, greatest := some 6 } ∧
      x (after (.delayWindowEnd 1) ((counted 255 (some 3)).takeSample 1 6)) = { count := 0, greatest := none, measured := 8, waiting := none } := by decide +kernel

/-- A main frame with a stamp. -/
def frame (stamp : Nat) : Frame := { stamp := stamp, summary := content, video := [[7]], audio := [], signature := none }

/-- Channel 1 at H = 100 with a slot of each buffer, and its release floors. -/
def releasing (main standby : Slot) (floor standbyFloor : Nat) : State :=
  ((slotted 96 main).modSlots 1 fun y => y.put .standby 100 standby).modAlign 1 fun x => { x with mainFloor := floor, standbyFloor := standbyFloor }
/-- The same part with the units of channel 1 that nothing holds free. -/
def accounted (s : State) : State := s.modAlign 1 fun x => { x with freeUnits := 21 - (s.ch 1).unitsHeld }

/-- `UnitInv` by what can be evaluated of it. -/
theorem unitInv_of {x : Channel}
    (h : x.align.freeUnits + x.unitsHeld = 21 ∧ (∀ i : Fin 16, (x.slots.main[i.val].stamp.all fun p => p % 16 == i.val) = true) ∧
      (∀ i : Fin 4, (x.slots.standby[i.val].stamp.all fun p => p % 4 == i.val) = true) ∧ (x.control.state = .outOfService → x.unitsHeld = 0)) : UnitInv x where
  units := h.1
  mainPlaces i p e := by simpa [e] using h.2.1 i
  standbyPlaces i p e := by simpa [e] using h.2.2.1 i
  out := h.2.2.2

/-- Slots of other stamps in the place of stamp 96: before it, and 16 after it. -/
def otherSlots : List Slot := [.filling { filling with stamp := 80 }, .filling { filling with stamp := 112 }, .complete (frame 112) 99, .corrupt 80, .corrupt 112]
/-- Those and the slots of the stamp itself. -/
def releasedSlots : List Slot := [.complete (frame 96) 99, .free, .filling { filling with stamp := 96 }, .corrupt 96] ++ otherSlots
/-- Such a release with a late tracker and, on both paths, a held frame. -/
def releasingWith (k : Option Tracker) (held : Option Frame) (main standby : Slot) (floor standbyFloor : Nat) : State :=
  accounted (((releasing main standby floor standbyFloor).modSlots 1 fun y => { y with tracker := k }).modAlign 1 fun x =>
    { x with mainHeld := held, standbyHeld := held })

theorem witness_MainPathAtABoundary_invariant :
    ∀ k ∈ [(none, none), (some lateTwo, none), (none, some (frame 90))], ∀ main ∈ releasedSlots, ∀ standby ∈ [Slot.complete (frame 100) 99, .free], ∀ floor ∈ [95, 96],
      Inv (releasingWith k.1 k.2 main standby floor (floor + 4)) := by
  have h : ∀ k ∈ [(none, none), (some lateTwo, none), (none, some (frame 90))], ∀ main ∈ releasedSlots, ∀ standby ∈ [Slot.complete (frame 100) 99, .free], ∀ floor ∈ [95, 96],
      let s := releasingWith k.1 k.2 main standby floor (floor + 4)
      s.time.h < s.cycle ∧ (∀ c : Chan, (s.ch c).control.ring.length ≤ 8 ∧ (s.ch c).control.nextSequence < 65536 ∧ (s.ch c).schedule.expected < 65536 ∧
        (s.ch c).cue.nextNumber < 256) ∧ s.mgmt.mainSite = .reset ∧ s.mgmt.console = .reset ∧ s.loading = false ∧ s.time.realignPending = false := by decide +kernel
  intro k hk main hm standby hs floor hl
  obtain ⟨hp, hc, ha, hb, hn, hr⟩ := h k hk main hm standby hs floor hl
  have hk : (releasingWith k.1 k.2 main standby floor (floor + 4)).counters = .zero := rfl
  exact
    { counters := fun key => by
        simp only [State.counter, hk]
        cases key <;> simp [Counters.get, Counters.zero]
      position := hp, channels := fun c => ⟨(hc c).1, (hc c).2.1, (hc c).2.2.1, (hc c).2.2.2⟩
      mainSite := by rw [ha]; exact ⟨by decide, by decide⟩
      console := by rw [hb]; exact ⟨by decide, by decide⟩
      beforeLoad := fun h => by rw [hn] at h; cases h
      realign := fun h => by rw [hr] at h; cases h }

theorem witness_MainPathAtABoundary_units :
    ∀ f ∈ [none, some (frame 90)], ∀ main ∈ releasedSlots, ∀ standby ∈ [Slot.complete (frame 100) 99, .free], ∀ floor ∈ [95, 96],
      UnitInv ((releasingWith none f main standby floor (floor + 4)).ch 1) := by
  intro f hf main hm standby hs floor hl
  refine unitInv_of ?_
  revert f main standby floor
  decide +kernel
/-- R46: a slot of stamp 80 outside the window is emptied, counted, and its unit is free again; one of stamp 112 inside it is kept. -/
theorem test_window_discard :
    let run (main : Slot) := ((releasingWith none none main .free 95 99).takeMainBoundary 1).1
    ((run (.corrupt 80)).counter (.chan 1 .windowDiscards), ((run (.corrupt 80)).ch 1).align.freeUnits) = (1, 21) ∧
      ((run (.corrupt 112)).counter (.chan 1 .windowDiscards), ((run (.corrupt 112)).ch 1).align.freeUnits) = (0, 20) := by decide +kernel

theorem witness_MainPathAtABoundary :
    let late : Collect := { filling with stamp := 96 }
    (∀ slot ∈ [Slot.complete (frame 96) 99, .free, .filling late, .corrupt 96], let s := releasing slot .free 95 99
      s.dueStamp 1 = 96 ∧ (s.ch 1).slots.at .main 96 = slot ∧ 1 ≤ s.signed 96 (s.ch 1).align.mainFloor) ∧
      (frame 96).stamp = 96 ∧ late.stamp = 96 ∧
      (let s := releasing .free .free 96 100
      s.signed 96 (s.ch 1).align.mainFloor ≤ 0 ∧ s.signed 100 (s.ch 1).align.standbyFloor ≤ 0 ∧ 1 ≤ s.signed 100 (s.wrap ((s.time.h : Int) - 1))) ∧
      (∀ slot ∈ [Slot.complete (frame 100) 99, .free], let s := releasing .free slot 95 99
        (s.ch 1).slots.at .standby s.time.h = slot ∧ 1 ≤ s.signed s.time.h (s.ch 1).align.standbyFloor) ∧
      (frame 100).stamp = 100 ∧ (2 : Chan) ≠ 1 := by decide +kernel

theorem witness_MainPathAtABoundary_tracker :
    ∀ k ∈ [none, some lateTwo], ∀ slot ∈ .free :: otherSlots, ∀ floor ∈ [92, 95], let s := releasingWith k none slot .free floor 99
      s.dueStamp 1 = 96 ∧ 1 ≤ s.signed 96 (s.ch 1).align.mainFloor ∧ ((s.ch 1).slots.at .main 96).stamp ≠ some 96 ∧ (s.ch 1).slots.tracker = k ∧
        s.inMainWindow 1 112 = true ∧ s.inMainWindow 1 80 = false := by decide +kernel
/-- R34: a stamp released missing whose slot another stamp holds is tracked with nothing received, the old record is abandoned, and that slot keeps its own. -/
theorem test_tracker_of_another_stamp :
    let t := ((releasingWith (some lateTwo) none (.filling { filling with stamp := 112 }) .free 95 99).takeMainBoundary 1).1
    (t.ch 1).slots.tracker = some { stamp := 96, vc := none, ac := none, summary := false, video := [], audio := [] } ∧
      t.counter (.chan 1 .lateAbandoned) = 1 ∧ (t.ch 1).slots.at .main 96 = .filling { filling with stamp := 112 } := by decide +kernel

/-- A capture request of channel 1 for slate 7, COPYING, with its held frame. -/
def copying : State :=
  ((inState .main).modAlign 1 fun x => { x with mainHeld := some (frame 0) }).modSlate 7 fun _ =>
    { state := .capturing, request := some { chan := 1, path := .main, copying := some 0, port := .standby 2, request := 6 } }

theorem witness_SlateCaptures :
    (Named (inState .main) .console (con 1) 1 ∧ 8 ≤ (8 : Nat) ∧ 1 < (2 : Nat)) ∧ (Named linked .console (con 1) 1 ∧ linked.inService 1 = false) ∧
      ((inState .main).inService 1 = true ∧ (inState .main).slates[0].request = none) ∧
      (Named copying .console (con 1) 1 ∧ copying.inService 1 = true ∧ copying.slates[7].request.isSome = true) ∧ (linked.settled = true ∧ linked.slates[7].request = none) ∧
      (copying.settled = true ∧ copying.slates[7].request = some { chan := 1, path := .main, copying := some 0, port := .standby 2, request := 6 } ∧
        (copying.ch 1).align.heldOn .main = some (frame 0)) := by
  unfold Named Heard; decide +kernel

/-- A capture request of channel 1 on a path, WAITING or COPYING. -/
def capture (path : SourcePath) (copying : Option Nat) : Capture := { chan := 1, path := path, copying := copying, port := .standby 2, request := 6 }
/-- A part with that request at slate 7. -/
def capturing (path : SourcePath) (copying : Option Nat) (s : State) : State := s.modSlate 7 fun x => { x with request := some (capture path copying) }

theorem witness_SlateCaptures_release :
    (∀ path ∈ [SourcePath.main, .standby], ∀ x ∈ [none, some 3], let s := capturing path x (releasing (.complete (frame 96) 99) (.complete (frame 100) 99) 95 99)
      let stamp : Nat := match path with
        | .main => s.wrap ((s.time.h : Int) - s.delay 1)
        | .standby => s.time.h
      let floor : Nat := match path with
        | .main => (s.ch 1).align.mainFloor
        | .standby => (s.ch 1).align.standbyFloor
      s.slates[7].request = some (capture path x) ∧ (capture path x).chan = 1 ∧ (capture path x).path = path ∧ 1 ≤ s.signed stamp floor ∧
        (s.ch 1).slots.at path stamp = .complete (frame stamp) 99 ∧ (frame stamp).stamp = stamp) ∧
      (let s := capturing .standby none (releasing .free .free 96 100)
      s.dueStamp 1 = 96 ∧ ¬1 ≤ s.signed 96 (s.ch 1).align.mainFloor ∧ ¬1 ≤ s.signed s.time.h (s.ch 1).align.standbyFloor ∧
        1 ≤ s.signed s.time.h (s.wrap ((s.time.h : Int) - 1)) ∧ (s.ch 1).slots.at .standby 100 = .free) ∧
      ¬((capture .standby none).chan = 1 ∧ (capture .standby none).path = .main) := by decide +kernel

theorem witness_SlateCaptures_abandoned :
    ∀ x ∈ [none, some 3], let s := capturing .main x (inState .standby)
      Named s .console (con 1) 1 ∧ s.inService 1 = true ∧ s.slates[7].request = some (capture .main x) ∧ s.linkUp (capture .main x).port = true := by
  unfold Named Heard; decide +kernel

/-- R56: a WAITING request starts its copy at a release; a channel that leaves service ends it with ABANDONED, and its slate is EMPTY. -/
theorem test_capture_starts_and_is_abandoned :
    let s := capturing .main none (releasing (.complete (frame 96) 99) .free 95 99)
    (s.takeMainBoundary 1).1.slates[7] = { state := .capturing, request := some (capture .main (some 100)) } ∧
      (let t := after (.setServiceOut (con 1)) (capturing .main (some 3) (inState .main))
      t.slates[7] = { state := .empty, request := none } ∧ t.outbox.map Sent.what =
        [.reply { request := 6, kind := 0x31, channel := 1, result := .abandoned, clamped := false, contents := [] },
          .reply { request := 7, kind := 0x20, channel := 1, result := .accepted, clamped := false, contents := [.enum 0, .enum 0, .enum 0] }]) := by decide +kernel


/-! ## Witnesses: monitoring, site and schedules -/

/-- A detector at rest in a phase. -/
def still (phase : Phase) : DetectorState := { phase := phase, latched := phase == .asserted, settle := 0, bad := 0, good := 0 }
/-- Channel 1 in MAIN whose BLACK detector settles, with frames still to come. -/
def settlingBlack (n : Nat) : State :=
  (inState .main).modMonitor 1 fun m => { m with detectors := vmod m.detectors (detectorIndex .black) fun _ => { still .settling with settle := n } }

theorem witness_DetectorRunsAndSettling :
    (let cfg := DetectorSettings.default .black
    1 ≤ cfg.assertCount ∧ 1 ≤ cfg.clearCount ∧ 124 < cfg.assertCount ∧ 0 < cfg.clearCount ∧ cfg.enabled = true) ∧
      ((still .clear).phase = .clear ∧ (still .clear).bad = 0) ∧ ((still .asserted).phase = .asserted ∧ (still .asserted).good = 0) ∧
      (still .settling).phase = .settling ∧
      (((settlingBlack 0).ch 1).settings.detectors[(detectorIndex .black).val].enabled = true ∧ (((settlingBlack 0).ch 1).detState .black).phase = .settling ∧
        (((settlingBlack 0).ch 1).detState .black).settle = 0) ∧ (((settlingBlack 1).ch 1).detState .black).settle ≠ 0 := by decide +kernel

/-- The linked part with the site in a state. -/
def atSite (x : SiteState) (k : Automation) (a b : Bool) : State :=
  { inState .main with site := { linked.site with state := x, automation := k, viewA := a, viewB := b } }
/-- A part whose keepalive timer has run out. -/
def expired (x : SiteState) (a : Bool) : State := { atSite x .alive a false with work := { linked.work with keepalive := true } }

theorem witness_KeepalivesAndTheirExpiry :
    (let s := atSite .normal .alive true true
    Heard s .mainSite (auto 255) ∧ (auto 255).port = .contribution .a ∧ s.site.automation = .alive) ∧ Heard linked .console (con 255) ∧
      (Heard linked .mainSite { auto 255 with group := true } ∧ Heard linked .console { con 255 with group := true }) ∧ (auto 255).group = false ∧
      (Heard linked .mainSite (auto 255) ∧ linked.site.automation = .unknown) ∧ linked.work.keepalive = false ∧
      (∀ s ∈ [expired .normal true, expired .degraded false, expired .starting true, expired .lost true], s.work.keepalive = true) := by
  unfold Heard; decide +kernel

/-- A change to the record of channel 1. -/
def ctl (s : State) (f : Control → Control) : State := s.modControl 1 f

theorem witness_SiteLostAndRestored_declare :
    let s := atSite .normal .alive true true
    let returning (x : ChannelState) : State := ctl s fun y => { y with state := x, returnOrigin := some .standby, returnPosition := some 4, guard := some 2 }
    (Whole (atSite .lost .alive true false) .console (con 255) ∧ (atSite .lost .alive true false).site.state = .lost) ∧
      (Whole s .console (con 255) ∧ s.site.state ≠ .lost ∧ (s.ch 0).control.state = .outOfService) ∧
      (∀ x ∈ [ChannelState.returnGuard, .returning], Whole (returning x) .console (con 255) ∧ (returning x).site.state ≠ .lost ∧
        (((returning x).ch 1).control.state = .returnGuard ∨ ((returning x).ch 1).control.state = .returning) ∧ ((returning x).ch 1).control.returnOrigin = some .standby) ∧
      ((s.ch 1).control.state = .main ∧ (s.ch 1).control.mode = .protected_ ∧ (s.ch 1).control.pin ≠ .main) ∧
      (∀ t ∈ [ctl s fun y => { y with pin := .main }, ctl s fun y => { y with mode := .monitor }], Whole t .console (con 255) ∧ (t.ch 1).control.state = .main ∧
        ¬((t.ch 1).control.mode = .protected_ ∧ (t.ch 1).control.pin ≠ .main)) := by
  unfold Whole Heard; decide +kernel

/-- A channel that returns under a site that is up, with its return origin. -/
def returningTo (x : ChannelState) (origin : ReturnOrigin) (s : State) : State :=
  ctl { s with site := (atSite .normal .alive true true).site } fun y => { y with state := x, returnOrigin := some origin, returnPosition := some 4, guard := some 2 }

theorem witness_SiteLostAndRestored_restore :
    let s := atSite .lost .alive true false
    let healed := ctl s fun y => { y with state := .fill, cause := some .detector }
    Whole linked .console (con 255) ∧ linked.site.state ≠ .lost ∧
      (∀ t ∈ [atSite .lost .alive false false, atSite .lost .lost true true], Whole t .console (con 255) ∧ t.site.state = .lost ∧
        ¬((t.site.viewA = true ∨ t.site.viewB = true) ∧ t.site.automation = .alive)) ∧
      (Whole healed .console (con 255) ∧ healed.site.state = .lost ∧ (healed.site.viewA = true ∨ healed.site.viewB = true) ∧ healed.site.automation = .alive ∧
        (healed.ch 1).monitor.verdict = .healthy ∧ (healed.ch 1).control.cause = some .detector ∧ (healed.ch 1).settings.autoReturn = true ∧
        (healed.ch 1).control.pin = .none ∧ (healed.ch 1).control.suspended = false ∧ (healed.ch 1).control.state = .fill) ∧
      ((s.modMonitor 1 fun m => { m with verdict := .failed }).ch 1).monitor.verdict ≠ .healthy := by
  unfold Whole Heard; decide +kernel

/-- The linked part whose channel 1 has a list, a replication state and an expected revision. -/
def listed (x : Replication) (expected : Nat) (l : List Event) : State :=
  (inState .main).modSchedule 1 fun y => { y with live := some l, state := x, expected := expected }

theorem witness_AmendmentsAgainstTheRevision :
    let i := Instr.delete (auto 1) 5 7
    (Heard linked .mainSite { auto 1 with group := true } ∧
      amendmentOf (.delete { auto 1 with group := true } 5 7) = some ({ auto 1 with group := true }, 5, .delete 7)) ∧ (auto 1).group = false ∧ (auto 255).group = false ∧
    amendmentOf i = some (auto 1, 5, .delete 7) ∧ (auto 1).channel = (1 : Chan).val ∧
      (Heard linked .mainSite (auto 255) ∧ amendmentOf (.delete (auto 255) 5 7) = some (auto 255, 5, .delete 7)) ∧
      (Heard (listed .stale 5 []) .mainSite (auto 1) ∧ ((listed .stale 5 []).ch 1).schedule.state ≠ .current) ∧
      (∀ n ∈ [6, 32773], Heard (listed .current n []) .mainSite (auto 1) ∧ ((listed .current n []).ch 1).schedule.state = .current ∧
        32768 ≤ ((5 : Int) - ((listed .current n []).ch 1).schedule.expected) % 65536) ∧
      (∀ n ∈ [4, 32774], Heard (listed .current n []) .mainSite (auto 1) ∧ ((listed .current n []).ch 1).schedule.state = .current ∧
        1 ≤ ((5 : Int) - ((listed .current n []).ch 1).schedule.expected) % 65536 ∧ ((5 : Int) - ((listed .current n []).ch 1).schedule.expected) % 65536 ≤ 32767) ∧
      (Heard (listed .current 5 []) .mainSite (auto 1) ∧ ((listed .current 5 []).ch 1).schedule.state = .current ∧
        ((5 : Int) - ((listed .current 5 []).ch 1).schedule.expected) % 65536 = 0 ∧
        applyAmendment .fr25 0 4096 [] (.delete 7) = .error .noSuchId ∧ (∃ x, applyAmendment .fr25 0 4095 [live 7 10 10] (.delete 7) = .ok x)) := by
  unfold Heard
  refine ⟨by decide +kernel, rfl, rfl, rfl, rfl, by decide +kernel, by decide +kernel, by decide +kernel, by decide +kernel, by decide +kernel, by decide +kernel, by decide +kernel, by decide +kernel,
    ⟨_, rfl⟩⟩

/-- Two events with a gap between them. -/
def two : List Event := [live 7 100 100, live 8 300 100]
/-- A carried LIVE event that starts at day 0, second n, frame ff. -/
def at25 (id ss ff duration : Nat) : EventCarried := carried id (label 0 0 ss ff) duration

theorem witness_AmendmentsToAList_insert :
    Ordered two ∧ wellFormedEvent .fr25 (at25 7 8 0 100) = .ok (live 7 200 100) ∧ 7 ∈ two.map Event.id ∧
      (wellFormedEvent .fr25 (at25 9 8 0 100) = .ok (live 9 200 100) ∧ 9 ∉ two.map Event.id ∧ ((live 9 200 100).finish : Int) ≤ 300 ∧
        (299 : Int) < (live 9 200 100).finish ∧ (∀ y ∈ two, y.finish ≤ (live 9 200 100).start ∨ (live 9 200 100).finish ≤ y.start) ∧ two.length < 1024) ∧
      (∃ reason, wellFormedEvent .fr25 (at25 9 8 25 100) = .error reason) ∧ (∃ reason, wellFormedEvent .fr25 (at25 9 8 0 0) = .error reason) := by
  unfold Ordered
  exact ⟨by decide +kernel, by decide +kernel, by decide, by decide +kernel, ⟨_, rfl⟩, ⟨_, rfl⟩⟩

theorem long_list : ∃ l, Ordered l ∧ 1024 ≤ l.length ∧ 9 ∉ l.map Event.id ∧ ∀ y ∈ l, y.finish ≤ (live 9 200 100).start ∨ (live 9 200 100).finish ≤ y.start := by
  refine ⟨(List.range 1024).map fun i => live (1000 + i) (1000 + i) 1, ⟨?_, ?_⟩, ?_, ?_, ?_⟩
  · simp only [List.pairwise_map]
    exact List.pairwise_lt_range.imp fun {i j} h => by simp [live, Event.finish]; omega
  · simp [live]
  · simp
  · simp [live]; omega
  · simp [live, Event.finish]; omega

theorem witness_AmendmentsToAList_others :
    Ordered two ∧ 9 ∉ two.map Event.id ∧ live 7 100 100 ∈ two ∧
      (∀ e ∈ [live 7 150 150, live 9 0 300], ∃ c, wellFormedEvent .fr25 c = .ok e ∧ (e.id = 7 ∨ e.id ∉ two.map Event.id) ∧ (0 : Int) < e.finish ∧
        ∀ y ∈ two, y.id ≠ 7 → y.finish ≤ e.start ∨ e.finish ≤ y.start) ∧
      (∀ n ∈ [1, 99], 1 ≤ n ∧ n < (live 7 100 100).duration ∧ (100 : Int) < ((live 7 100 100).start + n : Nat) ∧ (live 7 100 100).duration ≤ Rate.fday .fr25) ∧
      (∀ n ∈ [0, Rate.fday .fr25 + 1], n = 0 ∨ Rate.fday .fr25 < n) ∧
      (∀ delta ∈ [1, Rate.fday .fr25], 1 ≤ delta ∧ delta ≤ Rate.fday .fr25 ∧ (∀ y ∈ two, y.start + delta < Rate.cycle .fr25) ∧
        (200 : Int) < ((live 7 100 100).finish + delta : Nat)) := by
  unfold Ordered
  refine ⟨by decide +kernel, by decide, by decide, ?_, by decide +kernel, by decide +kernel, by decide +kernel⟩
  intro e h
  simp only [List.mem_cons, List.not_mem_nil, or_false] at h
  obtain rfl | rfl := h
  · exact ⟨at25 7 6 0 150, by decide +kernel⟩
  · exact ⟨at25 9 0 0 300, by decide +kernel⟩

theorem witness_AmendmentsToAList_governing :
    Ordered two ∧
      (∀ e ∈ [live 9 150 160, live 9 100 300], ∃ c, wellFormedEvent .fr25 c = .ok e ∧ e.id ∉ two.map Event.id ∧ (0 : Int) < e.finish ∧
        (placeEvents [e] two []).events.length ≤ 1024) ∧
      ((placeEvents [live 9 150 160] two []).removals = 0 ∧ (placeEvents [live 9 100 300] two []).removals = 2) ∧
      (∃ c e, wellFormedEvent .fr25 c = .ok e ∧ e.id = 8 ∧ e.id ≠ 7 ∧ e.id ∈ two.map Event.id) ∧
      (∃ c e, wellFormedEvent .fr25 c = .ok e ∧ (e.id = 7 ∨ e.id ∉ two.map Event.id) ∧ (e.finish : Int) ≤ 250 ∧ 9 ∉ two.map Event.id) ∧
      ∃ c reason, wellFormedEvent .fr25 c = .error reason := by
  unfold Ordered
  refine ⟨by decide +kernel, ?_, by decide +kernel, ⟨at25 8 8 0 50, live 8 200 50, by decide +kernel⟩, ⟨at25 7 8 0 50, live 7 200 50, by decide +kernel⟩,
    ⟨at25 9 8 25 100, _, rfl⟩⟩
  intro e h
  simp only [List.mem_cons, List.not_mem_nil, or_false] at h
  obtain rfl | rfl := h
  · exact ⟨at25 9 6 0 160, by decide +kernel⟩
  · exact ⟨at25 9 4 0 300, by decide +kernel⟩

theorem witness_AmendmentsToAList_trimAndShift :
    let e := live 8 300 100
    Ordered two ∧ live 7 100 100 ∈ two ∧ e ∈ two ∧ 9 ∉ two.map Event.id ∧ 1 ≤ Rate.fday .fr25 ∧
      (∀ n ∈ [101, 200], (1 ≤ n ∧ n ≤ Rate.fday .fr25 ∧ n ≠ (live 7 100 100).duration ∧ (200 : Int) < ((live 7 100 100).start + n : Nat)) ∧
        ∀ y ∈ two, (live 7 100 100).start < y.start → (live 7 100 100).start + n ≤ y.start) ∧
      (¬∀ y ∈ two, (live 7 100 100).start < y.start → (live 7 100 100).start + 201 ≤ y.start) ∧ (((live 7 100 100).start + 1 : Nat) : Int) ≤ 101 ∧
      (∀ delta ∈ [-(Rate.fday .fr25 : Int) - 1, (Rate.fday .fr25 : Int) + 1], delta < -(Rate.fday .fr25 : Int) ∨ (Rate.fday .fr25 : Int) < delta) ∧
      (∀ delta ∈ [-(300 : Int), -101, -100, -1, 0], (-(Rate.fday .fr25 : Int) ≤ delta ∧ delta ≤ Rate.fday .fr25 ∧ (99 : Int) < (e.finish : Int) + delta) ∧
        ∀ y ∈ two.filter fun y => e.start ≤ y.start, 0 ≤ (y.start : Int) + delta ∧ (y.start : Int) + delta < Rate.cycle .fr25) ∧
      (∀ y ∈ two.filter fun y => y.start < e.start, (y.finish : Int) ≤ (e.start : Int) + (-100)) ∧
      (¬∀ y ∈ two.filter fun y => e.start ≤ y.start, 0 ≤ (y.start : Int) + (-301) ∧ (y.start : Int) + (-301) < Rate.cycle .fr25) ∧
      ((e.finish : Int) + (-300) ≤ 100) := by
  unfold Ordered; decide +kernel
/-- R105: SHIFT_FROM by a negative delta onto the event before it cuts that event's tail. -/
theorem test_shift_earlier :
    (applyAmendment .fr25 0 0 two (.shiftFrom 8 (-150))).toOption.map (fun x => (x.events.map fun e => (e.id, e.start, e.duration), x.removals, x.trims)) =
      some ([(7, 100, 50), (8, 150, 100)], 0, 1) := by decide +kernel
/-- R104: a TRIM that lengthens an event cuts the head of the next. -/
theorem test_trim_longer :
    (applyAmendment .fr25 0 0 two (.trim 7 250)).toOption.map (fun x => (x.events.map fun e => (e.id, e.start, e.duration), x.removals, x.trims)) =
      some ([(7, 100, 250), (8, 350, 50)], 0, 1) := by decide +kernel

theorem witness_OverlapResolution :
    let covered := live 1 100 100
    let before := live 2 0 100
    let tail := live 3 0 101
    let head (m : Material) : Event := { live 4 199 2 with material := m }
    let x := live 9 100 100
    (∀ l ∈ [[before, covered], [tail, head (.live 3)], [tail, head (.clip [0x41] 0)], [head (.clip [0x41] 4294967295)], [head (.fixed [0x41] 0)]], Ordered l ∧ 1 ≤ x.duration ∧
        x.id ∉ l.map Event.id) ∧
      (before.finish ≤ x.start ∧ x.start ≤ covered.start ∧ covered.finish ≤ x.finish) ∧ (tail.start < x.start ∧ x.start < tail.finish) ∧
      x.start ≤ (head (.live 3)).start ∧ (head (.live 3)).start < x.finish ∧ x.finish < (head (.live 3)).finish ∧
      0 + (x.finish - (head (.live 3)).start) ≤ 4294967295 ∧ ¬4294967295 + (x.finish - (head (.live 3)).start) ≤ 4294967295 := by
  unfold Ordered; decide +kernel

/-- Channel 1 rebuilding: its shadow list holds an event of a snapshot of 2 at revision 9. -/
def rebuilding (received : List Nat) : State :=
  (inState .main).modSchedule 1 fun y =>
    { y with live := some [], state := .rebuilding, shadow := some { events := [live 7 100 100], revision := 9, count := 2, received := received }, snapshotTimer := some 0 }

theorem witness_Snapshots :
    let s := rebuilding [0]
    Heard s .mainSite { auto 1 with group := true } ∧ (Named s .mainSite (auto 1) 1 ∧ 1024 < (1025 : Nat) ∧ (s.ch 1).schedule.state = .rebuilding) ∧
      (∃ y, (s.ch 1).schedule.shadow = some y ∧ y.revision = 9 ∧ y.count = 2 ∧ 1 < y.count ∧ 0 ∈ y.received ∧ 1 ∉ y.received ∧ 8 ∉ y.events.map Event.id ∧
        1 ≤ s.poolFree + (placeEvents [live 8 200 100] y.events []).removals ∧ y.revision ≠ 8 ∧ y.count ≤ 2) ∧
      (Named (inState .main) .mainSite (auto 1) 1 ∧ ((inState .main).ch 1).schedule.shadow = none ∧ ((inState .main).ch 1).schedule.state ≠ .rebuilding) ∧
      (wellFormedEvent s.time.rate (at25 8 8 0 100) = .ok (live 8 200 100) ∧ (s.time.h : Int) - (if s.inService 1 then s.delay 1 else 15) < (live 8 200 100).finish) ∧
      (Named (rebuilding [0, 1]) .mainSite (auto 1) 1 ∧ ((rebuilding [0, 1]).ch 1).schedule.state = .rebuilding ∧
        ∃ y, ((rebuilding [0, 1]).ch 1).schedule.shadow = some y ∧ y.revision = 9 ∧ 2 = y.count ∧ ∀ i, i < y.count → i ∈ y.received) ∧
      ∃ y, (s.ch 1).schedule.shadow = some y ∧ ¬(2 = y.count ∧ ∀ i, i < y.count → i ∈ y.received) := by
  unfold Named Heard
  refine ⟨by decide +kernel, by decide +kernel, ⟨_, rfl, by decide +kernel⟩, by decide +kernel, by decide +kernel, ⟨by decide +kernel, by decide +kernel, ⟨_, rfl, by decide +kernel⟩⟩, ⟨_, rfl, by decide +kernel⟩⟩

theorem witness_ScheduleTimersExpire :
    let s := (rebuilding [0]).modWork 1 fun w => { w with snapshot := true, resync := true }
    (linked.ch 1).work.snapshot = false ∧ (linked.ch 1).work.resync = false ∧ (s.ch 1).work.resync = true ∧ (s.ch 1).work.snapshot = true ∧
      (s.ch 1).schedule.shadow = some { events := [live 7 100 100], revision := 9, count := 2, received := [0] } ∧ (s.ch 1).schedule.state = .rebuilding := by decide +kernel

/-! ## Witnesses: channels and cues -/

/-- The channel states other than out of service. -/
def serving : List ChannelState := [.main, .cueing, .fill, .standby, .returnGuard, .returning]
/-- Channel 1 in a state with its owner LOCAL. -/
def local_ (x : ChannelState) : State := ctl (inState x) fun y => { y with owner := .localSite }
/-- The site LOST. -/
def siteLost (s : State) : State := { s with site := { s.site with state := .lost } }

theorem witness_SeizeReleaseAndGroups :
    (∀ s ∈ [inState .main, linked, siteLost (inState .standby)], Named s .console (con 1) 1) ∧ (siteLost (inState .standby)).site.state = .lost ∧
      (let s := { linked with mgmt := { linked.mgmt with console := { linked.mgmt.console with mask := 0x8001 } } }
      Heard s .console { con 1 with group := true } ∧ s.mgmt.console.mask.getLsbD (0 : Chan).val = true ∧ s.mgmt.console.mask.getLsbD (2 : Chan).val = false) := by
  unfold Named Heard; decide +kernel

theorem witness_UnpinAcknowledgeAndClearRecords : Named (inState .fill) .console (con 1) 1 ∧ ((inState .fill).ch 1).control.state ≠ .outOfService ∧
    Named linked .console (con 1) 1 ∧ (linked.ch 1).control.state = .outOfService := by unfold Named Heard; decide +kernel

theorem witness_CommandsThatAreRefused :
    (Named (local_ .main) .mainSite (auto 1) 1 ∧ ownerCommand (.take (auto 1)) = some (auto 1, 0x21) ∧ ownerCommand (.ackTakeover (auto 1)) = some (auto 1, 0x28) ∧
      ((local_ .main).ch 1).control.owner = .localSite) ∧
      (Named (inState .main) .console (con 1) 1 ∧ ownerCommand (.hold (con 1)) = some (con 1, 0x23) ∧ ((inState .main).ch 1).control.owner = .mainSite) ∧
      (Heard linked .mainSite (auto 255) ∧ consoleCommand (.realign (auto 255)) = some (auto 255, 0x38)) ∧
      (Whole linked .console (con 255) ∧ channelCommand (.recue (con 255)) = some (con 255, 0x29)) := by
  unfold Named Whole Heard; decide +kernel

theorem witness_TakeOpensARecordAndCues :
    (∀ x ∈ serving, ∀ pin ∈ [Pin.none, .main], let s := ctl (inState x) fun y => { y with pin := pin }
      Named s .mainSite (auto 1) 1 ∧ s.owns 1 .mainSite = true ∧ (s.ch 1).control.state = x ∧ (s.ch 1).control.pin = pin) ∧
      (Named linked .mainSite (auto 1) 1 ∧ linked.owns 1 .mainSite = true ∧ (linked.ch 1).control.state = .outOfService) ∧
      (Named (local_ .main) .console (con 1) 1 ∧ (local_ .main).owns 1 .console = true ∧ ((local_ .main).ch 1).control.state = .main ∧
        ((local_ .main).ch 1).control.pin ≠ .main) := by
  unfold Named Heard; decide +kernel

theorem witness_ReturnAndHold :
    (∀ x ∈ serving, ∀ origin ∈ [ReturnOrigin.standby, .fill], let s := ctl (local_ x) fun y => { y with returnOrigin := some origin }
      Named s .console (con 1) 1 ∧ s.owns 1 .console = true ∧ s.site.state ≠ .lost ∧ (s.ch 1).control.state = x ∧ (s.ch 1).control.pin = .none ∧
        (s.ch 1).control.returnOrigin = some origin) ∧
      (∀ s ∈ [siteLost (local_ .main), ctl linked fun y => { y with owner := .localSite }, ctl (local_ .fill) fun y => { y with pin := .standby },
          ctl (local_ .returning) fun y => { y with pin := .main }],
        Named s .console (con 1) 1 ∧ s.owns 1 .console = true ∧
          (s.site.state = .lost ∨ (s.site.state ≠ .lost ∧ ((s.ch 1).control.state = .outOfService ∨ (s.ch 1).control.pin ≠ .none)))) := by
  unfold Named Heard; decide +kernel

theorem witness_Pins :
    (∀ x ∈ serving, ∀ pin ∈ [Pin.none, .main, .standby], let s := ctl (inState x) fun y => { y with pin := pin }
      Named s .console (con 1) 1 ∧ (s.ch 1).control.state = x ∧ (s.ch 1).control.pin = pin ∧ s.site.state ≠ .lost) ∧
      (Named linked .console (con 1) 1 ∧ (linked.ch 1).control.state = .outOfService) ∧
      (∀ x ∈ [ChannelState.fill, .standby], Named (siteLost (inState x)) .console (con 1) 1 ∧ (siteLost (inState x)).site.state = .lost ∧
        ((siteLost (inState x)).ch 1).control.state = x) := by
  unfold Named Heard; decide +kernel

theorem witness_RecueAsksForAJoin :
    (∀ x ∈ serving, ∀ awaiting ∈ [true, false], let s := ctl (inState x) fun y => { y with awaitingRecue := awaiting }
      Named s .console (con 1) 1 ∧ (s.ch 1).control.state = x ∧ (s.ch 1).control.pin ≠ .main ∧ (s.ch 1).control.awaitingRecue = awaiting) ∧
      (Named linked .console (con 1) 1 ∧ (linked.ch 1).control.state = .outOfService) ∧
      (let s := ctl (inState .main) fun y => { y with pin := .main }
      Named s .console (con 1) 1 ∧ (s.ch 1).control.state ≠ .outOfService ∧ (s.ch 1).control.pin = .main) := by
  unfold Named Heard; decide +kernel

theorem witness_SetServiceEntersAndLeaves :
    (Named (inState .standby) .console (con 1) 1 ∧ ((inState .standby).ch 1).control.state ≠ .outOfService) ∧
      (Named linked .console (con 1) 1 ∧ (linked.ch 1).control.state = .outOfService ∧ (∀ det, ((linked.ch 1).detState det).latched = false) ∧
        ∀ det, ((linked.ch 1).settings.detectors[(detectorIndex det).val]).enabled = true ∧ 1 ≤ ((linked.ch 1).settings.detectors[(detectorIndex det).val]).settleFrames) ∧
      3 ≤ (3 : Nat) := by
  have h : ∀ det ∈ [Detector.arrival, .freeze, .black, .silence], ((linked.ch 1).detState det).latched = false ∧
      ((linked.ch 1).settings.detectors[(detectorIndex det).val]).enabled = true ∧ 1 ≤ ((linked.ch 1).settings.detectors[(detectorIndex det).val]).settleFrames := by
    decide +kernel
  unfold Named Heard
  refine ⟨by decide +kernel, ⟨by decide +kernel, by decide +kernel, ?_, ?_⟩, by decide⟩
  · intro det; cases det <;> exact (h _ (by decide)).1
  · intro det; cases det <;> exact (h _ (by decide)).2

/-- An event of each kind. -/
def clip (id start duration : Nat) : Event := { live id start duration with material := .clip [0x41] 0 }

theorem witness_JoinsFollowTheTable :
    (∀ e ∈ [clip 7 100 100, live 7 100 100, { clip 7 100 100 with material := .fixed [0x41] 0 }],
      Ordered [e, live 8 300 100] ∧ e ∈ [e, live 8 300 100] ∧
        ∀ h ∈ [54, 129, 153], (e.start : Int) ≤ (h : Int) + 50 - 4 ∧ (h : Int) + 50 - 4 < (e.finish : Int)) ∧
      (∀ e ∈ two, ¬((e.start : Int) ≤ ((154 : Nat) : Int) + 50 - 4 ∧ ((154 : Nat) : Int) + 50 - 4 < (e.finish : Int))) ∧ Ordered two := by
  unfold Ordered; decide +kernel

/-- Channel 1 on server 1, in a state, with an event to join. -/
def joining (x : ChannelState) (l : List Event) : State :=
  ((served [1]).modCh 1 (channel x .protected_)).modSchedule 1 fun y => { y with live := some l, state := .current }
/-- A cue of channel 1. -/
def cue (kind : CueKind) (x : CueStatus) (position : Nat) : Cue :=
  { number := some 9, kind := kind, server := 1, player := 0, event := live 7 100 100, offset := 0
    materialPosition := none, playLength := 100, switchPosition := position, used := 0, limit := 3, status := x }
/-- Channel 1 on server 1 with a pending and a playing cue. -/
def cued (x : ChannelState) (next playing : Option Cue) : State := (joining x two).modCue 1 fun y => { y with pendingCue := next, playing := playing }

theorem witness_JoinRequests :
    let s := joining .cueing [live 7 100 100]
    let unlinked : State := { s with ports := { s.ports with links := Vector.replicate 8 false } }
    (1 ≤ (s.ch 1).settings.cueAttempts ∧ (s.ch 1).cue.recordLink = false ∧ (s.ch 1).cue.pendingCue = none ∧
      (chooseJoin ((s.ch 1).schedule.live.getD []) s.time.h (s.ch 1).settings.lead (s.delay 1) (s.ch 1).settings.joinMargin).cued = some (live 7 100 100, 46, 150) ∧
      (s.settings.servers[(s.ch 1).settings.server.val]).mapped = true ∧ s.linkUp (.standby s.settings.servers[(s.ch 1).settings.server.val].port) = true) ∧
      unlinked.linkUp (.standby unlinked.settings.servers[(unlinked.ch 1).settings.server.val].port) ≠ true ∧
      ((cued .cueing (some (cue .join .sent 150)) none).ch 1).cue.pendingCue = some (cue .join .sent 150) ∧
      (∀ x ∈ [ChannelState.cueing, .fill, .standby], ((joining x []).ch 1).control.state = x ∧ ((joining x []).ch 1).cue.pendingCue = none ∧
        (chooseJoin (((joining x []).ch 1).schedule.live.getD []) (joining x []).time.h ((joining x []).ch 1).settings.lead ((joining x []).delay 1)
          ((joining x []).ch 1).settings.joinMargin).cued = none) := by decide +kernel

/-- An answer of server 1. -/
def answer : ControlRx := { con 255 with sender := 0x11 }

theorem witness_ServerAnswers :
    let concerns (s : State) (c : Chan) : Prop :=
      s.inService c = true ∧ (sentTo (s.ch c).cue.pendingCue (1 : Fin 8).val 0 = true ∨ sentTo (s.ch c).cue.playing (1 : Fin 8).val 0 = true)
    let alone (s : State) : Prop := FromServer s answer 1 ∧ concerns s 1 ∧ ∀ c, concerns s c → c = 1
    (FromServer (served [1]) answer 1 ∧ ∀ c, ¬concerns (served [1]) c) ∧
      (∀ x ∈ [CueStatus.sent, .ready, .failed], let s := cued .cueing (some (cue .join x 150)) none
        alone s ∧ (s.ch 1).cue.pendingCue = some (cue .join x 150) ∧ (cue .join x 150).number = some 9 ∧ (cue .join x 150).number ≠ some 8) ∧
      (let s := cued .standby none (some (cue .join .ready 90))
      alone s ∧ (s.ch 1).cue.pendingCue = none ∧ (s.ch 1).cue.playing = some (cue .join .ready 90)) := by
  unfold FromServer; decide +kernel

/-- The same channel with its cue work due. -/
def cueDue (s : State) : State := s.modWork 1 fun w => { w with cue := true }

theorem witness_JoinsAtTheirSwitchPosition :
    (linked.ch 1).work.cue = false ∧
      (∀ x ∈ [ChannelState.cueing, .fill], ∀ status ∈ [CueStatus.sent, .ready], ∀ n ∈ [100, 99], let s := cueDue (cued x (some (cue .join status n)) none)
        (s.ch 1).work.cue = true ∧ (s.ch 1).cue.pendingCue = some (cue .join status n) ∧ s.signed n s.time.h ≤ 0 ∧ (s.ch 1).control.state = x) := by decide +kernel

theorem witness_JoinsAtTheirSwitchPosition_playing :
    ∀ x ∈ [ChannelState.cueing, .fill, .standby, .returnGuard, .returning], ∀ n ∈ [100, 99],
      ∀ playing ∈ [none, some (cue .join .ready 90), some { cue .join .ready 90 with player := 2 }, some { cue .join .ready 90 with server := 2 }],
        let s := cueDue (cued x (some (cue .join .ready n)) playing)
        (s.ch 1).work.cue = true ∧ (s.ch 1).cue.pendingCue = some (cue .join .ready n) ∧ s.signed n s.time.h ≤ 0 ∧ (s.ch 1).control.state = x ∧ x ≠ .main ∧
          x ≠ .outOfService ∧ (s.ch 1).cue.playing = playing ∧ s.reach 1 = some (.standby 2) ∧ s.reach 2 = none := by decide +kernel

/-- R128, R159: a join that switches in STANDBY stops a playing cue of another player, replaces one of the same without STOP, and leaves the state. -/
theorem test_join_switch_in_standby :
    let run (player : Fin 4) := after (.joinSwitch 1) (cueDue (cued .standby (some (cue .join .ready 100)) (some { cue .join .ready 90 with player := player })))
    (∀ p ∈ [(0 : Fin 4), 2], ((run p).ch 1).control.state = .standby ∧ ((run p).ch 1).cue.playing = some (cue .join .ready 100) ∧ (run p).counter (.chan 1 .switches) = 1) ∧
      (run 0).outbox.map Sent.what = [] ∧ (run 2).outbox.map Sent.what = [.stop 2 9] := by decide +kernel

/-- Channel 1 in a state whose playing cue ends at 200, at a position, with a list. -/
def playingOut (x : ChannelState) (h : Nat) (l : List Event) : State :=
  let s := (cueDue (cued x none (some (cue .join .ready 104)))).modSchedule 1 fun y => { y with live := some l }
  { s with time := { s.time with h := h } }

theorem witness_FollowOns :
    (linked.ch 1).work.cue = false ∧
      (∀ x ∈ [ChannelState.standby, .returnGuard, .returning], ∀ status ∈ [CueStatus.sent, .ready, .failed], let s := cueDue (cued x (some (cue .followOn status 100)) none)
        (s.ch 1).work.cue = true ∧ (s.ch 1).cue.pendingCue = some (cue .followOn status 100) ∧ s.signed 100 s.time.h ≤ 0 ∧ (s.ch 1).control.state = x) ∧
      (∀ x ∈ [ChannelState.standby, .returnGuard],
        (let s := playingOut x 204 [live 7 100 100]
        (s.ch 1).work.cue = true ∧ (s.ch 1).cue.pendingCue = none ∧ (s.ch 1).cue.playing = some (cue .join .ready 104) ∧ (s.ch 1).control.state = x ∧
          (((s.ch 1).schedule.live.getD []).find? fun e => (cue .join .ready 104).playingEnd ≤ e.start && s.time.h < e.start + s.delay 1) = none ∧
          s.signed ((cue .join .ready 104).playingEnd + s.delay 1 : Nat) s.time.h ≤ 0) ∧
        (let s := playingOut x 254 two
        (s.ch 1).work.cue = true ∧ (s.ch 1).cue.pendingCue = none ∧ (s.ch 1).cue.playing = some (cue .join .ready 104) ∧
          (((s.ch 1).schedule.live.getD []).find? fun e => (cue .join .ready 104).playingEnd ≤ e.start && s.time.h < e.start + s.delay 1) = some (live 8 300 100) ∧
          s.signed ((300 + s.delay 1 : Nat) - ((s.ch 1).settings.lead : Int)) s.time.h ≤ 0 ∧ (s.settings.servers[(s.ch 1).settings.server.val]).mapped = true ∧
          s.linkUp (.standby s.settings.servers[(s.ch 1).settings.server.val].port) = true)) := by decide +kernel

theorem witness_SiteLostAndRestored_calledOff :
    (∀ x ∈ [ChannelState.returnGuard, .returning],
      (let s := returningTo x .standby (cued x (some (cue .followOn .sent 150)) none)
      Whole s .console (con 255) ∧ s.site.state ≠ .lost ∧ (s.ch 1).control.returnOrigin = some .standby ∧ (s.ch 1).cue.pendingCue ≠ none) ∧
      (let s := (returningTo x .standby (playingOut x 254 two)).modWork 1 fun w => { w with cue := false }
      Whole s .console (con 255) ∧ s.site.state ≠ .lost ∧ (s.ch 1).control.returnOrigin = some .standby ∧ (s.ch 1).cue.pendingCue = none ∧
        (s.ch 1).cue.playing = some (cue .join .ready 104) ∧
        (((s.ch 1).schedule.live.getD []).find? fun e => (cue .join .ready 104).playingEnd ≤ e.start && s.time.h < e.start + s.delay 1) = some (live 8 300 100) ∧
        s.signed ((300 + s.delay 1 : Nat) - ((s.ch 1).settings.lead : Int)) s.time.h ≤ 0 ∧ s.settings.servers[(s.ch 1).settings.server.val].mapped = true ∧
        s.linkUp (.standby s.settings.servers[(s.ch 1).settings.server.val].port) = true) ∧
      (let s := returningTo x .fill (joining x two)
      Whole s .console (con 255) ∧ s.site.state ≠ .lost ∧ (s.ch 1).control.returnOrigin = some .fill ∧ (s.ch 1).control.state = x)) := by
  unfold Whole Heard; decide +kernel

/-- Channel 1 in a state with its control work due. -/
def controlDue (x : ChannelState) : State :=
  ctl ((inState x).modWork 1 fun w => { w with control := true }) fun y => { y with guard := some 250, returnOrigin := some .fill, returnPosition := some 0 }

theorem witness_GuardExpiryAndArrival :
    (linked.ch 1).work.control = false ∧
      (∀ x ∈ [ChannelState.returnGuard, .returning], ((controlDue x).ch 1).work.control = true ∧ ((controlDue x).ch 1).control.state = x ∧
        ((controlDue x).ch 1).control.returnOrigin = some .fill) := by decide +kernel

/-! ## Witnesses: output and management -/

/-- Channel 1 delivering from a state, with a held frame offered on both paths. -/
def emitting (x : ChannelState) (offer : Offer) : State :=
  ((inState x).modAlign 1 fun y => { y with mainHeld := some (frame 96), standbyHeld := some (frame 100), mainOffer := offer, standbyOffer := offer })

theorem witness_FramesAreAssembled :
    (linked.ch 3).output.delivered = .outOfService ∧
      (∀ x ∈ [ChannelState.main, .cueing, .fill, .standby, .returnGuard, .returning], ∀ offer ∈ [Offer.fresh, .held, .none],
        ((emitting x offer).ch 1).output.delivered ≠ .outOfService ∧ ((emitting x offer).ch 1).output.lastCategory = none ∧
          ((emitting x offer).ch 1).settings.rampEnable = true ∧ ((emitting x offer).ch 1).output.ramp = .idle) ∧
      (let s := (emitting .main .fresh).modOutput 1 fun y => { y with lastCategory := some .main }
      ¬((s.ch 1).output.lastCategory ≠ some (categoryOf .main) ∧ (s.ch 1).settings.rampEnable = true) ∧ (s.ch 1).output.ramp = .idle) := by decide +kernel

/-- Channels 1 and 2 with a frame waiting. -/
def waiting : State := ((inState .main).modOutput 1 fun y => { y with waiting := some outFrame }).modOutput 2 fun y => { y with waiting := some outFrame }
/-- The same part with channel 3's frame being sent. -/
def busy : State := waiting.modOutput 3 fun y => { y with sending := some outFrame }
/-- Channel 1 with a ramp step due. -/
def ramping (step : Nat) : State := ((inState .main).modOutput 1 fun y => { y with ramp := .running step 1 }).modWork 1 fun w => { w with ramp := true }

theorem witness_FramesAreSentAndRampsAdvance :
    (waiting.assembled = true ∧ waiting.pending = [] ∧ (∀ c, (waiting.ch c).output.sending = none) ∧ ∃ c, (waiting.ch c).output.waiting ≠ none) ∧
      (linked.assembled = true ∧ ∀ c, (linked.ch c).output.waiting = none ∧ (linked.ch c).output.sending = none) ∧
      (∀ s ∈ [waiting, busy], s.assembled = true ∧ (s.ch 1).output.waiting = some outFrame ∧ (s.ch 0).output.waiting = none ∧ ∀ c' : Chan, c'.val < 1 → c' = 0) ∧
      (linked.ch 1).work.ramp = false ∧ (∀ n ∈ [1, 6, 7], ((ramping n).ch 1).work.ramp = true ∧ ((ramping n).ch 1).output.ramp = .running n 1) ∧
      (∀ x ∈ [(-8388608 : Int), -1, 0, 8388607], -8388608 ≤ x ∧ x < 8388608 ∧ ∃ a b d, sampleBytes x = [a, b, d]) := by
  refine ⟨by decide +kernel, by decide +kernel, by decide +kernel, by decide +kernel, by decide +kernel, ?_⟩
  intro x h
  simp only [List.mem_cons, List.not_mem_nil, or_false] at h
  obtain rfl | rfl | rfl | rfl := h <;> exact ⟨by decide, by decide, _, _, _, rfl⟩

/-- The linked part with channel 3's frame being sent and none waiting. -/
def lastSent : State := (inState .main).modOutput 3 fun y => { y with sending := some outFrame }

theorem witness_FramesAreSentAndRampsAdvance_payloads :
    (lastSent.assembled = true ∧ ∀ c, (lastSent.ch c).output.waiting = none) ∧
      (let payload : List Byte := [0, 1, 0, 0x80, 0, 0, 7]
      payload.length / 3 = 2 ∧ (payload.drop (3 * 0)).take 3 = [0, 1, 0] ∧ (payload.drop (3 * 1)).take 3 = [0x80, 0, 0]) := by decide +kernel

/-- R183: at 8 sixteenths two samples of a payload are halved and its part-sample is left; FRAME_SEND ends a sending with no frame waiting. -/
theorem test_payload_scaled_and_sending_ended :
    scalePayload 8 [0, 1, 0, 0x80, 0, 0, 7] = [0, 0, 0x80, 0xC0, 0, 0, 7] ∧ ((after .frameSend lastSent).ch 3).output.sending = none := by decide +kernel

theorem witness_SelectSubscribeAndClearCounters :
    (Whole linked .mainSite (auto 255) ∧ Whole linked .console (con 255)) ∧ (∀ n ∈ [0, 15], n < 16) ∧ (∃ n ∈ [15, 16], 16 ≤ n) ∧
      (∀ code ∈ [0, 1], ∃ o : Origin, code = match o with | .mainSite => 0 | .console => 1) ∧ 2 ≤ (2 : Nat) ∧ ∃ p ∈ [((7 : Nat), (3 : Nat)), (8, 0)], 8 ≤ p.1 := by
  unfold Whole Heard
  refine ⟨by decide +kernel, by decide, by decide, ?_, by decide, by decide⟩
  intro code h
  simp only [List.mem_cons, List.not_mem_nil, or_false] at h
  obtain rfl | rfl := h
  · exact ⟨.mainSite, rfl⟩
  · exact ⟨.console, rfl⟩

/-- The console's context with a window, a sticky error and a walk. -/
def context (s : State) (table : Table) (page offset : Nat) (error : Option StickyError) (w : Option Walk) : State :=
  s.modCtx .console fun x => { x with window := { table := table, page := page, offset := offset, auto := true }, sticky := error, walk := w }
/-- A sticky error. -/
def stuck : StickyError := { code := .badOffset, request := 1, offset := 4 }
/-- A walk of channel 1's list for two entries, at a cursor. -/
def walking (cursor : Option Nat) : Walk :=
  { table := .schedule, page := 1, count := 2, clamped := false, request := 6, port := .standby 2, channel := 255, gathered := [], cursor := cursor }

theorem witness_WindowsReadsAndWalks_requests :
    (Heard linked .console (con 255) ∧ (con 255).group = false ∧ linked.mgmt.console.walk = none ∧ linked.mgmt.console.sticky = none) ∧
      (tableOf 11 ≠ none ∧ tableOf 12 = none ∧ tableOf 9 = some .site ∧ linked.hasPage .site 0 = false ∧ linked.hasPage .site 255 = true) ∧
      (let s := context linked .status 255 0 (some stuck) none
      Heard s .console (con 255) ∧ s.mgmt.console.walk = none ∧ s.mgmt.console.sticky = some stuck) ∧
      (∀ f ∈ [((0 : Nat), (16 : Nat)), (0, 1)], let s := context linked .channel 1 f.1 none none
        Heard s .console (con 255) ∧ s.mgmt.console.walk = none ∧ s.mgmt.console.sticky = none ∧ s.mgmt.console.window.table.walked = false ∧
          s.mgmt.console.window.table ≠ .edges ∧ ∃ l, (s.heard (con 255)).page s.mgmt.console.window.table s.mgmt.console.window.page = some l ∧
            f.1 + f.2 ≤ l.length ∧ l.length < 16 + f.2) ∧
      (let s := context linked .schedule 1 0 none (some (walking none))
      Heard s .console (con 255) ∧ s.mgmt.console.walk = some (walking none)) := by
  unfold Heard
  refine ⟨by decide +kernel, by decide +kernel, by decide +kernel, ?_, by decide +kernel⟩
  intro f h
  simp only [List.mem_cons, List.not_mem_nil, or_false] at h
  obtain rfl | rfl := h <;> exact ⟨by decide +kernel, by decide +kernel, by decide +kernel, by decide +kernel, by decide +kernel, _, rfl, by decide +kernel⟩

theorem witness_WindowsReadsAndWalks_walks :
    (let s := context (listed .current 0 two) .schedule 1 0 none none
    Heard s .console (con 255) ∧ s.mgmt.console.walk = none ∧ s.mgmt.console.sticky = none ∧ s.mgmt.console.window.table = .schedule) ∧
      (linked.settled = true ∧ linked.mgmt.console.walk = none) ∧
      (∀ offset ∈ [0, 1, 2], ∀ cursor ∈ [none, some 0, some 100, some 300], let s := context (listed .current 0 two) .schedule 1 offset none (some (walking cursor))
        s.settled = true ∧ s.mgmt.console.walk = some (walking cursor) ∧ (walking cursor).page = (1 : Chan).val ∧ (s.ch 1).schedule.live.getD [] = two) ∧
      (two[1]? = some (live 8 300 100) ∧ 100 < (live 8 300 100).start ∧ (∀ j y, j < 1 → two[j]? = some y → y.start ≤ 100) ∧ (∀ y ∈ two, y.start ≤ 300) ∧ two.length ≤ 2) := by
  unfold Heard
  refine ⟨by decide +kernel, by decide +kernel, by decide +kernel, by decide +kernel, by decide, ?_, by decide, by decide⟩
  intro j y h
  obtain rfl : j = 0 := by omega
  intro e
  cases e
  decide

theorem witness_WritesAndHouseRate :
    (let s := context linked .channel 1 0 (some stuck) none
    Heard s .console (con 255) ∧ s.mgmt.console.walk = none ∧ s.mgmt.console.sticky = some stuck) ∧
      (∀ i ∈ List.range 17, let s := context linked .channel 1 i none none
        Heard s .console (con 255) ∧ s.mgmt.console.walk = none ∧ s.mgmt.console.sticky = none ∧ s.mgmt.console.window.page = (1 : Chan).val ∧ s.mgmt.console.window.offset = i) ∧
      (∃ i k, i < 16 ∧ chanSettings[i]? = some k ∧ ∃ width lo hi, k.kind = .number width lo hi) ∧
      (∃ i k, i < 16 ∧ chanSettings[i]? = some k ∧ k ≠ .serviceMode ∧ ∃ n, k.kind = .enum n) ∧
      (let s := context linked .status 255 0 none none
      Heard s .console (con 255) ∧ s.mgmt.console.window.table.writable = false) ∧
      (let s := context (inState .main) .site 255 0 none none
      Heard s .console (con 255) ∧ s.mgmt.console.walk = none ∧ s.mgmt.console.sticky = none ∧ (s.ch 1).control.mode ≠ .outOfService) ∧
      (let s := context linked .site 255 0 none none
      Heard s .console (con 255) ∧ s.mgmt.console.walk = none ∧ s.mgmt.console.sticky = none ∧ (∀ c, (s.ch c).control.mode = .outOfService) ∧
        [Rate.fr25, .fr30d, .fr50, .fr60d][3]? = some .fr60d ∧ Rate.fr60d ≠ s.time.rate) ∧
      (clocked .fr60d 339398885375 .locked).time.h < (clocked .fr60d 339398885375 .locked).cycle := by
  unfold Heard
  refine ⟨by decide +kernel, by decide +kernel, ⟨1, _, by decide, rfl, _, _, _, rfl⟩, ⟨4, _, by decide, rfl, by decide, _, rfl⟩, by decide +kernel, by decide +kernel, by decide +kernel, by decide +kernel⟩

/-- The linked part with a warm restart in progress. -/
def restarting : State := { linked with mgmt := { linked.mgmt with restarting := some { port := .standby 2, request := 6 } } }

theorem witness_WarmRestarts :
    (Whole (inState .main) .console (con 255) ∧ (inState .main).inService 0 = false) ∧
      (restarting.settled = true ∧ restarting.loading = false ∧ restarting.mgmt.restarting = some { port := .standby 2, request := 6 } ∧ (con 255).stamp < restarting.cycle ∧
        fromOrigin .console (con 255) = true ∧ requestOf (.read (con 255) 1) = some (con 255) ∧ requestOf (.take (con 255)) = some (con 255)) ∧
      linked.work.warmEnd = false ∧
      (let s := { restarting with work := { restarting.work with warmEnd := true } }
      s.work.warmEnd = true ∧ s.mgmt.restarting = some { port := .standby 2, request := 6 }) := by
  unfold Whole Heard; decide +kernel

/-- Channel 1 on the main path, its BLACK detector with a bad run, SUSPECT. -/
def suspected (enabled : Bool) (settleFrames : Nat) : State :=
  ((inState .main).modMonitor 1 fun m =>
    { m with verdict := .suspect, detectors := vmod m.detectors (detectorIndex .black) fun _ => { still .clear with bad := 2 } }).modSettings 1 fun y =>
    { y with detectors := vmod y.detectors (detectorIndex .black) fun d => { d with enabled := enabled, policy := .alarm, settleFrames := settleFrames } }
/-- A save in flight whose REPLY is owed or not. -/
def savingWith (reply : Option ReplyTo) (s : State) : State := { s with mgmt := { s.mgmt with save := some { image := linked.imageOf, reply := reply } } }

theorem witness_WarmRestarts_channels :
    (∀ enabled ∈ [true, false], ∀ n ∈ [0, 65535], let s := suspected enabled n
      Whole s .console (con 255) ∧ s.inService 1 = true ∧ (s.ch 1).settings.detectors[(detectorIndex .black).val].enabled = enabled ∧
        (s.ch 1).settings.detectors[(detectorIndex .black).val].settleFrames = n) ∧
      ((suspected true 0).ch 1).monitor.verdict = ((suspected true 0).ch 1).evaluate ∧
      (Whole (savingWith (some { port := .standby 1, request := 6 }) linked) .console (con 255)) ∧
      (let s := savingWith none linked
      s.settled = true ∧ s.mgmt.save = some { image := linked.imageOf, reply := none }) ∧
      ∀ c, ((after (.warmRestart (con 255)) (suspected true 3)).ch c).monitor.verdict ≠ .failed := by
  unfold Whole Heard
  exact ⟨by decide +kernel, by decide +kernel, by decide +kernel, ⟨by decide +kernel, rfl⟩, by decide +kernel⟩
/-- R79, R71: a bad run is lost at a warm restart, and the verdict that rested on it becomes HEALTHY, counted once. -/
theorem test_restart_monitor :
    let t := after (.warmRestart (con 255)) (suspected true 3)
    (t.ch 1).monitor.verdict = .healthy ∧ t.counter (.chan 1 .verdictChanges) = 1 ∧ (t.ch 1).detState .black = { still .settling with settle := 3 } := by decide +kernel
/-- R203: the queues are emptied, and a save in flight owes no REPLY. -/
theorem test_restart_queue_and_save :
    let t := after (.warmRestart (con 255)) (savingWith (some { port := .standby 1, request := 6 })
      (linked.modCtx .console fun x => { x with queue := [{ sequence := 4, position := 0, report := .reference .unreferenced .locked 0 none }], nextSequence := 5 }))
    ((t.ctx .console).queue, (t.ctx .console).nextSequence, t.mgmt.save.map Save.reply) = ([], 0, some none) := by decide +kernel

/-- The console's context with a level for site reports and a queue of some length. -/
def reporting (level n : Nat) : State :=
  linked.modCtx .console fun x =>
    { x with levels := Vector.replicate 8 level, queue := List.replicate n { sequence := 0, position := 0, report := .reference .unreferenced .locked 0 none } }

theorem witness_ReportsAreQueuedAndSent :
    let r := Report.reference .unreferenced .locked 0 none
    (((reporting 0 0).ctx .console).levels[(reportKind r).val] = 0) ∧
      (∀ f ∈ [((1 : Nat), (7 : Nat)), (2, 23), (3, 31)], let x := (reporting f.1 f.2).ctx .console
        x.levels[(reportKind r).val] ≠ 0 ∧ x.queue.length < (if x.levels[(reportKind r).val] = 1 then 8 else if x.levels[(reportKind r).val] = 2 then 24 else 32)) ∧
      (∀ f ∈ [((1 : Nat), (8 : Nat)), (2, 24), (3, 32)], let x := (reporting f.1 f.2).ctx .console
        x.levels[(reportKind r).val] ≠ 0 ∧ (if x.levels[(reportKind r).val] = 1 then 8 else if x.levels[(reportKind r).val] = 2 then 24 else 32) ≤ x.queue.length) ∧
      linked.work.report = false ∧
      (let s := { reporting 2 3 with work := { linked.work with report := true }, mgmt := { (reporting 2 3).mgmt with consolePort := some 2 } }
      s.work.report = true ∧ s.reachable .console = true ∧ (s.ctx .console).queue ≠ []) := by decide +kernel

/-- A control carrier by its bytes, with the body length that its envelope names. -/
def bytes (rx : ControlRx) (code named : Nat) (body : List Byte) : RawControl :=
  { port := rx.port, stamp := rx.stamp, channel := rx.channel, payload := controlEnvelope rx code named ++ body, time := 0 }

theorem witness_BadAndMisdirectedCarriers_origins :
    (Heard linked .mainSite (auto 255) ∧ Heard linked .console (con 255) ∧ (con 255).request < 65536 ∧ ([] : List Byte).length ≤ 1400) ∧
      (∀ code ∈ [0, 0x02, 0x0F, 0x15, 0x17, 0x1B, 0x1F, 0x2B, 0x2F, 0x32, 0x37, 0x3B, 0x3F, 0x49, 0x4F, 0x52, 0x5F, 0x67, 0xFF], code < 256 ∧ code ∉ controlCodes) ∧
      (∀ code ∈ [0x50, 0x51, 0x60, 0x66], code < 256 ∧ code ∈ controlCodes ∧ 0x50 ≤ code) ∧
      (bytes (con 255) 0x40 2 [0, 1]).payload = controlEnvelope (con 255) 0x40 2 ++ [0, 1] := by
  unfold Heard; decide +kernel

theorem witness_BadAndMisdirectedCarriers_lengths :
    (∀ f ∈ [((0x01 : Nat), ([1] : List Byte)), (0x12, [0, 1, 2, 3, 4, 5, 6]), (0x10, List.replicate 20 0), (0x19, [])],
      f.1 < 256 ∧ f.1 ∈ controlCodes ∧ f.1 < 0x50 ∧ notAnswered f.1 ∧ ∃ n, bodyLength f.1 f.2 = some n ∧ n ≠ f.2.length) ∧
      (∀ f ∈ [((0x21 : Nat), ([1] : List Byte)), (0x40, [1]), (0x30, [1]), (0x30, [0, 5]), (0x43, [1, 0, 0]), (0x45, [0, 1])],
        f.1 < 256 ∧ f.1 ∈ controlCodes ∧ f.1 < 0x50 ∧ ¬notAnswered f.1 ∧ ∃ n, bodyLength f.1 f.2 = some n ∧ n ≠ f.2.length) ∧
      (3 : Nat) ≠ ([0, 1] : List Byte).length ∧
      (FromServer (served [1]) answer 1 ∧ answer.request < 65536 ∧ (0x4F : Nat) ≠ 0x50 ∧ (0x52 : Nat) ≠ 0x51 ∧ bodyLength 0x50 [1] = some 2 ∧ 2 ≠ ([1] : List Byte).length) := by
  have h : ∀ f ∈ [((0x01 : Nat), ([1] : List Byte)), (0x12, [0, 1, 2, 3, 4, 5, 6]), (0x10, List.replicate 20 0), (0x19, [])],
      f.1 < 256 ∧ f.1 ∈ controlCodes ∧ f.1 < 0x50 ∧ notAnswered f.1 ∧ (bodyLength f.1 f.2).isSome = true ∧ bodyLength f.1 f.2 ≠ some f.2.length := by
    unfold notAnswered; decide +kernel
  have k : ∀ f ∈ [((0x21 : Nat), ([1] : List Byte)), (0x40, [1]), (0x30, [1]), (0x30, [0, 5]), (0x43, [1, 0, 0]), (0x45, [0, 1])],
      f.1 < 256 ∧ f.1 ∈ controlCodes ∧ f.1 < 0x50 ∧ ¬notAnswered f.1 ∧ (bodyLength f.1 f.2).isSome = true ∧ bodyLength f.1 f.2 ≠ some f.2.length := by
    unfold notAnswered; decide +kernel
  have wrong : ∀ f : Nat × List Byte, (bodyLength f.1 f.2).isSome = true → bodyLength f.1 f.2 ≠ some f.2.length → ∃ n, bodyLength f.1 f.2 = some n ∧ n ≠ f.2.length := by
    intro f h1 h2
    obtain ⟨n, hn⟩ := Option.isSome_iff_exists.1 h1
    exact ⟨n, hn, fun e => h2 (by rw [hn, e])⟩
  refine ⟨fun f hf => ?_, fun f hf => ?_, by decide, ?_⟩
  · obtain ⟨a, b, c, d, e, g⟩ := h f hf; exact ⟨a, b, c, d, wrong f e g⟩
  · obtain ⟨a, b, c, d, e, g⟩ := k f hf; exact ⟨a, b, c, d, wrong f e g⟩
  · unfold FromServer; decide +kernel

theorem witness_BadAndMisdirectedCarriers_senders :
    (∀ rx ∈ [{ con 1 with sender := 1 }, { con 1 with sender := 0x11 }, { con 1 with sender := 0x18 }, { auto 1 with sender := 2 }, { auto 1 with sender := 0 }],
      Running linked ∧ rx.stamp < linked.cycle ∧ (rx.channel < 16 ∨ rx.channel = 255) ∧ (∀ side, rx.port ≠ .output side) ∧ (∀ o, fromOrigin o rx = false) ∧ rx.sender < 256) ∧
      (∀ server : Fin 8, linked.settings.servers[server.val].mapped = false) ∧ controlForm (.take { con 1 with sender := 1 }) = some ({ con 1 with sender := 1 }, 0x21, []) := by
  have h : ∀ rx ∈ [{ con 1 with sender := 1 }, { con 1 with sender := 0x11 }, { con 1 with sender := 0x18 }, { auto 1 with sender := 2 }, { auto 1 with sender := 0 }],
      Running linked ∧ rx.stamp < linked.cycle ∧ (rx.channel < 16 ∨ rx.channel = 255) ∧ (∀ side ∈ [Side.a, .b], rx.port ≠ .output side) ∧
        (∀ o ∈ [Origin.mainSite, .console], fromOrigin o rx = false) ∧ rx.sender < 256 := by unfold Running; decide +kernel
  refine ⟨fun rx hr => ?_, by decide +kernel, rfl⟩
  obtain ⟨a, b, c, d, e, f⟩ := h rx hr
  exact ⟨a, b, c, fun side => by cases side <;> exact d _ (by decide), fun o => by cases o <;> exact e _ (by decide), f⟩

/-- Channel 1 in MAIN whose BLACK detector has a policy and a run. -/
def running (policy : Policy) (x : DetectorState) : State :=
  ((inState .main).modMonitor 1 fun m => { m with detectors := vmod m.detectors (detectorIndex .black) fun _ => x }).modSettings 1 fun y =>
    { y with detectors := vmod y.detectors (detectorIndex .black) fun d => { d with policy := policy, assertCount := 3, clearCount := 2 } }
/-- The console at an EDGES or RECORDS page of channel 1, whose ring holds records 5 and 6. -/
def reading (table : Table) (offset : Nat) (w : Option Walk) : State :=
  context
    ((inState .main).modControl 1 fun y =>
      { y with
        ring := [5, 6].map fun q =>
          { sequence := q, causes := [.site], asserted := [], origin := none, decision := 0, replication := .empty, event := none, switchPosition := none
            outcome := .fillOnly, returnPosition := none } })
    table 1 offset none w

theorem witness_EdgesAndRecordWalks :
    (∀ policy ∈ [Policy.alarm, .ignore], let s := running policy { still .clear with bad := 2 }
      let cfg := (s.ch 1).settings.detectors[(detectorIndex .black).val]
      cfg.enabled = true ∧ cfg.policy = policy ∧ ((s.ch 1).detState .black).phase = .clear ∧ cfg.assertCount ≤ ((s.ch 1).detState .black).bad + 1 ∧
        classify .black cfg (s.ch 1).settings.pairSet (s.ch 1).monitor.reference (.complete 5 { content with luma := 0 } none) = .bad) ∧
      (let s := running .alarm { still .asserted with good := 1 }
      let cfg := (s.ch 1).settings.detectors[(detectorIndex .black).val]
      ((s.ch 1).detState .black).phase = .asserted ∧ cfg.clearCount ≤ ((s.ch 1).detState .black).good + 1 ∧
        classify .black cfg (s.ch 1).settings.pairSet (s.ch 1).monitor.reference (.complete 5 content none) = .good) ∧
      (∀ table ∈ [Table.edges, .records], ∀ offset ∈ [0, 7, 8], let s := reading table offset none
        Heard s .console (con 255) ∧ (con 255).group = false ∧ s.mgmt.console.walk = none ∧ s.mgmt.console.sticky = none ∧ s.mgmt.console.window.table = table ∧
          s.mgmt.console.window.page = (1 : Chan).val ∧ s.mgmt.console.window.offset = offset) ∧
      (∀ cursor ∈ [none, some 4, some 5, some 6], ∀ offset ∈ [0, 1, 2], let w : Walk := { walking cursor with table := .records }
        let s := reading .records offset (some w)
        s.settled = true ∧ s.mgmt.console.walk = some w ∧ w.page = (1 : Chan).val ∧ (s.ch 1).control.ring.map TakeoverRecord.sequence = [5, 6]) ∧
      (1 ≤ ((6 : Int) - 5) % 65536 ∧ ((6 : Int) - 5) % 65536 < 32768 ∧ ¬1 ≤ ((5 : Int) - 5) % 65536 ∧ ¬((5 : Int) - 6) % 65536 < 32768 ∧
        ¬1 ≤ ((6 : Int) - 6) % 65536) := by
  unfold Heard; decide +kernel

theorem witness_EdgesAndRecordWalks_clamped :
    (∀ count ∈ [0, 17, 255], count < 1 ∨ 16 < count) ∧ (∀ count ∈ [1, 16], ¬(count < 1 ∨ 16 < count)) ∧
      (∀ table ∈ [Table.schedule, .records, .edges, .channel], ∀ offset ∈ [0, 7, 8], let s := reading table offset none
        Heard s .console (con 255) ∧ (con 255).group = false ∧ s.mgmt.console.walk = none ∧ s.mgmt.console.sticky = none ∧ s.mgmt.console.window.table = table ∧
          s.mgmt.console.window.page = (1 : Chan).val ∧ s.mgmt.console.window.offset = offset) ∧
      (∀ table ∈ [Table.edges, .channel], ∃ entries, (reading table 0 none).page table 1 = some entries ∧ 8 ≤ entries.length ∧ entries.length < 8 + 16) ∧
      ∃ entries, (reading .counters 0 none).page .counters 1 = some entries ∧ 0 + 16 ≤ entries.length := by
  unfold Heard
  refine ⟨by decide, by decide, by decide +kernel, ?_, ⟨_, rfl, by decide +kernel⟩⟩
  intro table h
  simp only [List.mem_cons, List.not_mem_nil, or_false] at h
  obtain rfl | rfl := h <;> exact ⟨_, rfl, by decide +kernel⟩
/-- R193: a READ of no entries on EDGES is taken as one of one entry, with CLAMPED in its REPLY. -/
theorem test_read_clamped :
    (after (.read (con 255) 0) (reading .edges 7 none)).outbox.getLast?.map (fun x => match x.what with
      | .reply r => (r.clamped, r.contents.head?)
      | _ => (false, none)) = some (true, some (.num 1 1)) := by decide +kernel

/-! ## More of one step -/

theorem witness_WindowsReadsAndWalks_status : 16 ≤ (16 : Nat) ∧ (16 : Nat) ≠ 255 ∧ 16 ≤ (254 : Nat) ∧ (254 : Nat) ≠ 255 := by decide

/-- R18, R39, R57, R77, R91, R118, R144, R148, R171, R186, R205: the items of a channel's STATUS page and of page 255, counted from those rules. -/
theorem test_status_lengths :
    ((inState .standby).page .status 1).map List.length = some ((16 + 1 + 5 + 4) + (2 + 4) + 6 + 17 + 5 + 5) ∧
      (linked.page .status 255).map List.length = some (5 + (8 + 2 + 8) + 5 + 1 + 2 * 5 + 3 + 2 * 6 + 1) := by decide +kernel

/-- R126, R147, Table 11-5: a takeover started report carries its sequence as a plain number of 2 bytes after its kind and position. -/
theorem test_takeover_report_sequence :
    (QueuedReport.body { sequence := 0, position := 4, report := .takeoverStarted 1 258 .detector [.arrival] none 4 .current .fill }).flatMap Atom.bytes =
      [1, 0, 0, 0, 0, 0, 4, 1, 2, 0, 1, 0, 0, 0, 0, 0, 0, 4, 1, 3] := by decide +kernel

/-- R17: a refused rate write is answered IN_SERVICE whichever other entries were carried. -/
theorem test_in_service : lastResult (after (.write (con 255) (List.replicate 16 1) 0) (context (inState .main) .site 255 0 none none)) = some .inService := by decide +kernel
/-- The contents of the last REPLY sent. -/
def lastContents (s : State) : List Atom :=
  match s.outbox.getLast? with
  | some { what := .reply r, .. } => r.contents
  | _ => []
/-- R191, R195: the code that CLEAR_ERROR gives. -/
theorem test_clear_error : lastContents (after (.clearError (con 255)) (context linked .status 255 0 (some stuck) none)) = [.enum 3] ∧
    lastContents (after (.clearError (con 255)) linked) = [.enum 0] := by decide +kernel
/-- R54, R176: a copy that channel 0's release starts shows in channel 1's fill slate from the next boundary. -/
theorem test_slate_at_boundary :
    let s : State := ((({ inState .fill with time := { linked.time with h := 100 } } : State).modCh 0 (channel .main .protected_)).modSlots 0 fun y =>
      y.put .main 97 (.complete (frame 97) 99)).modAlign 0 fun x => { x with mainFloor := 96 }
    let t := after .frameTimerExpiry (s.modSlate 0 fun _ =>
      { state := .filled { video := [[7]], luma := 400, chan := 2, path := .main, position := 9 }
        request := some { chan := 0, path := .main, copying := none, port := .standby 2, request := 6 } })
    t.slates[0].state = .capturing ∧ (t.ch 1).output.lastTag = some .slate ∧ ((after .frameTimerExpiry t).ch 1).output.lastTag = some .slateEmpty := by decide +kernel
/-- R180: on free ports a boundary's first frame is being sent before the next boundary. -/
theorem test_sending_starts : ((after .frameTimerExpiry (after .frameTimerExpiry (inState .main))).ch 1).output.sending.isSome = true ∧
    (after .frameTimerExpiry (after .frameTimerExpiry (inState .main))).counter (.chan 1 .outputOverruns) = 0 := by decide +kernel
/-- R190: a KEEPALIVE flagged GROUP is refused. -/
theorem test_keepalive_grouped : (after (.keepalive { auto 255 with group := true } 3) linked).site.automation = .unknown := by decide +kernel
/-- R134, R151: at site loss a follow-on that is due is cued at once. -/
theorem test_call_off : ((after (.declareSiteLost (con 255)) (returningTo .returning .standby ((playingOut .returning 254 two).modWork 1 fun w =>
    { w with cue := false }))).ch 1).cue.pendingCue.map (fun x => (x.event.id, x.switchPosition)) = some (8, 304) := by decide +kernel
/-- R210: the event start of a CUE is a position. -/
theorem test_cue_start :
    let c := linked.cycle
    let s := (joining .cueing [live 7 (c + 5) 100]).requestJoin 1
    s.outbox.map (fun x => match x.what with | .cue _ _ _ e _ t => (e.start, t) | _ => (0, 0)) = [(5, 9)] := by decide +kernel


/-! ## Witnesses: clauses over more than one family -/

theorem witness_LoadedImageGivesTheSavedSettings_load :
    (State.reset.settled = true ∧ State.reset.loading = true ∧ (∀ c, State.reset.inService c = false)) ∧
      (∀ c : Chan, ∀ det ∈ Detector.all, ((State.reset.ch c).detState det).latched = false) ∧ (∀ det, det ∈ Detector.all) ∧
      (let x := linked.modCh 1 (channel .main .monitor)
      (x.ch 1).control.mode ≠ .outOfService ∧ (x.ch 0).control.mode = .outOfService) ∧
      (∀ det ∈ Detector.all, ((State.reset.ch 1).detCfg det).enabled = true ∧ 1 ≤ ((State.reset.ch 1).detCfg det).settleFrames) := by
  refine ⟨by decide +kernel, by decide +kernel, fun det => by cases det <;> decide, by decide +kernel, by decide +kernel⟩

theorem witness_LoadedImageGivesTheSavedSettings_image : imageFault (some State.reset.imageOf) = none := by
  have h : (imageRefs.flatMap fun r => toBytes r.kind.width (State.reset.getRef r)).length = imageLength := by decide +kernel
  simp [imageFault, State.imageOf, -List.length_flatMap, h]

theorem witness_LoadedImageGivesTheSavedSettings_entries :
    (SettingRef.chan 1 .lead).kind = .number 1 2 250 ∧ (∀ b ∈ [[1], [2], [250], [251]], List.length (α := Byte) b = (SettingRef.chan 1 .lead).kind.width) ∧
      (SettingRef.site .houseRate).kind = .enum 4 ∧ (∀ b ∈ [[3], [4]], List.length (α := Byte) b = (SettingRef.site .houseRate).kind.width) ∧
      (SettingRef.mapped 0).kind = .flag ∧ ∀ b ∈ [[1], [2]], List.length (α := Byte) b = (SettingRef.mapped 0).kind.width := by decide

theorem witness_BoundaryLeaves_counts :
    (atSite .normal .alive true true).site.timerRunning = false ∧ (after (.keepalive (auto 255) 3) linked).site.timerRunning = true ∧
      (∀ n ∈ [0, 249], let s := ctl (inState .returnGuard) fun y => { y with guard := some n }
        s.inService 1 = true ∧ s.retimeDue 1 = false ∧ (s.ch 1).control.state = .returnGuard ∧ (s.ch 1).control.guard = some n) ∧
      (∀ p ∈ [0, 1], let s := ctl (inState .returning) fun y => { y with returnPosition := some p }
        s.inService 1 = true ∧ s.retimeDue 1 = false ∧ (s.ch 1).control.state = .returning ∧ (s.ch 1).control.returnPosition = some p) ∧
      cycleEndMark .fr25 141557759999 0 = true := by decide +kernel

theorem witness_FramesThatAreDropped_fields :
    let field' (f : EthFrame) : Prop :=
      f.checkOk = true ∧ f.etherType = 0x88B5 ∧ headerSum f.payload = field f.payload 16 2 ∧ field f.payload 0 1 = 1
    let shape (f : EthFrame) : Nat × Nat × Nat × Nat × Nat := (field f.payload 1 1, field f.payload 2 1, field f.payload 4 6, field f.payload 10 2, field f.payload 12 2)
    (∀ x ∈ [((1 : Nat), (0 : Nat), (141557760000 : Nat), (0 : Nat), (1 : Nat)), (1, 0, 5, 1, 1), (1, 0, 5, 0, 1025), (2, 0, 5, 0, 65), (3, 0, 5, 0, 2), (1, 16, 5, 0, 1),
        (3, 32, 5, 0, 1), (4, 16, 5, 0, 1), (4, 254, 5, 0, 1), (4, 0, 5, 1, 2)],
      let f := carriageFrame (carrierBytes x.1 x.2.1 0 x.2.2.1 x.2.2.2.1 x.2.2.2.2 []) []
      field' f ∧ shape f = x) ∧ Running linked ∧ linked.cycle = 141557760000 := by unfold Running; decide +kernel

theorem witness_FramesThatAreDropped_long :
    let f := carriageFrame (carrierBytes 1 0 0 5 0 1 (List.replicate 1409 0)) []
    f.checkOk = true ∧ f.etherType = 0x88B5 ∧ headerSum f.payload = field f.payload 16 2 ∧ field f.payload 0 1 = 1 ∧ 1408 < field f.payload 14 2 ∧
      ¬f.payload.length < 18 + field f.payload 14 2 := by decide +kernel

/-- An AUDIO carrier. -/
def sound (c stamp i n : Nat) : Media := { kind := .audio, channel := c, stamp := stamp, fragIndex := i, fragCount := n, payload := [1, 2, 3] }
/-- A FILLING record for a stamp that holds piece 0 of 2 of its audio. -/
def soundOf (stamp : Nat) : Collect := { stamp := stamp, vc := none, ac := some 2, video := [], audio := [{ index := 0, payload := [1, 2, 3] }], summary := none }

theorem witness_MainCarriersAndSlots_placed :
    (∀ n ∈ [97, 112], ∀ x ∈ [Slot.free, .filling (soundOf n), .filling (soundOf (n - 16)), .complete (frame n) 99, .complete (frame (n - 16)) 99, .corrupt n],
      Placed (slotted n x) 1 .main (.contribution .b) (sound 1 n 1 2) (.mainMediaCarrier .b (sound 1 n 1 2)) ∧ ((slotted n x).ch 1).slots.at .main n = x) ∧
      (∀ n ∈ [97, 112], Placed (slotted n .free) 1 .main (.contribution .b) (sound 1 n 0 64) (.mainMediaCarrier .b (sound 1 n 0 64))) ∧
      (0 ∈ (soundOf 97).audio.map Piece.index ∧ 1 ∉ (soundOf 97).audio.map Piece.index ∧ (soundOf 97).ac = some 2 ∧ (2 : Nat) ≠ 64 ∧ (soundOf 97).summary = none) := by
  have h : ∀ n ∈ [97, 112], ∀ x ∈ [Slot.free, .filling (soundOf n), .filling (soundOf (n - 16)), .complete (frame n) 99, .complete (frame (n - 16)) 99, .corrupt n],
      ∀ k ∈ [((1 : Nat), (2 : Nat)), (0, 64)], Running (slotted n x) ∧ InRange (slotted n x) (sound 1 n k.1 k.2) 16 ∧ (slotted n x).inService 1 = true ∧
        1 ≤ (slotted n x).signed n (((slotted n x).time.h : Int) - (slotted n x).delay 1) ∧
        (slotted n x).signed n (((slotted n x).time.h : Int) - (slotted n x).delay 1) ≤ 16 ∧ ((slotted n x).ch 1).slots.at .main n = x := by
    unfold Running InRange sound; decide +kernel
  refine ⟨fun n hn x hx => ?_, fun n hn => ?_, by decide⟩
  · obtain ⟨a, b, c, d, e, f⟩ := h n hn x hx (1, 2) (by decide)
    exact ⟨⟨a, ⟨.b, rfl, rfl⟩, rfl, b, c, d, e⟩, f⟩
  · obtain ⟨a, b, c, d, e, _⟩ := h n hn .free (by simp) (0, 64) (by decide)
    exact ⟨a, ⟨.b, rfl, rfl⟩, rfl, b, c, d, e⟩

theorem witness_MainCarriersAndSlots_placedStandby :
    ∀ n ∈ [101, 104], ∀ x ∈ [Slot.free, .filling (soundOf n), .complete (frame (n - 4)) 99, .corrupt n],
      Placed (standbySlot n x) 1 .standby (.standby 2) (sound 4 n 1 2) (.standbyMediaCarrier 2 (sound 4 n 1 2)) ∧ ((standbySlot n x).ch 1).slots.at .standby n = x := by
  have h : ∀ n ∈ [101, 104], ∀ x ∈ [Slot.free, .filling (soundOf n), .complete (frame (n - 4)) 99, .corrupt n], let s := standbySlot n x
      Running s ∧ s.settings.servers[((sound 4 n 1 2).channel / 4) % 8] = { mapped := true, port := 2 } ∧ InRange s (sound 4 n 1 2) 32 ∧
        (∀ c' : Chan, (s.inService c' = true ∧ (s.ch c').settings.server.val = (sound 4 n 1 2).channel / 4 ∧ (s.ch c').settings.player.val = (sound 4 n 1 2).channel % 4) ↔ c' = 1) ∧
        1 ≤ s.signed n s.time.h ∧ s.signed n s.time.h ≤ 4 ∧ (s.ch 1).slots.at .standby n = x := by
    unfold Running InRange sound; decide +kernel
  intro n hn x hx
  obtain ⟨a, b, c, d, e, f, g⟩ := h n hn x hx
  exact ⟨⟨a, ⟨2, rfl, rfl, b⟩, c, d, e, f⟩, g⟩

/-- A content with peaks. -/
def loud : Summary := { vc := 1, ac := 1, luma := 33, peaks := [3, 4] }

theorem witness_DetectorRunsAndSettling_classes :
    ((DetectorSettings.default .black).threshold = some 32 ∧ (DetectorSettings.default .silence).threshold.isSome = true ∧ (content.luma ≤ 400) ∧ ¬loud.luma ≤ 32) ∧
      (∀ set ∈ [(0 : BitVec 8), 1, 2, 4, 255], (∀ i, i < 8 → set.getLsbD i = true → loud.peaks.length ≤ i ∨ ∃ peak, loud.peaks[i]? = some peak ∧ peak ≤ 4)) ∧
      ¬(∀ i, i < 8 → (2 : BitVec 8).getLsbD i = true → loud.peaks.length ≤ i ∨ ∃ peak, loud.peaks[i]? = some peak ∧ peak ≤ 3) ∧
      ((DetectorSettings.default .black).enabled = true ∧ ({ DetectorSettings.default .black with enabled := false }).enabled = false ∧ (still .clear).phase ≠ .settling ∧
        Detector.black ≠ .arrival) := by
  have h : ∀ i, i < 8 → loud.peaks.length ≤ i ∨ ∃ peak, loud.peaks[i]? = some peak ∧ peak ≤ 4 := by
    intro i _
    match i with
    | 0 => exact .inr ⟨3, rfl, by decide⟩
    | 1 => exact .inr ⟨4, rfl, by decide⟩
    | n + 2 => exact .inl (by simp [loud])
  refine ⟨by decide, fun set _ i hi _ => h i hi, fun k => ?_, by decide⟩
  obtain k | ⟨p, hp, hl⟩ := k 1 (by decide) (by decide)
  · exact absurd k (by decide)
  · cases hp; exact absurd hl (by decide)

/-- A verdict notice for channel 1. -/
def verdictOf (new : Verdict) : VerdictNotice := { chan := 1, old := .healthy, new := new, position := 0, cause := .judgement, asserted := [.black] }

theorem witness_VerdictRules_notices :
    (let s := inState .main
    (s.ch 1).control.state = .main ∧ (verdictOf .failed).new = .failed ∧ (s.ch 1).control.mode = .protected_ ∧ (s.ch 1).control.pin = .none) ∧
      (((inState .cueing).ch 1).control.state = .cueing ∧ ((inState .cueing).ch 1).control.mode = .protected_) ∧
      (∀ x ∈ [ChannelState.standby, .fill], let s := ctl { inState x with site := (atSite .normal .alive true true).site } fun y => { y with cause := some .detector }
        (s.ch 1).control.state = x ∧ (s.ch 1).control.cause = some .detector ∧ (s.ch 1).settings.autoReturn = true ∧ (s.ch 1).control.pin = .none ∧
          (s.ch 1).control.suspended = false ∧ s.site.state ≠ .lost) ∧
      (∀ x ∈ [ChannelState.returnGuard, .returning], ∀ origin ∈ [ReturnOrigin.standby, .fill], ((returningTo x origin (inState x)).ch 1).control.state = x ∧
        ((returningTo x origin (inState x)).ch 1).control.returnOrigin = some origin ∧ ((returningTo x origin (inState x)).ch 1).control.pin = .none) ∧
      ((inState .main).ch 1).control.state ≠ .cueing := by decide +kernel

theorem witness_ServerAnswers_followOns :
    let concerns (s : State) (c : Chan) : Prop :=
      s.inService c = true ∧ (sentTo (s.ch c).cue.pendingCue (1 : Fin 8).val 0 = true ∨ sentTo (s.ch c).cue.playing (1 : Fin 8).val 0 = true)
    ∀ n ∈ [101, 102], ∀ used ∈ [0, 2, 7], let x := { cue .followOn .sent n with used := used }
      let s := cued .standby (some x) (some (cue .join .ready 90))
      FromServer s answer 1 ∧ concerns s 1 ∧ (∀ c, concerns s c → c = 1) ∧ (s.ch 1).cue.pendingCue = some x ∧ x.number = some 9 ∧ x.status ≠ .failed ∧ x.kind = .followOn ∧
        ((x.used + 1 < x.limit ∧ 2 ≤ forwardDistance s.cycle s.time.h x.switchPosition) ↔ used = 0 ∧ n = 102) := by
  unfold FromServer; decide +kernel

/-- An amendment notice that touches one event. -/
def touching (id a b : Nat) : Notice := .amendment 3 [{ id := id, change := .resized, before := none, after := some (a, b) }]

theorem witness_JoinsAtTheirSwitchPosition_notices :
    let p := cue .join .ready 104
    (let s := cued .standby (some (cue .followOn .sent 304)) (some p)
    (s.ch 1).cue.pendingCue = some (cue .followOn .sent 304) ∧ (s.ch 1).cue.playing = some p ∧ two.find? (fun e => e.id == p.event.id) = some (live 7 100 100) ∧
      (s.ch 1).schedule.live.getD [] = two) ∧
      (let s := joining .standby [live 8 300 100]
      ∀ e ∈ (s.ch 1).schedule.live.getD [], e.id ≠ p.event.id) ∧
      (let s := (joining .fill two).modCue 1 fun y => { y with wait := some (0, 3) }
      (s.ch 1).control.state = .fill ∧ (s.ch 1).cue.wait = some (0, 3) ∧ (s.ch 1).cue.pendingCue = none ∧ (s.ch 1).cue.playing = none ∧ Notice.swap ≠ .cleared) ∧
      (∀ q ∈ [146, 150], (100 : Int) + 50 - 4 ≤ q ∧ q ≤ (100 : Int) + 54 - 4 ∧ touching 9 q.toNat (q.toNat + 1) = .amendment 3
        [{ id := 9, change := .resized, before := none, after := some (q.toNat, q.toNat + 1) }]) ∧
      (∀ x ∈ [ChannelState.cueing, .fill, .standby, .returnGuard, .returning], ∀ kind ∈ [CueKind.join, .followOn],
        ((cued x (some (cue kind .sent 150)) (some p)).ch 1).control.state = x ∧ ((cued x (some (cue kind .sent 150)) (some p)).ch 1).cue.pendingCue = some (cue kind .sent 150)) := by
  decide +kernel

theorem witness_FollowOns_returning :
    let s := ctl (playingOut .returning 254 two) fun y => { y with returnPosition := some 304 }
    let t := ctl (playingOut .returning 254 two) fun y => { y with returnPosition := some 305 }
    (∀ u ∈ [s, t], (u.ch 1).work.cue = true ∧ (u.ch 1).cue.pendingCue = none ∧ (u.ch 1).control.state = .returning ∧
      (((u.ch 1).schedule.live.getD []).find? fun e => (cue .join .ready 104).playingEnd ≤ e.start && u.time.h < e.start + u.delay 1) = some (live 8 300 100)) ∧
      (s.ch 1).control.returnPosition = some 304 ∧ ¬s.signed (300 + s.delay 1 : Nat) 304 < 0 ∧ t.signed (300 + t.delay 1 : Nat) 305 < 0 := by decide +kernel

theorem witness_FollowOns_noServer :
    ∀ x ∈ [ChannelState.standby, .returnGuard], ∀ h ∈ [254, 302, 303], let s : State := { playingOut x h two with ports := { linked.ports with links := Vector.replicate 8 false } }
      (s.ch 1).cue.pendingCue = none ∧ (s.ch 1).cue.playing = some (cue .join .ready 104) ∧ (s.ch 1).control.state = x ∧
        (((s.ch 1).schedule.live.getD []).find? fun e => (cue .join .ready 104).playingEnd ≤ e.start && s.time.h < e.start + s.delay 1) = some (live 8 300 100) ∧
        s.signed ((300 + s.delay 1 : Nat) - ((s.ch 1).settings.lead : Int)) s.time.h ≤ 0 ∧ s.reach (s.ch 1).settings.server = none ∧
        (2 ≤ forwardDistance s.cycle s.time.h (s.wrap (300 + s.delay 1 : Nat)) ↔ h ≠ 303) := by decide +kernel

theorem witness_FramesAreAssembled_running :
    ∀ step ∈ [1, 7], let s := (emitting .main .fresh).modOutput 1 fun y => { y with lastCategory := some .main, ramp := .running step 1, waiting := some outFrame }
      (s.ch 1).output.delivered ≠ .outOfService ∧ ¬((s.ch 1).output.lastCategory ≠ some (categoryOf .main) ∧ (s.ch 1).settings.rampEnable = true) ∧
        (s.ch 1).output.ramp = .running step 1 ∧ step ≤ 7 ∧ (s.ch 1).output.waiting ≠ none := by decide +kernel

theorem witness_WindowsReadsAndWalks_busy :
    (∀ error ∈ [none, some stuck], let s := context (listed .current 0 two) .schedule 1 0 error (some (walking none))
      Heard s .console (con 255) ∧ s.mgmt.console.walk = some (walking none) ∧ s.mgmt.console.sticky = error) ∧
      (∀ w ∈ [none, some (walking none)], let s : State := linked.modCtx .mainSite fun y => { y with walk := w }
        Heard s .mainSite (auto 255) ∧ (s.ctx .mainSite).walk = w) := by unfold Heard; decide +kernel

/-! ## One step more -/

/-- R189, R195 and R196: a WRITE of the main automation while its own walk is in flight is refused, and the walk's READ ends with BUSY and no entries. -/
theorem test_write_ends_walk :
    let t := after (.write (auto 255) [1] 0) (linked.modCtx .mainSite fun y => { y with walk := some (walking none) })
    (t.ctx .mainSite).walk = none ∧ ((t.ctx .mainSite).sticky.map StickyError.code) = some .notAuthorised ∧ lastResult t = some .busy ∧ lastContents t = [] := by decide +kernel
/-- R150 and R162: the attempts used by a follow-on that fails at 7 of 7 stay at 7. -/
theorem test_attempts_stay :
    let s := cued .standby (some { cue .followOn .sent 150 with used := 7, limit := 7 }) (some (cue .join .ready 90))
    ((after (.refused answer 0 9 0) s).ch 1).cue.pendingCue.map (fun x => (x.used, x.status)) = some (7, .failed) := by decide +kernel
/-- R171 and R210: the event start in a STATUS cue entry is a position. -/
theorem test_cue_entry_start :
    cueEntry linked { cue .join .ready 104 with event := live 7 (linked.cycle + 5) 100 } ≠ cueEntry linked { cue .join .ready 104 with event := live 7 6 100 } ∧
      cueEntry linked { cue .join .ready 104 with event := live 7 (linked.cycle + 5) 100 } = cueEntry linked { cue .join .ready 104 with event := live 7 5 100 } := by
  decide +kernel


/-! ## Witnesses: both paths, the site, snapshots, groups, pins, joins and writes -/

theorem placed_main {n : Nat} {x : Slot} {m : Media} (h : Running (slotted n x) ∧ m.channel = 1 ∧ InRange (slotted n x) m 16 ∧ (slotted n x).inService 1 = true ∧
    1 ≤ (slotted n x).signed m.stamp (((slotted n x).time.h : Int) - (slotted n x).delay 1) ∧
    (slotted n x).signed m.stamp (((slotted n x).time.h : Int) - (slotted n x).delay 1) ≤ 16) :
    Placed (slotted n x) 1 .main (.contribution .b) m (.mainMediaCarrier .b m) := ⟨h.1, ⟨.b, rfl, rfl⟩, h.2⟩

theorem placed_standby {n : Nat} {x : Slot} {m : Media} (h : Running (standbySlot n x) ∧ (standbySlot n x).settings.servers[(m.channel / 4) % 8] = { mapped := true, port := 2 } ∧
    InRange (standbySlot n x) m 32 ∧ (∀ c' : Chan, ((standbySlot n x).inService c' = true ∧ ((standbySlot n x).ch c').settings.server.val = m.channel / 4 ∧
      ((standbySlot n x).ch c').settings.player.val = m.channel % 4) ↔ c' = 1) ∧
    1 ≤ (standbySlot n x).signed m.stamp (standbySlot n x).time.h ∧ (standbySlot n x).signed m.stamp (standbySlot n x).time.h ≤ 4) :
    Placed (standbySlot n x) 1 .standby (.standby 2) m (.standbyMediaCarrier 2 m) := ⟨h.1, ⟨2, rfl, rfl, h.2.1⟩, h.2.2⟩

/-- A record that lacks one piece, or its SUMMARY, to be whole. -/
def nearly (stamp : Nat) (k : MediaKind) : Collect :=
  { stamp := stamp, vc := some 1, ac := some 1, video := if k = .video then [] else [{ index := 0, payload := [7] }]
    audio := if k = .audio then [] else [{ index := 0, payload := [1, 2, 3] }], summary := if k = .summary then none else some loud }
/-- The carrier of a kind for piece 0 of 1. -/
def last (k : MediaKind) (c stamp : Nat) (payload : List Byte) : Media :=
  { kind := k, channel := c, stamp := stamp, fragIndex := 0, fragCount := 1, payload := payload }

theorem witness_MainCarriersAndSlots_whole :
    (∀ n ∈ [97, 112], ∀ k ∈ [MediaKind.video, .audio, .summary], ∀ x ∈ [Slot.free, .filling (nearly n k), .filling (nearly (n - 16) k), .corrupt n],
      ∀ l ∈ [loud.bytes, content.bytes, [0]],
        Placed (slotted n x) 1 .main (.contribution .b) (last k 1 n l) (.mainMediaCarrier .b (last k 1 n l)) ∧ ((slotted n x).ch 1).slots.at .main n = x) ∧
      (∀ n ∈ [101, 104], ∀ k ∈ [MediaKind.video, .audio, .summary], ∀ x ∈ [Slot.free, .filling (nearly n k), .filling (nearly (n - 4) k), .corrupt n],
        ∀ l ∈ [loud.bytes, content.bytes, [0]],
          Placed (standbySlot n x) 1 .standby (.standby 2) (last k 4 n l) (.standbyMediaCarrier 2 (last k 4 n l)) ∧ ((standbySlot n x).ch 1).slots.at .standby n = x) ∧
      (parseSummary loud.bytes = some loud ∧ parseSummary content.bytes = some content ∧ parseSummary [0] = none) ∧
      ((nearly 97 .summary).summary = none ∧ (nearly 97 .summary).ac = some loud.ac ∧ (nearly 97 .summary).ac ≠ some content.ac ∧ (nearly 97 .video).vc = some 1 ∧
        0 ∉ (nearly 97 .video).video.map Piece.index ∧ 0 ∉ (nearly 97 .audio).audio.map Piece.index ∧ 0 ∈ (nearly 97 .video).audio.map Piece.index ∧
        (nearly 97 .video).summary = some loud ∧ (∀ i, i < 1 → i ∈ (nearly 97 .summary).video.map Piece.index)) := by
  have a : ∀ n ∈ [97, 112], ∀ k ∈ [MediaKind.video, .audio, .summary], ∀ x ∈ [Slot.free, .filling (nearly n k), .filling (nearly (n - 16) k), .corrupt n],
      (slotted n x).settled = true ∧ (slotted n x).loading = false ∧ n < (slotted n x).cycle ∧ (slotted n x).inService 1 = true ∧
        1 ≤ (slotted n x).signed n (((slotted n x).time.h : Int) - (slotted n x).delay 1) ∧
        (slotted n x).signed n (((slotted n x).time.h : Int) - (slotted n x).delay 1) ≤ 16 ∧ ((slotted n x).ch 1).slots.at .main n = x := by decide +kernel
  have b : ∀ n ∈ [101, 104], ∀ k ∈ [MediaKind.video, .audio, .summary], ∀ x ∈ [Slot.free, .filling (nearly n k), .filling (nearly (n - 4) k), .corrupt n],
      let s := standbySlot n x
      s.settled = true ∧ s.loading = false ∧ n < s.cycle ∧ s.settings.servers[(4 / 4) % 8] = { mapped := true, port := 2 } ∧
        (∀ c' : Chan, (s.inService c' = true ∧ (s.ch c').settings.server.val = 4 / 4 ∧ (s.ch c').settings.player.val = 4 % 4) ↔ c' = 1) ∧
        1 ≤ s.signed n s.time.h ∧ s.signed n s.time.h ≤ 4 ∧ (s.ch 1).slots.at .standby n = x := by decide +kernel
  have short : ∀ l ∈ [loud.bytes, content.bytes, [0]], l.length ≤ 1408 := by decide +kernel
  have range : ∀ (s : State) (k : MediaKind) (c n channels : Nat) (l : List Byte), n < s.cycle → l.length ≤ 1408 → c < channels → InRange s (last k c n l) channels := by
    intro s k c n channels l hn hl hc
    cases k <;> exact ⟨hn, hl, Nat.zero_lt_one, hc, by simp [last]⟩
  refine ⟨fun n hn k hk x hx l hl => ?_, fun n hn k hk x hx l hl => ?_, by decide +kernel, by decide +kernel⟩
  · obtain ⟨h1, h2, h3, h4, h5, h6, h7⟩ := a n hn k hk x hx
    exact ⟨placed_main ⟨⟨h1, h2⟩, rfl, range _ k 1 n 16 l h3 (short l hl) (by decide), h4, h5, h6⟩, h7⟩
  · obtain ⟨h1, h2, h3, h4, h5, h6, h7, h8⟩ := b n hn k hk x hx
    exact ⟨placed_standby ⟨⟨h1, h2⟩, h4, range _ k 4 n 32 l h3 (short l hl) (by decide), h5, h6, h7⟩, h8⟩

theorem witness_SiteLostAndRestored_kept :
    ∀ x ∈ [ChannelState.cueing, .fill, .standby], let s := ctl (atSite .normal .alive true true) fun y => { y with state := x }
      Whole s .console (con 255) ∧ s.site.state ≠ .lost ∧ (s.ch 1).control.state = x := by unfold Whole Heard; decide +kernel

theorem witness_Snapshots_refused :
    let s : State := { rebuilding [0] with time := { linked.time with h := 304 } }
    Named s .mainSite (auto 1) 1 ∧ (s.ch 1).schedule.state = .rebuilding ∧
      (∃ y, (s.ch 1).schedule.shadow = some y ∧ y.revision = 9 ∧ y.revision ≠ 8 ∧ 1 < y.count ∧ 1 ∉ y.received ∧ 7 ∈ y.events.map Event.id ∧ 8 ∉ y.events.map Event.id ∧
        ({ s with poolFree := 0 } : State).poolFree + (placeEvents [live 8 200 101] y.events []).removals < 1) ∧
      wellFormedEvent s.time.rate (at25 8 8 25 100) = .error .badTime ∧ wellFormedEvent s.time.rate (at25 7 8 0 100) = .ok (live 7 200 100) ∧
      wellFormedEvent s.time.rate (at25 8 8 0 100) = .ok (live 8 200 100) ∧ wellFormedEvent s.time.rate (at25 8 8 0 101) = .ok (live 8 200 101) ∧
      ((live 8 200 100).finish : Int) ≤ (s.time.h : Int) - (if s.inService 1 then s.delay 1 else 15) ∧
      (s.time.h : Int) - (if s.inService 1 then s.delay 1 else 15) < (live 8 200 101).finish := by
  unfold Named Heard
  exact ⟨by decide +kernel, by decide +kernel, ⟨_, rfl, by decide +kernel⟩, by decide +kernel, by decide +kernel, by decide +kernel, by decide +kernel, by decide +kernel, by decide +kernel⟩

/-- The linked part with a selection mask of the main automation. -/
def masked (mask : BitVec 16) : State := { linked with mgmt := { linked.mgmt with mainSite := { linked.mgmt.mainSite with mask := mask } } }

theorem witness_SeizeReleaseAndGroups_heard :
    (Heard (masked 0x8001) .mainSite { auto 1 with group := true } ∧ Heard (masked 0) .mainSite { auto 255 with group := true }) ∧ Heard linked .console (con 1) ∧
      (con 1).group = false ∧ (Chan.all.filter fun c => (0 : BitVec 16).getLsbD c.val || (255 : Nat) == c.val) = [] := by
  unfold Heard; decide +kernel

theorem witness_SeizeReleaseAndGroups_forms (rx : ControlRx) :
    (channelForm (.take rx) = some .take ∧ channelCommand (.take rx) = some (rx, 0x21) ∧ ownerCommand (.take rx) = some (rx, 0x21)) ∧
      (channelForm (.ackTakeover rx) = some .ackTakeover ∧ channelCommand (.ackTakeover rx) = some (rx, 0x28) ∧ ownerCommand (.ackTakeover rx) = some (rx, 0x28)) ∧
      (channelForm (.setService rx 1) = some (.setService 1) ∧ channelCommand (.setService rx 1) = some (rx, 0x20)) ∧
      (channelForm (.pinStandby rx) = some (.pin 1) ∧ channelCommand (.pinStandby rx) = some (rx, 0x24)) := ⟨⟨rfl, rfl, rfl⟩, ⟨rfl, rfl, rfl⟩, ⟨rfl, rfl⟩, rfl, rfl⟩

theorem witness_Pins_returns :
    (∀ x ∈ [ChannelState.returnGuard, .returning], ∀ origin ∈ [ReturnOrigin.standby, .fill], ∀ pin ∈ [Pin.none, .main], ∀ ramp ∈ [Ramp.idle, .running 3 1],
      let s := (ctl (returningTo x origin (cued x (some (cue .followOn .sent 150)) none)) fun y => { y with pin := pin }).modOutput 1 fun o => { o with ramp := ramp }
      Named s .console (con 1) 1 ∧ (s.ch 1).control.state = x ∧ (s.ch 1).control.pin ≠ .standby ∧ (s.ch 1).control.returnOrigin = some origin ∧
        (s.ch 1).cue.pendingCue ≠ none ∧ (s.ch 1).output.ramp = ramp) ∧
      (let s := inState .returning
      s.signed 4 (s.wrap (s.time.h + 1 : Nat)) = 3 ∧ s.signed 1 (s.wrap (s.time.h + 1 : Nat)) = 0) := by
  unfold Named Heard; decide +kernel

theorem witness_JoinRequests_linked :
    ∀ l ∈ [[live 7 100 100], [live 7 300 100], []], let s := (joining .cueing l).modCue 1 fun y => { y with recordLink := true }
      let j := chooseJoin ((s.ch 1).schedule.live.getD []) s.time.h (s.ch 1).settings.lead (s.delay 1) (s.ch 1).settings.joinMargin
      (s.ch 1).cue.recordLink = true ∧ (j.found.isSome = true ↔ l = [live 7 100 100]) ∧ (j.cued.isSome = true ↔ l ≠ []) := by decide +kernel

theorem witness_SelectSubscribeAndClearCounters_pairs :
    ∀ pairs ∈ [[], [((0 : Nat), (4 : Nat)), (7, 3), (0, 1)]], (∀ p ∈ pairs, p.1 < 8) ∧ Whole linked .console (con 255) := by unfold Whole Heard; decide +kernel

/-- A WRITE that has dealt with nothing. -/
def writing (s : State) : Writing := { state := s, dealt := 0, clamped := [], refused := [], stopped := none }

theorem witness_WritesAndHouseRate_entries :
    let at_ (t : Table) (page i : Nat) : Option SettingRef := ((pageRefs t page).getD [])[i]?
    (writing linked).stopped = none ∧ { writing linked with stopped := some (.badValue, 3) }.stopped ≠ none ∧
      (at_ .channel 1 0 = some (.chan 1 .lead) ∧ ChanSetting.lead.kind = .number 1 2 250) ∧ at_ .channel 1 13 = some (.chan 1 .rampEnable) ∧
      at_ .channel 1 15 = some (.chan 1 .serviceMode) ∧ at_ .channel 1 16 = none ∧
      (at_ .detectors 1 0 = some (.det 1 .arrival .enabled) ∧ at_ .detectors 1 9 = some (.det 1 .freeze .policy) ∧ at_ .detectors 1 5 = some (.det 1 .arrival .threshold) ∧
        (SettingRef.det 1 .arrival .threshold).kind = .absent ∧ at_ .detectors 1 32 = some (.chain 1) ∧ at_ .detectors 1 33 = some (.pairs 1)) ∧
      (at_ .servers 255 2 = some (.mapped 1) ∧ at_ .servers 255 3 = some (.serverPort 1) ∧ (SettingRef.serverPort 1).kind = .enum 4) ∧
      at_ .outputMap 255 15 = some (.stream 15) ∧ (at_ .site 255 0 = some (.site .houseRate) ∧ at_ .site 255 9 = some (.site .unitNumber)) ∧
      (∀ t ∈ [Table.channel, .detectors, .servers, .outputMap, .site], t.writable = true) ∧ Table.status.writable = false := by decide +kernel

theorem witness_WritesAndHouseRate_values :
    (∀ v ∈ [0, 2, 250, 251], ∃ n, n = max 2 (min 250 v)) ∧
      (∀ s ∈ [linked, inState .main], s.getRef (.det 1 .freeze .policy) ≠ 2 ∧ s.getRef (.det 1 .arrival .enabled) ≠ 0 ∧ s.getRef (.chain 1) ≠ 1) ∧
      (linked.inService 1 = false ∧ (inState .main).inService 1 = true) ∧
      ((linked.putRef (.det 1 .arrival .enabled) 0).getRef (.det 1 .arrival .enabled) ≠ 1) ∧ ((∃ c, ((inState .main).ch c).control.mode ≠ .outOfService) ∧
        ∀ c, (linked.ch c).control.mode = .outOfService) ∧
      judgeValue (SettingRef.serverPort 1).kind 3 = some (3, false) ∧ judgeValue (SettingRef.det 1 .black .threshold).kind 1023 = some (1023, false) ∧
      (((linked.ch 1).settings.detectors[(detectorIndex .black).val]).threshold = some 32) := by
  refine ⟨fun v _ => ⟨_, rfl⟩, ?_⟩; decide +kernel

/-! ## One step each -/

/-- R209: a payload of 3 bytes holds no whole request number, so its REPLY names request 0 (log 22). -/
theorem test_short_request :
    ((after (.badCommand { port := .standby 2, stamp := 0, channel := 1, payload := [2, 0x99, 5], time := 0 }) linked).outbox.map fun x => match x.what with
      | .reply r => some (r.request, r.result)
      | _ => none) = [some (0, .badCommand)] := by decide +kernel
/-- R143: a RELEASE flagged GROUP while the site is LOST is refused for each channel of the mask. -/
theorem test_group_release :
    ((after (.release { con 2 with group := true })
      (siteLost { linked with mgmt := { linked.mgmt with console := { linked.mgmt.console with mask := 0x8000 } } })).outbox.map fun x => match x.what with
      | .reply r => some r.contents
      | _ => none) =
      [some [.num 1 2, .num 1 2, .enum (resultCode .siteLost), .num 1 15, .enum (resultCode .siteLost)]] := by decide +kernel
/-- R185, R194: RAMP_ENABLE written as off ends a running ramp. -/
theorem test_write_ramp :
    let t := after (.write (con 255) [0] 0) (context (linked.modOutput 1 fun o => { o with ramp := .running 3 1 }) .channel 1 13 none none)
    (t.ch 1).output.ramp = .idle ∧ t.counter (.chan 1 .rampsCut) = 1 ∧ (t.ch 1).settings.rampEnable = false := by decide +kernel
/-- R200: of two levels for one kind the later stands (log 55). -/
theorem test_subscribe_twice :
    ((after (.subscribe (con 255) 0 [(2, 3), (2, 0)]) linked).ctx .mainSite).levels[2] = 0 := by decide +kernel
/-- R154: the join of a takeover writes the event found at S and its offset into the record. -/
theorem test_take_links :
    (((after (.take (auto 1)) (joining .main [live 7 100 100])).ch 1).control.ring.map TakeoverRecord.event) = [some (7, 46)] := by decide +kernel
/-- Channel 1 in MAIN with a retime whose target is a position. -/
def retimingAt (target : Nat) : State := (inState .main).modAlign 1 fun x => { x with retime := some { value := 15, target := target } }

/-- Channel 1 in MAIN with the work of a boundary left. -/
def framing (f : ChannelWork → ChannelWork) : State := (inState .main).modWork 1 fun w => f { w with frame := true, judgement := some (.missing 5) }

theorem witness_BoundaryLeaves_channels :
    cycleEndMark linked.time.rate 0 linked.time.h = false ∧ linked.inService 1 = false ∧ (inState .main).inService 1 = true ∧
      (((inState .main).takeStandbyBoundary 1 false).ch 1).align.retime = none ∧
      ((((retimingAt 1).takeStandbyBoundary 1 true).ch 1).align.retime = some { value := 15, target := 1 } ∧ 0 < (retimingAt 1).signed 1 (retimingAt 1).time.h) ∧
      ((((retimingAt 0).takeStandbyBoundary 1 true).ch 1).align.retime = some { value := 15, target := 0 } ∧ (retimingAt 0).signed 0 (retimingAt 0).time.h ≤ 0) := by
  decide +kernel
theorem witness_BoundaryLeaves_frames :
    (let w := ((framing id).ch 1).work
    w.frame = true ∧ w.retime = false ∧ w.cue = false ∧ w.control = false ∧ w.judgement = some (.missing 5)) ∧
      (((framing fun w => { w with judgement := none }).ch 1).work.judgement = none ∧ ((framing fun w => { w with judgement := none }).ch 1).work.frame = true) ∧
      ((inState .main).ch 1).work.frame = false ∧ ((framing fun w => { w with retime := true }).ch 1).work.retime = true ∧
      ((framing fun w => { w with cue := true }).ch 1).work.cue = true ∧ ((framing fun w => { w with control := true }).ch 1).work.control = true := by
  decide +kernel
/-- R44, R62, R174: a boundary releases, judges and assembles for a channel in service. -/
theorem test_boundary_work :
    let t := (inState .main).takeBoundary 0 false
    t.counter (.chan 1 .mainMissing) = 0 ∧ t.counter (.chan 1 .repeats) = 1 ∧ t.counter (.chan 1 .emittedSlateEmpty) = 1 := by decide +kernel
/-- R118, Table 11-5: the entry of a LIVE event and of a CLIP named AB, with a presence byte for each optional field. -/
theorem test_schedule_entry :
    ((linked.scheduleEntry (live 7 0 25)).flatMap Atom.bytes =
      [0, 0, 0, 7] ++ [0, 0, 0, 0, 0, 0] ++ [0, 0, 0, 0, 1, 0] ++ [0, 0, 0, 25] ++ [2, 0, 0, 1, 0, 3] ++ [0]) ∧
    ((linked.scheduleEntry { live 7 0 25 with material := .clip [0x41, 0x42] 5, headTrimmed := true }).flatMap Atom.bytes =
      [0, 0, 0, 7] ++ [0, 0, 0, 0, 0, 0] ++ [0, 0, 0, 0, 1, 0] ++ [0, 0, 0, 25] ++ [0, 1, 2, 0x41, 0x42, 1, 0, 0, 0, 5, 0] ++ [2]) := by decide +kernel
/-- Table 11-5: parts that are absent are one presence byte each. -/
theorem test_optional_parts :
    stickyAtoms none = [.enum 0, .num 1 0, .num 1 0] ∧ rampAtoms .idle = [.enum 0, .num 1 0, .num 1 0] ∧ slateAtoms .empty = [.enum 0, .num 1 0, .num 1 0, .num 1 0] ∧
      configAtoms .loaded = [.enum 0, .num 1 0] := by decide
/-- R21: an Ethernet payload with no bytes is counted in BAD_VERSION, and one of one byte in BAD_CHECK (log 58). -/
theorem test_short_frames :
    (after (.ethernetFrame (.contribution .a) { checkOk := true, etherType := 0x88B5, payload := [] } 0) linked).counter (.port (.contribution .a) .badVersion) = 1 ∧
      (after (.ethernetFrame (.contribution .a) { checkOk := true, etherType := 0x88B5, payload := [1] } 0) linked).counter (.port (.contribution .a) .badCheck) = 1 := by
  decide +kernel
/-- R188: a CUE from the console whose payload ends within its envelope is misdirected (log 53). -/
theorem test_short_outbound :
    (after (.misdirectedControl { port := .standby 2, stamp := 0, channel := 1, payload := [2, 0x62, 0] , time := 0 }) linked).counter (.whole .misdirectedControl) = 1 := by
  decide +kernel
/-- R196: an event gathered at 100 and then placed at 150 is reached again (log 59). -/
theorem test_reach_again :
    (((after (.walkReach .console) (context (listed .current 0 [live 7 150 10]) .schedule 1 0 none (some (walking (some 100))))).ctx .console).walk.map
      fun w => w.gathered.map Prod.fst) = some [0] := by decide +kernel
theorem witness_WindowsReadsAndWalks_pages : (16 : Nat) ≤ 16 ∧ (16 : Nat) ≠ 255 ∧ (0 : Nat) ≠ 255 ∧ (254 : Nat) ≠ 255 := by decide
/-! ## Witnesses: the invariants of channels, and the clauses beside them -/

/-- `CueInv` by what can be evaluated of it. -/
theorem cueInv_of {x : Channel}
    (h : (x.cue.pendingCue.all fun y => (y.status != .failed || y.kind == .followOn) && (y.kind != .followOn || x.cue.playing.isSome)) = true ∧
      (x.control.state = .main ∨ x.control.state = .outOfService → x.cue.pendingCue = none) ∧
      (x.cue.playing ≠ none → x.control.state = .standby ∨ x.control.state = .returnGuard ∨ x.control.state = .returning)) : CueInv x where
  failed y e f := by have := h.1; simp [e, f] at this; exact this.1
  noneInMain := h.2.1
  playing := h.2.2
  followOn y e f := by have := h.1; simp [e, f] at this; exact Option.isSome_iff_ne_none.1 this

/-- The site LOST and every owner LOCAL; channel 1 plays a join in STANDBY beside a FAILED follow-on, and holds one main slot; commands wait. -/
def besieged : State :=
  accounted
    { Chan.all.foldl (fun s c => s.modControl c fun y => { y with owner := .localSite })
        (siteLost ((cued .standby (some (cue .followOn .failed 150)) (some (cue .join .ready 90))).modSlots 1 fun y => y.put .main 100 (.filling filling))) with
      pending := [.frameTimerExpiry, .report] }

theorem witness_EveryStepKeepsTheBounds_channels :
    (ControlInv besieged ∧ ∃ t, step besieged = .next t) ∧ besieged.site.state = .lost ∧ (besieged.ch 1).control.state = .standby ∧ (besieged.ch 1).align.freeUnits = 20 := by
  refine ⟨⟨?_, _, rfl⟩, by decide +kernel⟩
  exact
    { units := fun c => unitInv_of (by revert c; decide +kernel)
      cues := fun c => cueInv_of (by revert c; decide +kernel)
      service := by decide +kernel
      lost := by decide +kernel
      beforeLoad := by decide +kernel }

theorem witness_KeepalivesAndTheirExpiry_returning :
    ∀ x ∈ [SiteState.starting, .normal, .degraded, .isolated, .lost], ∀ k ∈ [Automation.unknown, .lost], ∀ view ∈ [(true, true), (false, true), (false, false)],
      let s := atSite x k view.1 view.2
      Heard s .mainSite (auto 255) ∧ (auto 255).port = .contribution .a ∧ s.site.automation ≠ .alive ∧ s.site.state = x := by unfold Heard; decide +kernel
/-- R85, Table 5-2, and R91: the automation comes back with both paths UP, from DEGRADED and in LOST. -/
theorem test_keepalive_returns :
    let run (x : SiteState) := after (.keepalive (auto 255) 3) (atSite x .lost true true)
    ((run .degraded).site.state, (run .degraded).site.automation, (run .degraded).mgmt.console.queue.map QueuedReport.report) =
        (.normal, .alive, [.site .degraded .normal 0 .automation true true .alive]) ∧
      ((run .lost).site.state, (run .lost).site.automation, (run .lost).mgmt.console.queue.length) = (.lost, .alive, 0) := by decide +kernel

/-- R106: trims counted for a tail cut beside a CLIP that has no head left to cut, and for a LIVE event cut at its head. -/
theorem test_overlap_trims :
    let p (m : Material) := placeEvents [live 9 100 100] [live 3 0 101, { live 4 199 2 with material := m }] []
    [p (.live 3), p (.clip [0x41] 4294967295), p (.fixed [0x41] 0)].map (fun x => (x.trims, x.removals)) = [(2, 0), (1, 1), (1, 1)] := by decide +kernel

theorem witness_Snapshots_unit : Whole linked .mainSite (auto 255) ∧ Whole linked .console (con 255) := by unfold Whole Heard; decide +kernel

/-- A carrier of the console and of the main automation flagged GROUP. -/
def grouped (rx : ControlRx) : ControlRx := { rx with group := true }

theorem witness_CommandsThatAreRefused_forms :
    (Whole linked .mainSite (auto 255) ∧ ownerCommand (.hold (auto 255)) = some (auto 255, 0x23)) ∧
      (∀ rx ∈ [con 0, con 15, grouped (con 255), grouped (con 1)], Heard linked .console rx ∧ (rx.channel ≠ 255 ∨ rx.group = true) ∧
        (∀ i ∈ [Instr.realign rx, .declareSiteLost rx, .restoreSite rx, .select rx [0], .subscribe rx 0 [], .clearCounters rx, .saveConfig rx, .warmRestart rx],
          (unitRequestOf i).map Prod.fst = some rx)) ∧
      (Heard linked .mainSite (auto 1) ∧ (auto 1).channel ≠ 255 ∧ unitRequestOf (.select (auto 1) [0]) = some (auto 1, 0x40)) ∧
      (∀ s ∈ [linked, context (listed .current 0 two) .schedule 1 0 (some stuck) none, context (listed .current 0 two) .schedule 1 0 none (some (walking none))],
        Heard s .console (grouped (con 1)) ∧ (grouped (con 1)).group = true) ∧
      windowRequestOf (.write (grouped (con 1)) [1] 0) = some (grouped (con 1), 0x43) ∧ windowRequestOf (.read (grouped (con 1)) 1) = some (grouped (con 1), 0x42) ∧
      (linked.ctx .console).walk = none ∧ ((context linked .schedule 1 0 none (some (walking none))).ctx .console).walk = some (walking none) := by
  unfold Whole Heard
  refine ⟨by decide +kernel, by decide +kernel, by decide +kernel, by decide +kernel, rfl, rfl, by decide +kernel, by decide +kernel⟩
/-- R190: the refusals with BAD_VALUE of requests that name a channel or are flagged GROUP against the rule. -/
theorem test_refused_forms :
    ∀ i ∈ [Instr.realign (con 3), .select (auto 3) [0], .warmRestart (grouped (con 255)), .retime (grouped (con 1)) none, .captureSlate (grouped (con 1)) 0 0,
        .read (grouped (con 1)) 1, .hold (auto 255)], lastResult (after i (inState .main)) = some .badValue := by decide +kernel

/-- A pending cue before, at and after position 101, the next boundary at H = 100. -/
def aboutReturn : List (Option Cue) := none :: [100, 101, 102].map (fun n => some (cue .followOn .ready n)) ++ [some (cue .join .sent 150)]

theorem witness_ReturnAndHold_cues :
    (∀ x ∈ [ChannelState.standby, .returnGuard], ∀ y ∈ aboutReturn, ∀ origin ∈ [ReturnOrigin.standby, .fill],
      let s := ctl (cued x y (some (cue .join .ready 90))) fun z => { z with owner := .localSite, returnOrigin := some origin }
      Named s .console (con 1) 1 ∧ s.owns 1 .console = true ∧ s.site.state ≠ .lost ∧ (s.ch 1).control.pin = .none ∧ (s.ch 1).control.state = x ∧ (s.ch 1).cue.pendingCue = y) ∧
      (∀ x ∈ [ChannelState.returnGuard, .returning], ∀ y ∈ aboutReturn,
        let s := ctl (cued x y (some (cue .join .ready 90))) fun z => { z with owner := .localSite, returnOrigin := some .standby }
        Named s .console (con 1) 1 ∧ s.owns 1 .console = true ∧ (s.ch 1).control.state = x ∧ (s.ch 1).control.returnOrigin = some .standby ∧ (s.ch 1).cue.pendingCue = y) := by
  unfold Named Heard; decide +kernel
/-- R151: RETURN at once in STANDBY cancels a follow-on that switches at or after the return position 101, and no other cue. -/
theorem test_return_cancels :
    (aboutReturn.map fun y => (((after (.returnToMain (con 1))
      (((ctl (cued .standby y (some (cue .join .ready 90))) fun z => { z with owner := .localSite }).modSettings 1 fun z => { z with returnMode := .immediate }))).ch 1).cue.pendingCue.map
        Cue.switchPosition)) = [none, some 100, none, none, some 150] := by decide +kernel

theorem witness_GuardExpiryAndArrival_cues :
    ∀ y ∈ aboutReturn, let s := (cued .returnGuard y (some (cue .join .ready 90))).modWork 1 fun w => { w with control := true }
      (s.ch 1).work.control = true ∧ (s.ch 1).control.state = .returnGuard ∧ (s.ch 1).cue.pendingCue = y := by decide +kernel

/-- R124: a service exit ends a PENDING current record ABANDONED and leaves the older one as it is. -/
theorem test_exit_abandons :
    let record (n : Nat) (x : RecordOutcome) : TakeoverRecord :=
      { sequence := n, causes := [.command], asserted := [], origin := none, decision := 0, replication := .empty, event := none, switchPosition := none
        outcome := x, returnPosition := none }
    let t := after (.setServiceOut (con 1)) (ctl (inState .cueing) fun y => { y with current := some 5, ring := [record 4 .fillOnly, record 5 .pending], suspended := true })
    ((t.ch 1).control.ring.map TakeoverRecord.outcome, (t.ch 1).control.current, (t.ch 1).control.suspended) = ([.fillOnly, .abandoned], none, false) := by decide +kernel

theorem witness_ReportsAreQueuedAndSent_reach :
    (linked.linkUp (.standby 2) = true ∧ loaded.linkUp (.standby 2) = false) ∧
      (let s : State := { linked with ports := { linked.ports with pathB := { linked.ports.pathB with up := true } }, mgmt := { linked.mgmt with consolePort := some 2 } }
      s.reachable .mainSite = true ∧ s.reportPorts .mainSite = [.contribution .a, .contribution .b] ∧ s.mgmt.consolePort = some 2 ∧ s.linkUp (.standby 2) = true) ∧
      linked.reachable .mainSite = false ∧ linked.reachable .console = false := by decide +kernel

theorem witness_BadAndMisdirectedCarriers_short :
    (∀ n ∈ [0, 1, 2, 3, 4, 7], n < 8 ∧ ((controlEnvelope (con 1) 0x21 0).take n).length = n) ∧ (∀ rx ∈ [con 1, con 255], Heard linked .console rx ∧ rx.request < 65536) ∧
      Heard linked .mainSite (auto 255) ∧ (0 : Nat) ∉ controlCodes ∧ (0x21 ∈ controlCodes ∧ ¬notAnswered 0x21) ∧ (0x01 ∈ controlCodes ∧ notAnswered 0x01) ∧
      (0x66 ∈ controlCodes ∧ 0x50 ≤ 0x66) ∧ FromServer (served [1]) answer 1 ∧
      (Running linked ∧ (con 1).stamp < linked.cycle ∧ (con 1).channel < 16) ∧ ∀ side, (con 1).port ≠ .output side := by
  unfold Heard notAnswered FromServer Running
  exact ⟨by decide +kernel, by decide +kernel, by decide +kernel, by decide, by decide, by decide, by decide, by decide +kernel, by decide +kernel, nofun⟩
/-- R209: a TAKE whose payload ends in its request number is answered with BAD_COMMAND and request 0, and one with no bytes is no sender's (log 22). -/
theorem test_short_envelope :
    let run (n : Nat) := after (.badCommand { port := .standby 2, stamp := 0, channel := 1, payload := (controlEnvelope (con 1) 0x21 0).take n, time := 0 }) linked
    lastResult (run 3) = some .badCommand ∧ (run 3).counter (.whole .badCommands) = 1 ∧ (run 0).counter (.port (.standby 2) .senderMismatch) = 1 ∧
      (run 0).outbox.length = 0 := by decide +kernel
end Sys2Proof.Machine.Tests
end

/-! PROOFS. Which labels name a frame (R5, R6), what a schedule event and a REFERENCE pulse make of each kind of label, and what a pulse that is not valid does (R9). -/

namespace Sys2Proof.Machine

/-! ## The checks on a label, as propositions -/

/-- R5 step 1. -/
theorem labelInRange_iff (r : Rate) (l : Label) :
    labelInRange r l = true ↔ l.hh < 24 ∧ l.mm < 60 ∧ l.ss < 60 ∧ l.ff < r.n ∧ l.day < 65536 := by
  simp [labelInRange, and_assoc]

/-- R6. -/
theorem labelNamesNoFrame_iff (r : Rate) (l : Label) :
    labelNamesNoFrame r l = true ↔ l.ss = 0 ∧ l.mm % 10 ≠ 0 ∧ l.ff < r.k := by
  simp [labelNamesNoFrame, and_assoc]

/-- The predicate of the statements is the two checks of the model. -/
theorem validLabel_iff (r : Rate) (l : Label) :
    ValidLabel r l ↔ labelInRange r l = true ∧ labelNamesNoFrame r l = false := by
  rw [ValidLabel, ← labelInRange_iff, ← labelNamesNoFrame_iff, Bool.not_eq_true]

/-! ## Positions of labels -/

/-- Fewer labels are dropped in a minute than there are in a second, so R6 moves a label within its second. -/
theorem Rate.k_lt_n (r : Rate) : r.k < r.n := by cases r <;> decide

/-- The day-frame of a label in range lies in the day, whether or not the label names a frame. -/
theorem labelDayFrame_lt_fday {r : Rate} {l : Label} (h : labelInRange r l = true) : labelDayFrame r l < r.fday := by
  obtain ⟨hhh, hmm, hss, hff, -⟩ := (labelInRange_iff r l).1 h
  cases r <;> simp only [labelDayFrame, Rate.n, Rate.k, Rate.fday] at hff ⊢ <;> omega

/-- R5 steps 3 and 4: a label in range converts to a position of the cycle. -/
theorem labelPosition_lt_cycle {r : Rate} {l : Label} (h : labelInRange r l = true) : labelPosition r l < r.cycle := by
  have hframe := labelDayFrame_lt_fday h
  obtain ⟨-, -, -, -, hday⟩ := (labelInRange_iff r l).1 h
  calc labelPosition r l
    _ < (l.day + 1) * r.fday := by rw [labelPosition, Nat.succ_mul]; omega
    _ ≤ r.cycle := Nat.mul_le_mul_right _ hday

/-- R6: the label at the first frame of a minute is in range. -/
theorem labelInRange_firstFrame {r : Rate} {l : Label} (h : labelInRange r l = true) : labelInRange r { l with ff := r.k } = true := by
  obtain ⟨hhh, hmm, hss, -, hday⟩ := (labelInRange_iff r l).1 h
  exact (labelInRange_iff r _).2 ⟨hhh, hmm, hss, r.k_lt_n, hday⟩

/-! ## A label on a REFERENCE pulse -/

/-- R9: a valid pulse yields the position of its label. -/
theorem pulsePosition_of_validLabel {r : Rate} {l : Label} (h : ValidLabel r l) : pulsePosition r l = some (labelPosition r l) := by
  obtain ⟨hrange, hnames⟩ := (validLabel_iff r l).1 h
  simp [pulsePosition, hrange, hnames]

/-- R9: a pulse whose label is out of range or names no frame yields no position. -/
theorem pulsePosition_of_not_validLabel {r : Rate} {l : Label} (h : ¬ValidLabel r l) : pulsePosition r l = none := by
  simpa [pulsePosition, validLabel_iff] using h

/-! ## A label of a schedule event -/

/-- R6: the label of an event that names a frame is converted unchanged. -/
theorem eventLabel_of_validLabel {r : Rate} {l : Label} (h : ValidLabel r l) : eventLabel r l = some (labelPosition r l, false) := by
  obtain ⟨hrange, hnames⟩ := (validLabel_iff r l).1 h
  simp [eventLabel, normaliseLabel, hrange, hnames]

/-- R6: the label of an event that names no frame is moved to ff = k and reported as normalised. -/
theorem eventLabel_of_namesNoFrame {r : Rate} {l : Label} (hrange : labelInRange r l = true) (hnames : labelNamesNoFrame r l = true) :
    eventLabel r l = some (labelPosition r { l with ff := r.k }, true) := by
  simp [eventLabel, normaliseLabel, hrange, hnames]

/-- R95: an event with a material, a label that converts and a duration of up to a day is stored at the position of its label. -/
theorem wellFormedEvent_ok {r : Rate} {e : EventCarried} {m : Material} {start : Nat} {normalised : Bool} (hmaterial : carriedMaterial e = some m)
    (hlabel : eventLabel r e.label = some (start, normalised)) (hlow : 1 ≤ e.duration) (hhigh : e.duration ≤ r.fday) :
    wellFormedEvent r e =
      .ok { id := e.id, start := start, duration := e.duration, material := m
            normalised := normalised, headTrimmed := false, tailTrimmed := false } := by
  simp [wellFormedEvent, hmaterial, hlabel, hlow, hhigh]

/-- Settles O11, by R6's case split: a label in range that names no frame, and one that names a frame. -/
theorem labelsThatNameNoFrame : Obligations.LabelsThatNameNoFrame := by
  unfold Obligations.LabelsThatNameNoFrame
  intro r l hhh hmm hss hff hday
  have hrange : labelInRange r l = true := (labelInRange_iff r l).2 ⟨hhh, hmm, hss, hff, hday⟩
  constructor
  · intro hnone
    have hevent := eventLabel_of_namesNoFrame hrange ((labelNamesNoFrame_iff r l).2 hnone)
    refine ⟨pulsePosition_of_not_validLabel fun hvalid => hvalid.2 hnone, labelPosition_lt_cycle (labelInRange_firstFrame hrange), ?_⟩
    rintro e m rfl hmaterial hlow hhigh
    exact wellFormedEvent_ok hmaterial hevent hlow hhigh
  · intro hframe
    have hvalid : ValidLabel r l := ⟨⟨hhh, hmm, hss, hff, hday⟩, hframe⟩
    refine ⟨pulsePosition_of_validLabel hvalid, ?_⟩
    rintro e m rfl hmaterial hlow hhigh
    exact wellFormedEvent_ok hmaterial (eventLabel_of_validLabel hvalid) hlow hhigh

/-! ## What a pulse does to the part -/

/-- In a settled part nothing is due before the pulse is taken. -/
theorem exec_referencePulse_settled {s : State} (h : s.settled = true) (l : Label) (time : Nat) :
    exec (.referencePulse l time) s = .next (s.takePulse l time) :=
  calc exec (.referencePulse l time) s
    _ = .next (s.catchUp.takePulse l time) := rfl
    _ = .next (s.takePulse l time) := by rw [State.catchUp_settled h]

/-- R9: before the configuration image has been loaded no pulse is taken. -/
theorem State.takePulse_loading {s : State} (h : s.loading = true) (l : Label) (time : Nat) : s.takePulse l time = s := by
  simp [State.takePulse, h]

/-- R9: a pulse that is not valid is counted in REF_BAD_PULSES, and that is all. -/
theorem State.takePulse_of_not_validLabel {s : State} {l : Label} (hload : s.loading = false) (h : ¬ValidLabel s.time.rate l) (time : Nat) :
    s.takePulse l time = s.bump (.whole .refBadPulses) := by
  simp [State.takePulse, hload, pulsePosition_of_not_validLabel h, State.bumpUnit]

/-- Settles O12, by R9's cases: a part still loading, a pulse that is not valid, and a valid one. -/
theorem pulsesThatAreNotValid : Obligations.PulsesThatAreNotValid := by
  unfold Obligations.PulsesThatAreNotValid
  intro s l time hsettled
  rw [exec_referencePulse_settled hsettled]
  refine ⟨fun hload => ?_, fun hload hbad => ?_, pulsePosition_of_validLabel⟩
  · rw [State.takePulse_loading hload]
  · rw [State.takePulse_of_not_validLabel hload hbad]

end Sys2Proof.Machine

/-! PROOFS. The label of a position and the position of a label (R5, R7): a day-frame taken apart into ten-minute block, minute and nominal count. -/

namespace Sys2Proof.Machine

-- Each elaboration thread takes a large stack, and the text is compiled as one file under a memory limit: one thread at a time.
set_option Elab.async false

/-! ## A day-frame in its ten-minute block -/

/-- The minute of its block in which a count of frames falls, and the nominal count within that minute (R7). -/
structure InBlock (r : Rate) (rest minute nominal : Nat) : Prop where
  minute_lt : minute < 10
  nominal_lt : nominal < 60 * r.n
  named : 1 ≤ minute → r.k ≤ nominal
  count : rest + r.k * minute = 60 * r.n * minute + nominal

/-- R7: the minute of a count of frames in its block. -/
def minuteOf (r : Rate) (rest : Nat) : Nat := if rest < 60 * r.n then 0 else 1 + (rest - 60 * r.n) / (60 * r.n - r.k)

/-- R7: the nominal count within that minute. -/
def nominalOf (r : Rate) (rest : Nat) : Nat := if rest < 60 * r.n then rest else (rest - 60 * r.n) % (60 * r.n - r.k) + r.k

theorem positionLabel_eq (r : Rate) (p : Nat) :
    positionLabel r p =
      { day := p / r.fday
        hh := (10 * (p % r.fday / r.block) + minuteOf r (p % r.fday % r.block)) / 60
        mm := (10 * (p % r.fday / r.block) + minuteOf r (p % r.fday % r.block)) % 60
        ss := nominalOf r (p % r.fday % r.block) / r.n
        ff := nominalOf r (p % r.fday % r.block) % r.n } := rfl

theorem inBlock_minuteOf {r : Rate} {rest : Nat} (h : rest < r.block) : InBlock r rest (minuteOf r rest) (nominalOf r rest) := by
  unfold minuteOf nominalOf
  split <;> refine ⟨?_, ?_, ?_, ?_⟩ <;> cases r <;> simp only [Rate.block, Rate.n, Rate.k] at * <;> omega

/-- A count of frames has one minute and one nominal count. -/
theorem InBlock.eq_minuteOf {r : Rate} {rest minute nominal : Nat} (h : InBlock r rest minute nominal) :
    minuteOf r rest = minute ∧ nominalOf r rest = nominal := by
  obtain ⟨hm, hn, hk, hc⟩ := h
  unfold minuteOf nominalOf
  split <;> cases r <;> simp only [Rate.n, Rate.k] at * <;> constructor <;> omega

theorem InBlock.rest_lt {r : Rate} {rest minute nominal : Nat} (h : InBlock r rest minute nominal) : rest < r.block := by
  obtain ⟨hm, hn, hk, hc⟩ := h
  cases r <;> simp only [Rate.block, Rate.n, Rate.k] at * <;> omega

/-! ## A label in its day -/

theorem fday_eq_block (r : Rate) : r.fday = 144 * r.block := by cases r <;> rfl

/-- R5 step 3 by blocks: the day-frame of a label whose minute of the day and nominal count are known. -/
theorem labelDayFrame_eq {r : Rate} {l : Label} {q rest minute nominal : Nat} (hb : InBlock r rest minute nominal)
    (hm : l.hh * 60 + l.mm = 10 * q + minute) (hs : l.ss * r.n + l.ff = nominal) : labelDayFrame r l = r.block * q + rest := by
  obtain ⟨hmin, hn, hk, hc⟩ := hb
  unfold labelDayFrame
  dsimp only
  rw [hm]
  cases r <;> simp only [Rate.block, Rate.n, Rate.k] at * <;> omega

/-- R5, R7: the label of a position names a frame, and converts back. -/
theorem positionLabel_valid {r : Rate} {p : Nat} (h : p < r.cycle) :
    ValidLabel r (positionLabel r p) ∧ labelPosition r (positionLabel r p) = p := by
  have hb : 0 < r.block := by cases r <;> decide
  have hf : 0 < r.fday := by cases r <;> decide
  have hn : 0 < r.n := by cases r <;> decide
  have hframe : p % r.fday < r.fday := Nat.mod_lt _ hf
  have hq : p % r.fday / r.block < 144 := Nat.div_lt_of_lt_mul (by rwa [mul_comm, ← fday_eq_block])
  have hin := inBlock_minuteOf (Nat.mod_lt (p % r.fday) hb)
  rw [positionLabel_eq]
  generalize hrest : p % r.fday % r.block = rest at *
  generalize hquot : p % r.fday / r.block = q at *
  generalize minuteOf r rest = minute at *
  generalize hnom : nominalOf r rest = nominal at *
  have hday : p / r.fday < 65536 := Nat.div_lt_of_lt_mul (by rw [mul_comm]; exact h)
  have hminute := hin.minute_lt
  have hss : nominal / r.n < 60 := Nat.div_lt_of_lt_mul (by rw [mul_comm]; exact hin.nominal_lt)
  constructor
  · refine ⟨⟨by simp only; omega, by simp only; omega, hss, Nat.mod_lt _ hn, hday⟩, ?_⟩
    rintro ⟨hs0, hm0, hfk⟩
    have hsmall : nominal < r.n := by rcases Nat.div_eq_zero_iff.1 hs0 with hc | hc <;> omega
    have hfk' : nominal % r.n < r.k := hfk
    rw [Nat.mod_eq_of_lt hsmall] at hfk'
    have hm0' : (10 * q + minute) % 60 % 10 ≠ 0 := hm0
    have := hin.named (by omega)
    omega
  · unfold labelPosition
    rw [labelDayFrame_eq (q := q) hin (by simp only; omega) (by simp only; exact Nat.div_add_mod' nominal r.n), ← hquot, ← hrest,
      Nat.div_add_mod, Nat.mul_comm]
    exact Nat.div_add_mod p r.fday

/-- R5, R7: a label that names a frame is the label of its position. -/
theorem positionLabel_labelPosition {r : Rate} {l : Label} (h : ValidLabel r l) : positionLabel r (labelPosition r l) = l := by
  obtain ⟨⟨hhh, hmm, hss, hff, hday⟩, hnames⟩ := h
  have hn : 0 < r.n := by cases r <;> decide
  have hb : 0 < r.block := by cases r <;> decide
  have hnominal : l.ss * r.n + l.ff < 60 * r.n := by
    calc l.ss * r.n + l.ff
      _ < (l.ss + 1) * r.n := by rw [Nat.succ_mul]; omega
      _ ≤ 60 * r.n := Nat.mul_le_mul_right _ hss
  have hcount : r.k * (l.mm % 10) ≤ 60 * r.n * (l.mm % 10) + (l.ss * r.n + l.ff) :=
    le_trans (Nat.mul_le_mul_right _ (by cases r <;> decide)) (Nat.le_add_right _ _)
  have hin : InBlock r (60 * r.n * (l.mm % 10) + (l.ss * r.n + l.ff) - r.k * (l.mm % 10)) (l.mm % 10) (l.ss * r.n + l.ff) := by
    refine ⟨Nat.mod_lt _ (by decide), hnominal, fun hm => ?_, by omega⟩
    by_cases hs : l.ss = 0
    · have : ¬ l.ff < r.k := fun hfk => hnames ⟨hs, by omega, hfk⟩
      omega
    · have := r.k_lt_n
      have : 1 * r.n ≤ l.ss * r.n := Nat.mul_le_mul_right _ (by omega)
      omega
  have hframe := labelDayFrame_eq (r := r) (l := l) (q := l.hh * 6 + l.mm / 10) hin (by omega) rfl
  obtain ⟨hmin, hnom⟩ := hin.eq_minuteOf
  have hrest := hin.rest_lt
  have hlt : labelDayFrame r l < r.fday := labelDayFrame_lt_fday ((labelInRange_iff r l).2 ⟨hhh, hmm, hss, hff, hday⟩)
  have hpday : labelPosition r l / r.fday = l.day := by
    unfold labelPosition
    rw [Nat.add_comm, Nat.add_mul_div_right _ _ (by omega), Nat.div_eq_of_lt hlt, Nat.zero_add]
  have hpframe : labelPosition r l % r.fday = labelDayFrame r l := by
    unfold labelPosition
    rw [Nat.add_comm, Nat.add_mul_mod_self_right, Nat.mod_eq_of_lt hlt]
  have hquot : labelDayFrame r l / r.block = l.hh * 6 + l.mm / 10 := by
    rw [hframe, Nat.mul_add_div hb, Nat.div_eq_of_lt hrest, Nat.add_zero]
  have hmod : labelDayFrame r l % r.block = 60 * r.n * (l.mm % 10) + (l.ss * r.n + l.ff) - r.k * (l.mm % 10) := by
    rw [hframe, Nat.mul_add_mod, Nat.mod_eq_of_lt hrest]
  rw [positionLabel_eq, hpday, hpframe, hquot, hmod, hmin, hnom]
  have hs : (l.ss * r.n + l.ff) / r.n = l.ss := by rw [Nat.add_comm, Nat.add_mul_div_right _ _ hn, Nat.div_eq_of_lt hff, Nat.zero_add]
  have hf : (l.ss * r.n + l.ff) % r.n = l.ff := by rw [Nat.add_comm, Nat.add_mul_mod_self_right, Nat.mod_eq_of_lt hff]
  have hh : (10 * (l.hh * 6 + l.mm / 10) + l.mm % 10) / 60 = l.hh := by omega
  have hm : (10 * (l.hh * 6 + l.mm / 10) + l.mm % 10) % 60 = l.mm := by omega
  rw [hs, hf, hh, hm]

/-- Settles O10, by the block, minute and nominal count of a day-frame. -/
theorem labelsAndPositionsAgree : Obligations.LabelsAndPositionsAgree := by
  unfold Obligations.LabelsAndPositionsAgree
  exact fun r => ⟨fun p hp => positionLabel_valid hp,
    fun l hl => ⟨labelPosition_lt_cycle ((validLabel_iff r l).1 hl).1, positionLabel_labelPosition hl⟩⟩

/-- R17: H re-expressed at a new rate is a position of its cycle. -/
theorem reexpressPosition_lt_cycle {old new : Rate} {p : Nat} (h : p < old.cycle) : reexpressPosition old new p < new.cycle := by
  obtain ⟨⟨hhh, hmm, hss, -, hday⟩, -⟩ := (positionLabel_valid h).1
  have hrange : labelInRange new { positionLabel old p with ff := 0 } = true :=
    (labelInRange_iff new _).2 ⟨hhh, hmm, hss, Nat.zero_lt_of_lt new.k_lt_n, hday⟩
  unfold reexpressPosition normaliseLabel
  split
  · exact labelPosition_lt_cycle (labelInRange_firstFrame hrange)
  · exact labelPosition_lt_cycle hrange

end Sys2Proof.Machine

/-! PROOFS. The relation that every operation of the part keeps but those of the timeline, the load and the resets: the queue, the outbox, the counters'
maximum, the report queues, and the bounds of the channels (R145, R150, R197, R198); and with the lists of the Schedule Store as they stand (R93, R94). -/

namespace Sys2Proof.Machine

-- Each elaboration thread takes a large stack, and the text is compiled as one file under a memory limit: one thread at a time.
set_option Elab.async false

/-- What becomes of one channel where its bounds are kept. -/
def BoundsKept (x y : Channel) : Prop := ChannelInv x → ChannelInv y

/-- What becomes of one channel where its lists stay as they are. -/
structure ListsKept (x y : Channel) : Prop where
  bounds : BoundsKept x y
  live : y.schedule.live = x.schedule.live
  shadow : y.schedule.shadow = x.schedule.shadow
  state : y.schedule.state = x.schedule.state
  timer : y.schedule.snapshotTimer = x.schedule.snapshotTimer
  due : y.work.snapshot = true → x.work.snapshot = true

theorem ListsKept.refl (x : Channel) : ListsKept x x := ⟨id, rfl, rfl, rfl, rfl, id⟩

theorem ListsKept.trans {x y z : Channel} (h : ListsKept x y) (k : ListsKept y z) : ListsKept x z :=
  ⟨fun hx => k.bounds (h.bounds hx), k.live.trans h.live, k.shadow.trans h.shadow, k.state.trans h.state, k.timer.trans h.timer,
   fun hz => h.due (k.due hz)⟩

/-- What an operation keeps that makes no boundary, loads nothing and resets nothing. -/
structure KeepsBounds (s t : State) : Prop where
  pending : t.pending = s.pending
  outbox : s.outbox <+: t.outbox
  time : t.time = s.time
  config : t.mgmt.config = s.mgmt.config
  counters : (∀ key, s.counter key ≤ counterMax) → ∀ key, t.counter key ≤ counterMax
  contexts : (∀ o, ContextInv (s.ctx o)) → ∀ o, ContextInv (t.ctx o)
  channels : ∀ c, BoundsKept (s.ch c) (t.ch c)

/-- What an operation keeps besides that reaches no list of the Schedule Store. -/
structure KeepsLists (s t : State) : Prop extends KeepsBounds s t where
  pool : t.poolFree = s.poolFree
  lists : ∀ c, ListsKept (s.ch c) (t.ch c)

variable {s t u : State} {c : Chan}

theorem KeepsBounds.refl (s : State) : KeepsBounds s s := ⟨rfl, List.prefix_refl _, rfl, rfl, id, id, fun _ => id⟩

theorem KeepsBounds.trans (h : KeepsBounds s t) (k : KeepsBounds t u) : KeepsBounds s u :=
  ⟨k.pending.trans h.pending, h.outbox.trans k.outbox, k.time.trans h.time, k.config.trans h.config, fun hs => k.counters (h.counters hs),
   fun hs => k.contexts (h.contexts hs), fun c hs => k.channels c (h.channels c hs)⟩

theorem KeepsLists.refl (s : State) : KeepsLists s s := ⟨KeepsBounds.refl s, rfl, fun _ => ListsKept.refl _⟩

theorem KeepsLists.trans (h : KeepsLists s t) (k : KeepsLists t u) : KeepsLists s u :=
  ⟨h.toKeepsBounds.trans k.toKeepsBounds, k.pool.trans h.pool, fun c => (h.lists c).trans (k.lists c)⟩

/-! ## The named updates of the state -/

/-- An update that leaves the channels, the counters and the contexts. -/
theorem KeepsBounds.of_eq (h : KeepsBounds s t) (hp : u.pending = t.pending) (ho : t.outbox <+: u.outbox) (ht : u.time = t.time)
    (hc : u.chans = t.chans) (hn : u.counters = t.counters) (hm : u.mgmt = t.mgmt) : KeepsBounds s u := by
  refine h.trans ⟨hp, ho, ht, by rw [hm], ?_, ?_, fun c => ?_⟩
  · intro hs key; unfold State.counter; rw [hn]; exact hs key
  · intro hs o; have := hs o; unfold State.ctx at *; rw [hm]; exact this
  · unfold BoundsKept State.ch; rw [hc]; exact id

theorem KeepsLists.of_eq (h : KeepsLists s t) (hp : u.pending = t.pending) (ho : t.outbox <+: u.outbox) (ht : u.time = t.time)
    (hc : u.chans = t.chans) (hn : u.counters = t.counters) (hm : u.mgmt = t.mgmt) (hf : u.poolFree = t.poolFree) : KeepsLists s u := by
  refine h.trans ⟨(KeepsBounds.refl t).of_eq hp ho ht hc hn hm, hf, fun c => ?_⟩
  unfold State.ch; rw [hc]; exact ListsKept.refl _

theorem KeepsBounds.modCh (h : KeepsBounds s t) (f : Channel → Channel) (hf : BoundsKept (t.ch c) (f (t.ch c))) : KeepsBounds s (t.modCh c f) := by
  refine h.trans ⟨rfl, List.prefix_refl _, rfl, rfl, id, id, fun c' => ?_⟩
  by_cases hc : c' = c
  · subst hc; simpa using hf
  · simp [hc, BoundsKept]

theorem KeepsLists.modCh (h : KeepsLists s t) (f : Channel → Channel) (hf : ListsKept (t.ch c) (f (t.ch c))) : KeepsLists s (t.modCh c f) := by
  refine h.trans ⟨(KeepsBounds.refl t).modCh f hf.bounds, rfl, fun c' => ?_⟩
  by_cases hc : c' = c
  · subst hc; simpa using hf
  · simpa [hc] using ListsKept.refl _

theorem ListsKept.of_eq {x y : Channel} (hr : y.control.ring.length ≤ x.control.ring.length) (hn : y.control.nextSequence = x.control.nextSequence)
    (hs : y.schedule = x.schedule) (hq : y.cue.nextNumber = x.cue.nextNumber) (hw : y.work.snapshot = true → x.work.snapshot = true) : ListsKept x y := by
  refine ⟨fun hx => ⟨hr.trans hx.ring, hn ▸ hx.sequence, ?_, hq ▸ hx.cueNumber⟩, ?_, ?_, ?_, ?_, hw⟩ <;> rw [hs]
  exact hx.expected

theorem KeepsLists.modSettings (h : KeepsLists s t) (f : ChannelSettings → ChannelSettings) : KeepsLists s (t.modSettings c f) :=
  h.modCh _ (.of_eq le_rfl rfl rfl rfl id)
theorem KeepsLists.modSlots (h : KeepsLists s t) (f : Slots → Slots) : KeepsLists s (t.modSlots c f) := h.modCh _ (.of_eq le_rfl rfl rfl rfl id)
theorem KeepsLists.modAlign (h : KeepsLists s t) (f : Align → Align) : KeepsLists s (t.modAlign c f) := h.modCh _ (.of_eq le_rfl rfl rfl rfl id)
theorem KeepsLists.modMonitor (h : KeepsLists s t) (f : Monitor → Monitor) : KeepsLists s (t.modMonitor c f) := h.modCh _ (.of_eq le_rfl rfl rfl rfl id)
theorem KeepsLists.modOutput (h : KeepsLists s t) (f : Output → Output) : KeepsLists s (t.modOutput c f) := h.modCh _ (.of_eq le_rfl rfl rfl rfl id)

theorem KeepsLists.modControl (h : KeepsLists s t) (f : Control → Control)
    (hf : ∀ y, (f y).ring.length ≤ y.ring.length ∧ (f y).nextSequence = y.nextSequence := by exact fun _ => ⟨le_rfl, rfl⟩) :
    KeepsLists s (t.modControl c f) := h.modCh _ (.of_eq (hf _).1 (hf _).2 rfl rfl id)

theorem KeepsLists.modCue (h : KeepsLists s t) (f : CueContext → CueContext) (hf : ∀ y, (f y).nextNumber = y.nextNumber := by exact fun _ => rfl) :
    KeepsLists s (t.modCue c f) := h.modCh _ (.of_eq le_rfl rfl rfl (hf _) id)

theorem KeepsLists.modWork (h : KeepsLists s t) (f : ChannelWork → ChannelWork)
    (hf : ∀ y, (f y).snapshot = true → y.snapshot = true := by first | exact fun _ => id | exact fun _ => nofun) :
    KeepsLists s (t.modWork c f) := h.modCh _ (.of_eq le_rfl rfl rfl rfl (hf _))

theorem KeepsLists.bumpBy (h : KeepsLists s t) (key : CounterKey) (n : Nat) : KeepsLists s (t.bumpBy key n) := by
  refine h.trans ⟨⟨rfl, List.prefix_refl _, rfl, rfl, fun hs k => ?_, id, fun _ => id⟩, rfl, fun _ => ListsKept.refl _⟩
  rw [State.counter_bumpBy]
  split
  · exact satAdd_le _ _
  · exact hs k

theorem KeepsLists.bump (h : KeepsLists s t) (key : CounterKey) : KeepsLists s (t.bump key) := h.bumpBy key 1
theorem KeepsLists.bumpCh (h : KeepsLists s t) (k : ChanCtr) : KeepsLists s (t.bumpCh c k) := h.bumpBy _ 1
theorem KeepsLists.bumpUnit (h : KeepsLists s t) (k : UnitCtr) : KeepsLists s (t.bumpUnit k) := h.bumpBy _ 1

theorem KeepsLists.send (h : KeepsLists s t) (p : Port) (what : Outgoing) : KeepsLists s (t.send p what) :=
  h.of_eq rfl (List.prefix_append _ _) rfl rfl rfl rfl rfl
theorem KeepsLists.sendMain (h : KeepsLists s t) (what : Outgoing) : KeepsLists s (t.sendMain what) := (h.send _ _).send _ _

theorem KeepsLists.modSlate (h : KeepsLists s t) (i : Fin 8) (f : Slate → Slate) : KeepsLists s (t.modSlate i f) :=
  h.of_eq rfl (List.prefix_refl _) rfl rfl rfl rfl rfl
theorem KeepsLists.mapSlates (h : KeepsLists s t) (f : Slate → Slate) : KeepsLists s (t.mapSlates f) :=
  h.of_eq rfl (List.prefix_refl _) rfl rfl rfl rfl rfl
theorem KeepsLists.modSite (h : KeepsLists s t) (f : Site → Site) : KeepsLists s (t.modSite f) :=
  h.of_eq rfl (List.prefix_refl _) rfl rfl rfl rfl rfl
theorem KeepsLists.modUnit (h : KeepsLists s t) (f : UnitSettings → UnitSettings) : KeepsLists s (t.modUnit f) :=
  h.of_eq rfl (List.prefix_refl _) rfl rfl rfl rfl rfl
theorem KeepsLists.setWork (h : KeepsLists s t) (w : UnitWork) : KeepsLists s { t with work := w } :=
  h.of_eq rfl (List.prefix_refl _) rfl rfl rfl rfl rfl
theorem KeepsLists.setPorts (h : KeepsLists s t) (p : Ports) : KeepsLists s { t with ports := p } :=
  h.of_eq rfl (List.prefix_refl _) rfl rfl rfl rfl rfl
theorem KeepsLists.modPath (h : KeepsLists s t) (side : Side) (f : PathState → PathState) : KeepsLists s (t.modPath side f) := by
  cases side <;> exact h.setPorts _

/-- A change of the Management Unit that keeps the load's state and the bounds of both contexts. -/
theorem KeepsLists.setMgmt (h : KeepsLists s t) (m : Management) (hc : m.config = t.mgmt.config)
    (hm : ContextInv t.mgmt.mainSite → ContextInv m.mainSite) (hn : ContextInv t.mgmt.console → ContextInv m.console) :
    KeepsLists s { t with mgmt := m } := by
  refine h.trans ⟨⟨rfl, List.prefix_refl _, rfl, hc, id, fun hs o => ?_, fun _ => id⟩, rfl, fun _ => ListsKept.refl _⟩
  cases o
  · exact hm (hs .mainSite)
  · exact hn (hs .console)

theorem KeepsLists.modCtx' (h : KeepsLists s t) (o : Origin) (f : Context → Context) (hf : ContextInv (t.ctx o) → ContextInv (f (t.ctx o))) :
    KeepsLists s (t.modCtx o f) := by
  cases o
  · exact h.setMgmt _ rfl hf id
  · exact h.setMgmt _ rfl id hf

theorem KeepsLists.modCtx (h : KeepsLists s t) (o : Origin) (f : Context → Context)
    (hf : ∀ x, (f x).queue = x.queue ∧ (f x).nextSequence = x.nextSequence := by exact fun _ => ⟨rfl, rfl⟩) : KeepsLists s (t.modCtx o f) :=
  h.modCtx' o f fun hx => ⟨by rw [(hf _).1]; exact hx.queue, by rw [(hf _).2]; exact hx.sequence⟩

theorem KeepsLists.reply (h : KeepsLists s t) (o : Origin) (p : Port) (r : Reply) : KeepsLists s (t.reply o p r) := by
  unfold State.reply
  split
  · exact (h.bump _).send _ _
  · exact h.bump _

theorem KeepsLists.answer (h : KeepsLists s t) (x : Asked) (result : Result) (clamped : Bool) (contents : List Atom) :
    KeepsLists s (t.answer x result clamped contents) := h.reply _ _ _

theorem admissionLimit_le (level : Nat) : admissionLimit level ≤ 32 := by
  unfold admissionLimit
  split <;> decide

/-- R198: a report is admitted below 32 entries, and a sequence wraps at 65,536. -/
theorem KeepsLists.offer (h : KeepsLists s t) (o : Origin) (r : Report) : KeepsLists s (t.offer o r) := by
  unfold State.offer
  dsimp only
  split
  · exact h
  · split
    · rename_i hlen
      refine h.modCtx' o _ fun _ => ⟨?_, Nat.mod_lt _ (by decide)⟩
      have := admissionLimit_le ((t.ctx o).levels[(reportKind r).val])
      simp only [List.length_append, List.length_singleton]
      omega
    · exact (h.modCtx' o _ fun hx => ⟨hx.queue, Nat.mod_lt _ (by decide)⟩).bump _

theorem KeepsLists.raise (h : KeepsLists s t) (r : Report) : KeepsLists s (t.raise r) := (h.offer _ r).offer _ r

/-- A fold of operations each of which keeps them. -/
theorem KeepsLists.foldl {α : Type} (h : KeepsLists s t) (l : List α) (f : State → α → State) (hf : ∀ u x, KeepsLists s u → KeepsLists s (f u x)) :
    KeepsLists s (l.foldl f t) := by
  induction l generalizing t with
  | nil => exact h
  | cons x l ih => exact ih (hf t x h)

theorem KeepsLists.eachChannel (h : KeepsLists s t) (f : Chan → State → State) (hf : ∀ c u, KeepsLists s u → KeepsLists s (f c u)) :
    KeepsLists s (t.eachChannel f) := h.foldl _ _ fun u c hu => hf c u hu

theorem KeepsBounds.eachChannel (h : KeepsBounds s t) (f : Chan → State → State) (hf : ∀ c u, KeepsBounds s u → KeepsBounds s (f c u)) :
    KeepsBounds s (t.eachChannel f) := State.eachChannel_keeps hf h

end Sys2Proof.Machine

/-! PROOFS. The Channel Controller and the Cue Engine keep the bounds and the lists: one lemma per operation. -/

namespace Sys2Proof.Machine

-- Each elaboration thread takes a large stack, and the text is compiled as one file under a memory limit: one thread at a time.
set_option Elab.async false

variable {s t : State} {c : Chan}

/-! ## The channel record and the cues -/

theorem KeepsLists.setState (h : KeepsLists s t) (x : ChannelState) : KeepsLists s (t.setState c x) := (h.modControl _).modOutput _

theorem KeepsLists.modRecord (h : KeepsLists s t) (f : TakeoverRecord → TakeoverRecord) : KeepsLists s (t.modRecord c f) := by
  unfold State.modRecord
  split
  · exact h
  · exact h.modControl _ fun _ => ⟨by simp, rfl⟩

theorem KeepsLists.sendCancel (h : KeepsLists s t) (server : Fin 8) (player number : Nat) : KeepsLists s (t.sendCancel c server player number) := by
  unfold State.sendCancel
  split
  · exact h.bumpCh _ |>.send _ _
  · exact h.bumpCh _

theorem KeepsLists.sendStop (h : KeepsLists s t) (server : Fin 8) (player number : Nat) : KeepsLists s (t.sendStop c server player number) := by
  unfold State.sendStop
  split
  · exact h.bumpCh _ |>.send _ _
  · exact h.bumpCh _

theorem KeepsLists.cancelCue (h : KeepsLists s t) (x : Cue) : KeepsLists s (t.cancelCue c x) := by
  unfold State.cancelCue
  split
  · exact h
  · exact h.sendCancel _ _ _
  · exact h

theorem KeepsLists.cancelPending (h : KeepsLists s t) : KeepsLists s (t.cancelPending c) := by
  unfold State.cancelPending
  split
  · exact h
  · exact (h.cancelCue _).modCue _

theorem KeepsLists.stopPlaying (h : KeepsLists s t) : KeepsLists s (t.stopPlaying c) := by
  unfold State.stopPlaying
  split
  · exact h
  · dsimp only
    split
    · exact (h.sendStop _ _ _).modCue _
    · exact h.modCue _

theorem KeepsLists.clearWait (h : KeepsLists s t) : KeepsLists s (t.clearWait c) := h.modCue _

theorem KeepsLists.cueFailed (h : KeepsLists s t) : KeepsLists s (t.cueFailed c) := (h.bumpCh _).raise _

theorem KeepsLists.exhausted (h : KeepsLists s t) : KeepsLists s (t.exhausted c) := by
  unfold State.exhausted
  split
  · exact (((h.modRecord _).setState _).modControl _).cueFailed
  · exact (h.modRecord _).cueFailed
  · exact ((h.setState _).stopPlaying).cueFailed
  · exact (h.modControl _).cueFailed
  · exact (h.modControl _).cueFailed
  · exact h

theorem KeepsLists.noSchedule (h : KeepsLists s t) : KeepsLists s (t.noSchedule c) := by
  unfold State.noSchedule
  split
  · exact (h.modRecord _).setState _
  · exact h.modRecord _
  · exact (h.setState _).stopPlaying
  · exact h.modControl _
  · exact h.modControl _
  · exact h

theorem KeepsLists.switchTaken (h : KeepsLists s t) (kind : CueKind) (x : Nat) : KeepsLists s (t.switchTaken c kind x) := by
  unfold State.switchTaken
  split
  · exact ((h.modRecord _).setState _).raise _
  · exact ((h.modRecord _).setState _).raise _
  · exact h.raise _
  · exact h.raise _
  · exact h.raise _
  · exact h

/-! ## Joins and follow-ons -/

theorem KeepsLists.writeLink (h : KeepsLists s t) (j : JoinChoice) : KeepsLists s (t.writeLink c j) := by
  unfold State.writeLink
  split
  · dsimp only
    split
    · exact (h.modRecord _).modCue _
    · exact h.modCue _
  · exact h

/-- R150: the next cue number wraps at 256. -/
theorem KeepsLists.sendCue (h : KeepsLists s t) (p : Port) (kind : CueKind) (e : Event) (offset x used limit : Nat) :
    KeepsLists s (t.sendCue c p kind e offset x used limit) := by
  refine ((h.modCh _ ?_).bumpCh _).send _ _
  exact ⟨fun hx => ⟨hx.ring, hx.sequence, hx.expected, Nat.mod_lt _ (by decide)⟩, rfl, rfl, rfl, rfl, id⟩

theorem KeepsLists.runJoin (h : KeepsLists s t) (fuel used limit : Nat) : KeepsLists s (State.runJoin fuel t c used limit) := by
  induction fuel generalizing t used with
  | zero => exact h
  | succ fuel ih =>
    unfold State.runJoin
    dsimp only
    split
    · exact ((h.writeLink _).modCue _).noSchedule
    · split
      · exact (h.writeLink _).sendCue _ _ _ _ _ _ _
      · split
        · exact ih ((h.writeLink _).bumpCh _) _
        · exact ((h.writeLink _).bumpCh _).exhausted

theorem KeepsLists.join (h : KeepsLists s t) (used limit : Nat) : KeepsLists s (t.join c used limit) := h.runJoin _ _ _

theorem KeepsLists.requestJoin (h : KeepsLists s t) : KeepsLists s (t.requestJoin c) := (h.cancelPending.clearWait).join _ _

theorem KeepsLists.requestCancel (h : KeepsLists s t) : KeepsLists s (t.requestCancel c) := h.cancelPending.clearWait

theorem KeepsLists.endCues (h : KeepsLists s t) : KeepsLists s (t.endCues c) := (h.cancelPending.stopPlaying).modCue _

theorem KeepsLists.failJoin (h : KeepsLists s t) (x : Cue) : KeepsLists s (t.failJoin c x) := by
  unfold State.failJoin
  dsimp only
  split
  · exact h.cancelPending.join _ _
  · exact h.cancelPending.exhausted

theorem KeepsLists.runFollowOn (h : KeepsLists s t) (fuel used limit : Nat) : KeepsLists s (State.runFollowOn fuel t c used limit) := by
  induction fuel generalizing t used with
  | zero => exact h
  | succ fuel ih =>
    unfold State.runFollowOn
    split
    · exact h
    · dsimp only
      split
      · exact h.sendCue _ _ _ _ _ _ _
      · split
        · exact ih (h.bumpCh _) _
        · exact (h.bumpCh _).modCue _

theorem KeepsLists.followOnCheck (h : KeepsLists s t) : KeepsLists s (t.followOnCheck c) := h.runFollowOn _ _ _

theorem KeepsLists.failFollowOn (h : KeepsLists s t) (x : Cue) : KeepsLists s (t.failFollowOn c x) := by
  unfold State.failFollowOn
  split
  · exact h.cancelPending.runFollowOn _ _ _
  · exact (h.cancelCue _).modCue _

theorem KeepsLists.recheckFollowOn (h : KeepsLists s t) (x : Cue) : KeepsLists s (t.recheckFollowOn c x) := h.runFollowOn _ _ _

theorem KeepsLists.recomputeCue (h : KeepsLists s t) (x : Cue) : KeepsLists s (t.recomputeCue c x) := by
  unfold State.recomputeCue
  split
  · exact h.join _ _
  · exact h.recheckFollowOn _

theorem KeepsLists.recheckTouched (h : KeepsLists s t) (touched : Option Cue) : KeepsLists s (t.recheckTouched c touched) := by
  unfold State.recheckTouched
  split
  · split
    · exact h.recheckFollowOn _
    · exact h
  · exact h

theorem KeepsLists.switchCue (h : KeepsLists s t) (x : Cue) : KeepsLists s (t.switchCue c x) := by
  have key : ∀ u, KeepsLists s u →
      KeepsLists s ((((u.modCue c fun y => { y with pendingCue := none, playing := some x }).bumpCh c .switches).switchTaken c x.kind x.switchPosition).followOnCheck c) :=
    fun u hu => (((hu.modCue _).bumpCh _).switchTaken _ _).followOnCheck
  unfold State.switchCue
  dsimp only
  split
  · split
    · exact key _ h
    · exact key _ h.stopPlaying
  · exact key _ h

/-! ## Answers and notices -/

theorem KeepsLists.judgeReady (h : KeepsLists s t) (server : Fin 8) (player number : Nat) : KeepsLists s (t.judgeReady c server player number) := by
  unfold State.judgeReady
  dsimp only
  split
  · split
    · exact h.modCue _
    · exact h.bumpCh _
    · exact (h.sendCancel _ _ _).bumpCh _
  · split
    · exact h.bumpCh _
    · exact (h.sendCancel _ _ _).bumpCh _

theorem KeepsLists.judgeRefused (h : KeepsLists s t) (number : Nat) : KeepsLists s (t.judgeRefused c number) := by
  unfold State.judgeRefused
  split
  · split
    · dsimp only
      split
      · exact (h.bumpCh _).failJoin _
      · exact (h.bumpCh _).failFollowOn _
    · exact h.bumpCh _
  · exact h.bumpCh _

theorem KeepsLists.takeReady (h : KeepsLists s t) (server : Fin 8) (player number : Nat) : KeepsLists s (t.takeReady server player number) := by
  unfold State.takeReady
  split
  · exact h.bumpUnit _
  · exact h.foldl _ _ fun _ _ hu => hu.judgeReady _ _ _

theorem KeepsLists.takeRefused (h : KeepsLists s t) (server : Fin 8) (player number : Nat) : KeepsLists s (t.takeRefused server player number) := by
  unfold State.takeRefused
  split
  · exact h.bumpUnit _
  · exact h.foldl _ _ fun _ _ hu => hu.judgeRefused _

theorem KeepsLists.takeNotice (h : KeepsLists s t) (notice : Notice) : KeepsLists s (t.takeNotice c notice) := by
  have key : KeepsLists s (if (t.touchedPending c notice).isSome then (t.cancelPending c).bumpCh c .recomputes else t) := by
    split
    · exact h.cancelPending.bumpCh _
    · exact h
  unfold State.takeNotice
  dsimp only
  generalize (if (t.touchedPending c notice).isSome then (t.cancelPending c).bumpCh c .recomputes else t) = u at key ⊢
  split
  · split
    · exact (key.cancelPending.join _ _).recheckTouched _
    · split
      · exact (key.modCue _).recomputeCue _
      · exact key.modCue _
  · split
    · exact key.recomputeCue _
    · exact key.clearWait.join _ _
    · exact key

theorem KeepsLists.realignCues (h : KeepsLists s t) : KeepsLists s (t.realignCues c) := by
  have again : ∀ used limit, KeepsLists s (((t.cancelPending c).bumpCh c .recomputes).join c used limit) := fun _ _ => (h.cancelPending.bumpCh _).join _ _
  unfold State.realignCues
  dsimp only
  split
  · split
    · exact again _ _
    · exact h
  · split
    · exact again _ _
    · exact h
  · split
    · exact again _ _
    · exact h
  · split
    · exact again _ _
    · exact h
  · exact h.cancelPending
  · exact h

/-! ## Takeovers and returns -/

/-- R145: a ring that holds at most 8 records holds at most 8 with one more. -/
theorem pushRecord_length {ring : List TakeoverRecord} (h : ring.length ≤ 8) (r : TakeoverRecord) : (pushRecord ring r).length ≤ 8 := by
  unfold pushRecord
  split <;> simp <;> omega

theorem KeepsLists.openRecord (h : KeepsLists s t) (cause : TakeoverCause) (asserted : List Detector) (origin : Option Origin) :
    KeepsLists s (t.openRecord c cause asserted origin) := by
  have key : ∀ u, KeepsLists s u → (u.ch c).control = (t.ch c).control → KeepsLists s
      (u.modControl c fun y =>
        { y with
          current := some (t.ch c).control.nextSequence
          nextSequence := ((t.ch c).control.nextSequence + 1) % 65536
          ring := pushRecord (t.ch c).control.ring
            { sequence := (t.ch c).control.nextSequence, causes := [cause], asserted := asserted, origin := origin, decision := t.time.h
              replication := (t.ch c).schedule.state, event := none, switchPosition := none, outcome := .pending, returnPosition := none }
          overflow := (t.ch c).control.overflow || decide (8 ≤ (t.ch c).control.ring.length) }) := fun u hu hc =>
    hu.modCh _ ⟨fun hx => ⟨pushRecord_length (hc ▸ hx.ring) _, Nat.mod_lt _ (by decide), hx.expected, hx.cueNumber⟩, rfl, rfl, rfl, rfl, id⟩
  unfold State.openRecord
  dsimp only
  split
  · exact key _ (h.bumpCh _) rfl
  · exact key _ h rfl

theorem KeepsLists.takeover (h : KeepsLists s t) (cause : TakeoverCause) (asserted : List Detector) (origin : Option Origin) :
    KeepsLists s (t.takeover c cause asserted origin) := by
  unfold State.takeover
  split
  · exact ((((((h.openRecord _ _ _).modControl _).setState _).bumpCh _).raise _).modCue _).requestJoin
  · exact h

theorem KeepsLists.followOnFailed (h : KeepsLists s t) : KeepsLists s (t.followOnFailed c) := by
  unfold State.followOnFailed
  split
  · exact (h.setState _).requestJoin
  · exact h.modControl _
  · exact h.modControl _
  · exact h

theorem KeepsLists.startGuard (h : KeepsLists s t) : KeepsLists s (t.startGuard c) := by
  unfold State.startGuard
  split
  · exact (h.modControl _).setState _
  · exact (h.requestCancel.modControl _).setState _
  · exact h

theorem KeepsLists.tellReturn (h : KeepsLists s t) (r : Nat) : KeepsLists s (t.tellReturn c r) := by
  unfold State.tellReturn
  split
  · split
    · exact h.cancelPending
    · exact h
  · exact h

theorem KeepsLists.enterReturning (h : KeepsLists s t) (byPin : Bool) : KeepsLists s (t.enterReturning c byPin) :=
  ((h.modControl _).setState _).tellReturn _

theorem KeepsLists.closeRecord (h : KeepsLists s t) : KeepsLists s (t.closeRecord c) := by
  unfold State.closeRecord
  exact ((h.bumpCh _).raise _).modControl _

theorem KeepsLists.arrive (h : KeepsLists s t) : KeepsLists s (t.arrive c) := ((((h.setState _).endCues).modControl _).modRecord _).closeRecord

theorem KeepsLists.abandonTakeover (h : KeepsLists s t) : KeepsLists s (t.abandonTakeover c) :=
  (((h.requestCancel.setState _).modControl _).modRecord _).closeRecord

theorem KeepsLists.expireGuard (h : KeepsLists s t) : KeepsLists s (t.expireGuard c) := (h.bumpCh _).enterReturning _

theorem KeepsLists.callOff (h : KeepsLists s t) (bySite : Bool) : KeepsLists s (t.callOff c bySite) := by
  unfold State.callOff
  dsimp only
  split
  · exact ((h.modControl _).setState _).requestJoin
  · exact (((h.modControl _).setState _).stopPlaying).requestJoin
  · exact ((h.modControl _).setState _).followOnCheck

theorem KeepsLists.callOffReturn (h : KeepsLists s t) : KeepsLists s (t.callOffReturn c) := by
  unfold State.callOffReturn
  split
  · exact (h.bumpCh _).callOff _
  · exact h.callOff _

theorem KeepsLists.cueingFailed (h : KeepsLists s t) (asserted : List Detector) : KeepsLists s (t.cueingFailed c asserted) :=
  ((h.modRecord _).modControl _).setState _

theorem KeepsLists.setPin (h : KeepsLists s t) (p : Pin) : KeepsLists s (t.setPin c p) := by
  unfold State.setPin
  dsimp only
  split
  · exact ((h.modOutput _).bumpCh _).modControl _
  · exact h.modControl _

theorem KeepsLists.takeVerdict (h : KeepsLists s t) (n : VerdictNotice) : KeepsLists s (t.takeVerdict n) := by
  unfold State.takeVerdict
  dsimp only
  split
  · split
    · exact h.takeover _ _ _
    · exact h
  · split
    · exact h.cueingFailed _
    · exact h
  · split
    · exact h.startGuard
    · exact h
  · split
    · exact h.startGuard
    · exact h
  · exact (h.bumpCh _).modControl _
  · exact h.callOffReturn
  · split
    · exact h.callOffReturn
    · exact h
  · exact h

theorem KeepsLists.controlEntry (h : KeepsLists s t) (mode : ServiceMode) : KeepsLists s (t.controlEntry c mode) := (h.modControl _).setState _

theorem KeepsLists.controlExit (h : KeepsLists s t) : KeepsLists s (t.controlExit c) := ((h.endCues.modRecord _).modControl _).setState _

/-! ## The site -/

theorem KeepsLists.siteLossNotice (h : KeepsLists s t) : KeepsLists s (t.siteLossNotice c) := by
  unfold State.siteLossNotice
  dsimp only
  split
  · exact (h.modControl _).callOff _
  · exact (h.modControl _).callOff _
  · split
    · exact (h.modControl _).takeover _ _ _
    · exact h.modControl _
  · exact h.modControl _

theorem KeepsLists.siteRestoreNotice (h : KeepsLists s t) : KeepsLists s (t.siteRestoreNotice c) := by
  unfold State.siteRestoreNotice
  split
  · exact h.startGuard
  · exact h

theorem KeepsLists.enterLost (h : KeepsLists s t) (cause : LossCause) (how : SiteCause) : KeepsLists s (t.enterLost cause how) :=
  (((h.modSite _).bumpUnit _).raise _).eachChannel _ fun _ _ hu => hu.siteLossNotice

theorem KeepsLists.setSite (h : KeepsLists s t) (cause : SiteCause) : KeepsLists s (t.setSite cause) := by
  unfold State.setSite
  dsimp only
  split
  · exact h
  · split
    · exact h.enterLost _ _
    · exact (h.modSite _).raise _

theorem KeepsLists.evaluateSite (h : KeepsLists s t) (cause : SiteCause) (pathUp : Bool) : KeepsLists s (t.evaluateSite cause pathUp) := by
  unfold State.evaluateSite
  split
  · exact h
  · split
    · exact h.setSite _
    · exact h
  · exact h.setSite _

theorem KeepsLists.pathChanged (h : KeepsLists s t) (side : Side) (up : Bool) : KeepsLists s (t.pathChanged side up) := by
  unfold State.pathChanged
  cases side
  · exact (h.modSite _).evaluateSite _ _
  · exact (h.modSite _).evaluateSite _ _

theorem KeepsLists.compareKeepalive (h : KeepsLists s t) (sequence : Nat) : KeepsLists s (t.compareKeepalive sequence) := by
  unfold State.compareKeepalive
  split
  · exact h
  · split
    · exact h.bumpUnit _
    · split
      · exact h
      · exact h.bumpUnit _

theorem KeepsLists.takeKeepalive (h : KeepsLists s t) (side : Side) (sequence : Nat) : KeepsLists s (t.takeKeepalive side sequence) := by
  unfold State.takeKeepalive
  dsimp only
  split
  · exact (((h.modSite _).bumpUnit _).compareKeepalive _).modSite _
  · exact ((((h.modSite _).evaluateSite _ _).bumpUnit _).compareKeepalive _).modSite _

theorem KeepsLists.countKeepalive (h : KeepsLists s t) : KeepsLists s t.countKeepalive := by
  unfold State.countKeepalive
  split
  · exact KeepsLists.setWork (t := t.modSite fun x => { x with elapsed := t.site.elapsed + 1 }) (h.modSite _) _
  · exact h

theorem KeepsLists.expireKeepalive (h : KeepsLists s t) : KeepsLists s t.expireKeepalive :=
  ((h.modSite _).bumpUnit _).evaluateSite _ _

theorem KeepsLists.commandDeclareLost (h : KeepsLists s t) : KeepsLists s t.commandDeclareLost.1 := by
  unfold State.commandDeclareLost
  split <;> dsimp only
  · exact h
  · exact h.enterLost _ _

theorem KeepsLists.commandRestore (h : KeepsLists s t) : KeepsLists s t.commandRestore.1 := by
  unfold State.commandRestore
  split
  · split <;> dsimp only
    · exact (((h.modSite _).bumpUnit _).raise _).eachChannel _ fun _ _ hu => hu.siteRestoreNotice
    · exact h.bumpUnit _
  · exact h

/-! ## The channel commands -/

theorem KeepsLists.commandTake (h : KeepsLists s t) (o : Origin) : KeepsLists s (t.commandTake c o).1 := by
  unfold State.commandTake
  split_ifs
  iterate 4 · exact h
  exact h.takeover _ _ _

theorem KeepsLists.commandReturn (h : KeepsLists s t) (o : Origin) : KeepsLists s (t.commandReturn c o).1 := by
  unfold State.commandReturn
  split_ifs
  iterate 4 · exact h
  split
  · exact (h.modControl _).enterReturning _
  · exact (h.requestCancel.modControl _).enterReturning _
  · exact h.enterReturning _
  · exact h
  · exact h.abandonTakeover
  · exact h
  · exact h

theorem KeepsLists.commandHold (h : KeepsLists s t) (o : Origin) : KeepsLists s (t.commandHold c o).1 := by
  unfold State.commandHold
  split_ifs
  iterate 2 · exact h
  split <;> dsimp only
  iterate 3 · exact h
  iterate 2 · exact (h.modControl _).callOffReturn
  iterate 2 · exact h.modControl _

theorem KeepsLists.commandPinMain (h : KeepsLists s t) : KeepsLists s (t.commandPinMain c).1 := by
  unfold State.commandPinMain
  split_ifs
  iterate 3 · exact h
  have key := (h.setPin (c := c) .main).modControl (c := c) fun y => { y with awaitingRecue := false }
  dsimp only
  split
  · exact key.abandonTakeover
  · exact (key.requestCancel.modControl _).enterReturning _
  · exact (key.requestCancel.modControl _).enterReturning _
  · exact key.requestCancel.enterReturning _
  · split_ifs <;> dsimp only
    · exact (key.requestCancel.modControl _).tellReturn _
    · exact key.requestCancel
  · exact key
  · exact key

theorem KeepsLists.commandPinStandby (h : KeepsLists s t) : KeepsLists s (t.commandPinStandby c).1 := by
  unfold State.commandPinStandby
  split_ifs
  iterate 2 · exact h
  dsimp only
  split
  · exact (h.setPin _).takeover _ _ _
  · exact (h.setPin _).callOffReturn
  · exact (h.setPin _).callOffReturn
  · exact h.setPin _

theorem KeepsLists.commandUnpin (h : KeepsLists s t) : KeepsLists s (t.commandUnpin c).1 := by
  unfold State.commandUnpin
  split <;> dsimp only
  · exact h
  · exact h.modControl _

theorem KeepsLists.commandRelease (h : KeepsLists s t) : KeepsLists s (t.commandRelease c).1 := by
  unfold State.commandRelease
  split <;> dsimp only
  · exact h
  · exact h.modControl _

theorem KeepsLists.commandAck (h : KeepsLists s t) (o : Origin) : KeepsLists s (t.commandAck c o).1 := by
  unfold State.commandAck
  split <;> dsimp only
  · exact h
  · exact h.modControl _

theorem KeepsLists.commandRecue (h : KeepsLists s t) : KeepsLists s (t.commandRecue c).1 := by
  unfold State.commandRecue
  split
  · exact h
  split
  · exact h
  split
  · exact h.requestJoin
  · exact h.requestJoin
  · split <;> dsimp only
    · exact (((h.modControl _).modRecord _).setState _).requestJoin
    · exact h
  · exact h.requestJoin
  iterate 3 · exact h

theorem KeepsLists.commandClearRecords (h : KeepsLists s t) : KeepsLists s (t.commandClearRecords c).1 := by
  unfold State.commandClearRecords
  dsimp only
  exact h.modControl _ fun _ => ⟨Nat.zero_le _, rfl⟩

end Sys2Proof.Machine

/-! PROOFS. The Alignment Unit, the Carriage Receiver, the Continuity Monitor and the Output Assembler keep the bounds and the lists: one lemma per operation. -/

namespace Sys2Proof.Machine

-- Each elaboration thread takes a large stack, and the text is compiled as one file under a memory limit: one thread at a time.
set_option Elab.async false

variable {s t : State} {c : Chan}

/-! ## Alignment -/

theorem KeepsLists.freeMain (h : KeepsLists s t) (pred : Nat → Bool) : KeepsLists s (t.freeMain c pred) := h.modCh _ (.of_eq le_rfl rfl rfl rfl id)
theorem KeepsLists.freeStandby (h : KeepsLists s t) (pred : Nat → Bool) : KeepsLists s (t.freeStandby c pred) := h.modCh _ (.of_eq le_rfl rfl rfl rfl id)
theorem KeepsLists.startCopies (h : KeepsLists s t) (path : SourcePath) : KeepsLists s (t.startCopies c path) := h.mapSlates _
theorem KeepsLists.stopCopies (h : KeepsLists s t) (path : SourcePath) : KeepsLists s (t.stopCopies c path) := h.mapSlates _

theorem KeepsLists.endCapture (h : KeepsLists s t) (i : Fin 8) (r : Capture) (result : Result) : KeepsLists s (t.endCapture i r result) :=
  (h.modSlate _ _).reply _ _ _

theorem KeepsLists.abandonCaptures (h : KeepsLists s t) : KeepsLists s (t.abandonCaptures c) := by
  refine h.foldl _ _ fun u i hu => ?_
  split
  · split
    · exact hu.endCapture _ _ _
    · exact hu
  · exact hu

theorem KeepsLists.evictHeld (h : KeepsLists s t) : KeepsLists s (t.evictHeld c) := ((h.modAlign _).bumpCh _).stopCopies _

theorem KeepsLists.takeUnit (h : KeepsLists s t) : KeepsLists s (t.takeUnit c) := by
  unfold State.takeUnit
  dsimp only
  split
  · exact h.evictHeld.modAlign _
  · exact h.modAlign _

theorem KeepsLists.takeSample (h : KeepsLists s t) (l : Int) : KeepsLists s (t.takeSample c l) := h.modAlign _

theorem KeepsLists.endDelayWindow (h : KeepsLists s t) : KeepsLists s (t.endDelayWindow c) := by
  unfold State.endDelayWindow
  dsimp only
  split
  · exact h
  · exact (h.modAlign _).bumpCh _

theorem KeepsLists.trackMissing (h : KeepsLists s t) (q : Nat) (slot : Slot) : KeepsLists s (t.trackMissing c q slot) := by
  unfold State.trackMissing
  dsimp only
  split
  · exact h
  · split
    · exact (h.bumpCh _).modSlots _
    · exact h.modSlots _

theorem KeepsLists.releaseMain (h : KeepsLists s t) (q : Nat) : KeepsLists s (t.releaseMain c q).1 := by
  have missing := fun f => (((h.bumpCh (c := c) .mainMissing).trackMissing (c := c) q ((t.ch c).slots.at .main q)).freeMain (c := c) fun p => p == q).modAlign (c := c) f
  unfold State.releaseMain
  dsimp only
  split
  · split <;> dsimp only
    · exact (h.modCh _ (.of_eq le_rfl rfl rfl rfl id)).startCopies _
    · exact missing _
  · dsimp only
    exact missing _

theorem KeepsLists.takeMainBoundary (h : KeepsLists s t) : KeepsLists s (t.takeMainBoundary c).1 := by
  unfold State.takeMainBoundary
  dsimp only
  split
  · exact ((((((h.bumpBy _ _).freeMain _).modAlign _).bumpCh _)).bumpBy _ _).freeMain _
  · split
    · exact (((h.releaseMain _).modAlign _).bumpBy _ _).freeMain _
    · exact (((((h.freeMain _).bumpBy _ _).releaseMain _).modAlign _).bumpBy _ _).freeMain _

theorem KeepsLists.rebaseMain (h : KeepsLists s t) : KeepsLists s (t.rebaseMain c) := h.modAlign _

theorem KeepsLists.releaseStandby (h : KeepsLists s t) (q : Nat) : KeepsLists s (t.releaseStandby c q) := by
  have missing := fun f => ((h.bumpCh (c := c) .standbyMissing).freeStandby (c := c) fun p => p == q).modAlign (c := c) f
  unfold State.releaseStandby
  dsimp only
  split
  · split
    · exact (h.modCh _ (.of_eq le_rfl rfl rfl rfl id)).startCopies _
    · exact missing _
  · exact missing _

theorem KeepsLists.takeStandbyBoundary (h : KeepsLists s t) (realigned : Bool) : KeepsLists s (t.takeStandbyBoundary c realigned) := by
  have key : ∀ u q, KeepsLists s u → KeepsLists s (((u.releaseStandby c q).modAlign c) fun x => { x with standbyFloor := q }) :=
    fun u q hu => (hu.releaseStandby q).modAlign _
  have start : KeepsLists s (if realigned then t.modAlign c fun x => { x with standbyFloor := t.wrap ((t.time.h : Int) - 1) } else t) := by
    split
    · exact h.modAlign _
    · exact h
  unfold State.takeStandbyBoundary
  dsimp only
  generalize (if realigned then t.modAlign c fun x => { x with standbyFloor := t.wrap ((t.time.h : Int) - 1) } else t) = u at start ⊢
  refine (KeepsLists.bumpBy ?_ _ _).freeStandby _
  split
  · exact start.modAlign _
  · split
    · exact key _ _ start
    · exact key _ _ (start.freeStandby _)

theorem KeepsLists.applyRetime (h : KeepsLists s t) : KeepsLists s (t.applyRetime c) := by
  unfold State.applyRetime
  split
  · exact h
  · exact (h.modAlign _).bumpCh _

theorem KeepsLists.alignEntry (h : KeepsLists s t) : KeepsLists s (t.alignEntry c) := by
  unfold State.alignEntry
  exact h.modAlign _

theorem KeepsLists.alignExit (h : KeepsLists s t) : KeepsLists s (t.alignExit c) := (h.modCh _ (.of_eq le_rfl rfl rfl rfl id)).abandonCaptures

theorem KeepsLists.completeCopy (h : KeepsLists s t) (i : Fin 8) : KeepsLists s (t.completeCopy i) := by
  unfold State.completeCopy
  split
  · split
    · exact (h.modSlate _ _).reply _ _ _
    · exact h
  · exact h

/-! ## Carriage -/

theorem KeepsLists.markTraffic (h : KeepsLists s t) (p : Port) : KeepsLists s (t.markTraffic p) := by
  unfold State.markTraffic
  split
  · exact h.modPath _ _
  · exact h

theorem KeepsLists.completeSlot (h : KeepsLists s t) (path : SourcePath) (r : Collect) (x : Summary) : KeepsLists s (t.completeSlot c path r x) := by
  cases path <;> unfold State.completeSlot <;> dsimp only
  · exact (h.modSlots _).takeSample _
  · exact h.modSlots _

theorem KeepsLists.countCorrupt (h : KeepsLists s t) (path : SourcePath) (bad : Bool) : KeepsLists s (t.countCorrupt c path bad) := by
  cases path <;> unfold State.countCorrupt
  · cases bad
    · exact h.bumpCh _
    · exact (h.bumpCh _).bumpCh _
  · exact h.bumpCh _

theorem KeepsLists.joinFilling (h : KeepsLists s t) (path : SourcePath) (p : Port) (r : Collect) (m : Media) :
    KeepsLists s (t.joinFilling c path p r m) := by
  unfold State.joinFilling
  split
  · exact h.bump _
  · exact (h.modSlots _).countCorrupt _ _
  · exact (h.modSlots _).countCorrupt _ _
  · dsimp only
    split
    · split
      · exact h.completeSlot _ _ _
      · exact h.modSlots _
    · exact h.modSlots _

theorem KeepsLists.joinComplete (h : KeepsLists s t) (p : Port) (f : Frame) (m : Media) : KeepsLists s (t.joinComplete c p f m) := by
  unfold State.joinComplete
  split
  · split
    · exact h.bump _
    · exact h.bumpCh _
  · split
    · exact h.bump _
    · exact h.bumpCh _
  · split
    · exact h.bumpCh _
    · exact h.bump _

theorem KeepsLists.placePiece (h : KeepsLists s t) (path : SourcePath) (p : Port) (m : Media) : KeepsLists s (t.placePiece c path p m) := by
  have reclaim := (((h.bumpCh (c := c) .staleReclaims).modSlots (c := c) fun y => y.put path m.stamp (.filling (.opened m.stamp))).joinFilling
    (c := c) path p (.opened m.stamp) m)
  unfold State.placePiece
  dsimp only
  split
  · exact (h.takeUnit.modSlots _).joinFilling _ _ _ _
  · split
    · exact h.joinFilling _ _ _ _
    · exact reclaim
  · split
    · exact h.joinComplete _ _ _
    · exact reclaim
  · split
    · exact h.bumpCh _
    · exact reclaim

theorem KeepsLists.offerTracker (h : KeepsLists s t) (p : Port) (m : Media) : KeepsLists s (t.offerTracker c p m) := by
  unfold State.offerTracker
  split
  · exact h
  · split
    · exact h
    · split
      · exact h.bump _
      · exact (h.modSlots _).bumpCh _
      · exact (h.modSlots _).bumpCh _
      · dsimp only
        split
        · exact ((h.modSlots _).takeSample _).bumpCh _
        · exact h.modSlots _

theorem KeepsLists.classifyMain (h : KeepsLists s t) (p : Port) (m : Media) : KeepsLists s (t.classifyMain c p m) := by
  unfold State.classifyMain
  dsimp only
  split
  · exact (h.bump _).offerTracker _ _
  · split
    · exact h.placePiece _ _ _
    · exact h.bump _

theorem KeepsLists.classifyStandby (h : KeepsLists s t) (p : Port) (m : Media) : KeepsLists s (t.classifyStandby c p m) := by
  unfold State.classifyStandby
  dsimp only
  split
  · exact h.bumpCh _
  · split
    · exact h.placePiece _ _ _
    · exact h.bumpCh _

theorem KeepsLists.receiveMainMedia (h : KeepsLists s t) (side : Side) (m : Media) : KeepsLists s (t.receiveMainMedia side m) := by
  have h := h.bump (.port (.contribution side) .carriersIn)
  unfold State.receiveMainMedia State.countCarrier
  dsimp only
  split
  · exact h
  · split
    · exact h.bump _
    · split
      · exact h.markTraffic _
      · split
        · exact (h.markTraffic _).classifyMain _ _
        · exact (h.markTraffic _).bump _

theorem KeepsLists.receiveStandbyMedia (h : KeepsLists s t) (n : Fin 4) (m : Media) : KeepsLists s (t.receiveStandbyMedia n m) := by
  have h := h.bump (.port (.standby n) .carriersIn)
  unfold State.receiveStandbyMedia State.countCarrier
  dsimp only
  split
  · exact h
  · split
    · exact h.bump _
    · split
      · exact h.bump _
      · exact h.classifyStandby _ _

theorem KeepsLists.takePathsBoundary (h : KeepsLists s t) : KeepsLists s t.takePathsBoundary :=
  h.of_eq rfl (List.prefix_refl _) rfl rfl rfl rfl rfl

/-! ## Monitoring -/

theorem KeepsLists.holdVerdict (h : KeepsLists s t) (cause : EvalCause) : KeepsLists s (t.holdVerdict c cause).1 := by
  unfold State.holdVerdict
  dsimp only
  split
  · exact h
  · exact (h.modMonitor _).bumpCh _

theorem KeepsLists.deliver (h : KeepsLists s t) (n : Option VerdictNotice) : KeepsLists s (t.deliver n) := by
  cases n
  · exact h
  · exact h.takeVerdict _

theorem KeepsLists.evaluate (h : KeepsLists s t) (cause : EvalCause) : KeepsLists s (t.evaluate c cause) := (h.holdVerdict _).deliver _

theorem KeepsLists.judgeDetector (h : KeepsLists s t) (j : Judgement) (det : Detector) : KeepsLists s (t.judgeDetector c j det).1 := by
  unfold State.judgeDetector
  dsimp only
  split
  · dsimp only
    exact h.modMonitor _
  · split <;> dsimp only
    · exact (h.modMonitor _).bumpCh _
    · exact ((h.modMonitor _).bumpCh _).modMonitor _

/-- What each detector's judgement keeps, the four keep. -/
theorem State.judgeDetectors_keeps {P : State → Prop} {j : Judgement} (step : ∀ u det, P u → P (u.judgeDetector c j det).1) (h : P t) :
    P (t.judgeDetectors c j).1 := by
  unfold State.judgeDetectors
  refine List.foldlRecOn (motive := fun x : State × List (Detector × EdgeKind) => P x.1) _ _ h fun x hx det _ => ?_
  have key := step x.1 det hx
  dsimp only
  split <;> rename_i hj <;> rw [hj] at key <;> exact key

theorem KeepsLists.judgeDetectors (h : KeepsLists s t) (j : Judgement) : KeepsLists s (t.judgeDetectors c j).1 :=
  State.judgeDetectors_keeps (fun _ det hu => hu.judgeDetector j det) h

theorem KeepsLists.reportEdge (h : KeepsLists s t) (e : Detector × EdgeKind) : KeepsLists s (t.reportEdge c e) := by
  unfold State.reportEdge
  rcases e with ⟨det, _ | _⟩ <;> dsimp only <;> split
  · exact h.raise _
  · exact h
  · exact h.raise _
  · exact h

theorem KeepsLists.judge (h : KeepsLists s t) (j : Judgement) : KeepsLists s (t.judge c j) := by
  unfold State.judge
  dsimp only
  refine KeepsLists.deliver (KeepsLists.foldl (KeepsLists.holdVerdict ?_ _) _ _ fun _ _ hu => hu.reportEdge _) _
  split
  · exact (h.judgeDetectors _).modMonitor _
  · exact h.judgeDetectors _

theorem KeepsLists.modDetector (h : KeepsLists s t) (det : Detector) (f : DetectorState → DetectorState) : KeepsLists s (t.modDetector c det f) :=
  h.modMonitor _

theorem KeepsLists.eachDetector (h : KeepsLists s t) (f : DetectorSettings → DetectorState → DetectorState) : KeepsLists s (t.eachDetector c f) :=
  h.foldl _ _ fun _ _ hu => hu.modDetector _ _

theorem KeepsLists.endSettling (h : KeepsLists s t) (det : Detector) : KeepsLists s (t.endSettling c det) := h.modDetector _ _

theorem KeepsLists.monitorEntry (h : KeepsLists s t) : KeepsLists s (t.monitorEntry c) := ((h.modMonitor _).eachDetector _).evaluate _

theorem KeepsLists.monitorExit (h : KeepsLists s t) : KeepsLists s (t.monitorExit c) := ((h.eachDetector _).modMonitor _).evaluate _

theorem KeepsLists.monitorRestart (h : KeepsLists s t) : KeepsLists s (t.monitorRestart c) := (h.eachDetector _).evaluate _

/-! ## Output -/

theorem KeepsLists.cutRamp (h : KeepsLists s t) : KeepsLists s (t.cutRamp c) := by
  unfold State.cutRamp
  split
  · exact h
  · exact (h.modOutput _).bumpCh _

theorem KeepsLists.bufferFrame (h : KeepsLists s t) (f : OutFrame) : KeepsLists s (t.bufferFrame c f) := by
  unfold State.bufferFrame
  dsimp only
  split
  · exact (h.bumpCh _).modOutput _
  · exact h.modOutput _

theorem KeepsLists.assemble (h : KeepsLists s t) : KeepsLists s (t.assemble c) := by
  have key : ∀ u k f g x, KeepsLists s u → KeepsLists s ((((u.bumpCh c k).modOutput c f).modWork c fun w => { w with ramp := g }).bufferFrame c x) :=
    fun u k f g x hu => (((hu.bumpCh k).modOutput f).modWork _).bufferFrame x
  unfold State.assemble
  split
  · exact h
  · dsimp only
    split
    · exact key _ _ _ _ _ (h.bumpCh _)
    · exact key _ _ _ _ _ h

theorem KeepsLists.advanceRamp (h : KeepsLists s t) : KeepsLists s (t.advanceRamp c) := h.modOutput _

theorem KeepsLists.clearOutput (h : KeepsLists s t) : KeepsLists s (t.clearOutput c) := (h.modOutput _).modWork _

theorem KeepsLists.emit (h : KeepsLists s t) (side : Side) (f : OutFrame) : KeepsLists s (t.emit side f) := by
  unfold State.emit
  dsimp only
  split
  · exact (h.bumpBy _ _).of_eq rfl (List.prefix_append _ _) rfl rfl rfl rfl rfl
  · exact h.bumpBy _ _

theorem KeepsLists.sendFrame (h : KeepsLists s t) : KeepsLists s t.sendFrame := by
  have ended := h.eachChannel (fun c u => u.modOutput c fun y => { y with sending := none }) fun _ _ hu => hu.modOutput _
  unfold State.sendFrame
  dsimp only
  split
  · exact ended
  · split
    · exact ended
    · exact ((ended.modOutput _).emit _ _).emit _ _

/-! ## What a boundary makes due -/

theorem KeepsLists.finishChannel (h : KeepsLists s t) : KeepsLists s (t.finishChannel c) := by
  unfold State.finishChannel
  dsimp only
  split
  · split
    · exact (h.modWork _).assemble.judge _
    · exact (h.modWork _).assemble
  · exact h

theorem KeepsLists.countGuard (h : KeepsLists s t) : KeepsLists s (t.countGuard c) := by
  unfold State.countGuard
  split
  · exact h.modControl _
  · exact h

theorem KeepsLists.afterRelease (h : KeepsLists s t) (j : Option Judgement) (realigned : Bool) : KeepsLists s (t.afterRelease c j realigned) := by
  unfold State.afterRelease
  dsimp only
  split
  · exact (h.countGuard.realignCues.modWork _).finishChannel
  · exact (h.countGuard.modWork _).finishChannel

theorem KeepsLists.releaseChannel (h : KeepsLists s t) (realigned : Bool) : KeepsLists s (t.releaseChannel c realigned) := by
  unfold State.releaseChannel
  dsimp only
  split
  · exact h.rebaseMain.takeMainBoundary.afterRelease _ _
  · exact h.takeMainBoundary.afterRelease _ _

theorem KeepsLists.takeChannelBoundary (h : KeepsLists s t) (realigned : Bool) : KeepsLists s (t.takeChannelBoundary c realigned) := by
  unfold State.takeChannelBoundary
  dsimp only
  split
  · split
    · split
      · exact (h.takeStandbyBoundary _).applyRetime.releaseChannel _
      · exact (h.takeStandbyBoundary _).modWork _
    · exact (h.takeStandbyBoundary _).releaseChannel _
  · exact h

theorem KeepsLists.doRetime (h : KeepsLists s t) : KeepsLists s (t.doRetime c) := by
  unfold State.doRetime
  split
  · exact (h.modWork _).applyRetime.releaseChannel _
  · exact h

theorem KeepsLists.endCueStep (h : KeepsLists s t) (f : State → State) (hf : ∀ u, KeepsLists s u → KeepsLists s (f u)) :
    KeepsLists s (t.endCueStep c f) := (hf _ (h.modWork _)).finishChannel

theorem KeepsLists.doJoinSwitch (h : KeepsLists s t) : KeepsLists s (t.doJoinSwitch c) := by
  unfold State.doJoinSwitch
  split
  · exact h.endCueStep _ fun _ hu => hu.switchCue _
  · exact h

theorem KeepsLists.doJoinExpiry (h : KeepsLists s t) : KeepsLists s (t.doJoinExpiry c) := by
  unfold State.doJoinExpiry
  split
  · exact h.endCueStep _ fun _ hu => (hu.bumpCh _).failJoin _
  · exact h

theorem KeepsLists.doFollowOnSwitch (h : KeepsLists s t) : KeepsLists s (t.doFollowOnSwitch c) := by
  unfold State.doFollowOnSwitch
  split
  · exact h.endCueStep _ fun _ hu => hu.switchCue _
  · exact h

theorem KeepsLists.doFollowOnFailure (h : KeepsLists s t) : KeepsLists s (t.doFollowOnFailure c) := by
  unfold State.doFollowOnFailure
  split
  · exact h.endCueStep _ fun _ hu => (hu.cancelPending.stopPlaying.bumpCh _).followOnFailed
  · exact h

theorem KeepsLists.doFollowOnCheck (h : KeepsLists s t) : KeepsLists s (t.doFollowOnCheck c) := by
  unfold State.doFollowOnCheck
  split
  · exact h.endCueStep _ fun _ hu => hu.followOnCheck
  · exact h

theorem KeepsLists.doEndOfSchedule (h : KeepsLists s t) : KeepsLists s (t.doEndOfSchedule c) := by
  unfold State.doEndOfSchedule
  split
  · exact h.endCueStep _ fun _ hu => (hu.stopPlaying.bumpCh _).followOnFailed
  · exact h

theorem KeepsLists.doGuardExpiry (h : KeepsLists s t) : KeepsLists s (t.doGuardExpiry c) := by
  unfold State.doGuardExpiry
  split
  · exact (h.modWork _).expireGuard.finishChannel
  · exact h

theorem KeepsLists.doReturnArrival (h : KeepsLists s t) : KeepsLists s (t.doReturnArrival c) := by
  unfold State.doReturnArrival
  split
  · exact (h.modWork _).arrive.finishChannel
  · exact h

theorem KeepsLists.dropVoid (h : KeepsLists s t) : KeepsLists s (t.dropVoid c) := (h.modWork _).finishChannel

theorem KeepsLists.doSettlingEnd (h : KeepsLists s t) (det : Detector) : KeepsLists s (t.doSettlingEnd c det) := by
  unfold State.doSettlingEnd
  split
  · exact h.endSettling _
  · exact h

theorem KeepsLists.doRampAdvance (h : KeepsLists s t) : KeepsLists s (t.doRampAdvance c) := by
  unfold State.doRampAdvance
  split
  · exact (h.modWork _).advanceRamp
  · exact h

theorem KeepsLists.clearPathDue (h : KeepsLists s t) (side : Side) : KeepsLists s (t.clearPathDue side) := by
  cases side <;> exact h.setWork _

theorem KeepsLists.doPathDown (h : KeepsLists s t) (side : Side) : KeepsLists s (t.doPathDown side) := by
  unfold State.doPathDown
  split
  · exact (((h.clearPathDue _).modPath _ _).bump _).pathChanged _ _
  · exact h

theorem KeepsLists.doPathUp (h : KeepsLists s t) (side : Side) : KeepsLists s (t.doPathUp side) := by
  unfold State.doPathUp
  split
  · exact (((h.clearPathDue _).modPath _ _).bump _).pathChanged _ _
  · exact h

theorem KeepsLists.doKeepaliveExpiry (h : KeepsLists s t) : KeepsLists s t.doKeepaliveExpiry := by
  unfold State.doKeepaliveExpiry
  split
  · exact (h.setWork _).expireKeepalive
  · exact h

theorem KeepsLists.doWarmRestartEnd (h : KeepsLists s t) : KeepsLists s t.doWarmRestartEnd := by
  unfold State.doWarmRestartEnd
  split
  · dsimp only
    split
    · exact KeepsLists.reply (KeepsLists.setMgmt (h.setWork { t.work with warmEnd := false }) { t.mgmt with restarting := none } rfl id id) _ _ _
    · exact h.setWork _
  · exact h

theorem KeepsLists.sendHead (h : KeepsLists s t) (o : Origin) : KeepsLists s (t.sendHead o) := by
  unfold State.sendHead
  split
  · exact h
  · rename_i r rest hq
    refine KeepsLists.foldl (KeepsLists.bump (h.modCtx' o _ fun hx => ⟨?_, hx.sequence⟩) _) _ _ fun _ _ hu => hu.send _ _
    have := hx.queue
    rw [hq] at this
    exact (Nat.le_succ _).trans this

theorem KeepsLists.sendReports (h : KeepsLists s t) (o : Origin) : KeepsLists s (t.sendReports o) := by
  unfold State.sendReports
  split
  · exact (h.sendHead _).sendHead _
  · exact h

theorem KeepsLists.doReport (h : KeepsLists s t) : KeepsLists s t.doReport := by
  unfold State.doReport
  split
  · exact ((h.setWork _).sendReports _).sendReports _
  · exact h

theorem KeepsLists.catchUpChannel (h : KeepsLists s t) : KeepsLists s (t.catchUpChannel c) := by
  unfold State.catchUpChannel
  dsimp only
  refine KeepsLists.endDelayWindow (KeepsLists.doRampAdvance (KeepsLists.foldl ?_ _ _ fun _ _ hu => hu.doSettlingEnd _))
  exact h.doRetime.doJoinSwitch.doJoinExpiry.doFollowOnSwitch.doFollowOnFailure.doFollowOnCheck.doEndOfSchedule.doGuardExpiry.doReturnArrival.dropVoid

end Sys2Proof.Machine

/-! PROOFS. What each operation of the Schedule Store leaves of a channel's lists, of the other channels and of the pool (R93 to R117). -/

namespace Sys2Proof.Machine

-- Each elaboration thread takes a large stack, and the text is compiled as one file under a memory limit: one thread at a time.
set_option Elab.async false

variable {s t u : State} {c : Chan}

/-- The lists of one channel with the pool: the free pool count, the live list, the shadow, the replication state and the snapshot timer. -/
structure ListView where
  pool : Nat
  live : Option (List Event)
  shadow : Option Shadow
  state : Replication
  timer : Option Nat

/-- The lists of channel `c` as they stand. -/
def State.view (s : State) (c : Chan) : ListView :=
  { pool := s.poolFree, live := (s.ch c).schedule.live, shadow := (s.ch c).schedule.shadow, state := (s.ch c).schedule.state
    timer := (s.ch c).schedule.snapshotTimer }

/-- An operation that reaches the lists of channel `c` and the pool alone, and leaves them as `v` says. -/
structure Relists (c : Chan) (s t : State) (v : ListView) : Prop extends KeepsBounds s t where
  others : ∀ c', c' ≠ c → ListsKept (s.ch c') (t.ch c')
  view : t.view c = v
  due : (t.ch c).work.snapshot = true → (s.ch c).work.snapshot = true

variable {v : ListView}

theorem KeepsLists.view (h : KeepsLists s t) (c : Chan) : t.view c = s.view c := by
  unfold State.view
  rw [h.pool, (h.lists c).live, (h.lists c).shadow, (h.lists c).state, (h.lists c).timer]

theorem KeepsLists.relists (h : KeepsLists s t) (c : Chan) : Relists c s t (s.view c) :=
  ⟨h.toKeepsBounds, fun c' _ => h.lists c', h.view c, (h.lists c).due⟩

theorem Relists.refl (c : Chan) (s : State) : Relists c s s (s.view c) := (KeepsLists.refl s).relists c

theorem Relists.trans {w : ListView} (h : Relists c s t v) (k : Relists c t u w) : Relists c s u w :=
  ⟨h.toKeepsBounds.trans k.toKeepsBounds, fun c' hc => (h.others c' hc).trans (k.others c' hc), k.view, fun hu => h.due (k.due hu)⟩

theorem Relists.of_view {w : ListView} (h : Relists c s t v) (hv : v = w) : Relists c s t w := hv ▸ h

/-- An operation that reaches no list, after one that does. -/
theorem Relists.then (h : Relists c s t v) (k : KeepsLists t u) : Relists c s u v := by
  have := h.trans (k.relists c)
  rwa [h.view] at this

/-- The channel's schedule replaced, with the pool. -/
theorem Relists.modSchedule (s : State) (c : Chan) (n : Nat) (f : Schedule → Schedule)
    (hf : (s.ch c).schedule.expected < 65536 → (f (s.ch c).schedule).expected < 65536) :
    Relists c s ({ s with poolFree := n }.modSchedule c f)
      { pool := n, live := (f (s.ch c).schedule).live, shadow := (f (s.ch c).schedule).shadow, state := (f (s.ch c).schedule).state
        timer := (f (s.ch c).schedule).snapshotTimer } := by
  have hch : ∀ c', ({ s with poolFree := n } : State).ch c' = s.ch c' := fun _ => rfl
  refine ⟨⟨rfl, List.prefix_refl _, rfl, rfl, id, id, fun c' => ?_⟩, fun c' hc => ?_, ?_, ?_⟩
  · by_cases hc : c' = c
    · subst hc
      intro hx
      simp only [State.ch_modSchedule_same, hch]
      exact ⟨hx.ring, hx.sequence, hf hx.expected, hx.cueNumber⟩
    · simp only [ne_eq, hc, not_false_eq_true, State.ch_modSchedule_ne, hch]
      exact id
  · simp only [ne_eq, hc, not_false_eq_true, State.ch_modSchedule_ne, hch]
    exact ListsKept.refl _
  · simp [State.view, hch]
  · simp [hch]

/-! ## Replication state (R96, R112, R117) -/

theorem Relists.setReplication (s : State) (c : Chan) (new : Replication) (cause : ReplicationCause) :
    Relists c s (s.setReplication c new cause) { s.view c with state := new } := by
  unfold State.setReplication
  dsimp only
  split
  · rename_i h
    rw [show ({ s.view c with state := new } : ListView) = s.view c by simp [State.view, h]]
    exact Relists.refl c s
  · exact (Relists.modSchedule s c s.poolFree (fun x => { x with state := new }) id).then (((KeepsLists.refl _).bumpCh _).raise _)

theorem KeepsLists.modSchedule (h : KeepsLists s t) (f : Schedule → Schedule)
    (hf : ∀ x, (f x).live = x.live ∧ (f x).shadow = x.shadow ∧ (f x).state = x.state ∧ (f x).snapshotTimer = x.snapshotTimer ∧ (f x).expected = x.expected
      := by exact fun _ => ⟨rfl, rfl, rfl, rfl, rfl⟩) : KeepsLists s (t.modSchedule c f) := by
  obtain ⟨hl, hs, ht, hr, he⟩ := hf (t.ch c).schedule
  exact h.modCh _ ⟨fun hx => ⟨hx.ring, hx.sequence, by simpa [he] using hx.expected, hx.cueNumber⟩, hl, hs, ht, hr, id⟩

theorem KeepsLists.resync (h : KeepsLists s t) : KeepsLists s (t.resync c) := by
  unfold State.resync
  dsimp only
  exact ((h.sendMain _).bumpCh _).modSchedule _

theorem Relists.fallBehind (s : State) (c : Chan) (new : Replication) (cause : ReplicationCause) :
    Relists c s (s.fallBehind c new cause) { s.view c with state := new } :=
  (Relists.setReplication s c new cause).then (KeepsLists.refl _).resync

/-- The events of a shadow, none without one. -/
def shadowEvents (x : Option Shadow) : List Event := (x.map Shadow.events).getD []

theorem Relists.freeShadow (s : State) (c : Chan) :
    Relists c s (s.freeShadow c) { s.view c with pool := s.poolFree + (shadowEvents (s.ch c).schedule.shadow).length, shadow := none, timer := none } := by
  have key := Relists.modSchedule s c (s.poolFree + (shadowEvents (s.ch c).schedule.shadow).length)
    (fun x => { x with shadow := none, snapshotTimer := none }) id
  unfold State.freeShadow
  dsimp only
  split <;> rename_i h <;> rw [h] at key ⊢ <;> exact key

theorem Relists.failSnapshot (s : State) (c : Chan) (cause : ReplicationCause) :
    Relists c s (s.failSnapshot c cause)
      { s.view c with pool := s.poolFree + (shadowEvents (s.ch c).schedule.shadow).length, shadow := none, timer := none, state := .stale } := by
  have freed := (Relists.freeShadow s c).then ((KeepsLists.refl _).bumpCh (c := c) .snapshotsFailed)
  have := freed.trans (Relists.fallBehind _ c .stale cause)
  rwa [freed.view] at this

theorem Relists.clearLists (s : State) (c : Chan) (cause : ReplicationCause) :
    Relists c s (s.clearLists c cause)
      { pool := s.poolFree + (shadowEvents (s.ch c).schedule.shadow).length + (s.live c).length
        live := none, shadow := none, state := .empty, timer := none } := by
  have freed := Relists.freeShadow s c
  have hview := freed.view
  have hpool : (s.freeShadow c).poolFree = s.poolFree + (shadowEvents (s.ch c).schedule.shadow).length := congrArg ListView.pool hview
  have hlive : ((s.freeShadow c).ch c).schedule.live = (s.ch c).schedule.live := congrArg ListView.live hview
  have hshadow : ((s.freeShadow c).ch c).schedule.shadow = none := congrArg ListView.shadow hview
  have htimer : ((s.freeShadow c).ch c).schedule.snapshotTimer = none := congrArg ListView.timer hview
  have cleared := freed.trans (Relists.modSchedule (s.freeShadow c) c ((s.freeShadow c).poolFree + ((s.freeShadow c).live c).length)
    (fun x => { x with live := none }) id)
  have fallen := cleared.trans (Relists.fallBehind _ c .empty cause)
  rw [cleared.view] at fallen
  refine (fallen.then ((KeepsLists.refl _).takeNotice _)).of_view ?_
  simp [hpool, hshadow, htimer, State.live, hlive]

/-! ## Amendments (R99, R100) -/

theorem Relists.commitAmendment (s : State) (c : Chan) (revision : Nat) (l : List Event) (x : Applied) :
    Relists c s (s.commitAmendment c revision l x)
      { s.view c with pool := s.poolFree + l.length - x.events.length, live := some x.events } :=
  (Relists.modSchedule s c (s.poolFree + l.length - x.events.length) (fun y => { y with live := some x.events }) id).then
    (((((KeepsLists.refl _).bumpBy _ _).bumpBy _ _).bumpCh _).takeNotice _)

theorem KeepsLists.amendRefused (h : KeepsLists s t) (revision kind id : Nat) (reason : AmendReason) :
    KeepsLists s (t.amendRefused c revision kind id reason) := h.sendMain _

/-- What R99 leaves of the lists: as they were, STALE after a gap, or the amendment applied. -/
theorem Relists.takeAmendment (s : State) (c : Chan) (revision : Nat) (a : Amendment) :
    ∃ v, Relists c s (s.takeAmendment c revision a) v ∧
      (v = s.view c ∨ ((s.ch c).schedule.state = .current ∧ v = { s.view c with state := .stale }) ∨
        (s.ch c).schedule.state = .current ∧
        ∃ x, applyAmendment s.time.rate (s.scheduleEdge c) s.poolFree (s.live c) a = .ok x ∧
          v = { s.view c with pool := s.poolFree + (s.live c).length - x.events.length, live := some x.events }) := by
  unfold State.takeAmendment
  dsimp only
  split
  · rename_i hstate
    split
    · have next := Relists.modSchedule s c s.poolFree (fun y => { y with expected := (y.expected + 1) % 65536 }) fun _ => Nat.mod_lt _ (by decide)
      have hedge : (s.modSchedule c fun y => { y with expected := (y.expected + 1) % 65536 }).scheduleEdge c = s.scheduleEdge c := by
        simp [State.scheduleEdge, State.inService, State.delay]
      simp only [State.modSchedule_time, State.modSchedule_poolFree, hedge]
      split
      · rename_i y hy
        have done := next.trans (Relists.commitAmendment _ c revision (s.live c) y)
        rw [next.view] at done
        exact ⟨_, done, .inr (.inr ⟨hstate, y, hy, rfl⟩)⟩
      · refine ⟨s.view c, ?_, .inl rfl⟩
        split
        · exact next.then ((((KeepsLists.refl _).bumpUnit _).bumpCh _).amendRefused _ _ _ _)
        · exact next.then (((KeepsLists.refl _).bumpCh _).amendRefused _ _ _ _)
    · split
      · have gap := (KeepsLists.refl s).bumpCh (c := c) .amendGaps
        have fallen := (gap.relists c).trans (Relists.fallBehind _ c .stale .gap)
        rw [gap.view] at fallen
        exact ⟨_, fallen, .inr (.inl ⟨hstate, rfl⟩)⟩
      · exact ⟨_, ((KeepsLists.refl s).bumpCh _).relists c, .inl rfl⟩
  · exact ⟨_, ((KeepsLists.refl s).bumpCh _).relists c, .inl rfl⟩

/-! ## Snapshots (R107 to R111) -/

/-- What R107 leaves of the lists: as they were, or an empty shadow in REBUILDING. -/
theorem Relists.takeSnapshotBegin (s : State) (c : Chan) (revision count : Nat) :
    ∃ v, Relists c s (s.takeSnapshotBegin c revision count) v ∧
      (v = s.view c ∨ (count ≤ 1024 ∧
        v =
          { pool := s.poolFree + (shadowEvents (s.ch c).schedule.shadow).length, live := some (s.live c)
            shadow := some { events := [], revision := revision, count := count, received := [] }, state := .rebuilding, timer := some 0 })) := by
  have opened : ∀ u, Relists c s u { s.view c with pool := s.poolFree + (shadowEvents (s.ch c).schedule.shadow).length, shadow := none, timer := none } ∨
      ((s.ch c).schedule.shadow = none ∧ u = s) →
      Relists c s
        (((u.modSchedule c fun y =>
          { y with
            live := some (y.live.getD [])
            shadow := some { events := [], revision := revision, count := count, received := [] }
            snapshotTimer := some 0
            resyncTimer := none }).setReplication c .rebuilding .snapshotBegin).bumpCh c .snapshotsBegun)
        { pool := s.poolFree + (shadowEvents (s.ch c).schedule.shadow).length, live := some (s.live c)
          shadow := some { events := [], revision := revision, count := count, received := [] }, state := .rebuilding, timer := some 0 } := by
    intro u hu
    have hpool : u.poolFree = s.poolFree + (shadowEvents (s.ch c).schedule.shadow).length := by
      rcases hu with hu | ⟨hn, rfl⟩
      · exact congrArg ListView.pool hu.view
      · simp [hn, shadowEvents]
    have hlive : (u.ch c).schedule.live = (s.ch c).schedule.live := by
      rcases hu with hu | ⟨_, rfl⟩
      · exact congrArg ListView.live hu.view
      · rfl
    have hrel : ∃ w, Relists c s u w := by
      rcases hu with hu | ⟨_, rfl⟩
      · exact ⟨_, hu⟩
      · exact ⟨_, Relists.refl c u⟩
    obtain ⟨w, hrel⟩ := hrel
    have put := hrel.trans (Relists.modSchedule u c u.poolFree
      (fun y => { y with
        live := some (y.live.getD [])
        shadow := some { events := [], revision := revision, count := count, received := [] }
        snapshotTimer := some 0
        resyncTimer := none }) id)
    have moved := put.trans (Relists.setReplication _ c .rebuilding .snapshotBegin)
    rw [put.view] at moved
    refine (moved.then ((KeepsLists.refl _).bumpCh _)).of_view ?_
    simp [hpool, hlive, State.live]
  unfold State.takeSnapshotBegin
  split
  · exact ⟨_, ((KeepsLists.refl s).bumpCh _).relists c, .inl rfl⟩
  · rename_i hcount
    dsimp only
    split_ifs with hdup hsome
    · exact ⟨_, ((KeepsLists.refl s).bumpCh _).relists c, .inl rfl⟩
    · refine ⟨_, opened _ (.inl ?_), .inr ⟨by omega, rfl⟩⟩
      exact (Relists.freeShadow s c).then ((KeepsLists.refl _).bumpCh _)
    · refine ⟨_, opened _ (.inr ⟨by simpa using hsome, rfl⟩), .inr ⟨by omega, rfl⟩⟩

/-- What R108 leaves of the lists once the index has joined the set: the shadow as it was or with the event placed, or no shadow and STALE. -/
theorem Relists.snapshotInsert (s : State) (c : Chan) (x : Shadow) (e : EventCarried) (hx : (s.ch c).schedule.shadow = some x) :
    ∃ v, Relists c s (s.snapshotInsert c x e) v ∧
      (v = s.view c ∨ v = { s.view c with pool := s.poolFree + x.events.length, shadow := none, timer := none, state := .stale } ∨
        ∃ y, wellFormedEvent s.time.rate e = .ok y ∧ findEvent x.events y.id = none ∧ 1 ≤ s.poolFree + (placeEvents [y] x.events []).removals ∧
          v =
            { s.view c with
              pool := s.poolFree + x.events.length - (placeEvents [y] x.events []).events.length
              shadow := some { x with events := (placeEvents [y] x.events []).events } }) := by
  have rejected : ∀ id reason, Relists c s ((s.bumpCh c .snapshotRejects).amendRefused c x.revision codeSnapshotEvent id reason) (s.view c) :=
    fun _ _ => (((KeepsLists.refl s).bumpCh _).amendRefused _ _ _ _).relists c
  unfold State.snapshotInsert
  dsimp only
  split
  · exact ⟨_, rejected _ _, .inl rfl⟩
  · rename_i y hy
    split_ifs with hid hpast hpool
    · exact ⟨_, rejected _ _, .inl rfl⟩
    · exact ⟨_, ((KeepsLists.refl s).bumpCh _).relists c, .inl rfl⟩
    · have counted := (KeepsLists.refl s).bumpUnit .poolExhaustions
      have failed := (counted.relists c).trans (Relists.failSnapshot _ c .snapshotPool)
      rw [counted.view] at failed
      refine ⟨_, failed, .inr (.inl ?_)⟩
      simp [hx, shadowEvents]
    · refine ⟨_, (Relists.modSchedule s c _ _ id).then (((KeepsLists.refl _).bumpBy _ _).bumpBy _ _), .inr (.inr ⟨y, hy, by simpa using hid, by omega, rfl⟩)⟩

/-- What R109 leaves of the lists. -/
theorem Relists.swapLists (s : State) (c : Chan) (x : Shadow) :
    Relists c s (s.swapLists c x)
      { pool := s.poolFree + (s.live c).length, live := some x.events, shadow := none, state := .current, timer := none } := by
  have swapped := Relists.modSchedule s c (s.poolFree + (s.live c).length)
    (fun y => { y with live := some x.events, shadow := none, expected := (x.revision + 1) % 65536, snapshotTimer := none })
    fun _ => Nat.mod_lt _ (by decide)
  have moved := swapped.trans (Relists.setReplication _ c .current .snapshotDone)
  rw [swapped.view] at moved
  exact moved.then (((KeepsLists.refl _).bumpCh _).takeNotice _)

theorem Relists.expireSnapshot (s : State) (c : Chan) :
    Relists c s (s.expireSnapshot c)
      { s.view c with pool := s.poolFree + (shadowEvents (s.ch c).schedule.shadow).length, shadow := none, timer := none, state := .stale } := by
  have counted := (KeepsLists.refl s).bumpCh (c := c) .snapshotTimeouts
  have failed := (counted.relists c).trans (Relists.failSnapshot _ c .snapshotTimeout)
  rwa [counted.view] at failed

end Sys2Proof.Machine

/-! PROOFS. Overlap resolution on a list in order (R94, R106): what becomes of each event that a governing event meets, and that the list stays in order. -/

namespace Sys2Proof.Machine

-- Each elaboration thread takes a large stack, and the text is compiled as one file under a memory limit: one thread at a time.
set_option Elab.async false

/-! ## One event met by a governing event -/

/-- What stands of event `y` once the governing event `x` has met it. -/
def survivor (x y : Event) : Option Event :=
  match overlap x y with
  | .clear => some y
  | .removed => none
  | .tailTrimmed e => some e
  | .headTrimmed e => some e

/-- Whether `x` trims `y` (R106). -/
def trimmedBy (x y : Event) : Bool :=
  match overlap x y with
  | .tailTrimmed _ | .headTrimmed _ => true
  | _ => false

/-- Two events that share no position. -/
def Apart (x y : Event) : Prop := x.finish ≤ y.start ∨ y.finish ≤ x.start

theorem overlap_of_apart {x y : Event} (h : Apart y x) : overlap x y = .clear := by
  unfold Apart at h
  simp [overlap, h]

theorem overlap_of_covered {x y : Event} (hy : 1 ≤ y.duration) (h1 : x.start ≤ y.start) (h2 : y.finish ≤ x.finish) : overlap x y = .removed := by
  have : ¬(y.finish ≤ x.start ∨ x.finish ≤ y.start) := by unfold Event.finish at *; omega
  simp [overlap, this, h1, h2]

theorem overlap_of_tail {x y : Event} (hx : 1 ≤ x.duration) (h1 : y.start < x.start) (h2 : x.start < y.finish) :
    overlap x y = .tailTrimmed { y with duration := x.start - y.start, tailTrimmed := true } := by
  have hmeet : ¬(y.finish ≤ x.start ∨ x.finish ≤ y.start) := by unfold Event.finish at *; omega
  have hcover : ¬(x.start ≤ y.start ∧ y.finish ≤ x.finish) := by omega
  simp [overlap, hmeet, hcover, h1]

theorem overlap_of_head {x y : Event} (h1 : x.start ≤ y.start) (h2 : y.start < x.finish) (h3 : x.finish < y.finish) :
    overlap x y = match y.material.cutHead (x.finish - y.start) with
      | none => .removed
      | some m =>
        .headTrimmed { y with start := x.finish, duration := y.duration - (x.finish - y.start), material := m, headTrimmed := true } := by
  have hmeet : ¬(y.finish ≤ x.start ∨ x.finish ≤ y.start) := by omega
  have hcover : ¬(x.start ≤ y.start ∧ y.finish ≤ x.finish) := by omega
  have htail : ¬ y.start < x.start := by omega
  simp only [overlap, hmeet, hcover, htail, if_false] <;> rfl

/-- R106: the four ways in which a governing event can meet another. -/
theorem overlap_cases (x y : Event) :
    Apart y x ∨ (x.start ≤ y.start ∧ y.finish ≤ x.finish) ∨ (y.start < x.start ∧ x.start < y.finish) ∨
      (x.start ≤ y.start ∧ y.start < x.finish ∧ x.finish < y.finish) := by
  unfold Apart; omega

/-- What survives keeps its id, lies within the event as it stood, lasts, and is clear of the governing event. -/
theorem survivor_spec {x y e : Event} (hx : 1 ≤ x.duration) (hy : 1 ≤ y.duration) (h : survivor x y = some e) :
    e.id = y.id ∧ y.start ≤ e.start ∧ e.finish ≤ y.finish ∧ 1 ≤ e.duration ∧ Apart e x := by
  rcases overlap_cases x y with hap | ⟨h1, h2⟩ | ⟨h1, h2⟩ | ⟨h1, h2, h3⟩
  · rw [survivor, overlap_of_apart hap] at h
    obtain rfl : y = e := by simpa using h
    exact ⟨rfl, le_rfl, le_rfl, hy, hap⟩
  · rw [survivor, overlap_of_covered hy h1 h2] at h
    simp at h
  · rw [survivor, overlap_of_tail hx h1 h2] at h
    obtain rfl := Option.some.inj h
    unfold Apart Event.finish at *
    dsimp only
    omega
  · rw [survivor, overlap_of_head h1 h2 h3] at h
    cases hm : y.material.cutHead (x.finish - y.start) with
    | none => simp [hm] at h
    | some m =>
      simp only [hm] at h
      obtain rfl := Option.some.inj h
      unfold Apart Event.finish at *
      dsimp only at *
      omega

/-- A governing event that meets none of a list leaves it. -/
theorem filterMap_survivor_of_apart {x : Event} {l : List Event} (h : ∀ y ∈ l, Apart y x) : l.filterMap (survivor x) = l := by
  rw [List.filterMap_congr (g := some) fun y hy => by rw [survivor, overlap_of_apart (h y hy)]]
  exact List.filterMap_some

/-! ## Lists in order -/

theorem Ordered.nil : Ordered [] := ⟨List.Pairwise.nil, by simp⟩

theorem Ordered.sublist {l m : List Event} (h : Ordered l) (hs : m.Sublist l) : Ordered m := ⟨h.1.sublist hs, fun e he => h.2 e (hs.subset he)⟩

theorem Ordered.filter {l : List Event} (h : Ordered l) (p : Event → Bool) : Ordered (l.filter p) := h.sublist List.filter_sublist

theorem ordered_cons {e : Event} {l : List Event} :
    Ordered (e :: l) ↔ (∀ y ∈ l, e.finish ≤ y.start ∧ e.id ≠ y.id) ∧ 1 ≤ e.duration ∧ Ordered l := by
  unfold Ordered
  rw [List.pairwise_cons]
  simp only [List.mem_cons, forall_eq_or_imp]
  tauto

/-- No two events of a list in order share an id. -/
theorem Ordered.ids_nodup {l : List Event} (h : Ordered l) : (l.map Event.id).Nodup := by
  rw [List.Nodup, List.pairwise_map]
  exact h.1.imp fun hxy => hxy.2

theorem Ordered.eq_of_id {l : List Event} (h : Ordered l) {x y : Event} (hx : x ∈ l) (hy : y ∈ l) (hid : x.id = y.id) : x = y :=
  List.inj_on_of_nodup_map h.ids_nodup hx hy hid

/-- Two events of a list in order share no position. -/
theorem Ordered.apart {l : List Event} (h : Ordered l) {x y : Event} (hx : x ∈ l) (hy : y ∈ l) (hid : x.id ≠ y.id) : Apart x y := by
  induction l with
  | nil => simp at hx
  | cons e l ih =>
    obtain ⟨hall, _, hl⟩ := ordered_cons.1 h
    rcases List.mem_cons.1 hx with rfl | hx' <;> rcases List.mem_cons.1 hy with rfl | hy'
    · exact absurd rfl hid
    · exact .inl (hall y hy').1
    · exact .inr (hall x hx').1
    · exact ih hl hx' hy'

/-- Events that each keep their id and lie within the event as it stood leave a list in order. -/
theorem Ordered.filterMap {l : List Event} (h : Ordered l) (f : Event → Option Event)
    (hf : ∀ y ∈ l, ∀ e, f y = some e → e.id = y.id ∧ y.start ≤ e.start ∧ e.finish ≤ y.finish ∧ 1 ≤ e.duration) : Ordered (l.filterMap f) := by
  induction l with
  | nil => exact Ordered.nil
  | cons a l ih =>
    obtain ⟨hall, _, hl⟩ := ordered_cons.1 h
    have rest := ih hl fun y hy => hf y (List.mem_cons_of_mem _ hy)
    cases ha : f a with
    | none => rwa [List.filterMap_cons_none ha]
    | some e =>
      rw [List.filterMap_cons_some ha]
      obtain ⟨hid, -, hfin, hdur⟩ := hf a (List.mem_cons_self) e ha
      refine ordered_cons.2 ⟨fun z hz => ?_, hdur, rest⟩
      obtain ⟨y, hy, hyz⟩ := List.mem_filterMap.1 hz
      obtain ⟨hid', hst, -, -⟩ := hf y (List.mem_cons_of_mem _ hy) z hyz
      obtain ⟨h1, h2⟩ := hall y hy
      exact ⟨by omega, by rw [hid, hid']; exact h2⟩

theorem Ordered.survivors {x : Event} {l : List Event} (hx : 1 ≤ x.duration) (h : Ordered l) : Ordered (l.filterMap (survivor x)) :=
  h.filterMap _ fun y hy _ he =>
    let ⟨h1, h2, h3, h4, _⟩ := survivor_spec hx (h.2 y hy) he
    ⟨h1, h2, h3, h4⟩

theorem survivors_apart {x : Event} {l : List Event} (hx : 1 ≤ x.duration) (h : Ordered l) : ∀ e ∈ l.filterMap (survivor x), Apart e x := by
  intro e he
  obtain ⟨y, hy, hye⟩ := List.mem_filterMap.1 he
  exact (survivor_spec hx (h.2 y hy) hye).2.2.2.2

theorem survivors_ids {x : Event} {l : List Event} (hx : 1 ≤ x.duration) (h : Ordered l) {e : Event} (he : e ∈ l.filterMap (survivor x)) :
    e.id ∈ l.map Event.id := by
  obtain ⟨y, hy, hye⟩ := List.mem_filterMap.1 he
  rw [(survivor_spec hx (h.2 y hy) hye).1]
  exact List.mem_map_of_mem hy

/-! ## An event joining a list -/

theorem insertEvent_perm (e : Event) (l : List Event) : (insertEvent e l).Perm (e :: l) := by
  induction l with
  | nil => exact List.Perm.refl _
  | cons y l ih =>
    unfold insertEvent
    split
    · exact List.Perm.refl _
    · exact (ih.cons y).trans (List.Perm.swap e y l)

theorem mem_insertEvent {e x : Event} {l : List Event} : x ∈ insertEvent e l ↔ x = e ∨ x ∈ l := by
  rw [(insertEvent_perm e l).mem_iff, List.mem_cons]

theorem length_insertEvent (e : Event) (l : List Event) : (insertEvent e l).length = l.length + 1 := (insertEvent_perm e l).length_eq

/-- R94: an event that shares no position and no id with a list in order joins it in order. -/
theorem Ordered.insertEvent {e : Event} {l : List Event} (h : Ordered l) (he : 1 ≤ e.duration) (hap : ∀ y ∈ l, Apart y e)
    (hid : ∀ y ∈ l, y.id ≠ e.id) : Ordered (insertEvent e l) := by
  induction l with
  | nil => exact ordered_cons.2 ⟨by simp, he, Ordered.nil⟩
  | cons a l ih =>
    obtain ⟨hall, hdur, hl⟩ := ordered_cons.1 h
    have ha : Apart a e := hap a List.mem_cons_self
    have hida : a.id ≠ e.id := hid a List.mem_cons_self
    unfold Machine.insertEvent
    split
    · rename_i hle
      have hae : e.finish ≤ a.start := by unfold Apart Event.finish at *; omega
      refine ordered_cons.2 ⟨fun y hy => ?_, he, h⟩
      rcases List.mem_cons.1 hy with rfl | hy
      · exact ⟨hae, hida.symm⟩
      · obtain ⟨h1, _⟩ := hall y hy
        exact ⟨by unfold Event.finish at *; omega, (hid y (List.mem_cons_of_mem _ hy)).symm⟩
    · rename_i hlt
      refine ordered_cons.2 ⟨fun y hy => ?_, hdur, ih hl (fun y hy => hap y (List.mem_cons_of_mem _ hy)) fun y hy => hid y (List.mem_cons_of_mem _ hy)⟩
      rcases mem_insertEvent.1 hy with rfl | hy
      · exact ⟨by unfold Apart Event.finish at *; omega, hida⟩
      · exact hall y hy

/-- An event that begins after every other joins a list at its end. -/
theorem insertEvent_of_last {e : Event} {l : List Event} (h : ∀ y ∈ l, y.start < e.start) : insertEvent e l = l ++ [e] := by
  induction l with
  | nil => rfl
  | cons a l ih =>
    have ha : ¬ e.start ≤ a.start := by have := h a List.mem_cons_self; omega
    simp [Machine.insertEvent, ha, ih fun y hy => h y (List.mem_cons_of_mem _ hy)]

/-! ## Governing events placed in a list -/

/-- One event of a list being placed meets a governing event: what stands of it, and whether it is removed or trimmed. -/
theorem govern_spec (x : Event) (acc : Placing) (t : Touched) :
    (govern x acc t).events.filterMap Touched.now = acc.events.filterMap Touched.now ++ t.now.toList.filterMap (survivor x) ∧
      (govern x acc t).removals + (t.now.toList.filterMap (survivor x)).length = acc.removals + t.now.toList.length ∧
      (govern x acc t).trims = acc.trims + t.now.toList.countP (trimmedBy x) := by
  cases hn : t.now with
  | none => simp [govern, hn]
  | some y => cases ho : overlap x y <;> simp [govern, hn, ho, survivor, trimmedBy]

/-- One governing event met by every event of a list being placed: what stands, the removals and the trims. -/
theorem foldl_govern (x : Event) (l : List Touched) (acc : Placing) :
    let p := l.foldl (govern x) acc
    let now := l.filterMap Touched.now
    p.events.filterMap Touched.now = acc.events.filterMap Touched.now ++ now.filterMap (survivor x) ∧
      p.removals + (now.filterMap (survivor x)).length = acc.removals + now.length ∧ p.trims = acc.trims + now.countP (trimmedBy x) := by
  induction l generalizing acc with
  | nil => simp
  | cons t l ih =>
    have hcons : (t :: l).filterMap Touched.now = t.now.toList ++ l.filterMap Touched.now := by cases h : t.now <;> simp [h]
    obtain ⟨h1, h2, h3⟩ := ih (govern x acc t)
    obtain ⟨k1, k2, k3⟩ := govern_spec x acc t
    simp only [List.foldl_cons, hcons, List.filterMap_append, List.countP_append, List.length_append, h1, h3, k1, k3, List.append_assoc, true_and]
    omega

theorem governAll_spec (x : Event) (p : Placing) :
    (governAll x p).events.filterMap Touched.now = (p.events.filterMap Touched.now).filterMap (survivor x) ∧
      (governAll x p).removals + ((p.events.filterMap Touched.now).filterMap (survivor x)).length = p.removals + (p.events.filterMap Touched.now).length ∧
      (governAll x p).trims = p.trims + (p.events.filterMap Touched.now).countP (trimmedBy x) := by
  simpa [governAll] using foldl_govern x p.events { events := [], removals := p.removals, trims := p.trims }

/-- What stands of a list once governing events have met it one after another. -/
def governed (governing others : List Event) : List Event := governing.foldl (fun l x => l.filterMap (survivor x)) others

/-- How many trims governing events make one after another. -/
def trimsOf : List Event → List Event → Nat
  | [], _ => 0
  | x :: rest, l => l.countP (trimmedBy x) + trimsOf rest (l.filterMap (survivor x))

theorem foldl_governAll (governing : List Event) (p : Placing) :
    let q := governing.foldl (fun acc x => governAll x acc) p
    let now := p.events.filterMap Touched.now
    q.events.filterMap Touched.now = governed governing now ∧ q.removals + (governed governing now).length = p.removals + now.length ∧
      q.trims = p.trims + trimsOf governing now := by
  induction governing generalizing p with
  | nil => simp [governed, trimsOf]
  | cons x rest ih =>
    obtain ⟨h1, h2, h3⟩ := ih (governAll x p)
    obtain ⟨k1, k2, k3⟩ := governAll_spec x p
    rw [k1] at h1 h2 h3
    simp only [List.foldl_cons, governed, trimsOf] at *
    refine ⟨h1, by omega, by omega⟩

/-- R106: governing events placed among others: the events, and the removals and trims. -/
theorem placeEvents_spec (governing others : List Event) (own : List Item) :
    (placeEvents governing others own).events = governing.foldl (fun l e => insertEvent e l) (governed governing others) ∧
      (placeEvents governing others own).removals + (governed governing others).length = others.length ∧
      (placeEvents governing others own).trims = trimsOf governing others := by
  have hnow : (others.map fun e => ({ before := e, now := some e, change := none } : Touched)).filterMap Touched.now = others := by
    simp [List.filterMap_map]
  have key := foldl_governAll governing { events := others.map fun e => { before := e, now := some e, change := none }, removals := 0, trims := 0 }
  simp only [hnow] at key
  obtain ⟨h1, h2, h3⟩ := key
  refine ⟨?_, ?_, ?_⟩
  · simp [placeEvents, h1]
  · simpa [placeEvents] using h2
  · simpa [placeEvents] using h3

theorem length_foldl_insertEvent (governing l : List Event) : (governing.foldl (fun l e => insertEvent e l) l).length = l.length + governing.length := by
  induction governing generalizing l with
  | nil => rfl
  | cons x rest ih => rw [List.foldl_cons, ih, length_insertEvent, List.length_cons]; omega

/-- R106: no event is lost or made but by the removals that are counted. -/
theorem placeEvents_length (governing others : List Event) (own : List Item) :
    (placeEvents governing others own).events.length + (placeEvents governing others own).removals = others.length + governing.length := by
  obtain ⟨h1, h2, -⟩ := placeEvents_spec governing others own
  rw [h1, length_foldl_insertEvent]
  omega

theorem placeEvents_events_own (governing others : List Event) (own : List Item) :
    (placeEvents governing others own).events = (placeEvents governing others []).events := by
  rw [(placeEvents_spec governing others own).1, (placeEvents_spec governing others []).1]

/-- What governing events leave is in order, clear of each of them, and keeps its ids. -/
theorem governed_ordered {governing others : List Event} (hg : ∀ x ∈ governing, 1 ≤ x.duration) (ho : Ordered others) :
    Ordered (governed governing others) ∧ (∀ x ∈ governing, ∀ e ∈ governed governing others, Apart e x) ∧
      (∀ e ∈ governed governing others, ∃ y ∈ others, e.id = y.id ∧ y.start ≤ e.start ∧ e.finish ≤ y.finish) := by
  induction governing generalizing others with
  | nil => exact ⟨ho, by simp, fun e he => ⟨e, he, rfl, le_rfl, le_rfl⟩⟩
  | cons x rest ih =>
    have hx := hg x List.mem_cons_self
    obtain ⟨h1, h2, h3⟩ := ih (fun y hy => hg y (List.mem_cons_of_mem _ hy)) (ho.survivors hx)
    refine ⟨h1, fun y hy e he => ?_, fun e he => ?_⟩
    · rcases List.mem_cons.1 hy with rfl | hy
      · obtain ⟨z, hz, -, hs, hf⟩ := h3 e he
        have := survivors_apart hx ho z hz
        unfold Apart Event.finish at *
        omega
      · exact h2 y hy e he
    · obtain ⟨z, hz, hid, hs, hf⟩ := h3 e he
      obtain ⟨y, hy, hyz⟩ := List.mem_filterMap.1 hz
      obtain ⟨hid', hs', hf', -, -⟩ := survivor_spec hx (ho.2 y hy) hyz
      exact ⟨y, hy, hid.trans hid', hs'.trans hs, hf.trans hf'⟩

/-- Events in order, clear of a list in order, join it in order. -/
theorem Ordered.foldl_insertEvent {governing l : List Event} (hg : Ordered governing) (hl : Ordered l) (hap : ∀ x ∈ governing, ∀ e ∈ l, Apart e x)
    (hid : ∀ x ∈ governing, ∀ e ∈ l, e.id ≠ x.id) : Ordered (governing.foldl (fun l e => Machine.insertEvent e l) l) := by
  induction governing generalizing l with
  | nil => exact hl
  | cons x rest ih =>
    obtain ⟨hall, hdur, hrest⟩ := ordered_cons.1 hg
    refine ih hrest (hl.insertEvent hdur (hap x List.mem_cons_self) (hid x List.mem_cons_self)) (fun y hy e he => ?_) fun y hy e he => ?_
    · rcases mem_insertEvent.1 he with rfl | he
      · exact .inl (hall y hy).1
      · exact hap y (List.mem_cons_of_mem _ hy) e he
    · rcases mem_insertEvent.1 he with rfl | he
      · exact (hall y hy).2
      · exact hid y (List.mem_cons_of_mem _ hy) e he

/-- R94, R106: governing events in order, placed among others in order that share no id with them, give a list in order. -/
theorem placeEvents_ordered {governing others : List Event} (own : List Item) (hg : Ordered governing) (ho : Ordered others)
    (hid : ∀ x ∈ governing, ∀ y ∈ others, y.id ≠ x.id) : Ordered (placeEvents governing others own).events := by
  obtain ⟨h1, h2, h3⟩ := governed_ordered hg.2 ho
  rw [(placeEvents_spec governing others own).1]
  refine hg.foldl_insertEvent h1 h2 fun x hx e he => ?_
  obtain ⟨y, hy, hey, -, -⟩ := h3 e he
  rw [hey]
  exact hid x hx y hy

theorem ordered_singleton {e : Event} (h : 1 ≤ e.duration) : Ordered [e] := ordered_cons.2 ⟨by simp, h, Ordered.nil⟩

/-! ## Finding an event by its id -/

theorem findEvent_isSome {l : List Event} {id : Nat} : (findEvent l id).isSome = true ↔ id ∈ l.map Event.id := by
  simp [findEvent, List.find?_isSome]

theorem findEvent_eq_none {l : List Event} {id : Nat} : findEvent l id = none ↔ id ∉ l.map Event.id := by
  rw [← findEvent_isSome]; simp

theorem findEvent_some {l : List Event} {id : Nat} {e : Event} (h : findEvent l id = some e) : e ∈ l ∧ e.id = id :=
  ⟨List.mem_of_find?_eq_some h, by simpa using List.find?_some h⟩

/-- In a list in order an event is found by its id. -/
theorem findEvent_of_mem {l : List Event} (h : Ordered l) {e : Event} (he : e ∈ l) : findEvent l e.id = some e := by
  cases hf : findEvent l e.id with
  | none => exact absurd (List.mem_map_of_mem he) (findEvent_eq_none.1 hf)
  | some y =>
    obtain ⟨hy, hid⟩ := findEvent_some hf
    rw [h.eq_of_id hy he hid]

theorem mem_withoutEvent {l : List Event} {id : Nat} {e : Event} : e ∈ withoutEvent l id ↔ e ∈ l ∧ e.id ≠ id := by
  simp [withoutEvent]

/-- Taking one event out of a list in order takes one. -/
theorem length_withoutEvent {l : List Event} (h : Ordered l) {e : Event} (he : e ∈ l) : (withoutEvent l e.id).length + 1 = l.length := by
  induction l with
  | nil => simp at he
  | cons a l ih =>
    obtain ⟨hall, _, hl⟩ := ordered_cons.1 h
    rcases List.mem_cons.1 he with rfl | he
    · have : withoutEvent (e :: l) e.id = l := by
        simp only [withoutEvent, bne_self_eq_false, Bool.false_eq_true, not_false_eq_true, List.filter_cons_of_neg]
        exact List.filter_eq_self.2 fun y hy => by simpa using (hall y hy).2.symm
      rw [this, List.length_cons]
    · have : withoutEvent (a :: l) e.id = a :: withoutEvent l e.id := by
        simp [withoutEvent, (hall e he).2]
      rw [this, List.length_cons, ih hl he, List.length_cons]

end Sys2Proof.Machine

/-! PROOFS. What the five amendments (R101 to R105), a snapshot's events (R108) and retirement (R113) leave of a list in order. -/

namespace Sys2Proof.Machine

-- Each elaboration thread takes a large stack, and the text is compiled as one file under a memory limit: one thread at a time.
set_option Elab.async false

/-- R95: a well-formed event lasts at least one frame. -/
theorem one_le_duration_of_wellFormedEvent {r : Rate} {c : EventCarried} {e : Event} (h : wellFormedEvent r c = .ok e) : 1 ≤ e.duration := by
  unfold wellFormedEvent at h
  split at h
  · exact absurd h (by simp)
  · split at h
    · exact absurd h (by simp)
    · split at h
      · rename_i hd
        cases h
        exact hd.1
      · exact absurd h (by simp)

/-! ## The list after an amendment -/

theorem placeEvents_length_of_mem {l : List Event} (h : Ordered l) {old : Event} (hold : old ∈ l) (e : Event) (own : List Item) :
    (placeEvents [e] (withoutEvent l old.id) own).events.length ≤ l.length := by
  have := placeEvents_length [e] (withoutEvent l old.id) own
  have := length_withoutEvent h hold
  simp only [List.length_singleton] at *
  omega

theorem placeEvents_withoutEvent_ordered {l : List Event} (h : Ordered l) {e : Event} (he : 1 ≤ e.duration) (id : Nat)
    (hid : e.id = id ∨ e.id ∉ l.map Event.id) (own : List Item) : Ordered (placeEvents [e] (withoutEvent l id) own).events := by
  refine placeEvents_ordered own (ordered_singleton he) (h.filter _) fun x hx y hy => ?_
  rw [List.mem_singleton] at hx
  subst hx
  obtain ⟨hyl, hne⟩ := mem_withoutEvent.1 hy
  rcases hid with rfl | hid
  · exact hne
  · exact fun heq => hid (heq ▸ List.mem_map_of_mem hyl)

/-- R105: events moved together by one delta, none below 0, stay in order. -/
theorem Ordered.shift {l : List Event} (h : Ordered l) (delta : Int) (h0 : ∀ e ∈ l, 0 ≤ (e.start : Int) + delta) : Ordered (l.map (shiftEvent delta)) := by
  induction l with
  | nil => exact Ordered.nil
  | cons e l ih =>
    obtain ⟨hall, hdur, hl⟩ := ordered_cons.1 h
    refine ordered_cons.2 ⟨fun y hy => ?_, hdur, ih hl fun e he => h0 e (List.mem_cons_of_mem _ he)⟩
    obtain ⟨z, hz, rfl⟩ := List.mem_map.1 hy
    have hez := hall z hz
    have := h0 e List.mem_cons_self
    have := h0 z (List.mem_cons_of_mem _ hz)
    refine ⟨?_, hez.2⟩
    simp only [shiftEvent, Event.finish] at *
    omega

theorem length_filter_split {α : Type} (l : List α) (p q : α → Bool) (h : ∀ x ∈ l, q x = !p x) : (l.filter q).length + (l.filter p).length = l.length := by
  induction l with
  | nil => rfl
  | cons x l ih =>
    have hx := h x List.mem_cons_self
    have := ih fun y hy => h y (List.mem_cons_of_mem _ hy)
    cases hp : p x <;> simp [hx, hp] at * <;> omega

/-- The events before a named one and those from it on. -/
theorem length_shift_split (l : List Event) (n : Nat) :
    (l.filter fun e => e.start < n).length + (l.filter fun e => n ≤ e.start).length = l.length :=
  length_filter_split l _ _ fun x _ => by simp only [← decide_not, not_le]

theorem placeEvents_shift_ordered {l : List Event} (h : Ordered l) (n : Nat) (delta : Int)
    (h0 : ∀ e ∈ l.filter (fun e => n ≤ e.start), 0 ≤ (e.start : Int) + delta) (own : List Item) :
    Ordered (placeEvents ((l.filter fun e => n ≤ e.start).map (shiftEvent delta)) (l.filter fun e => e.start < n) own).events := by
  refine placeEvents_ordered own ((h.filter _).shift delta h0) (h.filter _) fun x hx y hy hid => ?_
  obtain ⟨z, hz, rfl⟩ := List.mem_map.1 hx
  simp only [List.mem_filter, decide_eq_true_eq] at hz hy
  have := h.eq_of_id hy.1 hz.1 hid
  subst this
  omega

/-- The list that an applied amendment leaves is in order, no longer than 1,024, and takes no more records than there are (R94, R100, R101). -/
structure ListFits (free : Nat) (l : List Event) (x : Applied) : Prop where
  ordered : Ordered x.events
  fits : l.length ≤ 1024 → x.events.length ≤ 1024
  pool : x.events.length ≤ free + l.length

theorem ListFits.of_length_le {free : Nat} {l : List Event} {x : Applied} (h : Ordered x.events) (hl : x.events.length ≤ l.length) : ListFits free l x :=
  ⟨h, hl.trans, by omega⟩

variable {r : Rate} {edge : Int} {free : Nat} {l : List Event} {x : Applied}

theorem applyInsert_fits {c : EventCarried} (h : Ordered l) (ha : applyInsert r edge free l c = .ok x) : ListFits free l x := by
  unfold applyInsert at ha
  split at ha
  · cases ha
  · rename_i e he
    dsimp only at ha
    split_ifs at ha with hid hpast hfull hpool
    cases ha
    have hlen := placeEvents_length [e] l [addedItem e]
    refine ⟨placeEvents_ordered _ (ordered_singleton (one_le_duration_of_wellFormedEvent he)) h fun x hx y hy hyx => hid ?_, fun _ => by omega, ?_⟩
    · rw [List.mem_singleton] at hx
      subst hx
      exact findEvent_isSome.2 (hyx ▸ List.mem_map_of_mem hy)
    · simp only [List.length_singleton] at hlen
      omega

theorem applyReplace_fits {id : Nat} {c : EventCarried} (h : Ordered l) (ha : applyReplace r edge l id c = .ok x) : ListFits free l x := by
  unfold applyReplace at ha
  split at ha
  · cases ha
  · rename_i e he
    split at ha
    · cases ha
    · rename_i old hold
      split_ifs at ha with hid hpast
      cases ha
      obtain ⟨hmem, rfl⟩ := findEvent_some hold
      refine .of_length_le (placeEvents_withoutEvent_ordered h (one_le_duration_of_wellFormedEvent he) _ ?_ _) (placeEvents_length_of_mem h hmem _ _)
      by_cases heq : e.id = old.id
      · exact .inl heq
      · exact .inr fun hin => hid ⟨heq, findEvent_isSome.2 hin⟩

theorem applyDelete_fits {id : Nat} (h : Ordered l) (ha : applyDelete l id = .ok x) : ListFits free l x := by
  unfold applyDelete at ha
  split at ha
  · cases ha
  · cases ha
    refine .of_length_le (placeEvents_ordered _ Ordered.nil (h.filter _) (by simp)) ?_
    have := placeEvents_length [] (withoutEvent l id) [removedItem ‹_›]
    have : (withoutEvent l id).length ≤ l.length := List.length_filter_le _ _
    simp only [List.length_nil] at *
    omega

theorem applyTrim_fits {id duration : Nat} (h : Ordered l) (ha : applyTrim r edge l id duration = .ok x) : ListFits free l x := by
  unfold applyTrim at ha
  split at ha
  · cases ha
  · rename_i hdur
    split at ha
    · cases ha
    · rename_i old hold
      obtain ⟨hmem, rfl⟩ := findEvent_some hold
      dsimp only at ha
      split_ifs at ha with hpast hsame
      · cases ha
        exact .of_length_le h le_rfl
      · cases ha
        refine .of_length_le (placeEvents_withoutEvent_ordered h ?_ _ (.inl rfl) _) (placeEvents_length_of_mem h hmem _ _)
        change 1 ≤ duration
        omega

theorem applyShift_fits {id : Nat} {delta : Int} (h : Ordered l) (ha : applyShift r edge l id delta = .ok x) : ListFits free l x := by
  unfold applyShift at ha
  split at ha
  · cases ha
  · split at ha
    · cases ha
    · rename_i named hnamed
      dsimp only at ha
      split_ifs at ha with hfits hpast hzero
      · cases ha
        exact .of_length_le h le_rfl
      · cases ha
        refine .of_length_le (placeEvents_shift_ordered h _ _ (fun e he => ?_) _) ?_
        · simp only [List.any_eq_true, not_exists, not_and, Bool.or_eq_true, decide_eq_true_eq] at hfits
          have := hfits e he
          omega
        · have hlen := placeEvents_length ((l.filter fun e => named.start ≤ e.start).map (shiftEvent delta)) (l.filter fun e => e.start < named.start)
            ((l.filter fun e => named.start ≤ e.start).map fun e =>
              { id := e.id, change := .moved, before := some e.range, after := some (shiftEvent delta e).range })
          have := length_shift_split l named.start
          rw [List.length_map] at hlen
          omega

theorem applyAmendment_fits {a : Amendment} (h : Ordered l) (ha : applyAmendment r edge free l a = .ok x) : ListFits free l x := by
  cases a with
  | insert e => exact applyInsert_fits h ha
  | replace id e => exact applyReplace_fits h ha
  | delete id => exact applyDelete_fits h ha
  | trim id duration => exact applyTrim_fits h ha
  | shiftFrom id delta => exact applyShift_fits h ha

/-! ## The shadow list -/

theorem mem_insertNat {n x : Nat} {l : List Nat} : x ∈ insertNat n l ↔ x = n ∨ x ∈ l := by
  induction l with
  | nil => simp [insertNat]
  | cons a l ih =>
    simp only [insertNat]
    split_ifs with hlt heq
    · simp
    · simp [heq]
    · simp only [List.mem_cons, ih]
      tauto

theorem length_insertNat {n : Nat} {l : List Nat} (h : n ∉ l) : (insertNat n l).length = l.length + 1 := by
  induction l with
  | nil => rfl
  | cons a l ih =>
    simp only [List.mem_cons, not_or] at h
    simp only [insertNat, h.1, if_false]
    split
    · rfl
    · simp [ih h.2]

theorem pairwise_insertNat {n : Nat} {l : List Nat} (h : l.Pairwise (· < ·)) (hn : n ∉ l) : (insertNat n l).Pairwise (· < ·) := by
  induction l with
  | nil => simp [insertNat]
  | cons a l ih =>
    obtain ⟨hall, hl⟩ := List.pairwise_cons.1 h
    simp only [List.mem_cons, not_or] at hn
    simp only [insertNat, hn.1, if_false]
    split
    · rename_i hna
      exact List.pairwise_cons.2 ⟨fun y hy => (List.mem_cons.1 hy).elim (fun h => h ▸ hna) fun hy => hna.trans (hall y hy), h⟩
    · refine List.pairwise_cons.2 ⟨fun y hy => ?_, ih hl hn.2⟩
      rcases mem_insertNat.1 hy with rfl | hy
      · omega
      · exact hall y hy

/-- Numbers that rise and stay below a count are no more than the count. -/
theorem length_le_of_rising {l : List Nat} {n : Nat} (h : l.Pairwise (· < ·)) (hb : ∀ i ∈ l, i < n) : l.length ≤ n := by
  have hnd : l.Nodup := h.imp fun h => Nat.ne_of_lt h
  have := (List.subperm_of_subset hnd (fun i hi => List.mem_range.2 (hb i hi) : l ⊆ List.range n)).length_le
  simpa using this

theorem ShadowInv.length_le {x : Shadow} (h : ShadowInv x) : x.events.length ≤ 1024 :=
  (h.filled.trans (length_le_of_rising h.indices h.below)).trans h.count

/-- R107: an empty shadow list. -/
theorem ShadowInv.opened {revision count : Nat} (h : count ≤ 1024) : ShadowInv { events := [], revision := revision, count := count, received := [] } :=
  ⟨Ordered.nil, le_rfl, List.Pairwise.nil, by simp, h⟩

/-- R108: an index joins the received ones. -/
theorem ShadowInv.receive {x : Shadow} (h : ShadowInv x) {index : Nat} (hi : index < x.count) (hn : index ∉ x.received) :
    ShadowInv { x with received := insertNat index x.received } ∧ x.events.length < (insertNat index x.received).length := by
  have hlen := length_insertNat hn
  have := h.filled
  refine ⟨⟨h.ordered, ?_, pairwise_insertNat h.indices hn, fun i hm => ?_, h.count⟩, by omega⟩
  · show x.events.length ≤ (insertNat index x.received).length
    omega
  · rcases mem_insertNat.1 hm with rfl | hm
    · exact hi
    · exact h.below i hm

/-- R108: an event placed in a shadow list that has an index for it. -/
theorem ShadowInv.place {x : Shadow} (h : ShadowInv x) {e : Event} (he : 1 ≤ e.duration) (hid : findEvent x.events e.id = none)
    (hroom : x.events.length < x.received.length) : ShadowInv { x with events := (placeEvents [e] x.events []).events } := by
  have hlen := placeEvents_length [e] x.events []
  refine ⟨placeEvents_ordered [] (ordered_singleton he) h.ordered fun y hy z hz hzy => ?_, ?_, h.indices, h.below, h.count⟩
  · rw [List.mem_singleton] at hy
    subst hy
    exact findEvent_eq_none.1 hid (hzy ▸ List.mem_map_of_mem hz)
  · simp only [List.length_singleton] at hlen
    show (placeEvents [e] x.events []).events.length ≤ x.received.length
    omega

/-! ## Retirement (R113) -/

theorem retained_sublist (edge : Int) (l : List Event) : (retained edge l).Sublist l := (List.dropWhile_suffix _).sublist

theorem length_retained_le (edge : Int) (l : List Event) : (retained edge l).length ≤ l.length := (retained_sublist edge l).length_le

theorem ShadowInv.retire {x : Shadow} (h : ShadowInv x) (edge : Int) : ShadowInv { x with events := retained edge x.events } :=
  ⟨h.ordered.sublist (retained_sublist edge _), (length_retained_le edge _).trans h.filled, h.indices, h.below, h.count⟩

end Sys2Proof.Machine

/-! PROOFS. The pool and the lists of every channel under the operations of the Schedule Store (R93, R94, R96, R107, R111): what one channel's operation leaves gives
`PoolInv` again. -/

namespace Sys2Proof.Machine

-- Each elaboration thread takes a large stack, and the text is compiled as one file under a memory limit: one thread at a time.
set_option Elab.async false

variable {s t : State} {c : Chan} {v : ListView}

theorem shadowEvents_none : shadowEvents none = [] := rfl
theorem shadowEvents_some (x : Shadow) : shadowEvents (some x) = x.events := rfl

/-- The event records in a channel's lists, by its view. -/
def ListView.records (v : ListView) : Nat := (v.live.getD []).length + (shadowEvents v.shadow).length

/-- What `PoolInv` says of one channel's lists and its snapshot timer. -/
structure ListView.Well (v : ListView) : Prop where
  live : v.live = none ↔ v.state = .empty
  shadow : v.shadow ≠ none ↔ v.state = .rebuilding
  liveOrdered : ∀ l, v.live = some l → Ordered l ∧ l.length ≤ 1024
  shadowOrdered : ∀ y, v.shadow = some y → ShadowInv y
  timer : v.timer ≠ none → v.shadow ≠ none

/-- No snapshot timeout is due: what holds once what was due has been taken. -/
def NoTimeout (s : State) : Prop := ∀ c, (s.ch c).work.snapshot = false

theorem records_eq_view (s : State) (c : Chan) : (s.ch c).records = (s.view c).records := by
  unfold Channel.records ListView.records State.view shadowEvents
  cases (s.ch c).schedule.shadow <;> rfl

theorem PoolInv.well (h : PoolInv s) (c : Chan) : (s.view c).Well :=
  ⟨(h.lists c).live, (h.lists c).shadow, (h.lists c).liveOrdered, (h.lists c).shadowOrdered, fun ht => h.timers c (.inr ht)⟩

theorem ListView.Well.scheduleInv (h : (s.view c).Well) : ScheduleInv (s.ch c).schedule := ⟨h.live, h.shadow, h.liveOrdered, h.shadowOrdered⟩

theorem ListsKept.scheduleInv {x y : Channel} (h : ListsKept x y) (hx : ScheduleInv x.schedule) : ScheduleInv y.schedule :=
  ⟨by rw [h.live, h.state]; exact hx.live, by rw [h.shadow, h.state]; exact hx.shadow, by rw [h.live]; exact hx.liveOrdered,
   by rw [h.shadow]; exact hx.shadowOrdered⟩

theorem ListsKept.records {x y : Channel} (h : ListsKept x y) : y.records = x.records := by
  unfold Channel.records
  rw [h.live, h.shadow]

theorem ListsKept.timers {x y : Channel} (h : ListsKept x y)
    (hx : x.work.snapshot = true ∨ x.schedule.snapshotTimer ≠ none → x.schedule.shadow ≠ none) :
    y.work.snapshot = true ∨ y.schedule.snapshotTimer ≠ none → y.schedule.shadow ≠ none := by
  rw [h.shadow, h.timer]
  exact fun hy => hx (hy.imp_left h.due)

theorem KeepsLists.poolInv (h : KeepsLists s t) (hs : PoolInv s) : PoolInv t := by
  refine ⟨?_, fun c => (h.lists c).scheduleInv (hs.lists c), fun c => (h.lists c).timers (hs.timers c)⟩
  rw [h.pool, List.map_congr_left fun c _ => (h.lists c).records]
  exact hs.pool

theorem KeepsLists.noTimeout (h : KeepsLists s t) (hs : NoTimeout s) : NoTimeout t := fun c => by
  by_contra hc
  exact absurd ((h.lists c).due (by simpa using hc)) (by simp [hs c])

/-- A sum over the channels when one channel's number changes. -/
theorem sum_chans_update {f g : Chan → Nat} (c : Chan) (h : ∀ c', c' ≠ c → g c' = f c') :
    (Chan.all.map g).sum + f c = (Chan.all.map f).sum + g c := by
  have key : ∀ l : List Chan, l.Nodup → c ∈ l → (l.map g).sum + f c = (l.map f).sum + g c := by
    intro l hnd hc
    induction l with
    | nil => simp at hc
    | cons a l ih =>
      obtain ⟨ha, hl⟩ := List.nodup_cons.1 hnd
      simp only [List.map_cons, List.sum_cons]
      rcases List.mem_cons.1 hc with rfl | hc
      · rw [List.map_congr_left fun x hx => h x fun hxc => ha (hxc ▸ hx)]
        omega
      · have := ih hl hc
        have := h a fun hac => ha (hac ▸ hc)
        omega
  exact key _ Chan.nodup_all (Chan.mem_all c)

/-- An operation on one channel's lists that leaves them well and loses no record. -/
theorem Relists.poolInv (h : Relists c s t v) (hs : PoolInv s) (hv : v.Well) (hp : v.pool + v.records = s.poolFree + (s.view c).records)
    (hd : (s.ch c).work.snapshot = true → v.shadow ≠ none) : PoolInv t := by
  have hview : (t.view c).Well := h.view ▸ hv
  have hshadow : (t.ch c).schedule.shadow = v.shadow := congrArg ListView.shadow h.view
  refine ⟨?_, fun c' => ?_, fun c' => ?_⟩
  · have hsum := sum_chans_update c (f := fun c => (s.ch c).records) (g := fun c => (t.ch c).records) fun c' hc => (h.others c' hc).records
    have hpool : t.poolFree = v.pool := congrArg ListView.pool h.view
    have := hs.pool
    simp only [records_eq_view s c, records_eq_view t c, h.view] at hsum
    omega
  · by_cases hc : c' = c
    · subst hc
      exact hview.scheduleInv
    · exact (h.others c' hc).scheduleInv (hs.lists c')
  · by_cases hc : c' = c
    · subst hc
      rintro (hw | ht)
      · rw [hshadow]
        exact hd (h.due hw)
      · exact hview.timer ht
    · exact (h.others c' hc).timers (hs.timers c')

theorem Relists.noTimeout (h : Relists c s t v) (hs : NoTimeout s) : NoTimeout t := fun c' => by
  by_contra hc
  have hc : (t.ch c').work.snapshot = true := by simpa using hc
  have hs' := hs c'
  by_cases heq : c' = c
  · subst heq
    simp [h.due hc] at hs'
  · simp [(h.others c' heq).due hc] at hs'

/-- The lists of a part in which no timeout is due: kept from one command to the next. -/
structure Quiet (s : State) : Prop where
  lists : PoolInv s
  noTimeout : NoTimeout s

theorem KeepsLists.quiet (h : KeepsLists s t) (hs : Quiet s) : Quiet t := ⟨h.poolInv hs.lists, h.noTimeout hs.noTimeout⟩

theorem Relists.quiet (h : Relists c s t v) (hs : Quiet s) (hv : v.Well) (hp : v.pool + v.records = s.poolFree + (s.view c).records) : Quiet t :=
  ⟨h.poolInv hs.lists hv hp (by simp [hs.noTimeout c]), h.noTimeout hs.noTimeout⟩

/-! ## What the operations leave is well -/

theorem ListView.Well.stale (h : v.Well) (hc : v.state = .current ∨ v.state = .stale) (n : Nat) : { v with pool := n, state := .stale }.Well := by
  have hlive : v.live ≠ none := fun hn => by rcases hc with hc | hc <;> simp [h.live.1 hn] at hc
  have hshadow : v.shadow = none := by
    by_contra hn
    rcases hc with hc | hc <;> simp [h.shadow.1 hn] at hc
  exact ⟨by simp [hlive], by simp [hshadow], h.liveOrdered, h.shadowOrdered, h.timer⟩

theorem view_stale {n : Nat} (h : (s.view c).Well) (hs : (s.view c).shadow ≠ none) :
    ({ s.view c with pool := n, shadow := none, timer := none, state := .stale } : ListView).Well := by
  have hstate := h.shadow.1 hs
  have hlive : (s.view c).live ≠ none := fun hn => by simp [h.live.1 hn] at hstate
  exact ⟨by simp [hlive], by simp, h.liveOrdered, by simp, by simp⟩

/-- A snapshot that fails gives up its shadow's records (R109). -/
theorem view_stale_records :
    ({ s.view c with pool := s.poolFree + (shadowEvents (s.ch c).schedule.shadow).length, shadow := none, timer := none, state := .stale } :
      ListView).pool +
      ({ s.view c with pool := s.poolFree + (shadowEvents (s.ch c).schedule.shadow).length, shadow := none, timer := none, state := .stale } :
      ListView).records = s.poolFree + (s.view c).records := by
  simp only [ListView.records, State.view, shadowEvents_none, List.length_nil]
  omega

theorem takeAmendment_quiet (h : Quiet s) (revision : Nat) (a : Amendment) : Quiet (s.takeAmendment c revision a) := by
  obtain ⟨v, hrel, hv⟩ := Relists.takeAmendment s c revision a
  have hwell := h.lists.well c
  rcases hv with rfl | ⟨hstate, rfl⟩ | ⟨hstate, x, hx, rfl⟩
  · exact hrel.quiet h hwell rfl
  · exact hrel.quiet h (hwell.stale (.inl hstate) _) rfl
  · have hlive : (s.ch c).schedule.live ≠ none := fun hn => by
      have := hwell.live.1 hn
      simp [State.view, hstate] at this
    obtain ⟨l, hl⟩ := Option.ne_none_iff_exists'.1 hlive
    have hl' : s.live c = l := by simp [State.live, hl]
    rw [hl'] at hx hrel
    obtain ⟨hord, hlen⟩ := hwell.liveOrdered l hl
    have hfits := applyAmendment_fits (free := s.poolFree) hord hx
    refine hrel.quiet h ⟨?_, hwell.shadow, ?_, hwell.shadowOrdered, hwell.timer⟩ ?_
    · simp [State.view, hstate]
    · rintro l' hl'
      cases hl'
      exact ⟨hfits.ordered, hfits.fits hlen⟩
    · have := hfits.pool
      simp only [ListView.records, State.view, hl, Option.getD_some]
      omega

theorem takeSnapshotBegin_quiet (h : Quiet s) (revision count : Nat) : Quiet (s.takeSnapshotBegin c revision count) := by
  obtain ⟨v, hrel, hv⟩ := Relists.takeSnapshotBegin s c revision count
  have hwell := h.lists.well c
  rcases hv with rfl | ⟨hcount, rfl⟩
  · exact hrel.quiet h hwell rfl
  · refine hrel.quiet h ⟨by simp, by simp, ?_, ?_, by simp⟩ ?_
    · rintro l hl
      cases hl
      cases hn : (s.ch c).schedule.live with
      | none => simpa [State.live, hn] using Ordered.nil
      | some l => simpa [State.live, hn] using hwell.liveOrdered l hn
    · rintro y hy
      cases hy
      exact ShadowInv.opened hcount
    · simp only [ListView.records, State.view, State.live, shadowEvents_some, Option.getD_some, List.length_nil]
      omega

theorem failSnapshot_quiet (h : Quiet s) (hs : (s.view c).shadow ≠ none) (cause : ReplicationCause) : Quiet (s.failSnapshot c cause) :=
  (Relists.failSnapshot s c cause).quiet h (view_stale (h.lists.well c) hs) view_stale_records

theorem ListView.Well.withShadow (h : v.Well) (hs : v.shadow ≠ none) {x : Shadow} (hx : ShadowInv x) (n : Nat) :
    { v with pool := n, shadow := some x }.Well :=
  ⟨h.live, by simp [h.shadow.1 hs], h.liveOrdered, fun y hy => by cases hy; exact hx, by simp⟩

theorem snapshotInsert_quiet (h : Quiet s) {x : Shadow} (hx : (s.ch c).schedule.shadow = some x) (hroom : x.events.length < x.received.length)
    (e : EventCarried) : Quiet (s.snapshotInsert c x e) := by
  obtain ⟨v, hrel, hv⟩ := Relists.snapshotInsert s c x e hx
  have hwell := h.lists.well c
  have hsome : (s.view c).shadow ≠ none := by simp [State.view, hx]
  rcases hv with rfl | rfl | ⟨y, hy, hid, hpool, rfl⟩
  · exact hrel.quiet h hwell rfl
  · refine hrel.quiet h (view_stale hwell hsome) ?_
    have := @view_stale_records s c
    rwa [show x.events = shadowEvents (s.ch c).schedule.shadow by simp [hx, shadowEvents_some]]
  · have hinv := (hwell.shadowOrdered x hx).place (one_le_duration_of_wellFormedEvent hy) hid hroom
    refine hrel.quiet h (hwell.withShadow hsome hinv _) ?_
    have := placeEvents_length [y] x.events []
    simp only [ListView.records, State.view, hx, shadowEvents_some, List.length_singleton] at *
    omega

theorem takeSnapshotEvent_quiet (h : Quiet s) (revision index : Nat) (e : EventCarried) : Quiet (s.takeSnapshotEvent c revision index e) := by
  unfold State.takeSnapshotEvent
  split
  · exact ((KeepsLists.refl s).bumpCh _).quiet h
  · rename_i x hx
    dsimp only
    split_ifs with hbad hdup
    · exact ((KeepsLists.refl s).bumpCh _).quiet h
    · exact ((KeepsLists.refl s).bumpCh _).quiet h
    · have hwell := h.lists.well c
      have hsome : (s.view c).shadow ≠ none := by simp [State.view, hx]
      obtain ⟨hinv, hroom⟩ := (hwell.shadowOrdered x hx).receive (index := index) (by omega) (by simpa using hdup)
      have hrel := Relists.modSchedule s c s.poolFree (fun y => { y with shadow := some { x with received := insertNat index x.received } }) id
      have hput : Quiet (s.modSchedule c fun y => { y with shadow := some { x with received := insertNat index x.received } }) := by
        refine hrel.quiet h (hwell.withShadow hsome hinv _) ?_
        simp [ListView.records, State.view, hx, shadowEvents_some]
      exact snapshotInsert_quiet hput (by simp) hroom e

theorem takeSnapshotEnd_quiet (h : Quiet s) (revision count : Nat) : Quiet (s.takeSnapshotEnd c revision count) := by
  unfold State.takeSnapshotEnd
  split
  · exact ((KeepsLists.refl s).bumpCh _).quiet h
  · rename_i x hx
    have hwell := h.lists.well c
    have hinv := hwell.shadowOrdered x hx
    split_ifs with hbad hwhole
    · exact ((KeepsLists.refl s).bumpCh _).quiet h
    · refine (Relists.swapLists s c x).quiet h ⟨by simp, by simp, ?_, by simp, by simp⟩ ?_
      · rintro l hl
        cases hl
        exact ⟨hinv.ordered, hinv.length_le⟩
      · simp only [ListView.records, State.view, hx, shadowEvents_none, shadowEvents_some, State.live, Option.getD_some, List.length_nil]
        omega
    · exact failSnapshot_quiet h (by simp [State.view, hx]) _

theorem takeScheduleCarrier_quiet (h : Quiet s) (channel : Nat) (k : ScheduleCarrier) : Quiet (s.takeScheduleCarrier channel k) := by
  unfold State.takeScheduleCarrier
  split
  · exact ((KeepsLists.refl s).bumpUnit _).quiet h
  · cases k with
    | amendment revision a => exact takeAmendment_quiet h revision a
    | snapshotBegin revision count => exact takeSnapshotBegin_quiet h revision count
    | snapshotEvent revision index e => exact takeSnapshotEvent_quiet h revision index e
    | snapshotEnd revision count => exact takeSnapshotEnd_quiet h revision count

/-! ## A boundary, and the timeouts that it leaves due (R111 to R115) -/

theorem clearLists_quiet (h : Quiet s) (cause : ReplicationCause) : Quiet (s.clearLists c cause) := by
  refine (Relists.clearLists s c cause).quiet h ⟨by simp, by simp, by simp, by simp, by simp⟩ ?_
  simp only [ListView.records, State.view, State.live, shadowEvents_none, Option.getD_none, List.length_nil]
  omega

theorem clearAllLists_quiet (h : Quiet s) (cause : ReplicationCause) : Quiet (s.clearAllLists cause) :=
  State.eachChannel_keeps (fun _ _ hu => clearLists_quiet hu cause) h

/-- What R111 and R112 leave of the timers of a channel. -/
theorem KeepsBounds.countScheduleTimers (h : KeepsBounds s t) : KeepsBounds s (t.countScheduleTimers c) := by
  unfold State.countScheduleTimers
  dsimp only
  refine (h.modCh _ fun hx => ⟨hx.ring, hx.sequence, hx.expected, hx.cueNumber⟩).modCh _ fun hx => ⟨hx.ring, hx.sequence, hx.expected, hx.cueNumber⟩

theorem countTimer_running {timer : Option Nat} {period : Nat} (h : (countTimer timer period).2 = true ∨ (countTimer timer period).1 ≠ none) :
    timer ≠ none := by
  rintro rfl
  simp [countTimer] at h

/-- A timer leaves its timeout due beside a shadow list alone. -/
theorem countScheduleTimers_poolInv (h : PoolInv s) : PoolInv (s.countScheduleTimers c) := by
  have hview : ∀ c', (((s.countScheduleTimers c).ch c').schedule.live = (s.ch c').schedule.live ∧
      ((s.countScheduleTimers c).ch c').schedule.shadow = (s.ch c').schedule.shadow) ∧
      ((s.countScheduleTimers c).ch c').schedule.state = (s.ch c').schedule.state := by
    intro c'
    by_cases hc : c' = c
    · subst hc
      simp [State.countScheduleTimers]
    · simp [State.countScheduleTimers, hc]
  refine ⟨?_, fun c' => ?_, fun c' => ?_⟩
  · have : ∀ c', ((s.countScheduleTimers c).ch c').records = (s.ch c').records := fun c' => by
      unfold Channel.records
      rw [(hview c').1.1, (hview c').1.2]
    rw [List.map_congr_left fun c _ => this c]
    exact h.pool
  · have := h.lists c'
    exact ⟨by rw [(hview c').1.1, (hview c').2]; exact this.live, by rw [(hview c').1.2, (hview c').2]; exact this.shadow,
      by rw [(hview c').1.1]; exact this.liveOrdered, by rw [(hview c').1.2]; exact this.shadowOrdered⟩
  · rw [(hview c').1.2]
    by_cases hc : c' = c
    · subst hc
      intro ht
      refine h.timers c' (.inr (countTimer_running (period := prescaledPeriod s.settings.snapshotCount s.settings.snapshotPrescale) ?_))
      simpa [State.countScheduleTimers] using ht
    · simpa [State.countScheduleTimers, hc] using h.timers c'

/-- What R113 leaves of the lists of a channel. -/
theorem Relists.retire (s : State) (c : Chan) :
    Relists c s (s.retire c)
      { s.view c with
        pool :=
          s.poolFree + (((s.ch c).schedule.live.getD []).length + (shadowEvents (s.ch c).schedule.shadow).length) -
            ((((s.ch c).schedule.live.map (retained (s.scheduleEdge c))).getD []).length +
              (shadowEvents ((s.ch c).schedule.shadow.map fun y => { y with events := retained (s.scheduleEdge c) y.events })).length)
        live := (s.ch c).schedule.live.map (retained (s.scheduleEdge c))
        shadow := (s.ch c).schedule.shadow.map fun y => { y with events := retained (s.scheduleEdge c) y.events } } := by
  unfold State.retire
  dsimp only
  have key := (Relists.modSchedule s c
    (s.poolFree + (((s.ch c).schedule.live.getD []).length + (((s.ch c).schedule.shadow.map Shadow.events).getD []).length) -
      ((((s.ch c).schedule.live.map (retained (s.scheduleEdge c))).getD []).length +
        ((((s.ch c).schedule.shadow.map fun y => { y with events := retained (s.scheduleEdge c) y.events }).map Shadow.events).getD []).length))
    (fun y =>
      { y with
        live := (s.ch c).schedule.live.map (retained (s.scheduleEdge c))
        shadow := (s.ch c).schedule.shadow.map fun y => { y with events := retained (s.scheduleEdge c) y.events } }) id)
  refine (key.then ((KeepsLists.refl _).bumpBy _ _)).of_view ?_
  cases (s.ch c).schedule.shadow <;> rfl

theorem retire_poolInv (h : PoolInv s) : PoolInv (s.retire c) := by
  have hwell := h.well c
  have hlive : ((((s.ch c).schedule.live.map (retained (s.scheduleEdge c))).getD []).length ≤ ((s.ch c).schedule.live.getD []).length) := by
    cases (s.ch c).schedule.live with
    | none => simp
    | some l => simpa using length_retained_le _ l
  have hshadow : (shadowEvents ((s.ch c).schedule.shadow.map fun y => { y with events := retained (s.scheduleEdge c) y.events })).length ≤
      (shadowEvents (s.ch c).schedule.shadow).length := by
    cases (s.ch c).schedule.shadow with
    | none => simp [shadowEvents]
    | some y => simpa [shadowEvents] using length_retained_le _ y.events
  refine (Relists.retire s c).poolInv h ⟨?_, ?_, ?_, ?_, ?_⟩ ?_ ?_
  · simpa [State.view] using hwell.live
  · simpa [State.view] using hwell.shadow
  · rintro l hl
    obtain ⟨l', hl', rfl⟩ := Option.map_eq_some_iff.1 hl
    obtain ⟨hord, hlen⟩ := hwell.liveOrdered l' hl'
    exact ⟨hord.sublist (retained_sublist _ _), (length_retained_le _ _).trans hlen⟩
  · rintro y hy
    obtain ⟨y', hy', rfl⟩ := Option.map_eq_some_iff.1 hy
    exact (hwell.shadowOrdered y' hy').retire _
  · simpa [State.view] using hwell.timer
  · simp only [ListView.records, State.view]
    omega
  · intro hw
    simpa using h.timers c (.inl hw)

/-- R111 to R114: the Schedule Store at a boundary keeps the pool whole. -/
theorem takeScheduleBoundary_poolInv (h : Quiet s) (cycleEnd : Bool) : PoolInv (s.takeScheduleBoundary cycleEnd) := by
  unfold State.takeScheduleBoundary
  refine State.eachChannel_keeps (fun _ _ hu => retire_poolInv hu) ?_
  split
  · exact (clearAllLists_quiet h _).lists
  · exact State.eachChannel_keeps (fun _ _ hu => countScheduleTimers_poolInv hu) h.lists

theorem KeepsBounds.takeScheduleBoundary (h : KeepsBounds s t) (cycleEnd : Bool) : KeepsBounds s (t.takeScheduleBoundary cycleEnd) := by
  unfold State.takeScheduleBoundary
  refine KeepsBounds.eachChannel ?_ _ fun c u hu => hu.trans (Relists.retire u c).toKeepsBounds
  split
  · exact h.eachChannel _ fun c u hu => hu.trans (Relists.clearLists u c _).toKeepsBounds
  · exact h.eachChannel _ fun _ _ hu => hu.countScheduleTimers

/-- SNAPSHOT_TIMEOUT (R111): the flag is cleared and the shadow given up. -/
theorem doSnapshotTimeout_poolInv (h : PoolInv s) : PoolInv (s.doSnapshotTimeout c) := by
  unfold State.doSnapshotTimeout
  split
  · rename_i hw
    have hsome : (s.view c).shadow ≠ none := h.timers c (.inl hw)
    have hkeep : KeepsLists s (s.modWork c fun w => { w with snapshot := false }) := (KeepsLists.refl s).modWork _
    refine (Relists.expireSnapshot _ c).poolInv (hkeep.poolInv h) (view_stale ((hkeep.poolInv h).well c) ?_) view_stale_records (by simp)
    rwa [hkeep.view]
  · exact h

/-- After SNAPSHOT_TIMEOUT no timeout of the channel is due, and none has become so. -/
theorem doSnapshotTimeout_due (s : State) (c c' : Chan) (h : ((s.doSnapshotTimeout c).ch c').work.snapshot = true) :
    c' ≠ c ∧ (s.ch c').work.snapshot = true := by
  unfold State.doSnapshotTimeout at h
  split at h
  · have hrel := Relists.expireSnapshot (s.modWork c fun w => { w with snapshot := false }) c
    by_cases hc : c' = c
    · subst hc
      simpa using hrel.due h
    · have := (hrel.others c' hc).due h
      simp only [ne_eq, hc, not_false_eq_true, State.ch_modWork_ne] at this
      exact ⟨hc, this⟩
  · rename_i hw
    exact ⟨fun hc => hw (hc ▸ h), h⟩

theorem KeepsBounds.doSnapshotTimeout (h : KeepsBounds s t) : KeepsBounds s (t.doSnapshotTimeout c) := by
  unfold State.doSnapshotTimeout
  split
  · exact (h.trans ((KeepsLists.refl t).modWork _).toKeepsBounds).trans (Relists.expireSnapshot _ c).toKeepsBounds
  · exact h

theorem KeepsLists.doResyncRepeat (h : KeepsLists s t) : KeepsLists s (t.doResyncRepeat c) := by
  unfold State.doResyncRepeat
  split
  · exact (h.modWork _).resync
  · exact h

end Sys2Proof.Machine

/-! PROOFS. A predicate that every operation a control carrier can ask for keeps is kept by every control carrier (R188 to R203). -/

namespace Sys2Proof.Machine

-- Each elaboration thread takes a large stack, and the text is compiled as one file under a memory limit: one thread at a time.
set_option Elab.async false

/-- A predicate on the state of a loaded part that each operation that the Management Unit passes a request to keeps. -/
structure KeptByRequests (P : State → Prop) : Prop where
  bump : ∀ s key, P s → P (s.bump key)
  reply : ∀ s o p r, P s → P (s.reply o p r)
  context : ∀ s o (f : Context → Context), (∀ x, (f x).queue = x.queue ∧ (f x).nextSequence = x.nextSequence) → P s → P (s.modCtx o f)
  clearEdges : ∀ s page offset n, P s → P (s.clearEdges page offset n)
  clearCounters : ∀ s : State, P s → P { s with counters := .zero }
  consolePort : ∀ (s : State) n, P s → P { s with mgmt := { s.mgmt with consolePort := some n } }
  warmRestart : ∀ s a, P s → P (s.takeWarmRestart a)
  command : ∀ s c o k, P s → P (s.runChannel c o k).1
  retime : ∀ s c value, P s → P (s.commandRetime c value).1
  capture : ∀ s slate c path port request, P s → P (s.commandCapture slate c path port request).1
  realign : ∀ s : State, P s → P s.commandRealign.1
  declareLost : ∀ s : State, P s → P s.commandDeclareLost.1
  restore : ∀ s : State, P s → P s.commandRestore.1
  save : ∀ (s : State) owed, P s → P (s.commandSave owed).1
  writeRef : ∀ s r v time t, r.readOnly = false → s.writeRef r v time = some t → P s → P t
  keepalive : ∀ s side sequence, P s → P (s.takeKeepalive side sequence)
  schedule : ∀ s channel k, P s → P (s.takeScheduleCarrier channel k)
  ready : ∀ s n player number, P s → P (s.takeReady n player number)
  refused : ∀ s n player number, P s → P (s.takeRefused n player number)

namespace KeptByRequests

variable {P : State → Prop} (h : KeptByRequests P) {s : State}
include h

/-! ## Answers and the access contexts -/

theorem answer (hs : P s) (a : Asked) (result : Result) (clamped : Bool) (contents : List Atom) : P (s.answer a result clamped contents) :=
  h.reply _ _ _ _ hs

theorem ctx (hs : P s) (o : Origin) (f : Context → Context)
    (hf : ∀ x, (f x).queue = x.queue ∧ (f x).nextSequence = x.nextSequence := by exact fun _ => ⟨rfl, rfl⟩) : P (s.modCtx o f) := h.context _ _ _ hf hs

theorem setSticky (hs : P s) (o : Origin) (code : Result) (request offset : Nat) : P (s.setSticky o code request offset) :=
  h.context _ _ _ (fun x => by cases x.sticky <;> exact ⟨rfl, rfl⟩) hs

theorem refuseSticky (hs : P s) (a : Asked) (code : Result) : P (s.refuseSticky a code) := h.answer (h.setSticky hs _ _ _ _) _ _ _ _

theorem advance (hs : P s) (o : Origin) (n : Nat) : P (s.advance o n) :=
  h.context _ _ _ (fun x => by dsimp only; split <;> exact ⟨rfl, rfl⟩) hs

theorem endBusyWalk (hs : P s) (o : Origin) (w : Walk) : P (s.endBusyWalk o w) := by
  unfold State.endBusyWalk
  exact h.answer (h.ctx hs _ _) _ _ _ _

theorem refuseBusy (hs : P s) (a : Asked) (w : Walk) : P (s.refuseBusy a w) := h.endBusyWalk (h.refuseSticky hs _ _) _ _

theorem endWalk (hs : P s) (o : Origin) (w : Walk) (ranOut : Bool) : P (s.endWalk o w ranOut) := by
  unfold State.endWalk
  dsimp only
  exact h.advance (h.answer (h.ctx hs _ _) _ _ _ _) _ _

theorem walkReach (hs : P s) (o : Origin) : P (s.walkReach o) := by
  unfold State.walkReach
  split
  · exact hs
  · split
    · dsimp only
      split
      · exact h.endWalk hs _ _ _
      · exact h.ctx hs _ _
    · split
      · exact h.endWalk hs _ _ _
      · dsimp only
        exact h.refuseSticky (h.ctx hs _ _) _ _

theorem setWindow (hs : P s) (a : Asked) (table page offset auto : Nat) : P (s.setWindow a table page offset auto) := by
  unfold State.setWindow
  split
  · exact h.refuseSticky hs _ _
  · split_ifs
    · exact h.refuseSticky hs _ _
    · exact h.refuseSticky hs _ _
    · exact h.answer (h.ctx hs _ _) _ _ _ _

theorem read (hs : P s) (a : Asked) (count : Nat) : P (s.read a count) := by
  unfold State.read
  dsimp only
  split
  · exact h.answer hs _ _ _ _
  · split
    · exact h.ctx hs _ _
    · split
      · exact h.refuseSticky hs _ _
      · split_ifs
        · exact h.refuseSticky hs _ _
        · exact h.answer (h.advance (h.clearEdges _ _ _ _ hs) _ _) _ _ _ _
        · exact h.answer (h.advance hs _ _) _ _ _ _

theorem writingStep {x : Writing} (hx : P x.state) (refs : List SettingRef) (offset time v : Nat) : P (x.step refs offset time v).state := by
  unfold Writing.step
  split
  · exact hx
  · dsimp only
    split
    · exact hx
    · split
      · exact hx
      · rename_i hread
        split
        · exact hx
        · split
          · rename_i ht
            exact h.writeRef _ _ _ _ _ (by simpa using hread) ht hx
          · exact hx

theorem writeAll {x : Writing} (hx : P x.state) (refs : List SettingRef) (offset time : Nat) (values : List Nat) :
    P (values.foldl (fun x v => x.step refs offset time v) x).state := by
  induction values generalizing x with
  | nil => exact hx
  | cons v values ih => exact ih (h.writingStep hx _ _ _ _)

theorem writeTable (hs : P s) (w : Window) (values : List Nat) (time : Nat) : P (s.writeTable w values time).state := by
  unfold State.writeTable State.writeAll
  split_ifs
  · exact hs
  · exact hs
  · exact h.writeAll hs _ _ _ _

theorem write (hs : P s) (a : Asked) (values : List Nat) (time : Nat) : P (s.write a values time) := by
  unfold State.write
  dsimp only
  split
  · exact h.answer hs _ _ _ _
  · refine h.answer (h.advance ?_ _ _) _ _ _ _
    split
    · exact h.setSticky (h.writeTable hs _ _ _) _ _ _ _
    · exact h.writeTable hs _ _ _

theorem clearStickyError (hs : P s) (a : Asked) : P (s.clearStickyError a) := by
  unfold State.clearStickyError
  dsimp only
  exact h.answer (h.ctx hs _ _) _ _ _ _

/-! ## Requests passed on -/

theorem unitRequest {f : State} (hs : P s) (hf : P f) (a : Asked) (group : Bool) : P (unitRequest s a group f) := by
  unfold Machine.unitRequest
  split
  · exact hf
  · exact h.answer hs _ _ _ _

theorem windowRequest {f : State} (hs : P s) (hf : P f) (a : Asked) (group sets : Bool) : P (windowRequest s a group sets f) := by
  unfold Machine.windowRequest
  split
  · exact h.refuseBusy hs _ _
  · split_ifs
    · exact h.refuseSticky hs _ _
    · exact h.answer hs _ _ _ _
    · exact hf

theorem runGroup (hs : P s) (o : Origin) (k : ChannelCommand) (channels : List Chan) : P (s.runGroup o k channels).1 := by
  have key : ∀ acc : State × List (List Atom), P acc.1 →
      P (channels.foldl (fun (t, items) c => let (u, result) := t.runChannel c o k; (u, items ++ [u.groupItem c result])) acc).1 := by
    induction channels with
    | nil => exact fun _ hacc => hacc
    | cons c channels ih => exact fun acc hacc => ih _ (h.command _ _ _ _ hacc)
  exact key _ hs

theorem takeChannelCommand (hs : P s) (a : Asked) (group : Bool) (k : ChannelCommand) : P (s.takeChannelCommand a group k) := by
  unfold State.takeChannelCommand
  split
  · exact h.answer (h.runGroup hs _ _ _) _ _ _ _
  · split
    · exact h.answer hs _ _ _ _
    · exact h.answer (h.command _ _ _ _ hs) _ _ _ _

theorem takeSelect (hs : P s) (a : Asked) (channels : List Nat) : P (s.takeSelect a channels) := by
  unfold State.takeSelect
  dsimp only
  split
  · exact h.answer (h.ctx hs _ _) _ _ _ _
  · exact h.answer hs _ _ _ _

theorem takeSubscribe (hs : P s) (a : Asked) (origin : Nat) (pairs : List (Nat × Nat)) : P (s.takeSubscribe a origin pairs) := by
  unfold State.takeSubscribe
  split
  · exact h.answer hs _ _ _ _
  · split
    · exact h.answer (h.ctx hs _ _) _ _ _ _
    · exact h.answer hs _ _ _ _

theorem takeRetime (hs : P s) (a : Asked) (group : Bool) (value : Option Nat) : P (s.takeRetime a group value) := by
  unfold State.takeRetime
  split
  · exact h.answer (h.retime _ _ _ hs) _ _ _ _
  · exact h.answer hs _ _ _ _

theorem takeCapture (hs : P s) (a : Asked) (group : Bool) (slate path : Nat) : P (s.takeCapture a group slate path) := by
  unfold State.takeCapture
  split
  · exact h.answer hs _ _ _ _
  · have hc := h.capture s slate (chanOf a.channel) path a.port a.request hs
    dsimp only
    split
    · exact h.answer hc _ _ _ _
    · exact hc

theorem takeSave (hs : P s) (a : Asked) : P (s.takeSave a) := by
  have hc := h.save s { port := a.port, request := a.request } hs
  unfold State.takeSave
  dsimp only
  split
  · exact h.answer hc _ _ _ _
  · exact hc

theorem takeDeclareLost (hs : P s) (a : Asked) : P (s.takeDeclareLost a) := h.answer (h.declareLost _ hs) _ _ _ _

theorem passOn (hs : P s) (a : Asked) (group : Bool) (time : Nat) (r : Request) : P (s.passOn a group time r) := by
  cases r with
  | channel k => exact h.takeChannelCommand hs _ _ _
  | retime value => exact h.takeRetime hs _ _ _
  | captureSlate slate path => exact h.takeCapture hs _ _ _ _
  | realign => exact h.unitRequest hs (h.answer (h.realign _ hs) _ _ _ _) _ _
  | declareSiteLost => exact h.unitRequest hs (h.takeDeclareLost hs _) _ _
  | restoreSite => exact h.unitRequest hs (h.answer (h.restore _ hs) _ _ _ _) _ _
  | select channels => exact h.unitRequest hs (h.takeSelect hs _ _) _ _
  | setWindow table page offset auto => exact h.windowRequest hs (h.setWindow hs _ _ _ _ _) _ _ _
  | read count => exact h.windowRequest hs (h.read hs _ _) _ _ _
  | write values => exact h.windowRequest hs (h.write hs _ _ _) _ _ _
  | clearError => exact h.windowRequest hs (h.clearStickyError hs _) _ _ _
  | subscribe origin levels => exact h.unitRequest hs (h.takeSubscribe hs _ _ _) _ _
  | clearCounters => exact h.unitRequest hs (h.answer (h.clearCounters _ hs) _ _ _ _) _ _
  | saveConfig => exact h.unitRequest hs (h.takeSave hs _) _ _
  | warmRestart => exact h.unitRequest hs (h.warmRestart _ _ hs) _ _
  | ready | refused | keepalive | schedule | unknown | malformed | outbound => exact hs

theorem refuseAuthority (hs : P s) (a : Asked) (r : Request) : P (s.refuseAuthority a r) := by
  have hb := h.bump s (.origin a.origin .notAuthorisedRefusals) hs
  unfold State.refuseAuthority
  dsimp only
  split
  · split
    · exact h.endBusyWalk (h.refuseSticky hb _ _) _ _
    · exact h.refuseSticky hb _ _
  · exact h.answer hb _ _ _ _

theorem unlessRestarting {f : State} (hs : P s) (hf : P f) : P (s.unlessRestarting f) := by
  unfold State.unlessRestarting
  split
  · exact h.bump _ _ hs
  · exact hf

omit h in
theorem unlessGrouped {f : State} (hs : P s) (hf : P f) (rx : ControlRx) : P (s.unlessGrouped rx f) := by
  unfold State.unlessGrouped
  split
  · exact hs
  · exact hf

theorem refuseBad (hs : P s) (a : Asked) : P (s.refuseBad a) := h.answer (h.bump _ _ hs) _ _ _ _

theorem routeKeepalive (hs : P s) (o : Origin) (p : Port) (sequence : Nat) : P (s.routeKeepalive o p sequence) := by
  unfold State.routeKeepalive
  split
  · exact h.keepalive _ _ _ hs
  · exact h.bump _ _ hs

theorem routeOrigin (hs : P s) (o : Origin) (rx : ControlRx) (r : Request) (time : Nat) : P (s.routeOrigin o rx r time) := by
  unfold State.routeOrigin
  dsimp only
  split
  · exact h.bump _ _ hs
  · exact h.bump _ _ hs
  · exact h.bump _ _ hs
  · exact h.unlessRestarting hs (h.refuseBad hs _)
  · split_ifs
    · exact h.bump _ _ hs
    · exact h.bump _ _ hs
    · exact h.unlessRestarting hs (h.refuseBad hs _)
  · exact unlessGrouped hs (h.routeKeepalive hs _ _ _) _
  · exact unlessGrouped hs (h.schedule _ _ _ hs) _
  · refine h.unlessRestarting hs ?_
    split
    · exact h.passOn hs _ _ _ _
    · exact h.refuseAuthority hs _ _

theorem routeServer (hs : P s) (n : Fin 8) (r : Request) : P (s.routeServer n r) := by
  unfold State.routeServer
  split
  · split
    · exact h.ready _ _ _ _ hs
    · exact h.bump _ _ hs
  · split
    · exact h.refused _ _ _ _ hs
    · exact h.bump _ _ hs
  · exact h.bump _ _ hs

theorem noteConsole (hs : P s) (o : Origin) (p : Port) : P (s.noteConsole o p) := by
  unfold State.noteConsole
  split
  · exact h.consolePort _ _ hs
  · exact hs

end KeptByRequests

/-! ## A control carrier received -/

/-- A predicate that a loaded part keeps under every request is kept by every control carrier. -/
theorem receiveControl_kept {Q : State → Prop} (h : KeptByRequests fun t => t.loading = false ∧ Q t) {s : State} (hbump : ∀ u key, Q u → Q (u.bump key))
    (hmark : ∀ u p, u.loading = false ∧ Q u → (u.markTraffic p).loading = false ∧ Q (u.markTraffic p)) (hs : Q s) (rx : ControlRx) (r : Request)
    (time : Nat) : Q (s.receiveControl rx r time) := by
  unfold State.receiveControl
  split
  · exact hbump _ _ hs
  · have hc : Q (s.countCarrier rx.port) := hbump _ _ hs
    dsimp only
    split_ifs with hload hrange
    · exact hc
    · exact hbump _ _ hc
    · have hm := hmark _ rx.port ⟨by simpa using hload, hc⟩
      split
      · exact hbump _ _ hm.2
      · exact (h.routeOrigin (h.noteConsole hm _ _) _ _ _ _).2
      · exact (h.routeServer hm _ _).2

/-- As `receiveControl_kept`, for the bytes of a control carrier. -/
theorem receiveRaw_kept {Q : State → Prop} (h : KeptByRequests fun t => t.loading = false ∧ Q t) {s : State} (hbump : ∀ u key, Q u → Q (u.bump key))
    (hmark : ∀ u p, u.loading = false ∧ Q u → (u.markTraffic p).loading = false ∧ Q (u.markTraffic p)) (hs : Q s) (raw : RawControl) :
    Q (s.receiveRaw raw) := by
  unfold State.receiveRaw
  split
  · exact hbump _ _ hs
  · split
    · exact hbump _ _ (hbump _ _ hs)
    · exact receiveControl_kept h hbump hmark hs _ _ _

/-- As `receiveControl_kept`, for an Ethernet frame. -/
theorem receiveFrame_kept {Q : State → Prop} (h : KeptByRequests fun t => t.loading = false ∧ Q t) {s : State} (hbump : ∀ u key, Q u → Q (u.bump key))
    (hmark : ∀ u p, u.loading = false ∧ Q u → (u.markTraffic p).loading = false ∧ Q (u.markTraffic p))
    (hmain : ∀ u side m, Q u → Q (u.receiveMainMedia side m)) (hstandby : ∀ u n m, Q u → Q (u.receiveStandbyMedia n m)) (hs : Q s) (p : Port)
    (f : EthFrame) (time : Nat) : Q (s.receiveFrame p f time) := by
  have discard : ∀ k, Q (s.discardCarrier p k) := fun k => by
    have hc : Q (s.countCarrier p) := hbump _ _ hs
    unfold State.discardCarrier
    dsimp only
    split
    · exact hc
    · exact hbump _ _ hc
  unfold State.receiveFrame
  split
  · exact hbump _ _ hs
  · dsimp only
    split
    · exact hbump _ _ hs
    · split
      · exact hbump _ _ hs
      · split
        · exact discard _
        · split
          · exact discard _
          · split
            · exact discard _
            · split
              · unfold State.receiveMedia
                split
                · exact hmain _ _ _ hs
                · exact hstandby _ _ _ hs
                · exact hbump _ _ hs
              · split
                · exact receiveRaw_kept h hbump hmark hs _
                · exact discard _

end Sys2Proof.Machine

/-! PROOFS. Every command leaves the queue, takes back nothing that has been sent, and keeps the invariants of the counters, queues and positions (`Inv`) and of the
lists and the pool (`PoolInv`). -/

namespace Sys2Proof.Machine

-- Each elaboration thread takes a large stack, and the text is compiled as one file under a memory limit: one thread at a time.
set_option Elab.async false

variable {s t u : State} {c : Chan}

/-! ## The invariant in two parts -/

/-- What `Inv` says besides the Timeline Unit. -/
structure BoundInv (s : State) : Prop where
  counters : ∀ key, s.counter key ≤ counterMax
  contexts : ∀ o, ContextInv (s.ctx o)
  channels : ∀ c, ChannelInv (s.ch c)

/-- What `Inv` says of the Timeline Unit. -/
structure TimeInv (s : State) : Prop where
  position : s.time.h < s.cycle
  beforeLoad : s.loading = true → s.time.h = 0 ∧ s.time.timer = none
  realign : s.time.realignPending = true → s.time.lock ≠ .locked

theorem inv_iff (s : State) : Inv s ↔ BoundInv s ∧ TimeInv s :=
  ⟨fun h => ⟨⟨h.counters, fun o => by cases o; exacts [h.mainSite, h.console], h.channels⟩, ⟨h.position, h.beforeLoad, h.realign⟩⟩,
   fun ⟨h, k⟩ => ⟨h.counters, k.position, h.channels, h.contexts .mainSite, h.contexts .console, k.beforeLoad, k.realign⟩⟩

theorem KeepsBounds.boundInv (h : KeepsBounds s t) (hs : BoundInv s) : BoundInv t :=
  ⟨h.counters hs.counters, h.contexts hs.contexts, fun c => h.channels c (hs.channels c)⟩

theorem KeepsBounds.loading (h : KeepsBounds s t) : t.loading = s.loading := by unfold State.loading; rw [h.config]

theorem KeepsBounds.timeInv (h : KeepsBounds s t) (hs : TimeInv s) : TimeInv t := by
  refine ⟨?_, ?_, ?_⟩
  · unfold State.cycle; rw [h.time]; exact hs.position
  · rw [h.loading, h.time]; exact hs.beforeLoad
  · rw [h.time]; exact hs.realign

/-! ## What a part of a command does -/

/-- A part of a command, after which a boundary may have left timeouts due. -/
structure Steps (s t : State) : Prop where
  pending : t.pending = s.pending
  outbox : s.outbox <+: t.outbox
  bounds : BoundInv s → BoundInv t
  lists : Quiet s → PoolInv t

/-- A part of a command that leaves no timeout due. -/
structure Moves (s t : State) : Prop where
  pending : t.pending = s.pending
  outbox : s.outbox <+: t.outbox
  bounds : BoundInv s → BoundInv t
  quiet : Quiet s → Quiet t

theorem Moves.refl (s : State) : Moves s s := ⟨rfl, List.prefix_refl _, id, id⟩

theorem Moves.trans (h : Moves s t) (k : Moves t u) : Moves s u :=
  ⟨k.pending.trans h.pending, h.outbox.trans k.outbox, fun hs => k.bounds (h.bounds hs), fun hs => k.quiet (h.quiet hs)⟩

theorem Moves.steps (h : Moves s t) : Steps s t := ⟨h.pending, h.outbox, h.bounds, fun hs => (h.quiet hs).lists⟩

theorem Moves.thenSteps (h : Moves s t) (k : Steps t u) : Steps s u :=
  ⟨k.pending.trans h.pending, h.outbox.trans k.outbox, fun hs => k.bounds (h.bounds hs), fun hs => k.lists (h.quiet hs)⟩

theorem KeepsLists.moves (h : KeepsLists s t) : Moves s t := ⟨h.pending, h.outbox, h.toKeepsBounds.boundInv, h.quiet⟩

/-- The Timeline Unit's record and the state of the load are no part of what `Moves` speaks of. -/
theorem Moves.of_eq (hp : t.pending = s.pending) (ho : t.outbox = s.outbox) (hc : t.chans = s.chans) (hn : t.counters = s.counters)
    (hm : t.mgmt.mainSite = s.mgmt.mainSite ∧ t.mgmt.console = s.mgmt.console) (hf : t.poolFree = s.poolFree) : Moves s t := by
  have hch : ∀ c, t.ch c = s.ch c := fun c => by unfold State.ch; rw [hc]
  have hctx : ∀ o, t.ctx o = s.ctx o := fun o => by cases o; exacts [hm.1, hm.2]
  refine ⟨hp, ho ▸ List.prefix_refl _, fun hs => ⟨fun key => ?_, fun o => hctx o ▸ hs.contexts o, fun c => hch c ▸ hs.channels c⟩,
    fun hs => ⟨⟨?_, fun c => hch c ▸ hs.lists.lists c, fun c => hch c ▸ hs.lists.timers c⟩, fun c => hch c ▸ hs.noTimeout c⟩⟩
  · unfold State.counter; rw [hn]; exact hs.counters key
  · rw [hf, List.map_congr_left fun c _ => by rw [hch c]]; exact hs.lists.pool

theorem Moves.modTime (s : State) (f : Timeline → Timeline) : Moves s (s.modTime f) := .of_eq rfl rfl rfl rfl ⟨rfl, rfl⟩ rfl

theorem Moves.eachChannel (h : Moves s t) (f : Chan → State → State) (hf : ∀ c u, Moves s u → Moves s (f c u)) : Moves s (t.eachChannel f) :=
  State.eachChannel_keeps hf h

/-! ## The Schedule Store -/

theorem KeepsBounds.takeScheduleCarrier (s : State) (channel : Nat) (k : ScheduleCarrier) : KeepsBounds s (s.takeScheduleCarrier channel k) := by
  have bumped : ∀ key, KeepsBounds s (s.bump key) := fun key => ((KeepsLists.refl s).bump key).toKeepsBounds
  unfold State.takeScheduleCarrier
  split
  · exact bumped _
  · cases k with
    | amendment revision a =>
      obtain ⟨_, h, _⟩ := Relists.takeAmendment s ‹_› revision a
      exact h.toKeepsBounds
    | snapshotBegin revision count =>
      obtain ⟨_, h, _⟩ := Relists.takeSnapshotBegin s ‹_› revision count
      exact h.toKeepsBounds
    | snapshotEvent revision index e =>
      dsimp only
      unfold State.takeSnapshotEvent
      split
      · exact bumped _
      · dsimp only
        split_ifs
        · exact bumped _
        · exact bumped _
        · rename_i c _ _ x _ _ _
          have put := Relists.modSchedule s c s.poolFree (fun y => { y with shadow := some { x with received := insertNat index x.received } }) id
          obtain ⟨_, h, _⟩ := Relists.snapshotInsert
            (s.modSchedule c fun y => { y with shadow := some { x with received := insertNat index x.received } }) c
            { x with received := insertNat index x.received } e (by simp)
          exact put.toKeepsBounds.trans h.toKeepsBounds
    | snapshotEnd revision count =>
      dsimp only
      unfold State.takeSnapshotEnd
      split
      · exact bumped _
      · split_ifs
        · exact bumped _
        · exact (Relists.swapLists s _ _).toKeepsBounds
        · exact (Relists.failSnapshot s _ _).toKeepsBounds

theorem Moves.takeScheduleCarrier (s : State) (channel : Nat) (k : ScheduleCarrier) : Moves s (s.takeScheduleCarrier channel k) :=
  have h := KeepsBounds.takeScheduleCarrier s channel k
  ⟨h.pending, h.outbox, h.boundInv, fun hs => takeScheduleCarrier_quiet hs _ _⟩

theorem KeepsBounds.clearAllLists (h : KeepsBounds s t) (cause : ReplicationCause) : KeepsBounds s (t.clearAllLists cause) :=
  h.eachChannel _ fun c u hu => hu.trans (Relists.clearLists u c cause).toKeepsBounds

theorem Moves.clearAllLists (h : Moves s t) (cause : ReplicationCause) : Moves s (t.clearAllLists cause) :=
  have k := (KeepsBounds.refl t).clearAllLists cause
  h.trans ⟨k.pending, k.outbox, k.boundInv, fun hs => clearAllLists_quiet hs _⟩

/-! ## Service and the channel commands -/

theorem KeepsLists.enterService (h : KeepsLists s t) (mode : ServiceMode) : KeepsLists s (t.enterService c mode) :=
  (((h.controlEntry mode).alignEntry).clearOutput).monitorEntry

theorem KeepsLists.leaveService (h : KeepsLists s t) : KeepsLists s (t.leaveService c) := (((h.controlExit).alignExit).clearOutput).monitorExit

theorem KeepsLists.commandSetService (h : KeepsLists s t) (mode : Nat) : KeepsLists s (t.commandSetService c mode).1 := by
  unfold State.commandSetService
  split
  · exact h
  · split <;> dsimp only
    · exact h.leaveService
    · exact h
  · split <;> dsimp only
    · exact h.modControl _
    · exact h.enterService _

theorem KeepsLists.commandPin (h : KeepsLists s t) (code : Nat) : KeepsLists s (t.commandPin c code).1 := by
  unfold State.commandPin
  split
  · exact h.commandPinMain
  · exact h.commandPinStandby
  · exact h

theorem KeepsLists.runChannel (h : KeepsLists s t) (o : Origin) (k : ChannelCommand) : KeepsLists s (t.runChannel c o k).1 := by
  cases k with
  | setService mode => exact h.commandSetService mode
  | take => exact h.commandTake o
  | returnToMain => exact h.commandReturn o
  | hold => exact h.commandHold o
  | pin code => exact h.commandPin code
  | unpin => exact h.commandUnpin
  | seize =>
    show KeepsLists s (t.modControl c fun y => { y with owner := .localSite })
    exact h.modControl _
  | release => exact h.commandRelease
  | ackTakeover => exact h.commandAck o
  | recue => exact h.commandRecue
  | clearRecords => exact h.commandClearRecords

theorem KeepsLists.commandRetime (h : KeepsLists s t) (value : Option Nat) : KeepsLists s (t.commandRetime c value).1 := by
  unfold State.commandRetime
  split
  · exact h
  · dsimp only
    split_ifs <;> dsimp only <;> exact h.modAlign _

theorem KeepsLists.requestCapture (h : KeepsLists s t) (i : Fin 8) (r : Capture) : KeepsLists s (t.requestCapture i r) := by
  unfold State.requestCapture
  dsimp only
  split
  · exact (h.endCapture _ _ _).modSlate _ _
  · exact h.modSlate _ _

theorem KeepsLists.commandCapture (h : KeepsLists s t) (slate : Nat) (channel : Option Chan) (path : Nat) (port : Port) (request : Nat) :
    KeepsLists s (t.commandCapture slate channel path port request).1 := by
  unfold State.commandCapture
  split
  · split
    · split
      · exact h.requestCapture _ _
      · exact h
    · exact h
  · exact h

/-! ## Settings (R194) -/

/-- An entry stored changes the settings of one channel, a mode, the settings of the unit, or the rate of the timeline. -/
theorem State.putRef_cases (s : State) (r : SettingRef) (v : Nat) :
    (∃ c f, s.putRef r v = s.modSettings c f) ∨ (∃ c, r = .chan c .serviceMode ∧ s.putRef r v = s.modControl c fun y => { y with mode := modeOf v }) ∨
      (∃ f, s.putRef r v = s.modUnit f) ∨ r = .site .houseRate ∧ s.putRef r v = s.modTime fun x => { x with rate := rateOf v } := by
  cases r with
  | chan c k =>
    cases k with
    | serviceMode => exact .inr (.inl ⟨c, rfl, rfl⟩)
    | _ => exact .inl ⟨c, fun x => x.put _ v, rfl⟩
  | det c d k => exact .inl ⟨c, fun x => { x with detectors := vmod x.detectors (detectorIndex d) fun y => y.put k v }, rfl⟩
  | chain c => exact .inl ⟨c, fun x => { x with chain := v != 0 }, rfl⟩
  | pairs c => exact .inl ⟨c, fun x => { x with pairSet := BitVec.ofNat 8 v }, rfl⟩
  | mapped i => exact .inr (.inr (.inl ⟨fun x => { x with servers := vmod x.servers i fun e => { e with mapped := v != 0 } }, rfl⟩))
  | serverPort i =>
    exact .inr (.inr (.inl ⟨fun x => { x with servers := vmod x.servers i fun e => { e with port := finOf 4 (by decide) v } }, rfl⟩))
  | stream c => exact .inl ⟨c, fun x => { x with streamId := v }, rfl⟩
  | site k =>
    cases k with
    | houseRate => exact .inr (.inr (.inr ⟨rfl, rfl⟩))
    | _ => exact .inr (.inr (.inl ⟨fun x => x.put _ v, rfl⟩))

/-- An entry other than HOUSE_RATE stored. -/
theorem KeepsLists.putRef (h : KeepsLists s t) (r : SettingRef) (v : Nat) (hr : r ≠ .site .houseRate) : KeepsLists s (t.putRef r v) := by
  rcases t.putRef_cases r v with ⟨c, f, e⟩ | ⟨c, -, e⟩ | ⟨f, e⟩ | ⟨e, -⟩
  · rw [e]; exact h.modSettings _
  · rw [e]; exact h.modControl _
  · rw [e]; exact h.modUnit _
  · exact absurd e hr

theorem Moves.putRef (s : State) (r : SettingRef) (v : Nat) : Moves s (s.putRef r v) := by
  by_cases hr : r = .site .houseRate
  · subst hr; exact Moves.modTime s fun x => { x with rate := rateOf v }
  · exact ((KeepsLists.refl s).putRef r v hr).moves

/-- An entry stored leaves H and the rest of the Timeline Unit, but for the rate. -/
theorem State.putRef_time (s : State) (r : SettingRef) (v : Nat) : ∃ rate, (s.putRef r v).time = { s.time with rate := rate } := by
  by_cases hr : r = .site .houseRate
  · subst hr; exact ⟨_, rfl⟩
  · exact ⟨s.time.rate, ((KeepsLists.refl s).putRef r v hr).time⟩

theorem KeepsLists.writeDetector (h : KeepsLists s t) (d : Detector) (k : DetSetting) (v : Nat) : KeepsLists s (t.writeDetector c d k v) := by
  have hput := h.putRef (.det c d k) v (by simp)
  unfold State.writeDetector
  dsimp only
  split
  · exact h
  · split
    · split
      · split
        · exact hput.evaluate _
        · exact (hput.modDetector _ _).evaluate _
      · exact hput.evaluate _
      · exact hput
    · exact hput

theorem KeepsLists.writeChain (h : KeepsLists s t) (v : Nat) : KeepsLists s (t.writeChain c v) := by
  have hput := h.putRef (.chain c) v (by simp)
  unfold State.writeChain
  dsimp only
  split
  · exact h
  · split
    · exact hput.evaluate _
    · exact hput

theorem Moves.changeRate (s : State) (r : Rate) (time : Nat) : Moves s (s.changeRate r time) := by
  unfold State.changeRate State.setLock
  dsimp only
  refine Moves.clearAllLists ?_ _
  split
  · exact Moves.modTime _ _
  · exact ((Moves.modTime _ _).trans (Moves.modTime _ _)).trans ((KeepsLists.refl _).raise _).moves

/-- A write is an operation that keeps the lists, or a change of house rate. -/
theorem State.writeRef_cases {r : SettingRef} {v time : Nat} (h : s.writeRef r v time = some t) :
    KeepsLists s t ∨ r = .site .houseRate ∧ s.allOut = true ∧ t = s.changeRate (rateOf v) time := by
  have put : r ≠ .site .houseRate → KeepsLists s (s.putRef r v) := fun hr => (KeepsLists.refl s).putRef r v hr
  unfold State.writeRef at h
  split at h
  · cases h; exact .inl ((KeepsLists.refl s).writeDetector _ _ _)
  · cases h; exact .inl ((KeepsLists.refl s).writeChain _)
  · cases h
    refine .inl ?_
    split
    · exact (put (by simp)).cutRamp
    · exact put (by simp)
  · split_ifs at h with hout hrate
    · cases h; exact .inl (KeepsLists.refl s)
    · exact .inr ⟨rfl, by simpa using hout, (Option.some.inj h).symm⟩
  · cases h; exact .inl (put fun hr => by simp_all)

theorem setLock_time (s : State) (new : LockState) : (s.setLock new).time = { s.time with lock := new } := by
  unfold State.setLock
  dsimp only
  split
  · rename_i h; rw [h]
  · simp [State.modTime]

theorem Moves.setLock (s : State) (new : LockState) : Moves s (s.setLock new) := by
  unfold State.setLock
  dsimp only
  split
  · exact Moves.refl _
  · exact (Moves.modTime _ _).trans ((KeepsLists.refl _).raise _).moves

theorem changeRate_time (s : State) (r : Rate) (time : Nat) :
    (s.changeRate r time).time =
      { s.time with
        h := reexpressPosition s.time.rate r s.time.h, rate := r, lock := .unreferenced, realignPending := false, absence := 0
        lastDifference := none, timer := some (time + r.period) } := by
  unfold State.changeRate
  dsimp only
  rw [((KeepsBounds.refl _).clearAllLists .rateChange).time, setLock_time]
  rfl

theorem setLock_config (s : State) (new : LockState) : (s.setLock new).mgmt.config = s.mgmt.config := by
  unfold State.setLock
  dsimp only
  split
  · rfl
  · rw [((KeepsLists.refl _).raise _).config]; rfl

theorem changeRate_loading (s : State) (r : Rate) (time : Nat) : (s.changeRate r time).loading = s.loading := by
  unfold State.changeRate
  rw [((KeepsBounds.refl _).clearAllLists .rateChange).loading]
  unfold State.loading
  rw [setLock_config]
  rfl

theorem changeRate_timeInv (hl : s.loading = false) (hs : TimeInv s) (r : Rate) (time : Nat) : TimeInv (s.changeRate r time) := by
  have ht := changeRate_time s r time
  refine ⟨?_, ?_, ?_⟩
  · unfold State.cycle; rw [ht]; exact reexpressPosition_lt_cycle hs.position
  · rw [changeRate_loading, hl]; nofun
  · rw [ht]; nofun

/-! ## Requests -/

/-- A part of a command, the Timeline Unit included. -/
structure Runs (s t : State) : Prop extends Moves s t where
  time : TimeInv s → TimeInv t

theorem KeepsLists.runs (h : KeepsLists s t) : Runs s t := ⟨h.moves, h.toKeepsBounds.timeInv⟩

theorem Runs.keeps (h : Runs s t) (k : KeepsLists t u) : Runs s u := ⟨h.toMoves.trans k.moves, fun hs => k.toKeepsBounds.timeInv (h.time hs)⟩

theorem ContextInv.reset : ContextInv Context.reset := ⟨by decide, by decide⟩

theorem KeepsLists.takeWarmRestart (h : KeepsLists s t) (a : Asked) : KeepsLists s (t.takeWarmRestart a) := by
  unfold State.takeWarmRestart
  dsimp only
  refine (KeepsLists.eachChannel ?_ _ fun c u hu => ?_).modSite _
  · exact h.setMgmt _ rfl (fun _ => ContextInv.reset) fun _ => ContextInv.reset
  split
  · exact hu.monitorRestart
  · exact hu

theorem KeepsLists.clearEdges (h : KeepsLists s t) (page offset n : Nat) : KeepsLists s (t.clearEdges page offset n) := by
  unfold State.clearEdges
  split
  · exact h
  · exact h.modMonitor _

theorem KeepsLists.clearCounters (h : KeepsLists s t) : KeepsLists s { t with counters := .zero } := by
  have hzero : ∀ key, ({ t with counters := .zero } : State).counter key = 0 := by
    intro key
    cases key <;> simp [State.counter, Counters.get, Counters.zero]
  refine h.trans ⟨⟨rfl, List.prefix_refl _, rfl, rfl, fun _ key => ?_, id, fun _ => id⟩, rfl, fun _ => ListsKept.refl _⟩
  rw [hzero]
  exact Nat.zero_le _

theorem KeepsLists.commandSave (h : KeepsLists s t) (owed : ReplyTo) : KeepsLists s (t.commandSave owed).1 := by
  unfold State.commandSave
  split
  · exact h
  · dsimp only
    exact h.setMgmt _ rfl id id

theorem Runs.commandRealign (h : Runs s t) : Runs s t.commandRealign.1 := by
  unfold State.commandRealign
  split
  · exact h
  · rename_i hlock
    dsimp only
    exact ⟨h.toMoves.trans (Moves.modTime _ _), fun hs => ⟨(h.time hs).position, (h.time hs).beforeLoad, fun _ => hlock⟩⟩

theorem commandRealign_loading (s : State) : s.commandRealign.1.loading = s.loading := by
  unfold State.commandRealign
  split <;> rfl

/-- Every request of a control carrier keeps what `Runs` says. -/
theorem runs_keptByRequests (s : State) : KeptByRequests fun t => t.loading = false ∧ Runs s t := by
  have keep : ∀ {t u : State}, KeepsLists t u → t.loading = false ∧ Runs s t → u.loading = false ∧ Runs s u :=
    fun k h => ⟨k.toKeepsBounds.loading.trans h.1, h.2.keeps k⟩
  constructor
  case bump => exact fun t key => keep ((KeepsLists.refl t).bump key)
  case reply => exact fun t o p r => keep ((KeepsLists.refl t).reply o p r)
  case context => exact fun t o f hf => keep ((KeepsLists.refl t).modCtx o f hf)
  case clearEdges => exact fun t page offset n => keep ((KeepsLists.refl t).clearEdges page offset n)
  case clearCounters => exact fun t => keep (KeepsLists.refl t).clearCounters
  case consolePort => exact fun t n => keep ((KeepsLists.refl t).setMgmt _ rfl id id)
  case warmRestart => exact fun t a => keep ((KeepsLists.refl t).takeWarmRestart a)
  case command => exact fun t c o k => keep ((KeepsLists.refl t).runChannel o k)
  case retime => exact fun t c value => keep ((KeepsLists.refl t).commandRetime value)
  case capture => exact fun t slate c path port request => keep ((KeepsLists.refl t).commandCapture slate c path port request)
  case realign => exact fun t h => ⟨(commandRealign_loading t).trans h.1, h.2.commandRealign⟩
  case declareLost => exact fun t => keep (KeepsLists.refl t).commandDeclareLost
  case restore => exact fun t => keep (KeepsLists.refl t).commandRestore
  case save => exact fun t owed => keep ((KeepsLists.refl t).commandSave owed)
  case writeRef =>
    rintro t r v time u - hu ⟨hl, ht⟩
    rcases State.writeRef_cases hu with k | ⟨-, -, e⟩
    · exact keep k ⟨hl, ht⟩
    · rw [e]
      exact ⟨(changeRate_loading t (rateOf v) time).trans hl,
        ⟨ht.toMoves.trans (Moves.changeRate t (rateOf v) time), fun hs => changeRate_timeInv hl (ht.time hs) (rateOf v) time⟩⟩
  case keepalive => exact fun t side sequence => keep ((KeepsLists.refl t).takeKeepalive side sequence)
  case schedule =>
    rintro t channel k ⟨hl, ht⟩
    have hk := KeepsBounds.takeScheduleCarrier t channel k
    exact ⟨hk.loading.trans hl, ht.toMoves.trans (Moves.takeScheduleCarrier t channel k), fun hs => hk.timeInv (ht.time hs)⟩
  case ready => exact fun t n player number => keep ((KeepsLists.refl t).takeReady n player number)
  case refused => exact fun t n player number => keep ((KeepsLists.refl t).takeRefused n player number)

theorem markTraffic_runs (s u : State) (p : Port) (h : u.loading = false ∧ Runs s u) :
    (u.markTraffic p).loading = false ∧ Runs s (u.markTraffic p) :=
  have k := (KeepsLists.refl u).markTraffic p
  ⟨k.toKeepsBounds.loading.trans h.1, h.2.keeps k⟩

theorem Runs.bump (h : Runs s t) (key : CounterKey) : Runs s (t.bump key) := h.keeps ((KeepsLists.refl t).bump key)

theorem Runs.receiveControl (h : Runs s t) (rx : ControlRx) (r : Request) (time : Nat) : Runs s (t.receiveControl rx r time) :=
  receiveControl_kept (runs_keptByRequests s) (fun _ key hu => hu.bump key) (markTraffic_runs s) h rx r time

theorem Runs.receiveRaw (h : Runs s t) (raw : RawControl) : Runs s (t.receiveRaw raw) :=
  receiveRaw_kept (runs_keptByRequests s) (fun _ key hu => hu.bump key) (markTraffic_runs s) h raw

theorem Runs.receiveFrame (h : Runs s t) (p : Port) (f : EthFrame) (time : Nat) : Runs s (t.receiveFrame p f time) :=
  receiveFrame_kept (runs_keptByRequests s) (fun _ key hu => hu.bump key) (markTraffic_runs s)
    (fun u side m hu => hu.keeps ((KeepsLists.refl u).receiveMainMedia side m))
    (fun u n m hu => hu.keeps ((KeepsLists.refl u).receiveStandbyMedia n m)) h p f time

theorem Runs.walkReach (h : Runs s t) (o : Origin) (hl : t.loading = false) : Runs s (t.walkReach o) :=
  ((runs_keptByRequests s).walkReach ⟨hl, h⟩ o).2

end Sys2Proof.Machine

/-! PROOFS. Boundaries, the load and the resets under the invariants; and what every command keeps. -/

namespace Sys2Proof.Machine

-- Each elaboration thread takes a large stack, and the text is compiled as one file under a memory limit: one thread at a time.
set_option Elab.async false

variable {s t u : State} {c : Chan}

/-! ## A boundary -/

theorem KeepsBounds.setWork (h : KeepsBounds s t) (w : UnitWork) : KeepsBounds s { t with work := w } :=
  h.of_eq rfl (List.prefix_refl _) rfl rfl rfl rfl

theorem KeepsBounds.takeBoundary (s : State) (prev : Nat) (realigned : Bool) : KeepsBounds s (s.takeBoundary prev realigned) := by
  have start : KeepsLists s { s with work := { UnitWork.none with slates := s.slates.map Slate.state } } := (KeepsLists.refl s).setWork _
  unfold State.takeBoundary
  dsimp only
  refine KeepsBounds.setWork (KeepsBounds.eachChannel ?_ _ fun c u hu => ?_) _
  · exact (start.takePathsBoundary.countKeepalive).toKeepsBounds.takeScheduleBoundary _
  · exact hu.trans ((KeepsLists.refl u).takeChannelBoundary _).toKeepsBounds

theorem takeBoundary_poolInv (h : Quiet s) (prev : Nat) (realigned : Bool) : PoolInv (s.takeBoundary prev realigned) := by
  have start : KeepsLists s { s with work := { UnitWork.none with slates := s.slates.map Slate.state } } := (KeepsLists.refl s).setWork _
  have scheduled := takeScheduleBoundary_poolInv (start.takePathsBoundary.countKeepalive.quiet h)
  unfold State.takeBoundary
  dsimp only
  have released : ∀ v : State, PoolInv v → PoolInv (v.eachChannel fun c t => t.takeChannelBoundary c realigned) := fun v hv =>
    ((KeepsLists.refl v).eachChannel _ fun _ _ hu => hu.takeChannelBoundary _).poolInv hv
  exact ((KeepsLists.refl _).setWork _).poolInv (released _ (scheduled _))

theorem Steps.takeBoundary (s : State) (prev : Nat) (realigned : Bool) : Steps s (s.takeBoundary prev realigned) :=
  have h := KeepsBounds.takeBoundary s prev realigned
  ⟨h.pending, h.outbox, h.boundInv, fun hs => takeBoundary_poolInv hs _ _⟩

theorem Steps.makeBoundary (s : State) (kind : BoundaryKind) (new : Nat) (lock : LockState) (time : Nat) :
    Steps s (s.makeBoundary kind new lock time) := by
  unfold State.makeBoundary
  exact ((Moves.modTime _ _).trans (Moves.setLock _ _)).thenSteps (Steps.takeBoundary _ _ _)

/-- What the Timeline Unit's record holds after a boundary (R1, R8). -/
theorem makeBoundary_time (s : State) (kind : BoundaryKind) (new : Nat) (lock : LockState) (time : Nat) :
    (s.makeBoundary kind new lock time).time =
      { s.time with
        h := new, lock := lock, boundaryKind := some kind, boundaryTime := time
        timer := some (time + if kind ≠ .timer ∧ lock = .locked then s.time.rate.longPeriod else s.time.rate.period) } := by
  unfold State.makeBoundary
  dsimp only
  rw [(KeepsBounds.takeBoundary _ _ _).time, setLock_time]
  rfl

theorem makeBoundary_loading (s : State) (kind : BoundaryKind) (new : Nat) (lock : LockState) (time : Nat) :
    (s.makeBoundary kind new lock time).loading = s.loading := by
  unfold State.makeBoundary
  dsimp only
  rw [(KeepsBounds.takeBoundary _ _ _).loading]
  unfold State.loading
  rw [setLock_config]
  rfl

theorem makeBoundary_timeInv (hl : s.loading = false) {new : Nat} (hnew : new < s.cycle) {lock : LockState}
    (hr : s.time.realignPending = true → lock ≠ .locked) (kind : BoundaryKind) (time : Nat) : TimeInv (s.makeBoundary kind new lock time) := by
  have ht := makeBoundary_time s kind new lock time
  refine ⟨?_, ?_, ?_⟩
  · unfold State.cycle; rw [ht]; exact hnew
  · rw [makeBoundary_loading, hl]; nofun
  · rw [ht]; exact hr

theorem cycle_pos (r : Rate) : 0 < r.cycle := by cases r <;> decide

theorem wrap_lt (s : State) (x : Int) : s.wrap x < s.cycle := by
  have hpos : (0 : Int) < s.cycle := by exact_mod_cast cycle_pos s.time.rate
  have h0 := Int.emod_nonneg x hpos.ne'
  have h1 := Int.emod_lt_of_pos x hpos
  unfold State.wrap wrapTo
  omega

/-- A part of a command that may end with a boundary, the Timeline Unit included. -/
structure Bounds (s t : State) : Prop extends Steps s t where
  time : TimeInv s → TimeInv t

theorem Runs.bounds' (h : Runs s t) : Bounds s t := ⟨h.toMoves.steps, h.time⟩

/-- A boundary after a part of a command. -/
theorem Moves.makeBoundary (h : Moves s t) (kind : BoundaryKind) (new : Nat) (lock : LockState) (time : Nat) (hl : t.loading = false)
    (hnew : TimeInv s → new < t.cycle) (hr : TimeInv s → t.time.realignPending = true → lock ≠ .locked) :
    Bounds s (t.makeBoundary kind new lock time) :=
  ⟨h.thenSteps (Steps.makeBoundary _ _ _ _ _), fun hs => makeBoundary_timeInv hl (hnew hs) (hr hs) _ _⟩

theorem Bounds.expireFrameTimer (s : State) : Bounds s s.expireFrameTimer := by
  unfold State.expireFrameTimer
  split
  · exact (KeepsLists.refl s).runs.bounds'
  · rename_i t ht
    dsimp only
    have counted : ∀ (v : State) (p : Prop) [Decidable p] k, KeepsLists v (if p then v.bumpUnit k else v) := fun v p _ k => by
      split
      · exact (KeepsLists.refl v).bumpUnit _
      · exact KeepsLists.refl v
    have absence := Moves.modTime s fun x => { x with absence := min (s.time.absence + 1) 2 }
    have coasted := counted (s.modTime fun x => { x with absence := min (s.time.absence + 1) 2 }) (s.time.lock = .locked) .coastedBoundaries
    have all := coasted.trans (counted _ (((s.time.lock == .locked || s.time.lock == .refMismatch) && min (s.time.absence + 1) 2 == 2) = true) .refLosses)
    have before : TimeInv s → s.loading = false := fun hs => by
      by_contra hl
      simp [(hs.beforeLoad (by simpa using hl)).2] at ht
    refine ⟨(absence.trans all.moves).thenSteps (Steps.makeBoundary _ _ _ _ _), fun hs => makeBoundary_timeInv ?_ (wrap_lt _ _) ?_ _ _⟩
    · exact all.toKeepsBounds.loading.trans (before hs)
    · rw [all.time]
      intro hr
      have := hs.realign hr
      split_ifs
      · simp
      · exact this

theorem Runs.matchLate (s : State) (difference : Int) (time : Nat) (hl : s.loading = false) (hr : s.time.realignPending = false) :
    Runs s (s.matchLate difference time) := by
  have htime : (s.matchLate difference time).time =
      { s.time with lastDifference := some difference, timer := some (time + s.time.rate.longPeriod), lock := .locked } := setLock_time _ _
  refine ⟨(Moves.modTime _ _).trans (Moves.setLock _ _), fun hs => ⟨?_, ?_, ?_⟩⟩
  · unfold State.cycle; rw [htime]; exact hs.position
  · have : (s.matchLate difference time).loading = s.loading := by
      unfold State.matchLate State.loading
      rw [setLock_config]
      rfl
    rw [this, hl]; nofun
  · rw [htime]; simp [hr]

theorem Moves.bumpUnit (h : Moves s t) (k : UnitCtr) : Moves s (t.bumpUnit k) := h.trans ((KeepsLists.refl t).bumpUnit k).moves

/-- A change of the Timeline Unit that keeps what its invariant speaks of. -/
theorem Runs.modTime (s : State) (f : Timeline → Timeline) (hf : ∀ x, (f x).h = x.h ∧ (f x).rate = x.rate ∧ (f x).timer = x.timer ∧
    (f x).lock = x.lock ∧ ((f x).realignPending = true → x.realignPending = true)) : Runs s (s.modTime f) := by
  obtain ⟨h1, h2, h3, h4, h5⟩ := hf s.time
  refine ⟨Moves.modTime _ _, fun hs => ⟨?_, ?_, ?_⟩⟩
  · show (f s.time).h < (f s.time).rate.cycle
    rw [h1, h2]; exact hs.position
  · show s.loading = true → (f s.time).h = 0 ∧ (f s.time).timer = none
    rw [h1, h3]; exact hs.beforeLoad
  · show (f s.time).realignPending = true → (f s.time).lock ≠ .locked
    rw [h4]; exact fun hr => hs.realign (h5 hr)

theorem Runs.thenBounds (h : Runs s t) (k : Bounds t u) : Bounds s u := ⟨h.toMoves.thenSteps k.toSteps, fun hs => k.time (h.time hs)⟩

/-- A valid pulse yields a position of the cycle (R5, R9). -/
theorem pulsePosition_lt {r : Rate} {l : Label} {p : Nat} (h : pulsePosition r l = some p) : p < r.cycle := by
  by_cases hv : ValidLabel r l
  · rw [pulsePosition_of_validLabel hv] at h
    cases h
    exact labelPosition_lt_cycle ((validLabel_iff r l).1 hv).1
  · simp [pulsePosition_of_not_validLabel hv] at h

theorem Bounds.realignPulse (s : State) (p time : Nat) (hl : s.loading = false) (hp : p < s.cycle) : Bounds s (s.realignPulse p time) := by
  unfold State.realignPulse
  dsimp only
  have cleared := Runs.modTime s (fun x => { x with realignPending := false, lastDifference := some (s.signed p (s.wrap (s.time.h + 1 : Nat))) })
    fun _ => ⟨rfl, rfl, rfl, rfl, nofun⟩
  split_ifs
  · exact cleared.thenBounds (Runs.matchLate _ _ _ (by exact hl) rfl).bounds'
  · exact cleared.toMoves.makeBoundary _ _ _ _ hl (fun _ => hp) nofun
  · exact (cleared.toMoves.bumpUnit _).makeBoundary _ _ _ _ hl (fun _ => hp) nofun

/-- R10, R12: a pulse compared in LOCKED or REF_LOST makes its boundary. -/
theorem Bounds.lockedPulse (s : State) (p time : Nat) (hl : s.loading = false) (hr : s.time.realignPending = false) :
    Bounds s (s.lockedPulse p time) := by
  unfold State.lockedPulse
  dsimp only
  have taken := Moves.modTime s fun x => { x with lastDifference := some (s.signed p (s.wrap (s.time.h + 1 : Nat))) }
  have noRealign : ∀ {lock : LockState}, s.time.realignPending = true → lock ≠ .locked := fun h => by simp [hr] at h
  split_ifs
  · exact taken.makeBoundary _ _ _ _ hl (fun _ => wrap_lt s _) fun _ => noRealign
  · exact (taken.bumpUnit _).makeBoundary _ _ _ _ hl (fun _ => wrap_lt s _) fun _ => noRealign
  · exact (taken.bumpUnit _).makeBoundary _ _ _ _ hl (fun hs => hs.position) fun _ => noRealign
  · exact (taken.bumpUnit _).makeBoundary _ _ _ _ hl (fun _ => wrap_lt s _) fun _ => noRealign

theorem Bounds.lostPulse (s : State) (p time : Nat) (hl : s.loading = false) (hr : s.time.realignPending = false) :
    Bounds s (s.lostPulse p time) := by
  unfold State.lostPulse
  dsimp only
  have taken := Runs.modTime s (fun x => { x with lastDifference := some (s.signed p (s.wrap (s.time.h + 1 : Nat))) })
    fun _ => ⟨rfl, rfl, rfl, rfl, id⟩
  have noRealign : ∀ {lock : LockState}, s.time.realignPending = true → lock ≠ .locked := fun h => by simp [hr] at h
  split_ifs
  · exact taken.toMoves.makeBoundary _ _ _ _ hl (fun _ => wrap_lt s _) fun _ => noRealign
  · exact (taken.toMoves.bumpUnit _).makeBoundary _ _ _ _ hl (fun _ => wrap_lt s _) fun _ => noRealign
  · exact (taken.toMoves.bumpUnit _).makeBoundary _ _ _ _ hl (fun hs => hs.position) fun _ => noRealign
  · refine taken.thenBounds ⟨((Moves.refl _).bumpUnit _ |>.trans (Moves.setLock _ _)).steps, fun hs => ⟨?_, ?_, ?_⟩⟩
    · unfold State.cycle; rw [setLock_time]; exact hs.position
    · unfold State.loading
      rw [setLock_config, setLock_time]
      exact hs.beforeLoad
    · rw [setLock_time]; simp

theorem Runs.mismatchPulse (s : State) (p : Nat) : Runs s (s.mismatchPulse p) := by
  unfold State.mismatchPulse
  exact Runs.modTime s _ fun _ => ⟨rfl, rfl, rfl, rfl, id⟩

theorem Bounds.takePulse (s : State) (label : Label) (time : Nat) : Bounds s (s.takePulse label time) := by
  unfold State.takePulse
  split
  · exact (KeepsLists.refl s).runs.bounds'
  · rename_i hl
    have hl : s.loading = false := by simpa using hl
    split
    · exact ((KeepsLists.refl s).bumpUnit _).runs.bounds'
    · rename_i p hp
      have hp : p < s.cycle := pulsePosition_lt hp
      dsimp only
      refine (Runs.modTime s (fun x => { x with absence := 0 }) fun _ => ⟨rfl, rfl, rfl, rfl, id⟩).thenBounds ?_
      split
      · exact Bounds.realignPulse _ _ _ hl hp
      · rename_i hr
        simp only [Bool.or_eq_true, not_or, Bool.not_eq_true] at hr
        split
        · split
          · exact (Runs.matchLate _ _ _ (by exact hl) (by exact hr.1)).bounds'
          · exact Bounds.lockedPulse _ _ _ hl hr.1
        · split
          · exact (Runs.matchLate _ _ _ (by exact hl) (by exact hr.1)).bounds'
          · exact Bounds.lostPulse _ _ _ hl hr.1
        · exact (Runs.mismatchPulse _ _).bounds'
        · exact (Runs.mismatchPulse _ _).bounds'

/-! ## The load (R201) -/

/-- A part of the load: H and the rest of the Timeline Unit stand, but for the rate. -/
structure Loads (s t : State) : Prop extends Moves s t where
  time : ∃ rate, t.time = { s.time with rate := rate }

theorem Loads.trans (h : Loads s t) (k : Loads t u) : Loads s u := by
  obtain ⟨r, hr⟩ := h.time
  obtain ⟨q, hq⟩ := k.time
  exact ⟨h.toMoves.trans k.toMoves, q, by rw [hq, hr]⟩

theorem KeepsLists.loads (h : KeepsLists s t) : Loads s t := ⟨h.moves, s.time.rate, h.time⟩

theorem Loads.defaultSettings (s : State) : Loads s s.defaultSettings := by
  have start : Loads s ({ s with settings := .default }.modTime fun x => { x with rate := .fr25 }) :=
    ⟨Moves.of_eq rfl rfl rfl rfl ⟨rfl, rfl⟩ rfl, .fr25, rfl⟩
  exact start.trans ((KeepsLists.refl _).eachChannel _ fun _ _ hu => (hu.modSettings _).modControl _).loads

theorem Loads.loadEntry (acc : State × List Byte) (r : SettingRef) : Loads acc.1 (loadEntry acc r).1 := by
  unfold Machine.loadEntry
  dsimp only
  have put : ∀ v, Loads acc.1 ((if (adjustValue r.kind (bigEndian (acc.2.take r.kind.width))).2 = true then acc.1.bumpUnit .imageAdjustments
      else acc.1).putRef r v) := fun v => by
    split
    · exact ((KeepsLists.refl acc.1).bumpUnit _).loads.trans ⟨Moves.putRef _ _ _, State.putRef_time _ _ _⟩
    · exact ⟨Moves.putRef _ _ _, State.putRef_time _ _ _⟩
  split
  · exact put _
  · split
    · exact ((KeepsLists.refl acc.1).bumpUnit _).loads
    · exact (KeepsLists.refl acc.1).loads

theorem Loads.foldl (l : List SettingRef) (acc : State × List Byte) : Loads acc.1 (l.foldl Machine.loadEntry acc).1 := by
  induction l generalizing acc with
  | nil => exact (KeepsLists.refl acc.1).loads
  | cons r l ih => exact (Loads.loadEntry acc r).trans (ih _)

theorem Loads.setConfig (s : State) (x : ConfigState) : Loads s { s with mgmt := { s.mgmt with config := x } } :=
  ⟨Moves.of_eq rfl rfl rfl rfl ⟨rfl, rfl⟩ rfl, s.time.rate, rfl⟩

theorem Loads.takeImage (s : State) (answer : Option Image) : Loads s (s.takeImage answer) := by
  unfold State.takeImage
  dsimp only
  split
  · exact ((Loads.defaultSettings s).trans (Loads.foldl _ (s.defaultSettings, _))).trans (Loads.setConfig _ _)
  · exact (Loads.defaultSettings s).trans (Loads.setConfig _ _)
  · exact Loads.defaultSettings s

theorem imageFault_none {answer : Option Image} (h : imageFault answer = none) : ∃ x, answer = some x := by
  cases answer with
  | none => simp [imageFault] at h
  | some x => exact ⟨x, rfl⟩

theorem takeImage_loading (s : State) (answer : Option Image) : (s.takeImage answer).loading = false := by
  unfold State.takeImage
  dsimp only
  split
  · rfl
  · rfl
  · rename_i h
    obtain ⟨x, hx⟩ := imageFault_none h
    cases hx

theorem Runs.completeLoad (s : State) (answer : Option Image) (time : Nat) : Runs s (s.completeLoad answer time) := by
  unfold State.completeLoad
  split
  · rename_i hl
    dsimp only
    have taken := Loads.takeImage s answer
    have resent := (KeepsLists.refl ((s.takeImage answer).modTime fun x => { x with timer := some (time + x.rate.period) })).eachChannel
      (fun c t => t.resync c) fun _ _ hu => hu.resync
    have entered := resent.eachChannel (fun c t => match (t.ch c).control.mode with | .outOfService => t | m => t.enterService c m) fun c u hu => by
      split
      · exact hu
      · exact hu.enterService _
    refine ⟨(taken.toMoves.trans (Moves.modTime _ _)).trans entered.moves, fun hs => entered.toKeepsBounds.timeInv ⟨?_, ?_, ?_⟩⟩
    · obtain ⟨rate, hrate⟩ := taken.time
      show (s.takeImage answer).time.h < (s.takeImage answer).time.rate.cycle
      rw [hrate]
      show s.time.h < rate.cycle
      rw [(hs.beforeLoad hl).1]
      exact cycle_pos _
    · intro (h : (s.takeImage answer).loading = true)
      simp [takeImage_loading] at h
    · obtain ⟨rate, hrate⟩ := taken.time
      show (s.takeImage answer).time.realignPending = true → (s.takeImage answer).time.lock ≠ .locked
      rw [hrate]
      exact hs.realign
  · exact (KeepsLists.refl s).runs

theorem KeepsLists.completeSave (h : KeepsLists s t) (readBack : Option Image) : KeepsLists s (t.completeSave readBack) := by
  unfold State.completeSave
  split
  · exact h
  · dsimp only
    split
    · exact h.setMgmt _ rfl id id
    · refine KeepsLists.reply ?_ _ _ _
      exact h.setMgmt _ rfl id id

end Sys2Proof.Machine

/-! PROOFS. The resets, the rows that take what is due, and O1, O3, O5 with the first half of O4: what every command and every step keeps. -/

namespace Sys2Proof.Machine

-- Each elaboration thread takes a large stack, and the text is compiled as one file under a memory limit: one thread at a time.
set_option Elab.async false

variable {s t u : State} {c : Chan}

/-! ## The resets (R19, R149, R204) -/

theorem State.reset_ch (c : Chan) : State.reset.ch c = Channel.reset c := by
  fin_cases c <;> rfl

theorem State.powerOn_ch (s : State) (c : Chan) : s.powerOn.ch c = Channel.reset c := State.reset_ch c

theorem counters_zero_get (key : CounterKey) : Counters.zero.get key = 0 := by cases key <;> simp [Counters.get, Counters.zero]

theorem State.powerOn_counter (s : State) (key : CounterKey) : s.powerOn.counter key = 0 := counters_zero_get key

theorem powerOn_boundInv (s : State) : BoundInv s.powerOn := by
  refine ⟨fun key => by rw [s.powerOn_counter]; exact Nat.zero_le _, fun o => ?_, fun c => ?_⟩
  · cases o <;> exact ContextInv.reset
  · rw [s.powerOn_ch]; exact ⟨by simp [Channel.reset], by simp [Channel.reset], by simp [Channel.reset], by simp [Channel.reset]⟩

/-- A part with the Timeline Unit as a reset leaves it. -/
theorem TimeInv.of_reset (h : s.time = State.reset.time) : TimeInv s := by
  refine ⟨?_, ?_, ?_⟩
  · unfold State.cycle; rw [h]; exact cycle_pos _
  · rw [h]; exact fun _ => ⟨rfl, rfl⟩
  · rw [h]; nofun

/-- A part whose lists are as a reset leaves them. -/
theorem PoolInv.of_reset (hp : s.poolFree = 4096) (hs : ∀ c, (s.ch c).schedule = (Channel.reset c).schedule) (hw : ∀ c, (s.ch c).work.snapshot = false) :
    PoolInv s := by
  refine ⟨?_, fun c => ?_, fun c => ?_⟩
  · have : ∀ c, (s.ch c).records = 0 := fun c => by simp [Channel.records, hs c, Channel.reset]
    rw [hp, List.map_congr_left fun c _ => this c]
    simp
  · rw [hs c]
    exact ⟨by simp [Channel.reset], by simp [Channel.reset], by simp [Channel.reset], by simp [Channel.reset]⟩
  · rw [hs c, hw c]
    simp [Channel.reset]

theorem powerOn_inv (s : State) : Inv s.powerOn := (inv_iff _).2 ⟨powerOn_boundInv s, .of_reset rfl⟩

theorem powerOn_poolInv (s : State) : PoolInv s.powerOn :=
  .of_reset rfl (fun c => by rw [s.powerOn_ch]) fun c => by rw [s.powerOn_ch]; rfl

/-- A reset-line reset: the part as power-on leaves it, but for the channels and the restart record. -/
theorem resetByLine_eq (s : State) :
    ∃ chans mgmt, s.resetByLine = { s.powerOn with chans := chans, mgmt := mgmt } ∧ mgmt.mainSite = .reset ∧ mgmt.console = .reset ∧
      ∀ c, s.resetByLine.ch c = (s.ch c).afterLine c := by
  have hch := fun c => State.eachChannel_ch_eq (s := s.powerOn) (f := fun c u => u.modCh c fun _ => (s.ch c).afterLine c)
    (g := fun c _ => (s.ch c).afterLine c) (fun c u c' => State.ch_modCh u c c' _) c
  have hrest : ∃ chans, s.powerOn.eachChannel (fun c u => u.modCh c fun _ => (s.ch c).afterLine c) = { s.powerOn with chans := chans } :=
    State.eachChannel_keeps (P := fun u => ∃ chans, u = { s.powerOn with chans := chans }) (fun c u ⟨chans, hu⟩ => by subst hu; exact ⟨_, rfl⟩)
      ⟨s.powerOn.chans, rfl⟩
  obtain ⟨chans, hrest⟩ := hrest
  refine ⟨chans, { s.powerOn.mgmt with resetCause := .resetLine, warmRestarts := s.mgmt.warmRestarts, lineResets := satAdd s.mgmt.lineResets 1 },
    ?_, rfl, rfl, hch⟩
  unfold State.resetByLine
  dsimp only
  rw [hrest]

theorem afterLine_inv (h : ChannelInv (s.ch c)) : ChannelInv ((s.ch c).afterLine c) :=
  ⟨by simpa [Channel.afterLine, keptRing] using h.ring, h.sequence, by simp [Channel.afterLine, Channel.reset],
    by simp [Channel.afterLine, Channel.reset]⟩

theorem resetByLine_inv (h : BoundInv s) : Inv s.resetByLine := by
  obtain ⟨chans, mgmt, he, hm, hc, hch⟩ := resetByLine_eq s
  refine (inv_iff _).2 ⟨⟨fun key => ?_, fun o => ?_, fun c => ?_⟩, .of_reset ?_⟩
  · have : s.resetByLine.counter key = 0 := by rw [he]; exact counters_zero_get key
    rw [this]; exact Nat.zero_le _
  · have : s.resetByLine.ctx o = Context.reset := by rw [he]; cases o <;> assumption
    rw [this]; exact .reset
  · rw [hch c]; exact afterLine_inv (h.channels c)
  · rw [he]; rfl

theorem resetByLine_poolInv (s : State) : PoolInv s.resetByLine := by
  obtain ⟨chans, mgmt, he, -, -, hch⟩ := resetByLine_eq s
  refine .of_reset (by rw [he]; rfl) (fun c => ?_) fun c => ?_
  · rw [hch c]; rfl
  · rw [hch c]; rfl

/-! ## What is due, taken -/

theorem KeepsBounds.finishBoundary (s : State) : KeepsBounds s s.finishBoundary := by
  unfold State.finishBoundary
  split
  · exact KeepsBounds.refl s
  · dsimp only
    have channels := (KeepsLists.refl s).eachChannel (fun c t => t.catchUpChannel c) fun _ _ hu => hu.catchUpChannel
    have unit := ((((channels.doWarmRestartEnd.doPathDown .a).doPathUp .a).doPathDown .b).doPathUp .b).doKeepaliveExpiry
    exact (unit.toKeepsBounds.eachChannel _ fun c u hu => hu.doSnapshotTimeout.trans (KeepsLists.refl _).doResyncRepeat.toKeepsBounds).trans
      (KeepsLists.refl _).doReport.toKeepsBounds

theorem not_snapshot_of_assembled (h : s.assembled = true) : NoTimeout s := by
  intro c
  simp only [State.assembled, Bool.and_eq_true, List.all_eq_true] at h
  have := h.2 c (Chan.mem_all c)
  by_contra hc
  simp [State.channelDue, hc] at this

theorem snapshotTimeouts_quiet (h : PoolInv s) : Quiet (s.eachChannel fun c t => (t.doSnapshotTimeout c).doResyncRepeat c) := by
  refine ⟨State.eachChannel_keeps (fun _ _ hu => (KeepsLists.refl _).doResyncRepeat.poolInv (doSnapshotTimeout_poolInv hu)) h, fun c => ?_⟩
  have key : ∀ (l : List Chan) (u : State), c ∈ l ∨ (u.ch c).work.snapshot = false →
      ((l.foldl (fun t c => (t.doSnapshotTimeout c).doResyncRepeat c) u).ch c).work.snapshot = false := by
    intro l
    induction l with
    | nil => simp
    | cons b l ih =>
      intro u hu
      refine ih _ ?_
      by_contra hn
      simp only [List.mem_cons] at hu
      simp only [not_or, Bool.not_eq_false] at hn
      obtain ⟨hne, hdue⟩ := doSnapshotTimeout_due u b c (((KeepsLists.refl _).doResyncRepeat.lists c).due hn.2)
      rcases hu with (hb | hl) | hu
      · exact hne hb
      · exact hn.1 hl
      · simp [hu] at hdue
  unfold State.eachChannel
  generalize hl : Chan.all = l
  exact key l s (.inl (hl ▸ Chan.mem_all c))

theorem finishBoundary_quiet (h : PoolInv s) : Quiet s.finishBoundary := by
  unfold State.finishBoundary
  split
  · rename_i ha
    exact ⟨h, not_snapshot_of_assembled ha⟩
  · dsimp only
    have channels := (KeepsLists.refl s).eachChannel (fun c t => t.catchUpChannel c) fun _ _ hu => hu.catchUpChannel
    have unit := ((((channels.doWarmRestartEnd.doPathDown .a).doPathUp .a).doPathDown .b).doPathUp .b).doKeepaliveExpiry
    have timed := snapshotTimeouts_quiet (unit.poolInv h)
    exact (KeepsLists.doReport (KeepsLists.refl _)).quiet timed

theorem KeepsBounds.catchUp (s : State) : KeepsBounds s s.catchUp := by
  rcases s.catchUp_cases with ⟨-, h⟩ | ⟨-, h⟩ <;> rw [h]
  · exact .finishBoundary s
  · exact (KeepsBounds.finishBoundary s).trans (KeepsLists.refl _).sendFrame.toKeepsBounds

theorem catchUp_quiet (h : PoolInv s) : Quiet s.catchUp := by
  rcases s.catchUp_cases with ⟨-, e⟩ | ⟨-, e⟩ <;> rw [e]
  · exact finishBoundary_quiet h
  · exact (KeepsLists.refl _).sendFrame.quiet (finishBoundary_quiet h)

/-! ## What every command keeps -/

/-- What a whole command keeps. -/
structure Completes (s t : State) : Prop where
  pending : t.pending = s.pending
  outbox : s.outbox <+: t.outbox
  inv : Inv s → Inv t
  lists : PoolInv s → PoolInv t

theorem KeepsBounds.inv (h : KeepsBounds s t) (hs : Inv s) : Inv t :=
  have ⟨hb, ht⟩ := (inv_iff s).1 hs
  (inv_iff t).2 ⟨h.boundInv hb, h.timeInv ht⟩

theorem KeepsLists.completes (h : KeepsLists s t) : Completes s t := ⟨h.pending, h.outbox, h.toKeepsBounds.inv, h.poolInv⟩

/-- A command that first takes what is due. -/
theorem Bounds.completes (h : Bounds s.catchUp t) : Completes s t :=
  have k := KeepsBounds.catchUp s
  ⟨h.pending.trans k.pending, k.outbox.trans h.outbox, fun hs =>
    have ⟨hb, ht⟩ := (inv_iff _).1 (k.inv hs)
    (inv_iff t).2 ⟨h.bounds hb, h.time ht⟩, fun hs => h.lists (catchUp_quiet hs)⟩

theorem Runs.completes (h : Runs s.catchUp t) : Completes s t := h.bounds'.completes

theorem KeepsLists.completes' (h : KeepsLists s.catchUp t) : Completes s t := h.runs.completes

theorem KeepsLists.changeLink (s : State) (p : Port) (up : Bool) : KeepsLists s (s.changeLink p up) := by
  unfold State.changeLink
  dsimp only
  split
  · exact KeepsLists.refl s
  · exact ((KeepsLists.refl s).setPorts _).bump _

theorem completes_resetLine (s : State) : Completes s s.catchUp.resetByLine := by
  have k := KeepsBounds.catchUp s
  obtain ⟨chans, mgmt, he, -, -, -⟩ := resetByLine_eq s.catchUp
  refine ⟨?_, ?_, fun hs => resetByLine_inv ((inv_iff _).1 (k.inv hs)).1, fun _ => resetByLine_poolInv _⟩
  · rw [he]; exact k.pending
  · rw [he]; exact k.outbox

theorem Runs.refl (s : State) : Runs s s := (KeepsLists.refl s).runs

/-- A control carrier received, after what is due. -/
theorem completes_control (rx : ControlRx) (r : Request) (time : Nat) (s : State) : Completes s (s.catchUp.receiveControl rx r time) :=
  ((Runs.refl _).receiveControl rx r time).completes

/-- Walks run before the load as well. -/
theorem KeepsLists.walkReach (h : KeepsLists s t) (o : Origin) : KeepsLists s (t.walkReach o) := by
  have refused : ∀ {v : State}, KeepsLists s v → ∀ a code, KeepsLists s (v.refuseSticky a code) := fun hv a code => by
    unfold State.refuseSticky State.setSticky
    exact (hv.modCtx _ _ fun x => by cases x.sticky <;> exact ⟨rfl, rfl⟩).answer _ _ _ _
  have ended : ∀ w ranOut, KeepsLists s (t.endWalk o w ranOut) := fun w ranOut => by
    unfold State.endWalk State.advance
    dsimp only
    exact ((h.modCtx _ _).answer _ _ _ _).modCtx _ _ fun x => by split <;> exact ⟨rfl, rfl⟩
  unfold State.walkReach
  split
  · exact h
  · split
    · dsimp only
      split
      · exact ended _ _
      · exact h.modCtx _ _
    · split
      · exact ended _ _
      · dsimp only
        exact refused (h.modCtx _ _) _ _

/-- Every command completes, and keeps the invariants. -/
theorem exec_completes (i : Instr) (s : State) : ∃ t, exec i s = .next t ∧ Completes s t := by
  have keeps := KeepsLists.refl s
  have caught := KeepsLists.refl s.catchUp
  cases i with
  | powerOn => exact ⟨_, rfl, rfl, List.prefix_refl _, fun _ => powerOn_inv s, fun _ => powerOn_poolInv s⟩
  | resetLine => exact ⟨_, rfl, completes_resetLine s⟩
  | loadCompletion answer time => exact ⟨_, rfl, (Runs.completeLoad _ answer time).completes⟩
  | referencePulse label time => exact ⟨_, rfl, (Bounds.takePulse _ label time).completes⟩
  | frameTimerExpiry => exact ⟨_, rfl, (Bounds.expireFrameTimer _).completes⟩
  | linkChange port up => exact ⟨_, rfl, (KeepsLists.changeLink _ port up).completes'⟩
  | ethernetFrame port frame time => exact ⟨_, rfl, ((Runs.refl _).receiveFrame port frame time).completes⟩
  | mainMediaCarrier side m => exact ⟨_, rfl, (caught.receiveMainMedia side m).completes'⟩
  | standbyMediaCarrier n m => exact ⟨_, rfl, (caught.receiveStandbyMedia n m).completes'⟩
  | copyCompletion slate => exact ⟨_, rfl, (caught.completeCopy slate).completes'⟩
  | saveCompletion readBack => exact ⟨_, rfl, (caught.completeSave readBack).completes'⟩
  | walkReach origin => exact ⟨_, rfl, (caught.walkReach origin).completes'⟩
  | badCommand raw => exact ⟨_, rfl, ((Runs.refl _).receiveRaw raw).completes⟩
  | misdirectedControl raw => exact ⟨_, rfl, ((Runs.refl _).receiveRaw raw).completes⟩
  | delayWindowEnd c => exact ⟨_, rfl, keeps.endDelayWindow.completes⟩
  | pathDown side => exact ⟨_, rfl, (keeps.doPathDown side).completes⟩
  | pathUp side => exact ⟨_, rfl, (keeps.doPathUp side).completes⟩
  | retimeApply c => exact ⟨_, rfl, keeps.doRetime.completes⟩
  | settlingEnd c det => exact ⟨_, rfl, (keeps.doSettlingEnd det).completes⟩
  | guardExpiry c => exact ⟨_, rfl, keeps.doGuardExpiry.completes⟩
  | returnArrival c => exact ⟨_, rfl, keeps.doReturnArrival.completes⟩
  | joinSwitch c => exact ⟨_, rfl, keeps.doJoinSwitch.completes⟩
  | joinExpiry c => exact ⟨_, rfl, keeps.doJoinExpiry.completes⟩
  | followOnCheck c => exact ⟨_, rfl, keeps.doFollowOnCheck.completes⟩
  | followOnSwitch c => exact ⟨_, rfl, keeps.doFollowOnSwitch.completes⟩
  | followOnFailure c => exact ⟨_, rfl, keeps.doFollowOnFailure.completes⟩
  | endOfSchedule c => exact ⟨_, rfl, keeps.doEndOfSchedule.completes⟩
  | keepaliveExpiry => exact ⟨_, rfl, keeps.doKeepaliveExpiry.completes⟩
  | snapshotTimeout c =>
    have k := (KeepsBounds.refl s).doSnapshotTimeout (c := c)
    exact ⟨_, rfl, k.pending, k.outbox, k.inv, doSnapshotTimeout_poolInv⟩
  | resyncRepeat c => exact ⟨_, rfl, keeps.doResyncRepeat.completes⟩
  | warmRestartEnd => exact ⟨_, rfl, keeps.doWarmRestartEnd.completes⟩
  | report => exact ⟨_, rfl, keeps.doReport.completes⟩
  | rampStepAdvance c => exact ⟨_, rfl, keeps.doRampAdvance.completes⟩
  | frameSend =>
    have k := (KeepsBounds.finishBoundary s).trans (KeepsLists.refl _).sendFrame.toKeepsBounds
    exact ⟨_, rfl, k.pending, k.outbox, k.inv, fun hs => (KeepsLists.refl _).sendFrame.poolInv (finishBoundary_quiet hs).lists⟩
  | ready | refused | keepalive | declareSiteLost | restoreSite | insert | replace | delete | trim | shiftFrom | snapshotBegin | snapshotEvent
  | snapshotEnd | setService | setServiceOut | take | returnToMain | hold | pinMain | pinStandby | unpin | seize | release | ackTakeover | recue
  | clearRecords | retime | captureSlate | realign | select | subscribe | setWindow | read | write | clearError | clearCounters | saveConfig
  | warmRestart => exact ⟨_, rfl, completes_control _ _ _ s⟩

/-- Settles O1: a step with a command waiting is `exec` of it. -/
theorem stepTakesTheFrontCommand : Obligations.StepTakesTheFrontCommand := by
  unfold Obligations.StepTakesTheFrontCommand
  intro i rest s h
  simp [step, h]

/-- Settles O3, by what every command keeps. -/
theorem everyCommandCompletesAndKeepsTheQueue : Obligations.EveryCommandCompletesAndKeepsTheQueue := by
  unfold Obligations.EveryCommandCompletesAndKeepsTheQueue
  intro i s
  obtain ⟨t, he, h⟩ := exec_completes i s
  exact ⟨t, he, h.pending, h.outbox⟩

/-- The queue is no part of what the invariants speak of. -/
theorem Inv.withPending (h : Inv s) (l : List Instr) : Inv { s with pending := l } :=
  ⟨h.counters, h.position, h.channels, h.mainSite, h.console, h.beforeLoad, h.realign⟩

theorem PoolInv.withPending (h : PoolInv s) (l : List Instr) : PoolInv { s with pending := l } := ⟨h.pool, h.lists, h.timers⟩

/-- A step takes what is due, or runs a command. -/
theorem step_cases (h : step s = .next t) : (s.pending = [] ∧ t = s.catchUp) ∨ ∃ i rest, s.pending = i :: rest ∧ exec i { s with pending := rest } = .next t := by
  unfold step at h
  split at h
  · rename_i hp
    cases h
    exact .inl ⟨hp, rfl⟩
  · rename_i i rest hp
    exact .inr ⟨i, rest, hp, h⟩

theorem exec_next (h : exec i s = .next t) : Completes s t := by
  obtain ⟨u, he, hc⟩ := exec_completes i s
  rw [he] at h
  cases h
  exact hc

theorem step_inv (h : step s = .next t) (hs : Inv s) : Inv t := by
  rcases step_cases h with ⟨-, rfl⟩ | ⟨i, rest, -, he⟩
  · exact (KeepsBounds.catchUp s).inv hs
  · exact (exec_next he).inv (hs.withPending rest)

/-- Settles O5, by what every command keeps of the lists. -/
theorem everyStepKeepsThePoolAndTheLists : Obligations.EveryStepKeepsThePoolAndTheLists := by
  unfold Obligations.EveryStepKeepsThePoolAndTheLists
  intro s t _ hs h
  rcases step_cases h with ⟨-, rfl⟩ | ⟨i, rest, -, he⟩
  · exact (catchUp_quiet hs).lists
  · exact (exec_next he).lists (hs.withPending rest)

end Sys2Proof.Machine

/-! PROOFS. What the Alignment Unit, the Continuity Monitor and the Output Assembler do for one channel stays with that channel (`Elsewhere`). -/

namespace Sys2Proof.Machine

-- Each elaboration thread takes a large stack, and the text is compiled as one file under a memory limit: one thread at a time.
set_option Elab.async false

variable {s t : State} {c : Chan}

theorem Elsewhere.modCh (h : Elsewhere c s t) (f : Channel → Channel) : Elsewhere c s (t.modCh c f) :=
  h.trans ⟨rfl, rfl, rfl, rfl, rfl, rfl, rfl, rfl, rfl, List.prefix_refl _, fun c' hc => State.ch_modCh_ne _ _ _ _ hc, fun _ _ => rfl⟩

theorem Elsewhere.modSlots (h : Elsewhere c s t) (f : Slots → Slots) : Elsewhere c s (t.modSlots c f) := h.modCh _
theorem Elsewhere.modSettings (h : Elsewhere c s t) (f : ChannelSettings → ChannelSettings) : Elsewhere c s (t.modSettings c f) := h.modCh _
theorem Elsewhere.modAlign (h : Elsewhere c s t) (f : Align → Align) : Elsewhere c s (t.modAlign c f) := h.modCh _
theorem Elsewhere.modMonitor (h : Elsewhere c s t) (f : Monitor → Monitor) : Elsewhere c s (t.modMonitor c f) := h.modCh _
theorem Elsewhere.modControl (h : Elsewhere c s t) (f : Control → Control) : Elsewhere c s (t.modControl c f) := h.modCh _
theorem Elsewhere.modSchedule (h : Elsewhere c s t) (f : Schedule → Schedule) : Elsewhere c s (t.modSchedule c f) := h.modCh _
theorem Elsewhere.modOutput (h : Elsewhere c s t) (f : Output → Output) : Elsewhere c s (t.modOutput c f) := h.modCh _
theorem Elsewhere.modWork (h : Elsewhere c s t) (f : ChannelWork → ChannelWork) : Elsewhere c s (t.modWork c f) := h.modCh _
theorem Elsewhere.setState (h : Elsewhere c s t) (x : ChannelState) : Elsewhere c s (t.setState c x) := (h.modControl _).modOutput _

theorem Elsewhere.cueLocal {u : State} (h : Elsewhere c s t) (k : CueLocal c t u) : Elsewhere c s u := h.trans k.toElsewhere
theorem Elsewhere.bumpBy (h : Elsewhere c s t) (k : ChanCtr) (n : Nat) : Elsewhere c s (t.bumpBy (.chan c k) n) :=
  h.cueLocal ((CueLocal.refl c t).bumpBy _ _ (by simp [foreign]))
theorem Elsewhere.bumpCh (h : Elsewhere c s t) (k : ChanCtr) : Elsewhere c s (t.bumpCh c k) := h.bumpBy k 1
theorem Elsewhere.raise (h : Elsewhere c s t) (r : Report) : Elsewhere c s (t.raise r) := h.cueLocal ((CueLocal.refl c t).raise r)
theorem Elsewhere.send (h : Elsewhere c s t) (p : Port) (what : Outgoing) : Elsewhere c s (t.send p what) := h.cueLocal ((CueLocal.refl c t).send p what)

theorem Elsewhere.foldl {α : Type} (h : Elsewhere c s t) (l : List α) (f : State → α → State) (hf : ∀ u x, Elsewhere c s u → Elsewhere c s (f u x)) :
    Elsewhere c s (l.foldl f t) := by
  induction l generalizing t with
  | nil => exact h
  | cons x l ih => exact ih (hf t x h)

/-! ## The Continuity Monitor -/

/-- A verdict notice of channel `c`, if there is one, delivered. -/
theorem Elsewhere.deliver (h : Elsewhere c s t) {n : Option VerdictNotice} (hn : ∀ x, n = some x → x.chan = c) : Elsewhere c s (t.deliver n) := by
  cases n with
  | none => exact h
  | some x =>
    have hc := hn x rfl
    subst hc
    exact h.cueLocal (CueLocal.takeVerdict x (CueLocal.refl _ t))

theorem holdVerdict_chan {cause : EvalCause} {n : VerdictNotice} (h : (s.holdVerdict c cause).2 = some n) : n.chan = c := by
  unfold State.holdVerdict at h
  dsimp only at h
  split at h
  · simp at h
  · rw [← Option.some.inj h]

theorem Elsewhere.holdVerdict (h : Elsewhere c s t) (cause : EvalCause) : Elsewhere c s (t.holdVerdict c cause).1 := by
  unfold State.holdVerdict
  dsimp only
  split
  · exact h
  · exact (h.modMonitor _).bumpCh _

theorem Elsewhere.evaluate (h : Elsewhere c s t) (cause : EvalCause) : Elsewhere c s (t.evaluate c cause) :=
  (h.holdVerdict cause).deliver fun _ => holdVerdict_chan

theorem Elsewhere.modDetector (h : Elsewhere c s t) (det : Detector) (f : DetectorState → DetectorState) : Elsewhere c s (t.modDetector c det f) := h.modMonitor _
theorem Elsewhere.eachDetector (h : Elsewhere c s t) (f : DetectorSettings → DetectorState → DetectorState) : Elsewhere c s (t.eachDetector c f) :=
  h.foldl _ _ fun _ _ hu => hu.modDetector _ _

theorem Elsewhere.judgeDetector (h : Elsewhere c s t) (j : Judgement) (det : Detector) : Elsewhere c s (t.judgeDetector c j det).1 := by
  unfold State.judgeDetector
  dsimp only
  split
  · dsimp only
    exact h.modMonitor _
  · split <;> dsimp only
    · exact (h.modMonitor _).bumpCh _
    · exact ((h.modMonitor _).bumpCh _).modMonitor _

theorem Elsewhere.judgeDetectors (h : Elsewhere c s t) (j : Judgement) : Elsewhere c s (t.judgeDetectors c j).1 :=
  State.judgeDetectors_keeps (fun _ det hu => hu.judgeDetector j det) h

theorem Elsewhere.reportEdge (h : Elsewhere c s t) (e : Detector × EdgeKind) : Elsewhere c s (t.reportEdge c e) := by
  unfold State.reportEdge
  rcases e with ⟨det, _ | _⟩ <;> dsimp only <;> split
  · exact h.raise _
  · exact h
  · exact h.raise _
  · exact h

theorem Elsewhere.judge (h : Elsewhere c s t) (j : Judgement) : Elsewhere c s (t.judge c j) := by
  unfold State.judge
  have hd := h.judgeDetectors j
  dsimp only
  refine Elsewhere.deliver (Elsewhere.foldl (Elsewhere.holdVerdict ?_ _) _ _ fun u e hu => hu.reportEdge e) fun _ => holdVerdict_chan
  split
  · exact hd.modMonitor _
  · exact hd

theorem Elsewhere.monitorEntry (h : Elsewhere c s t) : Elsewhere c s (t.monitorEntry c) := ((h.modMonitor _).eachDetector _).evaluate _
theorem Elsewhere.monitorExit (h : Elsewhere c s t) : Elsewhere c s (t.monitorExit c) := ((h.eachDetector _).modMonitor _).evaluate _
theorem Elsewhere.monitorRestart (h : Elsewhere c s t) : Elsewhere c s (t.monitorRestart c) := (h.eachDetector _).evaluate _

/-! ## The Output Assembler, and service entry -/

theorem Elsewhere.bufferFrame (h : Elsewhere c s t) (f : OutFrame) : Elsewhere c s (t.bufferFrame c f) := by
  unfold State.bufferFrame
  dsimp only
  split
  · exact (h.bumpCh _).modOutput _
  · exact h.modOutput _

theorem Elsewhere.assemble (h : Elsewhere c s t) : Elsewhere c s (t.assemble c) := by
  unfold State.assemble
  split
  · exact h
  · dsimp only
    refine Elsewhere.bufferFrame (Elsewhere.modWork (Elsewhere.modOutput (Elsewhere.bumpCh ?_ _) _) _) _
    split
    · exact h.bumpCh _
    · exact h

theorem Elsewhere.finishChannel (h : Elsewhere c s t) : Elsewhere c s (t.finishChannel c) := by
  unfold State.finishChannel
  dsimp only
  split
  · split
    · exact ((h.modWork _).assemble).judge _
    · exact (h.modWork _).assemble
  · exact h

theorem Elsewhere.clearOutput (h : Elsewhere c s t) : Elsewhere c s (t.clearOutput c) := (h.modOutput _).modWork _

theorem Elsewhere.enterService (h : Elsewhere c s t) (mode : ServiceMode) : Elsewhere c s (t.enterService c mode) := by
  unfold State.enterService State.controlEntry State.alignEntry
  exact ((((h.modControl _).setState _).modAlign _).clearOutput).monitorEntry

end Sys2Proof.Machine

/-! PROOFS. A channel's state, mode, owner and cues under the Cue Engine and the Channel Controller: what each operation leaves of them, and the rules of R150, R161
that they keep. -/

namespace Sys2Proof.Machine

-- Each elaboration thread takes a large stack, and the text is compiled as one file under a memory limit: one thread at a time.
set_option Elab.async false

/-- The state, mode and owner of a channel with its pending and its playing cue. -/
structure CueView where
  mode : ServiceMode
  state : ChannelState
  owner : Owner
  waiting : Option Cue
  playing : Option Cue

/-- The view of a channel. -/
def Channel.cv (x : Channel) : CueView :=
  { mode := x.control.mode, state := x.control.state, owner := x.control.owner, waiting := x.cue.pendingCue, playing := x.cue.playing }

/-- The view of channel `c`. -/
def State.cv (s : State) (c : Chan) : CueView := (s.ch c).cv

/-- R150, R161: what `CueInv` says, of the view. -/
structure CueView.Ruled (v : CueView) : Prop where
  failed : ∀ y, v.waiting = some y → y.status = .failed → y.kind = .followOn
  noneInMain : v.state = .main ∨ v.state = .outOfService → v.waiting = none
  playing : v.playing ≠ none → v.state = .standby ∨ v.state = .returnGuard ∨ v.state = .returning
  followOn : ∀ y, v.waiting = some y → y.kind = .followOn → v.playing ≠ none

theorem CueInv.ruled {x : Channel} (h : CueInv x) : x.cv.Ruled := ⟨h.failed, h.noneInMain, h.playing, h.followOn⟩
theorem CueView.Ruled.cueInv {x : Channel} (h : x.cv.Ruled) : CueInv x := ⟨h.failed, h.noneInMain, h.playing, h.followOn⟩

/-- What the Cue Engine's own operations keep: the mode and the owner, being in or out of service, and not being on the way back. -/
structure Steered (v w : CueView) : Prop where
  mode : w.mode = v.mode
  owner : w.owner = v.owner
  service : w.state = .outOfService ↔ v.state = .outOfService
  returning : w.state = .returnGuard ∨ w.state = .returning → v.state = .returnGuard ∨ v.state = .returning

theorem Steered.refl (v : CueView) : Steered v v := ⟨rfl, rfl, Iff.rfl, id⟩

theorem Steered.trans {u v w : CueView} (h : Steered u v) (k : Steered v w) : Steered u w :=
  ⟨k.mode.trans h.mode, k.owner.trans h.owner, k.service.trans h.service, fun hw => h.returning (k.returning hw)⟩

/-- An operation that leaves a ruled view steers and keeps the rules. -/
structure Sound (v w : CueView) : Prop where
  steered : Steered v w
  ruled : v.Ruled → w.Ruled

theorem Sound.refl (v : CueView) : Sound v v := ⟨.refl v, id⟩
theorem Sound.trans {u v w : CueView} (h : Sound u v) (k : Sound v w) : Sound u w := ⟨h.steered.trans k.steered, fun hu => k.ruled (h.ruled hu)⟩

variable {s t : State} {c : Chan}

/-! ## The named updates -/

@[simp] theorem State.cv_bumpBy (s : State) (key : CounterKey) (n : Nat) (c : Chan) : (s.bumpBy key n).cv c = s.cv c := rfl
@[simp] theorem State.cv_bumpCh (s : State) (c' : Chan) (k : ChanCtr) (c : Chan) : (s.bumpCh c' k).cv c = s.cv c := rfl
@[simp] theorem State.cv_send (s : State) (p : Port) (what : Outgoing) (c : Chan) : (s.send p what).cv c = s.cv c := rfl
@[simp] theorem State.cv_raise (s : State) (r : Report) (c : Chan) : (s.raise r).cv c = s.cv c := by simp [State.cv]
@[simp] theorem State.cv_modOutput (s : State) (c : Chan) (f : Output → Output) : (s.modOutput c f).cv c = s.cv c := by simp [State.cv, Channel.cv]
@[simp] theorem State.cv_modWork (s : State) (c : Chan) (f : ChannelWork → ChannelWork) : (s.modWork c f).cv c = s.cv c := by simp [State.cv, Channel.cv]

theorem State.cv_modControl (s : State) (c : Chan) (f : Control → Control) :
    (s.modControl c f).cv c =
      { s.cv c with mode := (f (s.ch c).control).mode, state := (f (s.ch c).control).state, owner := (f (s.ch c).control).owner } := by
  simp [State.cv, Channel.cv]

theorem State.cv_modCue (s : State) (c : Chan) (f : CueContext → CueContext) :
    (s.modCue c f).cv c = { s.cv c with waiting := (f (s.ch c).cue).pendingCue, playing := (f (s.ch c).cue).playing } := by
  simp [State.cv, Channel.cv]

/-- A change of the channel record that leaves the mode, the state and the owner. -/
theorem State.cv_modControl_same (s : State) (c : Chan) (f : Control → Control)
    (hf : (f (s.ch c).control).mode = (s.ch c).control.mode ∧ (f (s.ch c).control).state = (s.ch c).control.state ∧
      (f (s.ch c).control).owner = (s.ch c).control.owner) : (s.modControl c f).cv c = s.cv c := by
  rw [State.cv_modControl, hf.1, hf.2.1, hf.2.2]; rfl

/-- A change of the cues that leaves the pending and the playing cue. -/
theorem State.cv_modCue_same (s : State) (c : Chan) (f : CueContext → CueContext)
    (hf : (f (s.ch c).cue).pendingCue = (s.ch c).cue.pendingCue ∧ (f (s.ch c).cue).playing = (s.ch c).cue.playing) : (s.modCue c f).cv c = s.cv c := by
  rw [State.cv_modCue, hf.1, hf.2]; rfl

@[simp] theorem State.cv_setState (s : State) (c : Chan) (x : ChannelState) : (s.setState c x).cv c = { s.cv c with state := x } := by
  simp [State.setState, State.cv_modControl]; simp [State.cv, Channel.cv]

@[simp] theorem State.cv_modRecord (s : State) (c : Chan) (f : TakeoverRecord → TakeoverRecord) : (s.modRecord c f).cv c = s.cv c := by
  unfold State.modRecord
  split
  · rfl
  · exact State.cv_modControl_same _ _ _ ⟨rfl, rfl, rfl⟩

/-! ## CANCEL, STOP and CUE -/

theorem CueOnly.cv_control (h : CueOnly c s t) : (t.cv c).mode = (s.cv c).mode ∧ (t.cv c).state = (s.cv c).state ∧ (t.cv c).owner = (s.cv c).owner := by
  simp [State.cv, Channel.cv, h.control]

/-- An operation of the Cue Engine alone: its view by its cues. -/
theorem CueOnly.cv_eq (h : CueOnly c s t) : t.cv c = { s.cv c with waiting := (t.ch c).cue.pendingCue, playing := (t.ch c).cue.playing } := by
  simp [State.cv, Channel.cv, h.control]

@[simp] theorem State.cv_cancelCue (s : State) (c : Chan) (x : Cue) : (s.cancelCue c x).cv c = s.cv c := by
  rw [((CueOnly.refl c s).cancelCue x).cv_eq, State.cancelCue_cue]; rfl

@[simp] theorem State.cv_sendCancel (s : State) (c : Chan) (server : Fin 8) (player number : Nat) :
    (s.sendCancel c server player number).cv c = s.cv c := by
  unfold State.sendCancel
  split <;> rfl

@[simp] theorem State.cv_cancelPending (s : State) (c : Chan) : (s.cancelPending c).cv c = { s.cv c with waiting := none } := by
  rw [(CueOnly.refl c s).cancelPending.cv_eq, State.cancelPending_cue]; rfl

@[simp] theorem State.cv_stopPlaying (s : State) (c : Chan) : (s.stopPlaying c).cv c = { s.cv c with playing := none } := by
  rw [(CueOnly.refl c s).stopPlaying.cv_eq, State.stopPlaying_cue]; rfl

@[simp] theorem State.cv_clearWait (s : State) (c : Chan) : (s.clearWait c).cv c = s.cv c := State.cv_modCue_same _ _ _ ⟨rfl, rfl⟩

@[simp] theorem State.cv_requestCancel (s : State) (c : Chan) : (s.requestCancel c).cv c = { s.cv c with waiting := none } := by
  simp [State.requestCancel]

@[simp] theorem State.cv_endCues (s : State) (c : Chan) : (s.endCues c).cv c = { s.cv c with waiting := none, playing := none } := by
  rw [(CueOnly.refl c s).endCues.cv_eq, State.endCues_cue]

theorem State.cv_sendCue (s : State) (c : Chan) (p : Port) (kind : CueKind) (e : Event) (offset x used limit : Nat) :
    (s.sendCue c p kind e offset x used limit).cv c =
      { s.cv c with waiting := some (s.makeCue c kind e offset x used limit (some (s.ch c).cue.nextNumber) .sent) } := by
  rw [((CueOnly.refl c s).sendCue p kind e offset x used limit).cv_eq, State.sendCue_cue]; rfl

@[simp] theorem State.cv_cueFailed (s : State) (c : Chan) : (s.cueFailed c).cv c = s.cv c := by simp [State.cueFailed]

@[simp] theorem State.cv_writeLink (s : State) (c : Chan) (j : JoinChoice) : (s.writeLink c j).cv c = s.cv c := by
  unfold State.writeLink
  split
  · dsimp only
    split
    · rw [State.cv_modCue_same _ _ _ ⟨rfl, rfl⟩, State.cv_modRecord]
    · exact State.cv_modCue_same _ _ _ ⟨rfl, rfl⟩
  · rfl

/-! ## Outcomes of joins (R129) -/

/-- What an exhaustion makes of the view (R129). -/
def CueView.exhausted (v : CueView) : CueView :=
  match v.state with
  | .cueing => { v with state := .main }
  | .standby => { v with state := .fill, playing := none }
  | _ => v

/-- What a finding of NO_SCHEDULE makes of the view (R129). -/
def CueView.noSchedule (v : CueView) : CueView :=
  match v.state with
  | .cueing => { v with state := .fill }
  | .standby => { v with state := .fill, playing := none }
  | _ => v

theorem State.cv_state (s : State) (c : Chan) : (s.cv c).state = s.chState c := rfl

theorem State.cv_exhausted (s : State) (c : Chan) : (s.exhausted c).cv c = (s.cv c).exhausted := by
  unfold State.exhausted CueView.exhausted
  rw [State.cv_state]
  cases h : s.chState c <;> dsimp only
  case cueing =>
    rw [State.cv_cueFailed, State.cv_modControl_same]
    · simp
    · exact ⟨rfl, rfl, rfl⟩
  case fill => simp
  case standby => simp
  case returnGuard | returning =>
    rw [State.cv_cueFailed, State.cv_modControl_same]
    exact ⟨rfl, rfl, rfl⟩

theorem State.cv_noSchedule (s : State) (c : Chan) : (s.noSchedule c).cv c = (s.cv c).noSchedule := by
  unfold State.noSchedule CueView.noSchedule
  rw [State.cv_state]
  cases h : s.chState c <;> dsimp only
  case cueing => simp
  case fill => simp
  case standby => simp
  case returnGuard | returning => exact State.cv_modControl_same _ _ _ ⟨rfl, rfl, rfl⟩

/-- What a computed join leaves: the view as it was, a JOIN sent, or one of the outcomes of R129. -/
inductive Joined (v : CueView) : CueView → Prop where
  | same : Joined v v
  | sent (x : Cue) (kind : x.kind = .join) (status : x.status = .sent) : Joined v { v with waiting := some x }
  | exhausted : Joined v v.exhausted
  | noSchedule : Joined v v.noSchedule

theorem joined_runJoin (fuel : Nat) (s : State) (c : Chan) (used limit : Nat) : Joined (s.cv c) ((State.runJoin fuel s c used limit).cv c) := by
  induction fuel generalizing s used with
  | zero => exact .same
  | succ fuel ih =>
    unfold State.runJoin
    dsimp only
    have hlink : (s.writeLink c (s.chooseJoin c)).cv c = s.cv c := State.cv_writeLink _ _ _
    split
    · rw [State.cv_noSchedule, State.cv_modCue_same _ _ _ ⟨rfl, rfl⟩, hlink]
      exact .noSchedule
    · split
      · rw [State.cv_sendCue, hlink]
        exact .sent _ rfl rfl
      · split
        · have := ih ((s.writeLink c (s.chooseJoin c)).bumpCh c .noServerFailures) (used + 1)
          rwa [State.cv_bumpCh, hlink] at this
        · rw [State.cv_exhausted, State.cv_bumpCh, hlink]
          exact .exhausted

theorem joined_join (s : State) (c : Chan) (used limit : Nat) : Joined (s.cv c) ((s.join c used limit).cv c) := joined_runJoin _ _ _ _ _

theorem steered_exhausted (v : CueView) : Steered v v.exhausted := by
  unfold CueView.exhausted
  cases h : v.state <;> exact ⟨rfl, rfl, by simp [h], by simp [h]⟩

theorem steered_noSchedule (v : CueView) : Steered v v.noSchedule := by
  unfold CueView.noSchedule
  cases h : v.state <;> exact ⟨rfl, rfl, by simp [h], by simp [h]⟩

theorem Joined.steered {v w : CueView} (h : Joined v w) : Steered v w := by
  cases h with
  | same => exact .refl v
  | sent => exact ⟨rfl, rfl, Iff.rfl, id⟩
  | exhausted => exact steered_exhausted v
  | noSchedule => exact steered_noSchedule v

/-- A view with no pending cue is ruled when its playing cue is on the standby path. -/
theorem CueView.Ruled.of_waiting_none {v : CueView} (h : v.waiting = none)
    (hp : v.playing ≠ none → v.state = .standby ∨ v.state = .returnGuard ∨ v.state = .returning) : v.Ruled :=
  ⟨by simp [h], fun _ => h, hp, by simp [h]⟩

theorem CueView.Ruled.cancel {v : CueView} (h : v.Ruled) : { v with waiting := none }.Ruled := .of_waiting_none rfl h.playing

theorem CueView.Ruled.outcome {v : CueView} (h : v.Ruled) (hw : v.waiting = none ∨ v.state = .fill) : v.exhausted.Ruled ∧ v.noSchedule.Ruled := by
  rcases hw with hw | hf
  · unfold CueView.exhausted CueView.noSchedule
    have := h.playing
    cases hs : v.state <;> exact ⟨.of_waiting_none hw (by simp_all), .of_waiting_none hw (by simp_all)⟩
  · have he : v.exhausted = v := by unfold CueView.exhausted; rw [hf]
    have hn : v.noSchedule = v := by unfold CueView.noSchedule; rw [hf]
    rw [he, hn]
    exact ⟨h, h⟩

/-- R150, R161: a join keeps the rules in a channel on its way to standby, with no cue pending, or in FILL. -/
theorem Joined.ruled {v w : CueView} (h : Joined v w) (hv : v.Ruled) (hs : v.state ≠ .main ∧ v.state ≠ .outOfService)
    (hw : v.waiting = none ∨ v.state = .fill) : w.Ruled := by
  cases h with
  | same => exact hv
  | sent x hk hx => exact ⟨fun y hy => by cases hy; simp [hx], fun hm => absurd hm (by simp [hs]), hv.playing, fun y hy => by cases hy; simp [hk]⟩
  | exhausted => exact (hv.outcome hw).1
  | noSchedule => exact (hv.outcome hw).2

/-- Table 8-1, join with fresh attempts: the pending cue is given up and a join computed. -/
theorem joined_requestJoin (s : State) (c : Chan) : Joined { s.cv c with waiting := none } ((s.requestJoin c).cv c) := by
  unfold State.requestJoin
  have := joined_join ((s.cancelPending c).clearWait c) c 0 (s.ch c).settings.cueAttempts
  rwa [State.cv_clearWait, State.cv_cancelPending] at this

/-! ## Follow-ons (R161, R162) -/

/-- What a follow-on check leaves: the view as it was, or a pending FOLLOW_ON beside a playing cue on the standby path. -/
inductive Followed (v : CueView) : CueView → Prop where
  | same : Followed v v
  | sent (x : Cue) (kind : x.kind = .followOn) (path : onStandbyPath v.state = true) (playing : v.playing ≠ none) :
      Followed v { v with waiting := some x }

theorem followOnTarget_some {e : Event} (h : s.followOnTarget c = some e) : onStandbyPath (s.cv c).state = true ∧ (s.cv c).playing ≠ none ∧ (s.cv c).waiting = none := by
  unfold State.followOnTarget at h
  split at h
  · rename_i hpath hwait hplay
    exact ⟨hpath, by simp [State.cv, Channel.cv, hplay], hwait⟩
  · cases h

theorem followed_runFollowOn (fuel : Nat) (s : State) (c : Chan) (used limit : Nat) : Followed (s.cv c) ((State.runFollowOn fuel s c used limit).cv c) := by
  induction fuel generalizing s used with
  | zero => exact .same
  | succ fuel ih =>
    unfold State.runFollowOn
    split
    · exact .same
    · rename_i e he
      obtain ⟨hpath, hplay, -⟩ := followOnTarget_some he
      dsimp only
      split
      · rw [State.cv_sendCue]
        exact .sent _ rfl hpath hplay
      · split
        · exact ih (s.bumpCh c .noServerFailures) (used + 1)
        · rw [State.cv_modCue]
          exact .sent _ rfl hpath hplay

theorem followed_followOnCheck (s : State) (c : Chan) : Followed (s.cv c) ((s.followOnCheck c).cv c) := followed_runFollowOn _ _ _ _ _

theorem Followed.sound {v w : CueView} (h : Followed v w) : Sound v w := by
  cases h with
  | same => exact .refl v
  | sent x hk hpath hplay =>
    refine ⟨⟨rfl, rfl, Iff.rfl, id⟩, fun hv => ⟨fun y hy _ => ?_, fun hm => ?_, hv.playing, fun _ _ _ => hplay⟩⟩
    · cases hy; exact hk
    · exact absurd hpath (by rcases hm with hm | hm <;> rw [show v.state = _ from hm] <;> decide)

theorem sound_followOnCheck (s : State) (c : Chan) : Sound (s.cv c) ((s.followOnCheck c).cv c) := (followed_followOnCheck s c).sound

/-! ## Cues that fail, answers, notices and switches -/

theorem sound_cancelPending (s : State) (c : Chan) : Sound (s.cv c) ((s.cancelPending c).cv c) := by
  rw [State.cv_cancelPending]
  exact ⟨⟨rfl, rfl, Iff.rfl, id⟩, CueView.Ruled.cancel⟩

/-- A pending cue given up, and a join computed: in service and off the main path. -/
theorem sound_joinAfter {v w : CueView} (h : Joined { v with waiting := none } w) (hs : v.Ruled → v.state ≠ .main ∧ v.state ≠ .outOfService) : Sound v w :=
  ⟨⟨h.steered.mode, h.steered.owner, h.steered.service, h.steered.returning⟩, fun hv => h.ruled hv.cancel (hs hv) (.inl rfl)⟩

/-- A channel with a pending cue is in service and off the main path. -/
theorem CueView.Ruled.off_main {v : CueView} (h : v.Ruled) (hw : v.waiting ≠ none) : v.state ≠ .main ∧ v.state ≠ .outOfService :=
  ⟨fun hm => hw (h.noneInMain (.inl hm)), fun hm => hw (h.noneInMain (.inr hm))⟩

theorem sound_exhaustedAfter (v : CueView) : Sound v { v with waiting := none }.exhausted :=
  have h := steered_exhausted { v with waiting := none }
  ⟨⟨h.mode, h.owner, h.service, h.returning⟩, fun hv => (hv.cancel.outcome (.inl rfl)).1⟩

theorem sound_failJoin (hw : (s.cv c).waiting ≠ none) (x : Cue) : Sound (s.cv c) ((s.failJoin c x).cv c) := by
  unfold State.failJoin
  dsimp only
  split
  · have := joined_join (s.cancelPending c) c (x.used + 1) x.limit
    rw [State.cv_cancelPending] at this
    exact sound_joinAfter this fun hv => hv.off_main hw
  · rw [State.cv_exhausted, State.cv_cancelPending]
    exact sound_exhaustedAfter _

theorem sound_failFollowOn {x : Cue} (hw : (s.cv c).waiting = some x) (hk : x.kind = .followOn) : Sound (s.cv c) ((s.failFollowOn c x).cv c) := by
  unfold State.failFollowOn
  split
  · exact (sound_cancelPending s c).trans (followed_runFollowOn _ _ _ _ _).sound
  · have : ((s.cancelCue c x).ch c).cue.playing = (s.cv c).playing := by simp [State.cv, Channel.cv]
    rw [State.cv_modCue, State.cv_cancelCue, this]
    exact ⟨⟨rfl, rfl, Iff.rfl, id⟩, fun hv => ⟨fun y hy _ => by cases hy; exact hk, fun hm => absurd (hv.noneInMain hm) (by simp [hw]), hv.playing,
      fun _ _ _ => hv.followOn x hw hk⟩⟩

theorem sound_recomputeCue (x : Cue) (hw : (s.cv c).waiting = none) (hs : (s.cv c).state ≠ .main ∧ (s.cv c).state ≠ .outOfService) :
    Sound (s.cv c) ((s.recomputeCue c x).cv c) := by
  unfold State.recomputeCue
  split
  · have := joined_join s c x.used x.limit
    exact ⟨this.steered, fun hv => this.ruled hv hs (.inl hw)⟩
  · exact (followed_runFollowOn _ _ _ _ _).sound

theorem sound_recheckTouched (s : State) (c : Chan) (touched : Option Cue) : Sound (s.cv c) ((s.recheckTouched c touched).cv c) := by
  unfold State.recheckTouched
  split
  · split
    · exact (followed_runFollowOn _ _ _ _ _).sound
    · exact .refl _
  · exact .refl _

theorem touchedPending_some {notice : Notice} {x : Cue} (h : s.touchedPending c notice = some x) : (s.cv c).waiting = some x := by
  unfold State.touchedPending at h
  split at h
  · cases h
  · rename_i y hy
    dsimp only at h
    split_ifs at h
    cases h
    exact hy

/-- R165 to R168: the touched pending cue given up first. -/
theorem cv_afterTouched (s : State) (c : Chan) (touched : Option Cue) :
    ((if touched.isSome then (s.cancelPending c).bumpCh c .recomputes else s).cv c) =
      if touched.isSome then { s.cv c with waiting := none } else s.cv c := by
  split
  · rw [State.cv_bumpCh, State.cv_cancelPending]
  · rfl

theorem sound_afterTouched (v : CueView) (b : Bool) : Sound v (if b then { v with waiting := none } else v) := by
  split
  · exact ⟨⟨rfl, rfl, Iff.rfl, id⟩, CueView.Ruled.cancel⟩
  · exact .refl v

theorem sound_playingMoved (s : State) (c : Chan) (e : Event) :
    Sound (s.cv c) ((s.modCue c fun y => { y with playing := y.playing.map fun q => { q with event := e } }).cv c) := by
  rw [State.cv_modCue]
  have hp : ((s.ch c).cue.playing.map fun q => { q with event := e }) ≠ none ↔ (s.cv c).playing ≠ none := by
    simp [State.cv, Channel.cv]
  exact ⟨⟨rfl, rfl, Iff.rfl, id⟩, fun hv => ⟨hv.failed, hv.noneInMain, fun h => hv.playing (hp.1 h), fun y hy hk => hp.2 (hv.followOn y hy hk)⟩⟩

theorem sound_takeNotice (hr : (s.cv c).Ruled) (notice : Notice) : Sound (s.cv c) ((s.takeNotice c notice).cv c) := by
  unfold State.takeNotice
  dsimp only
  generalize htouched : s.touchedPending c notice = touched
  have hafter := cv_afterTouched s c touched
  have hsound := sound_afterTouched (s.cv c) touched.isSome
  rw [← hafter] at hsound
  generalize hu : (if touched.isSome then (s.cancelPending c).bumpCh c .recomputes else s) = u at *
  have hu' := hsound.ruled hr
  have hwait : touched.isSome = true → (u.cv c).waiting = none := fun ht => by rw [hafter, ht]; rfl
  have hoff : touched.isSome = true → (u.cv c).state ≠ .main ∧ (u.cv c).state ≠ .outOfService := fun ht => by
    obtain ⟨x, rfl⟩ := Option.isSome_iff_exists.1 ht
    have := hr.off_main (by simp [touchedPending_some htouched])
    rw [hafter]
    exact this
  split
  · rename_i p hp
    have hplaying : (u.cv c).playing ≠ none := by
      intro hn
      have : (u.ch c).cue.playing = none := hn
      simp [this] at hp
    have hpath := hu'.playing hplaying
    have hoffPath : (u.cv c).state ≠ .main ∧ (u.cv c).state ≠ .outOfService := by rcases hpath with h | h | h <;> simp [h]
    split
    · have hjoin := joined_join (u.cancelPending c) c 0 (s.ch c).settings.cueAttempts
      rw [State.cv_cancelPending] at hjoin
      exact hsound.trans ((sound_joinAfter hjoin fun _ => hoffPath).trans (sound_recheckTouched _ _ _))
    · rename_i e he
      have hmoved := sound_playingMoved u c e
      cases touched with
      | none => exact hsound.trans hmoved
      | some x =>
        refine hsound.trans (hmoved.trans (sound_recomputeCue _ ?_ ?_))
        · rw [State.cv_modCue]; exact hwait rfl
        · rw [State.cv_modCue]; exact hoff rfl
  · cases touched with
    | some x => exact hsound.trans (sound_recomputeCue _ (hwait rfl) (hoff rfl))
    | none =>
      split
      · rename_i heq
        cases heq
      · rename_i used most _ hrecheck
        have hfill : (u.cv c).state = .fill := by
          rw [hafter]
          by_contra hn
          have : ¬ (recheckNotice notice && s.chState c == .fill) = true := by
            simp only [Bool.and_eq_true, beq_iff_eq, not_and]
            exact fun _ hf => hn hf
          simp [this] at hrecheck
        have hjoin := joined_join (u.clearWait c) c used most
        rw [State.cv_clearWait] at hjoin
        exact hsound.trans ⟨hjoin.steered, fun hv => hjoin.ruled hv (by simp [hfill]) (.inr hfill)⟩
      · exact hsound

end Sys2Proof.Machine

/-! PROOFS. The Channel Controller's operations on a channel's state, mode, owner and cues (R126 to R142), and what they keep of `ControlInv`. -/

namespace Sys2Proof.Machine

-- Each elaboration thread takes a large stack, and the text is compiled as one file under a memory limit: one thread at a time.
set_option Elab.async false

variable {s t : State} {c : Chan}

/-- On the way back to the main path. -/
def CueView.Returning (v : CueView) : Prop := v.state = .returnGuard ∨ v.state = .returning

/-- What the Channel Controller's operations keep of a channel in or out of service, `lost` being whether the site is LOST (R87, R120, R150). -/
structure Guided (lost : Prop) (v w : CueView) : Prop where
  mode : w.mode = .outOfService ↔ v.mode = .outOfService
  service : w.state = .outOfService ↔ v.state = .outOfService
  owner : lost → v.owner = .localSite → w.owner = .localSite
  returning : lost → ¬v.Returning → ¬w.Returning
  ruled : v.Ruled → w.Ruled

variable {lost : Prop} {u v w : CueView}

theorem Guided.refl (v : CueView) : Guided lost v v := ⟨Iff.rfl, Iff.rfl, fun _ => id, fun _ => id, id⟩

theorem Guided.trans (h : Guided lost u v) (k : Guided lost v w) : Guided lost u w :=
  ⟨k.mode.trans h.mode, k.service.trans h.service, fun hl hu => k.owner hl (h.owner hl hu), fun hl hu => k.returning hl (h.returning hl hu),
   fun hu => k.ruled (h.ruled hu)⟩

theorem Sound.guided (h : Sound v w) : Guided lost v w :=
  ⟨by rw [h.steered.mode], h.steered.service, fun _ hv => h.steered.owner.trans hv, fun _ hv hw => hv (h.steered.returning hw), h.ruled⟩

/-- R87: what a LOST site asks of a channel. -/
def CueView.Lost (v : CueView) : Prop := v.owner = .localSite ∧ ¬v.Returning

/-- `ControlInv`, with the clauses that join a channel to its mode and to the site asked of the channels of `X` alone: a sweep over the channels establishes these
one channel after another. -/
structure ControlOn (X : Chan → Prop) (s : State) : Prop where
  units : ∀ c, UnitInv (s.ch c)
  cues : ∀ c, CueInv (s.ch c)
  service : ∀ c, X c → ((s.ch c).control.state = .outOfService ↔ (s.ch c).control.mode = .outOfService)
  lost : s.site.state = .lost → ∀ c, X c → (s.cv c).Lost
  beforeLoad : s.loading = true → ∀ c, (s.ch c).control.state = .outOfService

variable {X Y : Chan → Prop}

theorem ControlInv.on (h : ControlInv s) (X : Chan → Prop) : ControlOn X s :=
  ⟨h.units, h.cues, fun c _ => h.service c, fun hl c _ => by
    obtain ⟨ho, hg, hr⟩ := h.lost hl c
    exact ⟨ho, not_or.2 ⟨hg, hr⟩⟩, h.beforeLoad⟩

theorem ControlOn.controlInv (h : ControlOn (fun _ => True) s) : ControlInv s :=
  ⟨h.units, h.cues, fun c => h.service c trivial, fun hs c => by
    obtain ⟨ho, hr⟩ := h.lost hs c trivial
    exact ⟨ho, fun h => hr (.inl h), fun h => hr (.inr h)⟩, h.beforeLoad⟩

theorem ControlOn.mono (h : ControlOn X s) (hY : ∀ c, Y c → X c) : ControlOn Y s :=
  ⟨h.units, h.cues, fun c hc => h.service c (hY c hc), fun hl c hc => h.lost hl c (hY c hc), h.beforeLoad⟩

theorem ControlOn.ruled (h : ControlOn X s) (c : Chan) : (s.cv c).Ruled := (h.cues c).ruled

/-- A change of one channel, which meets its own clauses after it. -/
theorem ControlOn.replace (h : ControlOn X s) (hothers : ∀ c', c' ≠ c → t.ch c' = s.ch c') (hsite : t.site.state = s.site.state) (hconfig : t.mgmt.config = s.mgmt.config)
    (hunits : UnitInv (t.ch c)) (hcues : (t.cv c).Ruled) (hservice : Y c → ((t.ch c).control.state = .outOfService ↔ (t.ch c).control.mode = .outOfService))
    (hlost : s.site.state = .lost → Y c → (t.cv c).Lost) (hload : s.loading = true → (t.ch c).control.state = .outOfService)
    (hY : ∀ c', c' ≠ c → Y c' → X c') : ControlOn Y t := by
  have of_others : ∀ {P : Chan → Channel → Prop}, (∀ c', c' ≠ c → P c' (s.ch c')) → P c (t.ch c) → ∀ c', P c' (t.ch c') := fun hP hc c' => by
    by_cases he : c' = c
    · exact he ▸ hc
    · rw [hothers c' he]; exact hP c' he
  have hloading : t.loading = s.loading := by
    unfold State.loading
    rw [hconfig]
  exact ⟨of_others (P := fun _ => UnitInv) (fun c' _ => h.units c') hunits, of_others (P := fun _ => CueInv) (fun c' _ => h.cues c') hcues.cueInv,
    of_others (P := fun c x => Y c → (x.control.state = .outOfService ↔ x.control.mode = .outOfService)) (fun c' hc hX => h.service c' (hY c' hc hX)) hservice,
    fun hl => of_others (P := fun c x => Y c → x.cv.Lost) (fun c' hc hX => h.lost (hsite ▸ hl) c' (hY c' hc hX)) (hlost (hsite ▸ hl)),
    fun hl => of_others (P := fun _ x => x.control.state = .outOfService) (fun c' _ => h.beforeLoad (hloading ▸ hl) c') (hload (hloading ▸ hl))⟩

/-- An operation made for channel `c` alone that guides it keeps the invariant of the channels. -/
theorem CueLocal.controlOn (h : CueLocal c s t) (hs : ControlOn X s) (hc : Guided (s.site.state = .lost) (s.cv c) (t.cv c)) : ControlOn X t := by
  have hslots : (t.ch c).slots = (s.ch c).slots := (congrArg Channel.slots h.channel :)
  have halign : (t.ch c).align = (s.ch c).align := (congrArg Channel.align h.channel :)
  have hheld : (t.ch c).unitsHeld = (s.ch c).unitsHeld := by unfold Channel.unitsHeld; rw [hslots, halign]
  have hu := hs.units c
  refine hs.replace h.others (by rw [h.site]) (congrArg Management.config h.mgmt :)
    ⟨by rw [halign, hheld]; exact hu.units, by rw [hslots]; exact hu.mainPlaces, by rw [hslots]; exact hu.standbyPlaces, fun ho => ?_⟩
    (hc.ruled (hs.ruled c)) (fun hX => hc.service.trans ((hs.service c hX).trans hc.mode.symm)) (fun hl hX => ?_)
    (fun hl => hc.service.2 (hs.beforeLoad hl c)) fun _ _ => id
  · rw [hheld]
    exact hu.out (hc.service.1 ho)
  · obtain ⟨ho, hr⟩ := hs.lost hl c hX
    exact ⟨hc.owner hl ho, hc.returning hl hr⟩

/-! ## Landing off the way back -/

/-- An operation that leaves the channel in service, not on the way back, and ruled. -/
structure Landed (v w : CueView) : Prop where
  mode : w.mode = v.mode
  owner : w.owner = v.owner
  inService : w.state ≠ .outOfService
  notReturning : ¬w.Returning
  ruled : w.Ruled

theorem Landed.guided (h : Landed v w) (hv : v.state ≠ .outOfService) : Guided lost v w :=
  ⟨by rw [h.mode], iff_of_false h.inService hv, fun _ ho => h.owner.trans ho, fun _ _ => h.notReturning, fun _ => h.ruled⟩

/-- A join computed in a channel in CUEING, FILL or STANDBY with no cue pending lands. -/
theorem landed_of_joined (h : Joined u w) (hu : u.Ruled) (hw : u.waiting = none) (hstate : u.state = .cueing ∨ u.state = .fill ∨ u.state = .standby)
    (hm : u.mode = v.mode) (ho : u.owner = v.owner) : Landed v w := by
  have hs := h.steered
  refine ⟨hs.mode.trans hm, hs.owner.trans ho, ?_, fun hr => ?_, h.ruled hu (by rcases hstate with h | h | h <;> simp [h]) (.inl hw)⟩
  · rw [Ne, hs.service]; rcases hstate with h | h | h <;> simp [h]
  · have := hs.returning hr
    rcases hstate with h | h | h <;> simp [h] at this

/-- R126, R130, R134: a channel in CUEING, FILL or STANDBY asks for a join with fresh attempts. -/
theorem landed_requestJoin (hr : { s.cv c with waiting := none }.Ruled)
    (hstate : (s.cv c).state = .cueing ∨ (s.cv c).state = .fill ∨ (s.cv c).state = .standby) (hm : (s.cv c).mode = v.mode)
    (ho : (s.cv c).owner = v.owner) : Landed v ((s.requestJoin c).cv c) := landed_of_joined (joined_requestJoin s c) hr rfl hstate hm ho

@[simp] theorem State.cv_openRecord (s : State) (c : Chan) (cause : TakeoverCause) (asserted : List Detector) (origin : Option Origin) :
    (s.openRecord c cause asserted origin).cv c = s.cv c := by
  unfold State.openRecord
  dsimp only
  split <;> exact State.cv_modControl_same _ _ _ ⟨rfl, rfl, rfl⟩

/-- A channel off the standby path plays no cue. -/
theorem CueView.Ruled.playing_none (h : v.Ruled) (hs : v.state ≠ .standby) (hg : ¬v.Returning) : v.playing = none := by
  by_contra hp
  rcases h.playing hp with h | h | h
  · exact hs h
  · exact hg (.inl h)
  · exact hg (.inr h)

/-- R126: a takeover acted on. -/
theorem landed_takeover (hr : (s.cv c).Ruled) (hm : s.chState c = .main) (cause : TakeoverCause) (asserted : List Detector) (origin : Option Origin) :
    Landed (s.cv c) ((s.takeover c cause asserted origin).cv c) := by
  have hstate : (s.cv c).state = .main := hm
  have hplaying := hr.playing_none (by simp [hstate]) (by simp [CueView.Returning, hstate])
  unfold State.takeover
  rw [if_pos hm]
  dsimp only
  refine landed_requestJoin ?_ ?_ ?_ ?_ <;> rw [State.cv_modCue_same _ _ _ ⟨rfl, rfl⟩] <;>
    simp only [State.cv_raise, State.cv_bumpCh, State.cv_setState]
  · rw [State.cv_modControl_same _ _ _ ⟨rfl, rfl, rfl⟩, State.cv_openRecord]
    exact .of_waiting_none rfl (fun hp => absurd hplaying hp)
  · cases cause <;> simp [takeoverState]
  · rw [State.cv_modControl_same _ _ _ ⟨rfl, rfl, rfl⟩, State.cv_openRecord]
  · rw [State.cv_modControl_same _ _ _ ⟨rfl, rfl, rfl⟩, State.cv_openRecord]

/-! ## Follow-on failures, the guard and the return (R130 to R134) -/

/-- R130: a follow-on failure with no cue playing any more. -/
theorem sound_followOnFailed (hp : (s.cv c).playing = none) : Sound (s.cv c) ((s.followOnFailed c).cv c) := by
  unfold State.followOnFailed
  cases hs : s.chState c <;> dsimp only
  case standby =>
    have hstate : (s.cv c).state = .standby := hs
    have h := landed_requestJoin (s := s.setState c .fill) (c := c) (v := s.cv c) (by rw [State.cv_setState]; exact .of_waiting_none rfl (fun h => absurd hp h))
      (by simp) (by simp) (by simp)
    exact ⟨⟨h.mode, h.owner, iff_of_false h.inService (by simp [hstate]), fun hr => absurd hr h.notReturning⟩, fun _ => h.ruled⟩
  case returnGuard | returning =>
    rw [State.cv_modControl_same _ _ _ ⟨rfl, rfl, rfl⟩]
    exact .refl _
  all_goals exact .refl _

/-- A channel that goes on the way back from the standby path, or with no cue. -/
theorem guided_return (hs : v.state = .standby ∨ v.state = .fill ∨ v.Returning) (hl : ¬lost ∨ v.Returning) {x : ChannelState}
    (hx : x = .returnGuard ∨ x = .returning) : Guided lost v { v with state := x } := by
  have hout : v.state ≠ .outOfService := by rcases hs with h | h | h | h <;> simp [h]
  refine ⟨Iff.rfl, iff_of_false (by rcases hx with h | h <;> simp [h]) hout, fun _ => id, fun hlost hr => ?_, fun hv => ?_⟩
  · exact hl.elim (fun h => absurd hlost h) fun h => absurd h hr
  · refine ⟨hv.failed, fun hm => ?_, fun _ => .inr hx, hv.followOn⟩
    rcases hx with rfl | rfl <;> simp at hm

theorem guided_cancel (v : CueView) : Guided lost v { v with waiting := none } :=
  Sound.guided ⟨⟨rfl, rfl, Iff.rfl, id⟩, CueView.Ruled.cancel⟩

/-- R131: the guard starts. -/
theorem guided_startGuard (hl : ¬lost) : Guided lost (s.cv c) ((s.startGuard c).cv c) := by
  unfold State.startGuard
  cases hs : s.chState c <;> dsimp only
  case standby =>
    rw [State.cv_setState, State.cv_modControl_same _ _ _ ⟨rfl, rfl, rfl⟩]
    exact guided_return (.inl hs) (.inl hl) (.inl rfl)
  case fill =>
    rw [State.cv_setState, State.cv_modControl_same _ _ _ ⟨rfl, rfl, rfl⟩, State.cv_requestCancel]
    exact (guided_cancel _).trans (guided_return (.inr (.inl hs)) (.inl hl) (.inl rfl))
  all_goals exact .refl _

theorem sound_tellReturn (s : State) (c : Chan) (r : Nat) : Sound (s.cv c) ((s.tellReturn c r).cv c) := by
  unfold State.tellReturn
  split
  · split
    · exact sound_cancelPending s c
    · exact .refl _
  · exact .refl _

/-- R133: a channel enters RETURNING. -/
theorem guided_enterReturning (hs : (s.cv c).state = .standby ∨ (s.cv c).state = .fill ∨ (s.cv c).Returning) (hl : ¬lost ∨ (s.cv c).Returning)
    (byPin : Bool) : Guided lost (s.cv c) ((s.enterReturning c byPin).cv c) := by
  have htell := sound_tellReturn ((s.modControl c fun y => { y with guard := none, returnPosition := some (s.computeReturn c byPin) }).setState c .returning) c
    (s.computeReturn c byPin)
  rw [State.cv_setState, State.cv_modControl_same _ _ _ ⟨rfl, rfl, rfl⟩] at htell
  exact (guided_return hs hl (.inr rfl)).trans htell.guided

@[simp] theorem State.cv_closeRecord (s : State) (c : Chan) : (s.closeRecord c).cv c = s.cv c := by
  unfold State.closeRecord
  dsimp only
  rw [State.cv_modControl_same _ _ _ ⟨rfl, rfl, rfl⟩, State.cv_raise, State.cv_bumpCh]

/-- R133: a channel arrives in MAIN. -/
theorem guided_arrive (hs : (s.cv c).state ≠ .outOfService) : Guided lost (s.cv c) ((s.arrive c).cv c) := by
  unfold State.arrive
  dsimp only
  rw [State.cv_closeRecord, State.cv_modRecord, State.cv_modControl_same _ _ _ ⟨rfl, rfl, rfl⟩, State.cv_endCues, State.cv_setState]
  exact ⟨Iff.rfl, iff_of_false (by simp) hs, fun _ => id, fun _ _ => by simp [CueView.Returning], fun _ => .of_waiting_none rfl nofun⟩

/-- R136, R138: a takeover given up in CUEING. -/
theorem guided_abandonTakeover (hs : (s.cv c).state = .cueing) : Guided lost (s.cv c) ((s.abandonTakeover c).cv c) := by
  unfold State.abandonTakeover
  dsimp only
  rw [State.cv_closeRecord, State.cv_modRecord, State.cv_modControl_same _ _ _ ⟨rfl, rfl, rfl⟩, State.cv_setState, State.cv_requestCancel]
  refine ⟨Iff.rfl, iff_of_false (by simp) (by simp [hs]), fun _ => id, fun _ _ => by simp [CueView.Returning], fun hv => ?_⟩
  exact .of_waiting_none rfl fun hp => absurd (hv.playing_none (by simp [hs]) (by simp [CueView.Returning, hs])) hp

/-- R134: a return called off lands. -/
theorem landed_callOff (hr : (s.cv c).Ruled) (bySite : Bool) : Landed (s.cv c) ((s.callOff c bySite).cv c) := by
  unfold State.callOff
  dsimp only
  have hclear : ((s.modControl c fun y => { y with guard := none, returnPosition := none, returnOrigin := none }).cv c) = s.cv c :=
    State.cv_modControl_same _ _ _ ⟨rfl, rfl, rfl⟩
  have hstandby : ∀ {x : CueView}, x = { s.cv c with state := .standby } → { x with waiting := none }.Ruled := by
    rintro x rfl
    exact .of_waiting_none rfl fun _ => .inl rfl
  split
  · exact landed_requestJoin (by rw [State.cv_setState, hclear]; exact hstandby rfl) (by simp) (by simp [hclear]) (by simp [hclear])
  · refine landed_requestJoin ?_ (by simp) (by simp [hclear]) (by simp [hclear])
    rw [State.cv_stopPlaying]
    exact .of_waiting_none rfl nofun
  · have h := sound_followOnCheck ((s.modControl c fun y => { y with guard := none, returnPosition := none, returnOrigin := none }).setState c .standby) c
    rw [State.cv_setState, hclear] at h
    refine ⟨h.steered.mode, h.steered.owner, by simp [h.steered.service], fun hret => ?_, h.ruled ⟨hr.failed, by simp, fun _ => .inl rfl, hr.followOn⟩⟩
    have := h.steered.returning hret
    simp at this

theorem landed_callOffReturn (hr : (s.cv c).Ruled) : Landed (s.cv c) ((s.callOffReturn c).cv c) := by
  unfold State.callOffReturn
  split
  · exact landed_callOff (s := s.bumpCh c .guardCancels) hr false
  · exact landed_callOff hr false

/-- R127: a FAILED notice in CUEING. -/
theorem guided_cueingFailed (hs : (s.cv c).state = .cueing) (asserted : List Detector) : Guided lost (s.cv c) ((s.cueingFailed c asserted).cv c) := by
  unfold State.cueingFailed
  dsimp only
  rw [State.cv_setState, State.cv_modControl_same _ _ _ ⟨rfl, rfl, rfl⟩, State.cv_modRecord]
  refine ⟨Iff.rfl, iff_of_false (by simp) (by simp [hs]), fun _ => id, fun _ _ => by simp [CueView.Returning], fun hv => ?_⟩
  exact ⟨hv.failed, by simp, fun hp => absurd (hv.playing_none (by simp [hs]) (by simp [CueView.Returning, hs])) hp, hv.followOn⟩

/-- A change of the channel record that leaves the mode, the state and the owner. -/
theorem guided_modControl (f : Control → Control)
    (hf : ∀ y, (f y).mode = y.mode ∧ (f y).state = y.state ∧ (f y).owner = y.owner := by exact fun _ => ⟨rfl, rfl, rfl⟩) :
    Guided lost (s.cv c) ((s.modControl c f).cv c) := by
  rw [State.cv_modControl_same _ _ _ (hf _)]
  exact .refl _

/-- A verdict notice (R125, R127, R131 to R133). -/
theorem guided_takeVerdict (n : VerdictNotice) (hr : (s.cv n.chan).Ruled) :
    Guided (s.site.state = .lost) (s.cv n.chan) ((s.takeVerdict n).cv n.chan) := by
  have hout : ∀ {x}, (s.ch n.chan).control.state = x → x ≠ .outOfService → (s.cv n.chan).state ≠ .outOfService := fun h hx hs => hx (h ▸ hs)
  unfold State.takeVerdict
  dsimp only
  split
  · rename_i hm _
    split
    · exact (landed_takeover hr hm _ _ _).guided (hout hm (by simp))
    · exact .refl _
  · rename_i hm _
    split
    · exact guided_cueingFailed hm _
    · exact .refl _
  · split
    · rename_i hg
      exact guided_startGuard fun hl => by simp [State.guardAllowed, hl] at hg
    · exact .refl _
  · split
    · rename_i hg
      exact guided_startGuard fun hl => by simp [State.guardAllowed, hl] at hg
    · exact .refl _
  · exact guided_modControl (s := s.bumpCh n.chan .guardRestarts) _
  · rename_i hm _
    exact (landed_callOffReturn hr).guided (hout hm (by simp))
  · rename_i hm _
    split
    · exact (landed_callOffReturn hr).guided (hout hm (by simp))
    · exact .refl _
  · exact .refl _

end Sys2Proof.Machine

/-! PROOFS. The invariant of the channels (`ControlInv`) under the named updates of the state, the Cue Engine, the Channel Controller and the Site Supervisor. -/

namespace Sys2Proof.Machine

-- Each elaboration thread takes a large stack, and the text is compiled as one file under a memory limit: one thread at a time.
set_option Elab.async false

variable {s t : State} {c : Chan} {X : Chan → Prop}

/-! ## The named updates of the state -/

/-- An update that leaves the site's state, the load and each channel's view, and keeps the units of each channel. -/
theorem ControlOn.of_still (h : ControlOn X s) (hsite : t.site.state = s.site.state) (hconfig : t.mgmt.config = s.mgmt.config)
    (hcv : ∀ c, t.cv c = s.cv c) (hu : ∀ c, UnitInv (s.ch c) → UnitInv (t.ch c)) : ControlOn X t := by
  have hstate : ∀ c, (t.ch c).control.state = (s.ch c).control.state := fun c => congrArg CueView.state (hcv c)
  have hmode : ∀ c, (t.ch c).control.mode = (s.ch c).control.mode := fun c => congrArg CueView.mode (hcv c)
  refine ⟨fun c => hu c (h.units c), fun c => CueView.Ruled.cueInv ?_, fun c hX => ?_, fun hl c hX => ?_, fun hl c => ?_⟩
  · have := (h.cues c).ruled
    rwa [show (t.ch c).cv = (s.ch c).cv from hcv c]
  · rw [hstate, hmode]; exact h.service c hX
  · rw [hcv]; exact h.lost (hsite ▸ hl) c hX
  · rw [hstate]
    refine h.beforeLoad ?_ c
    unfold State.loading at *
    rwa [← hconfig]

theorem ControlOn.modCh (h : ControlOn X s) (f : Channel → Channel) (hcv : (f (s.ch c)).cv = (s.ch c).cv)
    (hu : UnitInv (s.ch c) → UnitInv (f (s.ch c))) : ControlOn X (s.modCh c f) := by
  refine h.of_still rfl rfl (fun c' => ?_) fun c' => ?_
  · by_cases hc : c' = c
    · subst hc; simpa [State.cv] using hcv
    · simp [State.cv, hc]
  · by_cases hc : c' = c
    · subst hc; simpa using hu
    · simp [hc]

theorem UnitInv.of_eq {x y : Channel} (h : UnitInv x) (hs : y.slots = x.slots) (ha : y.align.freeUnits = x.align.freeUnits)
    (hm : y.align.mainHeld = x.align.mainHeld) (hb : y.align.standbyHeld = x.align.standbyHeld) (hc : y.control.state = x.control.state) : UnitInv y := by
  have hheld : y.unitsHeld = x.unitsHeld := by unfold Channel.unitsHeld; rw [hs, hm, hb]
  exact ⟨by rw [ha, hheld]; exact h.units, by rw [hs]; exact h.mainPlaces, by rw [hs]; exact h.standbyPlaces, by rw [hc, hheld]; exact h.out⟩

theorem ControlOn.modSettings (h : ControlOn X s) (f : ChannelSettings → ChannelSettings) : ControlOn X (s.modSettings c f) :=
  h.modCh _ rfl fun hu => hu.of_eq rfl rfl rfl rfl rfl
theorem ControlOn.modMonitor (h : ControlOn X s) (f : Monitor → Monitor) : ControlOn X (s.modMonitor c f) :=
  h.modCh _ rfl fun hu => hu.of_eq rfl rfl rfl rfl rfl
theorem ControlOn.modSchedule (h : ControlOn X s) (f : Schedule → Schedule) : ControlOn X (s.modSchedule c f) :=
  h.modCh _ rfl fun hu => hu.of_eq rfl rfl rfl rfl rfl
theorem ControlOn.modOutput (h : ControlOn X s) (f : Output → Output) : ControlOn X (s.modOutput c f) :=
  h.modCh _ rfl fun hu => hu.of_eq rfl rfl rfl rfl rfl
theorem ControlOn.modWork (h : ControlOn X s) (f : ChannelWork → ChannelWork) : ControlOn X (s.modWork c f) :=
  h.modCh _ rfl fun hu => hu.of_eq rfl rfl rfl rfl rfl

/-- A change of the Alignment Unit's record that leaves the pool and the held frames. -/
theorem ControlOn.modAlign (h : ControlOn X s) (f : Align → Align)
    (hf : ∀ y, (f y).freeUnits = y.freeUnits ∧ (f y).mainHeld = y.mainHeld ∧ (f y).standbyHeld = y.standbyHeld := by exact fun _ => ⟨rfl, rfl, rfl⟩) :
    ControlOn X (s.modAlign c f) := h.modCh _ rfl fun hu => hu.of_eq rfl (hf _).1 (hf _).2.1 (hf _).2.2 rfl

theorem ControlOn.modControl (h : ControlOn X s) (f : Control → Control)
    (hf : ∀ y, (f y).mode = y.mode ∧ (f y).state = y.state ∧ (f y).owner = y.owner := by exact fun _ => ⟨rfl, rfl, rfl⟩) :
    ControlOn X (s.modControl c f) := by
  refine h.modCh _ ?_ fun hu => hu.of_eq rfl rfl rfl rfl (hf _).2.1
  simp [Channel.cv, hf]

/-- An update that reaches no channel, leaves the site's state and the load. -/
theorem ControlOn.of_chans (h : ControlOn X s) (hc : t.chans = s.chans) (hsite : t.site.state = s.site.state) (hconfig : t.mgmt.config = s.mgmt.config) :
    ControlOn X t := by
  have hch : ∀ c, t.ch c = s.ch c := fun c => by unfold State.ch; rw [hc]
  exact h.of_still hsite hconfig (fun c => by unfold State.cv; rw [hch]) fun c hu => hch c ▸ hu

theorem ControlOn.bumpBy (h : ControlOn X s) (key : CounterKey) (n : Nat) : ControlOn X (s.bumpBy key n) := h.of_chans rfl rfl rfl
theorem ControlOn.bump (h : ControlOn X s) (key : CounterKey) : ControlOn X (s.bump key) := h.bumpBy _ _
theorem ControlOn.bumpCh (h : ControlOn X s) (k : ChanCtr) : ControlOn X (s.bumpCh c k) := h.bumpBy _ _
theorem ControlOn.bumpUnit (h : ControlOn X s) (k : UnitCtr) : ControlOn X (s.bumpUnit k) := h.bumpBy _ _
theorem ControlOn.send (h : ControlOn X s) (p : Port) (what : Outgoing) : ControlOn X (s.send p what) := h.of_chans rfl rfl rfl
theorem ControlOn.sendMain (h : ControlOn X s) (what : Outgoing) : ControlOn X (s.sendMain what) := (h.send _ _).send _ _
theorem ControlOn.modSlate (h : ControlOn X s) (i : Fin 8) (f : Slate → Slate) : ControlOn X (s.modSlate i f) := h.of_chans rfl rfl rfl
theorem ControlOn.mapSlates (h : ControlOn X s) (f : Slate → Slate) : ControlOn X (s.mapSlates f) := h.of_chans rfl rfl rfl
theorem ControlOn.modUnit (h : ControlOn X s) (f : UnitSettings → UnitSettings) : ControlOn X (s.modUnit f) := h.of_chans rfl rfl rfl
theorem ControlOn.modTime (h : ControlOn X s) (f : Timeline → Timeline) : ControlOn X (s.modTime f) := h.of_chans rfl rfl rfl
theorem ControlOn.setWork (h : ControlOn X s) (w : UnitWork) : ControlOn X { s with work := w } := h.of_chans rfl rfl rfl
theorem ControlOn.setPool (h : ControlOn X s) (n : Nat) : ControlOn X { s with poolFree := n } := h.of_chans rfl rfl rfl
theorem ControlOn.setPorts (h : ControlOn X s) (p : Ports) : ControlOn X { s with ports := p } := h.of_chans rfl rfl rfl
theorem ControlOn.setMgmt (h : ControlOn X s) (m : Management) (hm : m.config = s.mgmt.config) : ControlOn X { s with mgmt := m } := h.of_chans rfl rfl hm
theorem ControlOn.modSite (h : ControlOn X s) (f : Site → Site) (hf : ∀ x, (f x).state = x.state := by exact fun _ => rfl) : ControlOn X (s.modSite f) :=
  h.of_chans rfl (hf _) rfl
theorem ControlOn.modPath (h : ControlOn X s) (side : Side) (f : PathState → PathState) : ControlOn X (s.modPath side f) := by
  cases side <;> exact h.setPorts _
theorem ControlOn.modCtx (h : ControlOn X s) (o : Origin) (f : Context → Context) : ControlOn X (s.modCtx o f) := by
  cases o <;> exact h.setMgmt _ rfl

theorem ControlOn.reply (h : ControlOn X s) (o : Origin) (p : Port) (r : Reply) : ControlOn X (s.reply o p r) :=
  h.of_chans (by simp) (by simp) (by simp)

theorem ControlOn.raise (h : ControlOn X s) (r : Report) : ControlOn X (s.raise r) :=
  h.of_chans (by simp) (by simp) ((KeepsLists.refl s).raise r).config

theorem ControlOn.answer (h : ControlOn X s) (a : Asked) (result : Result) (clamped : Bool) (contents : List Atom) :
    ControlOn X (s.answer a result clamped contents) := h.reply _ _ _

/-! ## The Cue Engine -/

theorem CueLocal.controlOn_of_sound (h : CueLocal c s t) (hs : ControlOn X s) (hc : Sound (s.cv c) (t.cv c)) : ControlOn X t :=
  h.controlOn hs hc.guided

theorem ControlOn.takeNotice (h : ControlOn X s) (notice : Notice) : ControlOn X (s.takeNotice c notice) :=
  ((CueLocal.refl c s).takeNotice notice).controlOn_of_sound h (sound_takeNotice (h.ruled c) notice)

theorem ControlOn.followOnCheck (h : ControlOn X s) : ControlOn X (s.followOnCheck c) :=
  (CueLocal.refl c s).followOnCheck.controlOn_of_sound h (sound_followOnCheck s c)

theorem sound_judgeReady (s : State) (c : Chan) (server : Fin 8) (player number : Nat) :
    Sound (s.cv c) ((s.judgeReady c server player number).cv c) := by
  unfold State.judgeReady
  dsimp only
  split_ifs
  · split
    · rw [State.cv_modCue]
      refine ⟨⟨rfl, rfl, Iff.rfl, id⟩, fun hv => ⟨fun y hy hf => ?_, fun hm => ?_, hv.playing, fun y hy hk => ?_⟩⟩
      · obtain ⟨z, _, rfl⟩ := Option.map_eq_some_iff.1 hy
        simp at hf
      · have := hv.noneInMain hm
        simpa [State.cv, Channel.cv] using this
      · obtain ⟨z, hz, rfl⟩ := Option.map_eq_some_iff.1 hy
        exact hv.followOn z hz hk
    · exact .refl _
    · rw [State.cv_bumpCh, State.cv_sendCancel]
      exact .refl _
  · exact .refl _
  · rw [State.cv_bumpCh, State.cv_sendCancel]
    exact .refl _

theorem CueLocal.judgeReady (h : CueLocal c s t) (server : Fin 8) (player number : Nat) : CueLocal c s (t.judgeReady c server player number) := by
  unfold State.judgeReady
  dsimp only
  split_ifs
  · split
    · exact h.modCue _
    · exact h.bumpCh _
    · exact (h.sendCancel _ _ _).bumpCh _
  · exact h.bumpCh _
  · exact (h.sendCancel _ _ _).bumpCh _

theorem sound_judgeRefused (s : State) (c : Chan) (number : Nat) : Sound (s.cv c) ((s.judgeRefused c number).cv c) := by
  unfold State.judgeRefused
  split
  · rename_i x hx
    have hw : ((s.bumpCh c .cueRefusals).cv c).waiting = some x := hx
    split
    · dsimp only
      split
      · exact sound_failJoin (s := s.bumpCh c .cueRefusals) (c := c) (by rw [hw]; simp) x
      · rename_i hk
        exact sound_failFollowOn hw hk
    · exact .refl _
  · exact .refl _

theorem CueLocal.judgeRefused (h : CueLocal c s t) (number : Nat) : CueLocal c s (t.judgeRefused c number) := by
  unfold State.judgeRefused
  split
  · split
    · dsimp only
      split
      · exact (h.bumpCh _).failJoin _
      · exact (h.bumpCh _).failFollowOn _
    · exact h.bumpCh _
  · exact h.bumpCh _

theorem ControlOn.foldl {α : Type} (h : ControlOn X s) (l : List α) (f : State → α → State) (hf : ∀ u x, ControlOn X u → ControlOn X (f u x)) :
    ControlOn X (l.foldl f s) := by
  induction l generalizing s with
  | nil => exact h
  | cons x l ih => exact ih (hf s x h)

theorem ControlOn.takeReady (h : ControlOn X s) (server : Fin 8) (player number : Nat) : ControlOn X (s.takeReady server player number) := by
  unfold State.takeReady
  split
  · exact h.bumpUnit _
  · exact h.foldl _ _ fun u c hu => ((CueLocal.refl c u).judgeReady _ _ _).controlOn_of_sound hu (sound_judgeReady _ _ _ _ _)

theorem ControlOn.takeRefused (h : ControlOn X s) (server : Fin 8) (player number : Nat) : ControlOn X (s.takeRefused server player number) := by
  unfold State.takeRefused
  split
  · exact h.bumpUnit _
  · exact h.foldl _ _ fun u c hu => ((CueLocal.refl c u).judgeRefused _).controlOn_of_sound hu (sound_judgeRefused _ _ _)

theorem sound_realignCues (s : State) (c : Chan) : Sound (s.cv c) ((s.realignCues c).cv c) := by
  have joined : ∀ used limit, Joined { s.cv c with waiting := none } ((((s.cancelPending c).bumpCh c .recomputes).join c used limit).cv c) := fun used limit => by
    have := joined_join ((s.cancelPending c).bumpCh c .recomputes) c used limit
    rwa [State.cv_bumpCh, State.cv_cancelPending] at this
  have off : ∀ {x : ChannelState}, s.chState c = x → x ≠ .main → x ≠ .outOfService → (s.cv c).state ≠ .main ∧ (s.cv c).state ≠ .outOfService := fun h hm ho => by
    rw [State.cv_state, h]; exact ⟨hm, ho⟩
  unfold State.realignCues
  dsimp only
  split
  · rename_i h
    split
    · exact sound_joinAfter (joined _ _) fun _ => off h (by simp) (by simp)
    · exact .refl _
  · rename_i h
    split
    · exact sound_joinAfter (joined _ _) fun _ => off h (by simp) (by simp)
    · exact .refl _
  · rename_i h
    split
    · exact sound_joinAfter (joined _ _) fun _ => off h (by simp) (by simp)
    · exact .refl _
  · rename_i h
    split
    · exact sound_joinAfter (joined _ _) fun _ => off h (by simp) (by simp)
    · exact .refl _
  · exact sound_cancelPending s c
  · exact .refl _

theorem ControlOn.realignCues (h : ControlOn X s) : ControlOn X (s.realignCues c) :=
  (CueLocal.refl c s).realignCues.controlOn_of_sound h (sound_realignCues s c)

/-- What a switch makes of the state (R128). -/
def switchedState (x : ChannelState) (kind : CueKind) : ChannelState :=
  match x, kind with
  | .cueing, .join | .fill, .join => .standby
  | x, _ => x

theorem State.cv_switchTaken (s : State) (c : Chan) (kind : CueKind) (x : Nat) :
    (s.switchTaken c kind x).cv c = { s.cv c with state := switchedState (s.cv c).state kind } := by
  unfold State.switchTaken switchedState
  have same : ∀ y, s.chState c = y → s.cv c = { s.cv c with state := y } := fun y hy => by subst hy; rfl
  rw [State.cv_state]
  cases h : s.chState c <;> cases kind <;> dsimp only
  case cueing.join | fill.join => simp
  case standby.join | returnGuard.join | returning.join => exact (State.cv_raise ..).trans (same _ h)
  all_goals exact same _ h

/-- R159: the playing cue that a switch replaces is stopped when it stands on another server or player. -/
def State.stopReplaced (s : State) (c : Chan) (x : Cue) : State :=
  match (s.ch c).cue.playing with
  | some y => if y.server = x.server ∧ y.player = x.player then s else s.stopPlaying c
  | none => s

theorem State.switchCue_eq (s : State) (c : Chan) (x : Cue) :
    s.switchCue c x = ((((s.stopReplaced c x).modCue c fun y => { y with pendingCue := none, playing := some x }).bumpCh c .switches).switchTaken c x.kind
      x.switchPosition).followOnCheck c := rfl

theorem State.cv_stopReplaced (s : State) (c : Chan) (x : Cue) : ∃ p, (s.stopReplaced c x).cv c = { s.cv c with playing := p } := by
  unfold State.stopReplaced
  split
  · split
    · exact ⟨_, rfl⟩
    · exact ⟨_, State.cv_stopPlaying s c⟩
  · exact ⟨_, rfl⟩

/-- R159, R163: a pending cue becomes the playing cue. -/
theorem sound_switchCue {x : Cue} (hw : (s.cv c).waiting = some x) (hr : (s.cv c).Ruled) : Sound (s.cv c) ((s.switchCue c x).cv c) := by
  obtain ⟨hmain, hout⟩ := hr.off_main (by simp [hw])
  obtain ⟨p, hcv⟩ := State.cv_stopReplaced s c x
  rw [State.switchCue_eq]
  generalize s.stopReplaced c x = u at hcv ⊢
  have hswitch := sound_followOnCheck (((u.modCue c fun y => { y with pendingCue := none, playing := some x }).bumpCh c .switches).switchTaken c x.kind
    x.switchPosition) c
  refine Sound.trans ?_ hswitch
  rw [State.cv_switchTaken, State.cv_bumpCh, State.cv_modCue, hcv]
  have hpath : x.kind = .followOn → (s.cv c).state = .standby ∨ (s.cv c).state = .returnGuard ∨ (s.cv c).state = .returning :=
    fun hk => hr.playing (hr.followOn x hw hk)
  generalize s.cv c = v at *
  refine ⟨⟨rfl, rfl, ?_, ?_⟩, fun _ => .of_waiting_none rfl fun _ => ?_⟩ <;> dsimp only
  · cases hs : v.state <;> cases x.kind <;> simp [switchedState]
  · cases hs : v.state <;> cases x.kind <;> simp [switchedState]
  · cases hs : v.state <;> cases hk : x.kind <;> simp_all [switchedState]

/-! ## The Channel Controller's commands -/

/-- A command of one channel that guides its view. -/
theorem ControlOn.guide (h : ControlOn X s) (hl : CueLocal c s t) (hg : Guided (s.site.state = .lost) (s.cv c) (t.cv c)) : ControlOn X t := hl.controlOn h hg

theorem ControlOn.commandTake (h : ControlOn X s) (o : Origin) : ControlOn X (s.commandTake c o).1 := by
  unfold State.commandTake
  split_ifs with h1 h2 h3 h4
  all_goals try exact h
  have hm : s.chState c = .main := by simpa using h4
  exact h.guide ((CueLocal.refl c s).takeover _ _ _) ((landed_takeover (h.ruled c) hm _ _ _).guided (by rw [State.cv_state, hm]; simp))

theorem ControlOn.commandReturn (h : ControlOn X s) (o : Origin) : ControlOn X (s.commandReturn c o).1 := by
  unfold State.commandReturn
  split_ifs with h1 h2 h3 h4
  all_goals try exact h
  have set : ∀ {u : State} origin, (u.modControl c fun y => { y with returnOrigin := some origin }).cv c = u.cv c := fun _ => State.cv_modControl_same _ _ _ ⟨rfl, rfl, rfl⟩
  cases hs : s.chState c <;> dsimp only
  case standby =>
    have hg := guided_enterReturning (lost := s.site.state = .lost) (s := s.modControl c fun y => { y with returnOrigin := some .standby }) (c := c)
      (.inl (by rw [set]; exact hs)) (.inl h2) false
    rw [set] at hg
    exact h.guide (((CueLocal.refl c s).modControl _).enterReturning _) hg
  case fill =>
    have hg := guided_enterReturning (lost := s.site.state = .lost) (s := (s.requestCancel c).modControl c fun y => { y with returnOrigin := some .fill }) (c := c)
      (.inr (.inl (by rw [set, State.cv_requestCancel]; exact hs))) (.inl h2) false
    rw [set, State.cv_requestCancel] at hg
    exact h.guide (((CueLocal.refl c s).requestCancel.modControl _).enterReturning _) ((guided_cancel _).trans hg)
  case returnGuard =>
    exact h.guide ((CueLocal.refl c s).enterReturning _) (guided_enterReturning (.inr (.inr (.inl hs))) (.inl h2) false)
  case cueing => exact h.guide (CueLocal.refl c s).abandonTakeover (guided_abandonTakeover hs)
  all_goals exact h

theorem ControlOn.commandHold (h : ControlOn X s) (o : Origin) : ControlOn X (s.commandHold c o).1 := by
  unfold State.commandHold
  have suspended := h.modControl (c := c) fun y => { y with suspended := true }
  have calledOff : s.chState c ≠ .outOfService → ControlOn X ((s.modControl c fun y => { y with suspended := true }).callOffReturn c) := fun hs => by
    refine suspended.guide (CueLocal.refl c _).callOffReturn ((landed_callOffReturn (suspended.ruled c)).guided ?_)
    rw [State.cv_modControl_same _ _ _ ⟨rfl, rfl, rfl⟩]
    exact hs
  split_ifs
  all_goals try exact h
  cases hs : s.chState c <;> dsimp only
  case returnGuard | returning => exact calledOff (by simp [hs])
  case standby | fill => exact suspended
  all_goals exact h

@[simp] theorem State.cv_setPin (s : State) (c : Chan) (p : Pin) : (s.setPin c p).cv c = s.cv c := by
  unfold State.setPin
  dsimp only
  rw [State.cv_modControl_same _ _ _ ⟨rfl, rfl, rfl⟩]
  split <;> simp

/-- PIN MAIN in a channel whose return it starts or hurries (R138). -/
theorem guided_pinnedReturn {lost : Prop} (hs : (s.cv c).state = .standby ∨ (s.cv c).state = .fill ∨ (s.cv c).Returning) (hl : ¬lost ∨ (s.cv c).Returning)
    (f : Control → Control) (hf : ∀ y, (f y).mode = y.mode ∧ (f y).state = y.state ∧ (f y).owner = y.owner) :
    Guided lost (s.cv c) ((((s.requestCancel c).modControl c f).enterReturning c true).cv c) := by
  have set : (((s.requestCancel c).modControl c f).cv c) = { s.cv c with waiting := none } := by
    rw [State.cv_modControl_same _ _ _ (hf _), State.cv_requestCancel]
  have hg := guided_enterReturning (lost := lost) (s := (s.requestCancel c).modControl c f) (c := c) (by rw [set]; exact hs) (by rw [set]; exact hl) true
  rw [set] at hg
  exact (guided_cancel _).trans hg

theorem ControlOn.commandPinMain (h : ControlOn X s) : ControlOn X (s.commandPinMain c).1 := by
  unfold State.commandPinMain
  split_ifs with h1 h2 h3
  all_goals try exact h
  have pinned : CueLocal c s ((s.setPin c .main).modControl c fun y => { y with awaitingRecue := false }) := ((CueLocal.refl c s).setPin _).modControl _
  have hcv : ((s.setPin c .main).modControl c fun y => { y with awaitingRecue := false }).cv c = s.cv c := by
    rw [State.cv_modControl_same _ _ _ ⟨rfl, rfl, rfl⟩, State.cv_setPin]
  dsimp only
  generalize (s.setPin c .main).modControl c (fun y => { y with awaitingRecue := false }) = u at pinned hcv ⊢
  have hu : ControlOn X u := h.guide pinned (by rw [hcv]; exact .refl _)
  have hsite : u.site.state = s.site.state := by rw [pinned.site]
  have hstate : ∀ {x}, u.chState c = x → s.chState c = x := fun hx => by rw [← State.cv_state, ← hcv]; exact hx
  have notLost : s.chState c = .fill ∨ s.chState c = .standby → ¬u.site.state = .lost := fun hx hl => h2 ⟨hsite ▸ hl, hx⟩
  cases hs : u.chState c <;> dsimp only
  case cueing => exact hu.guide (CueLocal.refl c u).abandonTakeover (guided_abandonTakeover hs)
  case fill =>
    exact hu.guide (((CueLocal.refl c u).requestCancel.modControl _).enterReturning _)
      (guided_pinnedReturn (.inr (.inl hs)) (.inl (notLost (.inl (hstate hs)))) _ fun _ => ⟨rfl, rfl, rfl⟩)
  case standby =>
    exact hu.guide (((CueLocal.refl c u).requestCancel.modControl _).enterReturning _)
      (guided_pinnedReturn (.inl hs) (.inl (notLost (.inr (hstate hs)))) _ fun _ => ⟨rfl, rfl, rfl⟩)
  case returnGuard =>
    have hret : (u.cv c).Returning := .inl hs
    have hg := guided_enterReturning (lost := u.site.state = .lost) (s := u.requestCancel c) (c := c) (by rw [State.cv_requestCancel]; exact .inr (.inr hret))
      (.inr (by rw [State.cv_requestCancel]; exact hret)) true
    rw [State.cv_requestCancel] at hg
    exact hu.guide ((CueLocal.refl c u).requestCancel.enterReturning _) ((guided_cancel _).trans hg)
  case returning =>
    have cancelled : ControlOn X (u.requestCancel c) := hu.guide (CueLocal.refl c u).requestCancel (by rw [State.cv_requestCancel]; exact guided_cancel _)
    have hurried : ∀ r : Nat, ControlOn X (((u.requestCancel c).modControl c fun y => { y with returnPosition := some r }).tellReturn c r) := fun r => by
      have set := cancelled.modControl (c := c) fun y => { y with returnPosition := some r }
      exact set.guide ((CueLocal.refl c _).tellReturn _) (sound_tellReturn _ _ _).guided
    split
    · split
      · exact hurried _
      · exact cancelled
    · split
      · exact hurried _
      · exact cancelled
  all_goals exact hu

theorem ControlOn.commandPinStandby (h : ControlOn X s) : ControlOn X (s.commandPinStandby c).1 := by
  unfold State.commandPinStandby
  split_ifs with h1 h2
  all_goals try exact h
  have hu : ControlOn X (s.setPin c .standby) := h.guide ((CueLocal.refl c s).setPin _) (by rw [State.cv_setPin]; exact .refl _)
  have hchange : ∀ {x}, (s.setPin c .standby).chState c = x → x ≠ .outOfService → ((s.setPin c .standby).cv c).state ≠ .outOfService := fun h hx hs => hx (h ▸ hs)
  dsimp only
  split
  · rename_i hm
    exact hu.guide ((CueLocal.refl c _).takeover _ _ _) ((landed_takeover (hu.ruled c) hm _ _ _).guided (hchange hm (by simp)))
  · rename_i hm
    exact hu.guide (CueLocal.refl c _).callOffReturn ((landed_callOffReturn (hu.ruled c)).guided (hchange hm (by simp)))
  · rename_i hm
    exact hu.guide (CueLocal.refl c _).callOffReturn ((landed_callOffReturn (hu.ruled c)).guided (hchange hm (by simp)))
  · exact hu

theorem ControlOn.commandUnpin (h : ControlOn X s) : ControlOn X (s.commandUnpin c).1 := by
  unfold State.commandUnpin
  split <;> dsimp only
  · exact h
  · exact h.modControl _

/-- A change of the owner alone (R140). -/
theorem ControlOn.setOwner (h : ControlOn X s) (o : Owner) (ho : s.site.state = .lost → o = .localSite) :
    ControlOn X (s.modControl c fun y => { y with owner := o }) := by
  refine h.guide ((CueLocal.refl c s).modControl _) ?_
  rw [State.cv_modControl]
  exact ⟨Iff.rfl, Iff.rfl, fun hl _ => ho hl, fun _ => id, fun hv => ⟨hv.failed, hv.noneInMain, hv.playing, hv.followOn⟩⟩

theorem ControlOn.commandRelease (h : ControlOn X s) : ControlOn X (s.commandRelease c).1 := by
  unfold State.commandRelease
  split
  · exact h
  · rename_i hl
    exact h.setOwner _ fun h => absurd h hl

theorem ControlOn.commandAck (h : ControlOn X s) (o : Origin) : ControlOn X (s.commandAck c o).1 := by
  unfold State.commandAck
  split <;> dsimp only
  · exact h
  · exact h.modControl _

/-- A join asked for in a channel on its way to standby. -/
theorem ControlOn.requestJoin (h : ControlOn X s) (hs : s.chState c = .cueing ∨ s.chState c = .fill ∨ s.chState c = .standby) :
    ControlOn X (s.requestJoin c) := by
  refine h.guide (CueLocal.refl c s).requestJoin ((landed_requestJoin (h.ruled c).cancel hs rfl rfl).guided ?_)
  rw [State.cv_state]
  rcases hs with h | h | h <;> simp [h]

theorem ControlOn.commandRecue (h : ControlOn X s) : ControlOn X (s.commandRecue c).1 := by
  unfold State.commandRecue
  split
  · exact h
  split
  · exact h
  cases hs : s.chState c <;> dsimp only
  case cueing => exact h.requestJoin (.inl hs)
  case fill => exact h.requestJoin (.inr (.inl hs))
  case standby => exact h.requestJoin (.inr (.inr hs))
  case main =>
    split
    · have hw := (h.ruled c).noneInMain (.inl hs)
      have hp := (h.ruled c).playing_none (by rw [State.cv_state, hs]; simp) (by simp [CueView.Returning, State.cv_state, hs])
      have local_ := ((((CueLocal.refl c s).modControl fun y => { y with awaitingRecue := false, cause := some .command, sticky := true }).modRecord
        fun r => { r with outcome := .pending }).setState .cueing).requestJoin
      have hcv : ((((s.modControl c fun y => { y with awaitingRecue := false, cause := some .command, sticky := true }).modRecord c
        fun r => { r with outcome := .pending }).setState c .cueing).cv c) = { s.cv c with state := .cueing } := by
        rw [State.cv_setState, State.cv_modRecord, State.cv_modControl_same _ _ _ ⟨rfl, rfl, rfl⟩]
      refine h.guide local_ ((landed_requestJoin ?_ (by rw [hcv]; simp) (by rw [hcv]) (by rw [hcv])).guided (by rw [State.cv_state, hs]; simp))
      rw [hcv]
      exact .of_waiting_none rfl fun h => absurd hp h
    · exact h
  all_goals exact h

theorem ControlOn.commandClearRecords (h : ControlOn X s) : ControlOn X (s.commandClearRecords c).1 := by
  unfold State.commandClearRecords
  dsimp only
  exact h.modControl _

end Sys2Proof.Machine

/-! PROOFS. The units of a channel's share of the frame store (R27, R41 to R43): what the Carriage Receiver and the Alignment Unit do to them. -/

namespace Sys2Proof.Machine

-- Each elaboration thread takes a large stack, and the text is compiled as one file under a memory limit: one thread at a time.
set_option Elab.async false

variable {s t : State} {c : Chan} {X : Chan → Prop} {x : Channel}

/-! ## Slots in use -/

/-- The slots of a buffer that are not FREE. -/
def inUse {n : Nat} (v : Vector Slot n) : Nat := v.toList.countP fun y => y.stamp.isSome

/-- The held frames of the two paths. -/
def Align.held (a : Align) : Nat := flagNat a.mainHeld.isSome + flagNat a.standbyHeld.isSome

theorem unitsHeld_eq (x : Channel) : x.unitsHeld = inUse x.slots.main + inUse x.slots.standby + x.align.held := by
  unfold Channel.unitsHeld Align.held inUse
  omega

theorem flagNat_le (b : Bool) : flagNat b ≤ 1 := by cases b <;> decide

@[simp] theorem stamp_free : Slot.free.stamp = none := rfl
@[simp] theorem stamp_filling (r : Collect) : (Slot.filling r).stamp = some r.stamp := rfl
@[simp] theorem stamp_complete (f : Frame) (n : Nat) : (Slot.complete f n).stamp = some f.stamp := rfl
@[simp] theorem stamp_corrupt (p : Nat) : (Slot.corrupt p).stamp = some p := rfl
@[simp] theorem flagNat_true : flagNat true = 1 := rfl
@[simp] theorem flagNat_false : flagNat false = 0 := rfl

theorem inUse_vmod {n : Nat} (v : Vector Slot n) (i : Fin n) (f : Slot → Slot) :
    inUse (vmod v i f) + flagNat v[i.val].stamp.isSome = inUse v + flagNat (f v[i.val]).stamp.isSome := by
  have hlen : i.val < v.toList.length := by simp
  have hpos := List.boole_getElem_le_countP (p := fun y : Slot => y.stamp.isSome) (l := v.toList) hlen
  unfold inUse vmod flagNat
  rw [Vector.toList_set, List.countP_set hlen]
  simp only [Vector.getElem_toList] at *
  omega

theorem inUse_le {n : Nat} (v : Vector Slot n) : inUse v ≤ n := by simpa [inUse] using List.countP_le_length (p := fun y : Slot => y.stamp.isSome) (l := v.toList)

theorem inUse_lt {n : Nat} {v : Vector Slot n} {i : Fin n} (h : v[i.val].stamp = none) : inUse v < n := by
  have filled := inUse_vmod v i fun _ => .corrupt 0
  have := inUse_le (vmod v i fun _ => .corrupt 0)
  rw [h] at filled
  simp at filled
  omega

theorem freeHolding_get {n : Nat} (l : List (Fin n)) (pred : Nat → Bool) (v : Vector Slot n) (j : Fin n) :
    (freeHolding l pred v)[j.val] = if j ∈ l ∧ v[j.val].holds pred then .free else v[j.val] := by
  unfold freeHolding
  induction l generalizing v with
  | nil => simp
  | cons i l ih =>
    have free : Slot.free.holds pred = false := rfl
    rw [List.foldl_cons, ih]
    by_cases hj : j = i
    · subst hj
      rw [vmod_get_same]
      by_cases hh : v[j.val].holds pred <;> simp [hh, free]
    · rw [vmod_get_ne _ _ _ _ hj]
      simp [hj]

theorem inUse_freeHolding {n : Nat} {l : List (Fin n)} (hl : l.Nodup) (pred : Nat → Bool) (v : Vector Slot n) :
    inUse (freeHolding l pred v) + countHolding l pred v = inUse v := by
  induction l generalizing v with
  | nil => simp [freeHolding, countHolding]
  | cons i l ih =>
    obtain ⟨hi, hl⟩ := List.nodup_cons.1 hl
    have head := inUse_vmod v i fun x => if x.holds pred then .free else x
    have tail := ih hl (vmod v i fun x => if x.holds pred then .free else x)
    have others : countHolding l pred (vmod v i fun x => if x.holds pred then .free else x) = countHolding l pred v := by
      unfold countHolding
      congr 1
      refine List.filter_congr fun j hj => ?_
      rw [vmod_get_ne _ _ _ _ (fun h => hi (by rwa [h] at hj))]
    have hcount : countHolding (i :: l) pred v = flagNat (v[i.val].holds pred) + countHolding l pred v := by
      unfold countHolding flagNat
      rw [List.filter_cons]
      split <;> simp_all [Nat.add_comm]
    have hflag : flagNat v[i.val].stamp.isSome = flagNat (if v[i.val].holds pred then Slot.free else v[i.val]).stamp.isSome + flagNat (v[i.val].holds pred) := by
      by_cases hh : v[i.val].holds pred
      · have hsome : v[i.val].stamp.isSome = true := by
          unfold Slot.holds at hh
          cases h : v[i.val].stamp <;> simp_all
        simp [hh, hsome]
      · simp [hh]
    have hfold : freeHolding (i :: l) pred v = freeHolding l pred (vmod v i fun x => if x.holds pred then .free else x) := rfl
    rw [hfold, hcount]
    omega

theorem nodup_mainIndices : mainIndices.Nodup := by decide
theorem nodup_standbyIndices : standbyIndices.Nodup := by decide
theorem mem_mainIndices (i : Fin 16) : i ∈ mainIndices := by revert i; decide
theorem mem_standbyIndices (i : Fin 4) : i ∈ standbyIndices := by revert i; decide

/-- The units in use after one slot is replaced and the Alignment Unit's record changed. -/
theorem unitsHeld_put (x : Channel) (path : SourcePath) (p : Nat) (v : Slot) (f : Align → Align) :
    { x with slots := x.slots.put path p v, align := f x.align }.unitsHeld + flagNat (x.slots.at path p).stamp.isSome + x.align.held =
      x.unitsHeld + flagNat v.stamp.isSome + (f x.align).held := by
  rw [unitsHeld_eq, unitsHeld_eq]
  cases path with
  | main =>
    have := inUse_vmod x.slots.main (mainSlotOf p) fun _ => v
    dsimp only [Slots.put, Slots.at]
    omega
  | standby =>
    have := inUse_vmod x.slots.standby (standbySlotOf p) fun _ => v
    dsimp only [Slots.put, Slots.at]
    omega

/-- R27: every slot holds a stamp of its own place. -/
structure Slots.Placed (x : Slots) : Prop where
  main : ∀ (i : Fin 16) p, x.main[i.val].stamp = some p → p % 16 = i.val
  standby : ∀ (i : Fin 4) p, x.standby[i.val].stamp = some p → p % 4 = i.val

theorem UnitInv.placed (h : UnitInv x) : x.slots.Placed := ⟨h.mainPlaces, h.standbyPlaces⟩

theorem placed_vmod {n m : Nat} {v : Vector Slot n} (h : ∀ (i : Fin n) p, v[i.val].stamp = some p → p % m = i.val) {j : Fin n} {y : Slot}
    (hy : ∀ q, y.stamp = some q → q % m = j.val) (i : Fin n) (p : Nat) (hp : (vmod v j fun _ => y)[i.val].stamp = some p) : p % m = i.val := by
  rw [vmod_get] at hp
  split at hp
  · rename_i hi
    exact hi ▸ hy p hp
  · exact h i p hp

theorem Slots.Placed.put {y : Slots} (h : y.Placed) (path : SourcePath) (p : Nat) (v : Slot) (hv : ∀ q, v.stamp = some q → q = p) : (y.put path p v).Placed := by
  cases path with
  | main => exact ⟨placed_vmod h.main fun q hq => by rw [hv q hq]; rfl, h.standby⟩
  | standby => exact ⟨h.main, placed_vmod h.standby fun q hq => by rw [hv q hq]; rfl⟩

theorem UnitInv.of_placed {y : Channel} (hp : y.slots.Placed) (hu : y.align.freeUnits + y.unitsHeld = 21)
    (ho : y.control.state = .outOfService → y.unitsHeld = 0) : UnitInv y := ⟨hu, hp.main, hp.standby, ho⟩

/-! ## Freeing slots and holding frames (R42 to R46, R53) -/

theorem placed_freeHolding {n m : Nat} {v : Vector Slot n} (h : ∀ (i : Fin n) p, v[i.val].stamp = some p → p % m = i.val) (l : List (Fin n)) (pred : Nat → Bool)
    (i : Fin n) (p : Nat) (hp : (freeHolding l pred v)[i.val].stamp = some p) : p % m = i.val := by
  rw [freeHolding_get] at hp
  split at hp
  · exact absurd hp (by simp)
  · exact h i p hp

theorem UnitInv.freeMain (h : UnitInv x) (pred : Nat → Bool) :
    UnitInv { x with
      slots := { x.slots with main := freeHolding mainIndices pred x.slots.main }
      align := { x.align with freeUnits := x.align.freeUnits + countHolding mainIndices pred x.slots.main } } := by
  have hfree := inUse_freeHolding nodup_mainIndices pred x.slots.main
  have hu := h.units
  have ho := h.out
  rw [unitsHeld_eq] at hu ho
  refine .of_placed ⟨placed_freeHolding h.mainPlaces _ _, h.standbyPlaces⟩ ?_ fun hs => ?_
  · rw [unitsHeld_eq]
    dsimp only [Align.held] at *
    omega
  · rw [unitsHeld_eq]
    have := ho hs
    dsimp only [Align.held] at *
    omega

theorem UnitInv.freeStandby (h : UnitInv x) (pred : Nat → Bool) :
    UnitInv { x with
      slots := { x.slots with standby := freeHolding standbyIndices pred x.slots.standby }
      align := { x.align with freeUnits := x.align.freeUnits + countHolding standbyIndices pred x.slots.standby } } := by
  have hfree := inUse_freeHolding nodup_standbyIndices pred x.slots.standby
  have hu := h.units
  have ho := h.out
  rw [unitsHeld_eq] at hu ho
  refine .of_placed ⟨h.mainPlaces, placed_freeHolding h.standbyPlaces _ _⟩ ?_ fun hs => ?_
  · rw [unitsHeld_eq]
    dsimp only [Align.held] at *
    omega
  · rw [unitsHeld_eq]
    have := ho hs
    dsimp only [Align.held] at *
    omega

theorem ControlOn.freeMain (h : ControlOn X s) (pred : Nat → Bool) : ControlOn X (s.freeMain c pred) := by
  unfold State.freeMain
  refine h.modCh _ ?_ fun hu => ?_
  · dsimp only [Channel.cv]
  · exact hu.freeMain pred

theorem ControlOn.freeStandby (h : ControlOn X s) (pred : Nat → Bool) : ControlOn X (s.freeStandby c pred) := by
  unfold State.freeStandby
  exact h.modCh _ rfl fun hu => hu.freeStandby pred

/-- R45, R53: a COMPLETE frame released moves from its slot to the held frames, and the unit of the one it replaces is free. -/
theorem UnitInv.hold (h : UnitInv x) {path : SourcePath} {q : Nat} (hin : (x.slots.at path q).stamp.isSome = true) (f : Align → Align)
    (hunits : (f x.align).freeUnits + (f x.align).held = x.align.freeUnits + x.align.held + 1) (hheld : (f x.align).held ≤ x.align.held + 1) :
    UnitInv { x with slots := x.slots.put path q .free, align := f x.align } := by
  have hput := unitsHeld_put x path q .free f
  have hu := h.units
  rw [hin] at hput
  simp only [stamp_free, Option.isSome_none, flagNat_true, flagNat_false] at hput
  refine .of_placed (h.placed.put path q .free (by simp)) ?_ fun ho => ?_
  · dsimp only
    omega
  · have := h.out ho
    omega

/-! ## A slot opened and filled (R29 to R33, R42, R43) -/

/-- A slot in use takes another content of the stamp that its place is read by. -/
theorem UnitInv.put (h : UnitInv x) {path : SourcePath} {p : Nat} {v : Slot} (hv : v.stamp = some p) (hin : (x.slots.at path p).stamp.isSome) :
    UnitInv { x with slots := x.slots.put path p v } := by
  have hput := unitsHeld_put x path p v id
  rw [hv, hin] at hput
  have heq : { x with slots := x.slots.put path p v }.unitsHeld = x.unitsHeld := by
    dsimp only [id, Option.isSome_some] at hput
    omega
  refine .of_placed (h.placed.put path p v fun q hq => by rw [hv] at hq; exact (Option.some.inj hq).symm) ?_ fun ho => ?_
  · rw [heq]; exact h.units
  · rw [heq]; exact h.out ho

theorem ControlOn.putSlot (h : ControlOn X s) {path : SourcePath} {p : Nat} {v : Slot} (hv : v.stamp = some p)
    (hin : ((s.ch c).slots.at path p).stamp.isSome) : ControlOn X (s.modSlots c fun y => y.put path p v) :=
  h.modCh _ rfl fun hu => hu.put hv hin

theorem Slots.at_put_same (y : Slots) (path : SourcePath) (p : Nat) (v : Slot) : (y.put path p v).at path p = v := by
  cases path <;> simp [Slots.put, Slots.at]

/-- With no unit free and a slot FREE both paths hold a frame (R43). -/
theorem UnitInv.held_of_none_free (h : UnitInv x) {path : SourcePath} {p : Nat} (hslot : (x.slots.at path p).stamp = none) (hfree : x.align.freeUnits = 0) :
    x.align.mainHeld.isSome ∧ x.align.standbyHeld.isSome := by
  have hu := h.units
  have hm := inUse_le x.slots.main
  have hs := inUse_le x.slots.standby
  have hlt : inUse x.slots.main + inUse x.slots.standby < 20 := by
    cases path with
    | main => have := inUse_lt (v := x.slots.main) (i := mainSlotOf p) hslot; omega
    | standby => have := inUse_lt (v := x.slots.standby) (i := standbySlotOf p) hslot; omega
  rw [unitsHeld_eq, Align.held] at hu
  have h1 := flagNat_le x.align.mainHeld.isSome
  have h2 := flagNat_le x.align.standbyHeld.isSome
  constructor <;> by_contra hn <;> rw [Bool.not_eq_true] at hn <;> rw [hn] at hu <;> simp only [flagNat_false] at hu <;> omega

/-- A FREE slot opened with one unit taken (R29, R42). -/
theorem UnitInv.open (h : UnitInv x) (hs : x.control.state ≠ .outOfService) {path : SourcePath} {p : Nat} {v : Slot} (hv : v.stamp = some p)
    (hslot : (x.slots.at path p).stamp = none) (f : Align → Align) (hf : (f x.align).freeUnits + (f x.align).held + 1 = x.align.freeUnits + x.align.held) :
    UnitInv { x with slots := x.slots.put path p v, align := f x.align } := by
  have hput := unitsHeld_put x path p v f
  have hu := h.units
  rw [hv, hslot] at hput
  simp only [Option.isSome_none, Option.isSome_some, flagNat_true, flagNat_false] at hput
  refine .of_placed (h.placed.put path p v fun q hq => by rw [hv] at hq; exact (Option.some.inj hq).symm) ?_ fun ho => absurd ho hs
  dsimp only
  omega

/-- The Alignment Unit's record after R43 has given up the held frame of the path off air. -/
def Align.evicted (a : Align) (path : SourcePath) : Align :=
  let freed := if (a.heldOn path).isSome then 1 else 0
  match path with
  | .main => { a with mainHeld := none, freeUnits := a.freeUnits + freed }
  | .standby => { a with standbyHeld := none, freeUnits := a.freeUnits + freed }

theorem State.evictHeld_ch (s : State) (c c' : Chan) : (s.evictHeld c).ch c' =
    if c' = c then { s.ch c with align := (s.ch c).align.evicted (offAirPath (s.ch c).control.state) } else s.ch c' := by
  unfold State.evictHeld State.stopCopies Align.evicted
  by_cases hc : c' = c
  · subst hc
    simp <;> cases offAirPath (s.ch c').control.state <;> rfl
  · simp [hc]

/-- The Alignment Unit's record after a unit is taken (R42, R43). -/
def Align.taken (a : Align) (path : SourcePath) : Align :=
  let b := if a.freeUnits = 0 then a.evicted path else a
  { b with freeUnits := b.freeUnits - 1 }

theorem State.takeUnit_ch (s : State) (c c' : Chan) : (s.takeUnit c).ch c' =
    if c' = c then { s.ch c with align := (s.ch c).align.taken (offAirPath (s.ch c).control.state) } else s.ch c' := by
  unfold State.takeUnit Align.taken
  dsimp only
  by_cases hc : c' = c
  · subst hc
    rw [State.ch_modAlign_same, if_pos rfl]
    split
    · rw [State.evictHeld_ch, if_pos rfl]
    · rfl
  · rw [State.ch_modAlign_ne _ _ _ _ hc, if_neg hc]
    split
    · rw [State.evictHeld_ch, if_neg hc]
    · rfl

theorem UnitInv.taken_units (h : UnitInv x) {path : SourcePath} {p : Nat} (hslot : (x.slots.at path p).stamp = none) (off : SourcePath) :
    (x.align.taken off).freeUnits + (x.align.taken off).held + 1 = x.align.freeUnits + x.align.held := by
  unfold Align.taken
  dsimp only
  split
  · rename_i hfree
    obtain ⟨hm, hs⟩ := h.held_of_none_free hslot hfree
    cases off <;> simp [Align.evicted, Align.heldOn, Align.held, hm, hs, hfree]
  · dsimp only [Align.held]
    omega

theorem ControlOn.openSlot (h : ControlOn X s) (hin : s.inService c = true) {path : SourcePath} {p : Nat} {v : Slot} (hv : v.stamp = some p)
    (hslot : ((s.ch c).slots.at path p).stamp = none) : ControlOn X ((s.takeUnit c).modSlots c fun y => y.put path p v) := by
  have hout : (s.ch c).control.state ≠ .outOfService := by simpa [State.inService] using hin
  refine h.of_still ?_ ?_ (fun c' => ?_) fun c' => ?_
  · unfold State.takeUnit; dsimp only; split <;> rfl
  · unfold State.takeUnit; dsimp only; split <;> rfl
  · by_cases hc : c' = c
    · subst hc; simp only [State.cv, State.ch_modSlots_same, State.takeUnit_ch, if_pos]; rfl
    · simp only [State.cv, State.ch_modSlots_ne _ _ _ _ hc, State.takeUnit_ch, if_neg hc]
  · by_cases hc : c' = c
    · subst hc
      rw [State.ch_modSlots_same, State.takeUnit_ch, if_pos rfl]
      intro hu
      exact hu.open hout hv hslot (fun a => a.taken _) (hu.taken_units hslot _)
    · rw [State.ch_modSlots_ne _ _ _ _ hc, State.takeUnit_ch, if_neg hc]
      exact id

end Sys2Proof.Machine

/-! PROOFS. The invariant of the channels under the Carriage Receiver, the Alignment Unit, the Continuity Monitor and the Output Assembler. -/

namespace Sys2Proof.Machine

-- Each elaboration thread takes a large stack, and the text is compiled as one file under a memory limit: one thread at a time.
set_option Elab.async false

variable {s t : State} {c : Chan} {X : Chan → Prop}

/-! ## The Alignment Unit (Chapter 3) -/

theorem ControlOn.setTracker (h : ControlOn X s) (t : Option Tracker) : ControlOn X (s.modSlots c fun x => { x with tracker := t }) :=
  h.modCh _ rfl fun hu => ⟨hu.units, hu.mainPlaces, hu.standbyPlaces, hu.out⟩

theorem ControlOn.captureReply (h : ControlOn X s) (r : Capture) (result : Result) (contents : List Atom) : ControlOn X (s.captureReply r result contents) := h.reply _ _ _
theorem ControlOn.endCapture (h : ControlOn X s) (i : Fin 8) (r : Capture) (result : Result) : ControlOn X (s.endCapture i r result) :=
  (h.modSlate _ _).captureReply _ _ _

theorem ControlOn.abandonCaptures (h : ControlOn X s) : ControlOn X (s.abandonCaptures c) := by
  refine h.foldl _ _ fun u i hu => ?_
  split
  · split
    · exact hu.endCapture _ _ _
    · exact hu
  · exact hu

theorem ControlOn.requestCapture (h : ControlOn X s) (i : Fin 8) (r : Capture) : ControlOn X (s.requestCapture i r) := by
  unfold State.requestCapture
  dsimp only
  split
  · exact (h.endCapture _ _ _).modSlate _ _
  · exact h.modSlate _ _

theorem ControlOn.completeCopy (h : ControlOn X s) (i : Fin 8) : ControlOn X (s.completeCopy i) := by
  unfold State.completeCopy
  split
  · split
    · exact (h.modSlate _ _).captureReply _ _ _
    · exact h
  · exact h

theorem ControlOn.takeSample (h : ControlOn X s) (l : Int) : ControlOn X (s.takeSample c l) :=
  h.modAlign _ fun _ => ⟨rfl, rfl, rfl⟩

theorem ControlOn.endDelayWindow (h : ControlOn X s) : ControlOn X (s.endDelayWindow c) := by
  unfold State.endDelayWindow
  dsimp only
  split
  · exact h
  · exact (h.modAlign _).bumpCh _

theorem ControlOn.rebaseMain (h : ControlOn X s) : ControlOn X (s.rebaseMain c) := h.modAlign _

theorem ControlOn.applyRetime (h : ControlOn X s) : ControlOn X (s.applyRetime c) := by
  unfold State.applyRetime
  split
  · exact h
  · exact (h.modAlign _).bumpCh _

theorem ControlOn.trackMissing (h : ControlOn X s) (q : Nat) (slot : Slot) : ControlOn X (s.trackMissing c q slot) := by
  unfold State.trackMissing
  dsimp only
  split
  · exact h
  · split
    · exact (h.bumpCh _).setTracker _
    · exact h.setTracker _

/-- A stamp released incomplete (R45). -/
theorem ControlOn.missMain (h : ControlOn X s) (q : Nat) (slot : Slot) (pred : Nat → Bool) : ControlOn X (((s.bumpCh c .mainMissing).trackMissing c q slot).freeMain c pred) :=
  ((h.bumpCh _).trackMissing _ _).freeMain _

theorem ControlOn.releaseMain (h : ControlOn X s) (q : Nat) : ControlOn X (s.releaseMain c q).1 := by
  unfold State.releaseMain
  dsimp only
  split
  · rename_i f n hslot
    split <;> dsimp only
    · refine ControlOn.mapSlates (h.modCh _ ?_ fun hu => ?_) _
      · dsimp only [Channel.cv]
      · refine hu.hold (path := .main) (q := q) (by rw [hslot]; rfl)
          (fun a => { a with mainHeld := some f, mainHeldCount := 0, mainOffer := .fresh, freeUnits := a.freeUnits + (if a.mainHeld.isSome then 1 else 0) }) ?_ ?_
        · dsimp only [Align.held]
          cases (s.ch c).align.mainHeld <;> simp <;> omega
        · dsimp only [Align.held, Option.isSome_some, flagNat_true]
          omega
    · exact (h.missMain _ _ _).modAlign _
  · dsimp only
    exact (h.missMain _ _ _).modAlign _

theorem ControlOn.takeMainBoundary (h : ControlOn X s) : ControlOn X (s.takeMainBoundary c).1 := by
  unfold State.takeMainBoundary
  dsimp only
  split <;> dsimp only
  · exact ControlOn.freeMain (ControlOn.bumpBy (ControlOn.bumpCh (ControlOn.modAlign (ControlOn.freeMain (h.bumpBy _ _) _) _) _) _ _) _
  · refine ControlOn.freeMain (ControlOn.bumpBy (ControlOn.modAlign (ControlOn.releaseMain ?_ _) _) _ _) _
    split
    · exact h
    · exact (h.freeMain _).bumpBy _ _

theorem ControlOn.releaseStandby (h : ControlOn X s) (q : Nat) : ControlOn X (s.releaseStandby c q) := by
  have missing : ∀ f, (∀ y, (f y).freeUnits = y.freeUnits ∧ (f y).mainHeld = y.mainHeld ∧ (f y).standbyHeld = y.standbyHeld) →
      ControlOn X (((s.bumpCh c .standbyMissing).freeStandby c fun p => p == q).modAlign c f) := fun f hf => ((h.bumpCh _).freeStandby _).modAlign f hf
  unfold State.releaseStandby
  dsimp only
  split
  · rename_i f n hslot
    split
    · refine ControlOn.mapSlates (h.modCh _ ?_ fun hu => ?_) _
      · dsimp only [Channel.cv]
      · refine hu.hold (path := .standby) (q := q) (by rw [hslot]; rfl)
          (fun a => { a with standbyHeld := some f, standbyHeldCount := 0, standbyOffer := .fresh, freeUnits := a.freeUnits + (if a.standbyHeld.isSome then 1 else 0) }) ?_ ?_
        · dsimp only [Align.held]
          cases (s.ch c).align.standbyHeld <;> simp <;> omega
        · dsimp only [Align.held, Option.isSome_some, flagNat_true]
          omega
    · exact missing _ fun _ => ⟨rfl, rfl, rfl⟩
  · exact missing _ fun _ => ⟨rfl, rfl, rfl⟩

theorem ControlOn.takeStandbyBoundary (h : ControlOn X s) (realigned : Bool) : ControlOn X (s.takeStandbyBoundary c realigned) := by
  have rebased : ControlOn X (if realigned then s.modAlign c fun x => { x with standbyFloor := s.wrap ((s.time.h : Int) - 1) } else s) := by
    split
    · exact h.modAlign _
    · exact h
  unfold State.takeStandbyBoundary
  dsimp only
  generalize (if realigned then s.modAlign c fun x => { x with standbyFloor := s.wrap ((s.time.h : Int) - 1) } else s) = u at rebased ⊢
  refine (ControlOn.bumpBy ?_ _ _).freeStandby _
  split
  · exact rebased.modAlign _ fun _ => ⟨rfl, rfl, rfl⟩
  · refine ControlOn.modAlign (ControlOn.releaseStandby ?_ _) _
    split
    · exact rebased
    · exact rebased.freeStandby _

/-! ## The Carriage Receiver (Chapter 2) -/

theorem ControlOn.countCarrier (h : ControlOn X s) (p : Port) : ControlOn X (s.countCarrier p) := h.bump _
theorem ControlOn.markTraffic (h : ControlOn X s) (p : Port) : ControlOn X (s.markTraffic p) := by
  unfold State.markTraffic
  split
  · exact h.modPath _ _
  · exact h

@[simp] theorem collect_record_stamp (r : Collect) (m : Media) (vc ac : Option Nat) (x : Option Summary) : (r.record m vc ac x).stamp = r.stamp := by
  unfold Collect.record
  split <;> rfl

theorem ControlOn.completeSlot (h : ControlOn X s) (path : SourcePath) (r : Collect) (x : Summary) (hin : ((s.ch c).slots.at path r.stamp).stamp.isSome = true) :
    ControlOn X (s.completeSlot c path r x) := by
  unfold State.completeSlot
  have put : ∀ (f : Frame) n, f.stamp = r.stamp → ControlOn X (s.modSlots c fun y => y.put path r.stamp (.complete f n)) := fun f n hf =>
    h.putSlot (by rw [stamp_complete, hf]) hin
  cases path with
  | main => exact (put _ _ rfl).takeSample _
  | standby => exact put _ _ rfl

theorem ControlOn.countCorrupt (h : ControlOn X s) (path : SourcePath) (bad : Bool) : ControlOn X (s.countCorrupt c path bad) := by
  unfold State.countCorrupt
  cases path with
  | main =>
    dsimp only
    split
    · exact (h.bumpCh _).bumpCh _
    · exact h.bumpCh _
  | standby => exact h.bumpCh _

theorem ControlOn.joinFilling (h : ControlOn X s) (path : SourcePath) (p : Port) (r : Collect) (m : Media)
    (hin : ((s.ch c).slots.at path r.stamp).stamp.isSome = true) : ControlOn X (s.joinFilling c path p r m) := by
  unfold State.joinFilling
  have filled : ∀ r' : Collect, r'.stamp = r.stamp → ControlOn X (s.modSlots c fun y => y.put path r.stamp (.filling r')) := fun r' hr =>
    h.putSlot (v := .filling r') (by rw [stamp_filling, hr]) hin
  split
  · exact h.bump _
  · exact (h.putSlot (v := .corrupt r.stamp) rfl hin).countCorrupt _ _
  · exact (h.putSlot (v := .corrupt r.stamp) rfl hin).countCorrupt _ _
  · dsimp only
    split
    · split
      · exact h.completeSlot _ _ _ (by rwa [collect_record_stamp])
      · exact filled _ (by simp)
    · exact filled _ (by simp)

theorem ControlOn.joinComplete (h : ControlOn X s) (p : Port) (f : Frame) (m : Media) : ControlOn X (s.joinComplete c p f m) := by
  unfold State.joinComplete
  split
  · split
    · exact h.bump _
    · exact h.bumpCh _
  · split
    · exact h.bump _
    · exact h.bumpCh _
  · split
    · exact h.bumpCh _
    · exact h.bump _

theorem ControlOn.placePiece (h : ControlOn X s) (hs : s.inService c = true) (path : SourcePath) (p : Port) (m : Media) : ControlOn X (s.placePiece c path p m) := by
  have joined : ∀ u : State, ControlOn X (u.modSlots c fun y => y.put path m.stamp (.filling (.opened m.stamp))) →
      ControlOn X ((u.modSlots c fun y => y.put path m.stamp (.filling (.opened m.stamp))).joinFilling c path p (.opened m.stamp) m) := fun u hu =>
    hu.joinFilling _ _ _ _ (by rw [State.ch_modSlots_same, show (Collect.opened m.stamp).stamp = m.stamp from rfl, Slots.at_put_same]; rfl)
  have reclaimed : ∀ {q}, ((s.ch c).slots.at path m.stamp).stamp = some q →
      ControlOn X (((s.bumpCh c .staleReclaims).modSlots c fun y => y.put path m.stamp (.filling (.opened m.stamp))).joinFilling c path p (.opened m.stamp) m) :=
    fun hq => joined _ ((h.bumpCh _).putSlot (v := .filling (.opened m.stamp)) rfl (by rw [show (s.bumpCh c .staleReclaims).ch c = s.ch c from rfl, hq]; rfl))
  unfold State.placePiece
  dsimp only
  split
  · rename_i hslot
    exact joined _ (h.openSlot hs (v := .filling (.opened m.stamp)) rfl (by rw [hslot]; rfl))
  · rename_i r hslot
    split
    · rename_i hr
      exact h.joinFilling _ _ _ _ (by rw [hr, hslot]; rfl)
    · exact reclaimed (by rw [hslot]; rfl)
  · rename_i hslot
    split
    · exact h.joinComplete _ _ _
    · exact reclaimed (by rw [hslot]; rfl)
  · rename_i hslot
    split
    · exact h.bumpCh _
    · exact reclaimed (by rw [hslot]; rfl)

theorem ControlOn.offerTracker (h : ControlOn X s) (p : Port) (m : Media) : ControlOn X (s.offerTracker c p m) := by
  unfold State.offerTracker
  split
  · exact h
  · split
    · exact h
    · split
      · exact h.bump _
      · exact (h.setTracker _).bumpCh _
      · exact (h.setTracker _).bumpCh _
      · dsimp only
        split
        · exact ((h.setTracker _).takeSample _).bumpCh _
        · exact h.setTracker _

theorem ControlOn.classifyMain (h : ControlOn X s) (hs : s.inService c = true) (p : Port) (m : Media) : ControlOn X (s.classifyMain c p m) := by
  unfold State.classifyMain
  dsimp only
  split_ifs
  · exact (h.bump _).offerTracker _ _
  · exact h.placePiece hs _ _ _
  · exact h.bump _

theorem ControlOn.classifyStandby (h : ControlOn X s) (hs : s.inService c = true) (p : Port) (m : Media) : ControlOn X (s.classifyStandby c p m) := by
  unfold State.classifyStandby
  dsimp only
  split_ifs
  · exact h.bumpCh _
  · exact h.placePiece hs _ _ _
  · exact h.bumpCh _

theorem ControlOn.receiveMainMedia (h : ControlOn X s) (side : Side) (m : Media) : ControlOn X (s.receiveMainMedia side m) := by
  unfold State.receiveMainMedia
  have counted := h.countCarrier (.contribution side)
  have marked := counted.markTraffic (.contribution side)
  dsimp only
  split
  · exact counted
  · split
    · exact counted.bump _
    · split
      · exact marked
      · split
        · rename_i hs
          exact marked.classifyMain hs _ _
        · exact marked.bump _

theorem assignStream_inService {n : Fin 4} {stream : Nat} (h : s.assignStream n stream = .inr c) : s.inService c = true := by
  unfold State.assignStream at h
  dsimp only at h
  split at h
  · exact absurd h (by simp)
  · split at h
    · exact absurd h (by simp)
    · split at h
      · exact absurd h (by simp)
      · rename_i c' hc
        have hmem : c' ∈ s.assigned (stream / 4) (stream % 4) := by rw [hc]; exact List.mem_singleton_self _
        have heq : c' = c := Sum.inr.inj h
        rw [← heq]
        simp only [State.assigned, List.mem_filter, Bool.and_eq_true] at hmem
        exact hmem.2.1.1
      · exact absurd h (by simp)

theorem ControlOn.receiveStandbyMedia (h : ControlOn X s) (n : Fin 4) (m : Media) : ControlOn X (s.receiveStandbyMedia n m) := by
  unfold State.receiveStandbyMedia
  have counted := h.countCarrier (.standby n)
  dsimp only
  split
  · exact counted
  · split
    · exact counted.bump _
    · split
      · exact counted.bump _
      · rename_i hc
        exact counted.classifyStandby (assignStream_inService hc) _ _

/-! ## The Continuity Monitor (Chapter 4) -/

theorem ControlOn.takeVerdict (h : ControlOn X s) (n : VerdictNotice) : ControlOn X (s.takeVerdict n) :=
  h.guide (CueLocal.takeVerdict n (CueLocal.refl n.chan s)) (guided_takeVerdict n (h.ruled n.chan))

theorem ControlOn.deliver (h : ControlOn X s) (n : Option VerdictNotice) : ControlOn X (s.deliver n) := by
  cases n with
  | none => exact h
  | some n => exact h.takeVerdict n

theorem ControlOn.holdVerdict (h : ControlOn X s) (cause : EvalCause) : ControlOn X (s.holdVerdict c cause).1 := by
  unfold State.holdVerdict
  dsimp only
  split
  · exact h
  · exact (h.modMonitor _).bumpCh _

theorem ControlOn.evaluate (h : ControlOn X s) (cause : EvalCause) : ControlOn X (s.evaluate c cause) := (h.holdVerdict cause).deliver _

theorem ControlOn.judgeDetector (h : ControlOn X s) (j : Judgement) (det : Detector) : ControlOn X (s.judgeDetector c j det).1 := by
  unfold State.judgeDetector
  dsimp only
  split
  · dsimp only
    exact h.modMonitor _
  · split <;> dsimp only
    · exact (h.modMonitor _).bumpCh _
    · exact ((h.modMonitor _).bumpCh _).modMonitor _

theorem ControlOn.judgeDetectors (h : ControlOn X s) (j : Judgement) : ControlOn X (s.judgeDetectors c j).1 :=
  State.judgeDetectors_keeps (fun _ det hu => hu.judgeDetector j det) h

theorem ControlOn.reportEdge (h : ControlOn X s) (e : Detector × EdgeKind) : ControlOn X (s.reportEdge c e) := by
  unfold State.reportEdge
  rcases e with ⟨det, _ | _⟩ <;> dsimp only <;> split
  · exact h.raise _
  · exact h
  · exact h.raise _
  · exact h

theorem ControlOn.judge (h : ControlOn X s) (j : Judgement) : ControlOn X (s.judge c j) := by
  unfold State.judge
  have hd := h.judgeDetectors (c := c) j
  dsimp only
  refine (ControlOn.foldl (ControlOn.holdVerdict ?_ _) _ _ fun u e hu => hu.reportEdge e).deliver _
  split
  · exact hd.modMonitor _
  · exact hd

theorem ControlOn.modDetector (h : ControlOn X s) (det : Detector) (f : DetectorState → DetectorState) : ControlOn X (s.modDetector c det f) := h.modMonitor _

theorem ControlOn.eachDetector (h : ControlOn X s) (f : DetectorSettings → DetectorState → DetectorState) : ControlOn X (s.eachDetector c f) :=
  h.foldl _ _ fun _ _ hu => hu.modDetector _ _

theorem ControlOn.monitorEntry (h : ControlOn X s) : ControlOn X (s.monitorEntry c) := ((h.modMonitor _).eachDetector _).evaluate _
theorem ControlOn.monitorExit (h : ControlOn X s) : ControlOn X (s.monitorExit c) := ((h.eachDetector _).modMonitor _).evaluate _
theorem ControlOn.monitorRestart (h : ControlOn X s) : ControlOn X (s.monitorRestart c) := (h.eachDetector _).evaluate _

/-! ## The Output Assembler (Chapter 9) -/

theorem ControlOn.cutRamp (h : ControlOn X s) : ControlOn X (s.cutRamp c) := by
  unfold State.cutRamp
  split
  · exact h
  · exact (h.modOutput _).bumpCh _

theorem ControlOn.bufferFrame (h : ControlOn X s) (f : OutFrame) : ControlOn X (s.bufferFrame c f) := by
  unfold State.bufferFrame
  dsimp only
  split
  · exact (h.bumpCh _).modOutput _
  · exact h.modOutput _

theorem ControlOn.assemble (h : ControlOn X s) : ControlOn X (s.assemble c) := by
  unfold State.assemble
  split
  · exact h
  · dsimp only
    refine ControlOn.bufferFrame (ControlOn.modWork (ControlOn.modOutput (ControlOn.bumpCh ?_ _) _) _) _
    split
    · exact h.bumpCh _
    · exact h

theorem ControlOn.emit (h : ControlOn X s) (side : Side) (f : OutFrame) : ControlOn X (s.emit side f) := by
  unfold State.emit
  dsimp only
  split
  · exact h.of_chans rfl rfl rfl
  · exact h.bumpBy _ _

theorem ControlOn.eachChannel (h : ControlOn X s) {f : Chan → State → State} (hf : ∀ c u, ControlOn X u → ControlOn X (f c u)) : ControlOn X (s.eachChannel f) :=
  State.eachChannel_keeps hf h

theorem ControlOn.sendFrame (h : ControlOn X s) : ControlOn X s.sendFrame := by
  have ended := h.eachChannel (f := fun c t => t.modOutput c fun y => { y with sending := none }) fun _ _ hu => hu.modOutput _
  unfold State.sendFrame
  dsimp only
  split
  · exact ended
  · split
    · exact ended
    · exact ((ended.modOutput _).emit _ _).emit _ _

end Sys2Proof.Machine

/-! PROOFS. The invariant of the channels under the Schedule Store, the Site Supervisor, a boundary and what it leaves due. -/

namespace Sys2Proof.Machine

-- Each elaboration thread takes a large stack, and the text is compiled as one file under a memory limit: one thread at a time.
set_option Elab.async false

variable {s t : State} {c : Chan} {X : Chan → Prop}

/-! ## The Schedule Store (Chapter 6) -/

theorem ControlOn.setReplication (h : ControlOn X s) (new : Replication) (cause : ReplicationCause) : ControlOn X (s.setReplication c new cause) := by
  unfold State.setReplication
  dsimp only
  split
  · exact h
  · exact ((h.modSchedule _).bumpCh _).raise _

theorem ControlOn.resync (h : ControlOn X s) : ControlOn X (s.resync c) := by
  unfold State.resync
  exact ((h.sendMain _).bumpCh _).modSchedule _

theorem ControlOn.fallBehind (h : ControlOn X s) (new : Replication) (cause : ReplicationCause) : ControlOn X (s.fallBehind c new cause) :=
  (h.setReplication _ _).resync
theorem ControlOn.freeShadow (h : ControlOn X s) : ControlOn X (s.freeShadow c) := by
  unfold State.freeShadow
  exact (h.setPool _).modSchedule _

theorem ControlOn.failSnapshot (h : ControlOn X s) (cause : ReplicationCause) : ControlOn X (s.failSnapshot c cause) := ((h.freeShadow).bumpCh _).fallBehind _ _
theorem ControlOn.amendRefused (h : ControlOn X s) (revision kind id : Nat) (reason : AmendReason) : ControlOn X (s.amendRefused c revision kind id reason) :=
  h.sendMain _

theorem ControlOn.commitAmendment (h : ControlOn X s) (revision : Nat) (l : List Event) (x : Applied) : ControlOn X (s.commitAmendment c revision l x) := by
  unfold State.commitAmendment
  dsimp only
  exact ControlOn.takeNotice (((((h.setPool _).modSchedule _).bumpBy _ _).bumpBy _ _).bumpCh _) _

theorem ControlOn.takeAmendment (h : ControlOn X s) (revision : Nat) (a : Amendment) : ControlOn X (s.takeAmendment c revision a) := by
  unfold State.takeAmendment
  dsimp only
  split
  · split
    · split
      · exact (h.modSchedule _).commitAmendment _ _ _
      · refine ControlOn.amendRefused (ControlOn.bumpCh ?_ _) _ _ _ _
        split
        · exact (h.modSchedule _).bumpUnit _
        · exact h.modSchedule _
    · split
      · exact (h.bumpCh _).fallBehind _ _
      · exact h.bumpCh _
  · exact h.bumpCh _

theorem ControlOn.takeSnapshotBegin (h : ControlOn X s) (revision count : Nat) : ControlOn X (s.takeSnapshotBegin c revision count) := by
  unfold State.takeSnapshotBegin
  dsimp only
  split
  · exact h.bumpCh _
  · have begun : ∀ {u : State}, ControlOn X u → ∀ f, ControlOn X (((u.modSchedule c f).setReplication c .rebuilding .snapshotBegin).bumpCh c .snapshotsBegun) :=
      fun hu f => ((hu.modSchedule _).setReplication _ _).bumpCh _
    split <;> split
    · exact h.bumpCh _
    · refine begun ?_ _
      split
      · exact (h.freeShadow).bumpCh _
      · exact h
    · exact h.bumpCh _
    · refine begun ?_ _
      split
      · exact (h.freeShadow).bumpCh _
      · exact h

theorem ControlOn.putShadow (h : ControlOn X s) (x : Shadow) (events : List Event) : ControlOn X (s.putShadow c x events) := (h.setPool _).modSchedule _

theorem ControlOn.snapshotInsert (h : ControlOn X s) (x : Shadow) (e : EventCarried) : ControlOn X (s.snapshotInsert c x e) := by
  unfold State.snapshotInsert
  dsimp only
  split
  · exact (h.bumpCh _).amendRefused _ _ _ _
  · split
    · exact (h.bumpCh _).amendRefused _ _ _ _
    · split
      · exact h.bumpCh _
      · split
        · exact (h.bumpUnit _).failSnapshot _
        · exact ((h.putShadow _ _).bumpBy _ _).bumpBy _ _

theorem ControlOn.takeSnapshotEvent (h : ControlOn X s) (revision index : Nat) (e : EventCarried) : ControlOn X (s.takeSnapshotEvent c revision index e) := by
  unfold State.takeSnapshotEvent
  split
  · exact h.bumpCh _
  · split
    · exact h.bumpCh _
    · split
      · exact h.bumpCh _
      · exact (h.modSchedule _).snapshotInsert _ _

theorem ControlOn.swapLists (h : ControlOn X s) (x : Shadow) : ControlOn X (s.swapLists c x) := by
  unfold State.swapLists
  dsimp only
  exact ((((h.setPool _).modSchedule _).setReplication _ _).bumpCh _).takeNotice _

theorem ControlOn.takeSnapshotEnd (h : ControlOn X s) (revision count : Nat) : ControlOn X (s.takeSnapshotEnd c revision count) := by
  unfold State.takeSnapshotEnd
  split
  · exact h.bumpCh _
  · split
    · exact h.bumpCh _
    · split
      · exact h.swapLists _
      · exact h.failSnapshot _

theorem ControlOn.takeScheduleCarrier (h : ControlOn X s) (channel : Nat) (k : ScheduleCarrier) : ControlOn X (s.takeScheduleCarrier channel k) := by
  unfold State.takeScheduleCarrier
  split
  · exact h.bumpUnit _
  · cases k with
    | amendment revision a => exact h.takeAmendment _ _
    | snapshotBegin revision count => exact h.takeSnapshotBegin _ _
    | snapshotEvent revision index e => exact h.takeSnapshotEvent _ _ _
    | snapshotEnd revision count => exact h.takeSnapshotEnd _ _

theorem ControlOn.clearLists (h : ControlOn X s) (cause : ReplicationCause) : ControlOn X (s.clearLists c cause) := by
  unfold State.clearLists
  dsimp only
  exact (((h.freeShadow.setPool _).modSchedule _).fallBehind _ _).takeNotice _

theorem ControlOn.clearAllLists (h : ControlOn X s) (cause : ReplicationCause) : ControlOn X (s.clearAllLists cause) :=
  h.eachChannel fun _ _ hu => hu.clearLists _

theorem ControlOn.countScheduleTimers (h : ControlOn X s) : ControlOn X (s.countScheduleTimers c) := by
  unfold State.countScheduleTimers
  exact (h.modSchedule _).modWork _

theorem ControlOn.retire (h : ControlOn X s) : ControlOn X (s.retire c) := by
  unfold State.retire
  dsimp only
  exact ((h.setPool _).modSchedule _).bumpBy _ _

theorem ControlOn.takeScheduleBoundary (h : ControlOn X s) (cycleEnd : Bool) : ControlOn X (s.takeScheduleBoundary cycleEnd) := by
  unfold State.takeScheduleBoundary
  dsimp only
  refine ControlOn.eachChannel ?_ fun _ _ hu => hu.retire
  split
  · exact h.clearAllLists _
  · exact h.eachChannel fun _ _ hu => hu.countScheduleTimers

/-! ## The Site Supervisor (Chapter 5) -/

/-- A change of the Site Supervisor's record that does not lose the site. -/
theorem ControlOn.modSiteTo (h : ControlOn X s) (f : Site → Site) (hf : (f s.site).state ≠ .lost) : ControlOn X (s.modSite f) :=
  ⟨h.units, h.cues, h.service, fun hl => absurd hl hf, h.beforeLoad⟩

/-- R87: a channel at the loss of the site. -/
theorem guided_siteLossNotice {lost : Prop} (hr : (s.cv c).Ruled) :
    Guided lost (s.cv c) ((s.siteLossNotice c).cv c) ∧ ((s.siteLossNotice c).cv c).Lost := by
  have hcv : ((s.modControl c fun y => { y with owner := .localSite }).cv c) = { s.cv c with owner := .localSite } := State.cv_modControl _ _ _
  have hlocal : Guided lost (s.cv c) { s.cv c with owner := .localSite } :=
    ⟨Iff.rfl, Iff.rfl, fun _ _ => rfl, fun _ => id, fun hv => ⟨hv.failed, hv.noneInMain, hv.playing, hv.followOn⟩⟩
  have landed : ∀ {w : CueView}, Landed { s.cv c with owner := .localSite } w → (s.cv c).state ≠ .outOfService → Guided lost (s.cv c) w ∧ w.Lost :=
    fun hw hs => ⟨hlocal.trans (hw.guided hs), hw.owner, hw.notReturning⟩
  have hru : ((s.modControl c fun y => { y with owner := .localSite }).cv c).Ruled := by rw [hcv]; exact hlocal.ruled hr
  have hstate : ((s.modControl c fun y => { y with owner := .localSite }).ch c).control.state = (s.cv c).state := congrArg CueView.state hcv
  unfold State.siteLossNotice
  dsimp only
  rw [hstate]
  generalize (s.modControl c fun y => { y with owner := .localSite }) = u at hcv hru ⊢
  have stays : ¬(s.cv c).Returning → Guided lost (s.cv c) (u.cv c) ∧ (u.cv c).Lost := fun hret => by
    rw [hcv]
    exact ⟨hlocal, rfl, hret⟩
  cases hs : (s.cv c).state <;> dsimp only
  case returnGuard | returning => exact landed (hcv ▸ landed_callOff hru true) (by simp [hs])
  case main =>
    split
    · exact landed (hcv ▸ landed_takeover hru (by rw [← State.cv_state, hcv]; exact hs) _ _ _) (by simp [hs])
    · exact stays (by simp [CueView.Returning, hs])
  all_goals exact stays (by simp [CueView.Returning, hs])

theorem ControlOn.reportSite (h : ControlOn X s) (old : SiteState) (cause : SiteCause) : ControlOn X (s.reportSite old cause) := h.raise _

/-- The site marked LOST, counted and reported, before any channel has the notice (R87). -/
def State.markLost (s : State) (cause : LossCause) (how : SiteCause) : State :=
  ((s.modSite fun x => { x with state := .lost, loss := some { cause := cause, position := s.time.h, left := s.site.state } }).bumpUnit .siteLosses).reportSite
    s.site.state how

theorem State.enterLost_eq (s : State) (cause : LossCause) (how : SiteCause) :
    s.enterLost cause how = (s.markLost cause how).eachChannel fun c t => t.siteLossNotice c := rfl

theorem State.markLost_chans (s : State) (cause : LossCause) (how : SiteCause) : (s.markLost cause how).chans = s.chans := by
  unfold State.markLost State.reportSite
  simp

theorem State.markLost_ch (s : State) (cause : LossCause) (how : SiteCause) (c : Chan) : (s.markLost cause how).ch c = s.ch c := by
  unfold State.ch
  rw [State.markLost_chans]

theorem ControlOn.markLost (h : ControlOn X s) (cause : LossCause) (how : SiteCause) : ControlOn (fun _ => False) (s.markLost cause how) := by
  have start : ControlOn (fun _ => False) (s.modSite fun x => { x with state := .lost, loss := some { cause := cause, position := s.time.h, left := s.site.state } }) :=
    ⟨h.units, h.cues, fun _ hx => hx.elim, fun _ _ hx => hx.elim, h.beforeLoad⟩
  exact (start.bumpUnit _).reportSite _ _

theorem ControlOn.enterLost (h : ControlOn X s) (cause : LossCause) (how : SiteCause) : ControlOn X (s.enterLost cause how) := by
  rw [State.enterLost_eq]
  have start := h.markLost cause how
  have each : ∀ c t, ControlOn (fun _ => False) t → ControlOn (fun _ => False) (t.siteLossNotice c) := fun c t ht =>
    ht.guide (CueLocal.refl c t).siteLossNotice (guided_siteLossNotice (ht.ruled c)).1
  have swept := start.eachChannel each
  have channels := State.eachChannel_ch (P := ControlOn fun _ => False) (f := fun c t => t.siteLossNotice c) (s := s.markLost cause how)
    (Q := fun c x => (X c → (x.control.state = .outOfService ↔ x.control.mode = .outOfService)) ∧ x.cv.Lost) each
    (fun c c' t _ hc => (CueLocal.refl c t).siteLossNotice.others c' hc)
    (fun c t ht hch => by
      obtain ⟨hg, hl⟩ := guided_siteLossNotice (lost := True) (ht.ruled c)
      refine ⟨fun hX => hg.service.trans (Iff.trans ?_ hg.mode.symm), hl⟩
      show (t.ch c).control.state = _ ↔ (t.ch c).control.mode = _
      rw [hch, State.markLost_ch]
      exact h.service c hX) start
  exact ⟨swept.units, swept.cues, fun c => (channels c).1, fun _ c _ => (channels c).2, swept.beforeLoad⟩

theorem ControlOn.setSite (h : ControlOn X s) (cause : SiteCause) : ControlOn X (s.setSite cause) := by
  unfold State.setSite
  dsimp only
  split
  · exact h
  · split
    · exact h.enterLost _ _
    · rename_i hl
      exact (h.modSiteTo _ hl).reportSite _ _

theorem ControlOn.evaluateSite (h : ControlOn X s) (cause : SiteCause) (up : Bool) : ControlOn X (s.evaluateSite cause up) := by
  unfold State.evaluateSite
  split
  · exact h
  · split
    · exact h.setSite _
    · exact h
  · exact h.setSite _

theorem ControlOn.pathChanged (h : ControlOn X s) (side : Side) (up : Bool) : ControlOn X (s.pathChanged side up) := by
  unfold State.pathChanged
  cases side <;> exact (h.modSite _).evaluateSite _ _

theorem ControlOn.compareKeepalive (h : ControlOn X s) (sequence : Nat) : ControlOn X (s.compareKeepalive sequence) := by
  unfold State.compareKeepalive
  split
  · exact h
  · split_ifs
    · exact h.bumpUnit _
    · exact h
    · exact h.bumpUnit _

theorem ControlOn.takeKeepalive (h : ControlOn X s) (side : Side) (sequence : Nat) : ControlOn X (s.takeKeepalive side sequence) := by
  unfold State.takeKeepalive
  dsimp only
  refine ControlOn.modSite (ControlOn.compareKeepalive (ControlOn.bumpUnit ?_ _) _) _
  split
  · exact h.modSite _
  · exact (h.modSite _).evaluateSite _ _

theorem ControlOn.countKeepalive (h : ControlOn X s) : ControlOn X s.countKeepalive := by
  unfold State.countKeepalive
  split
  · dsimp only
    exact h.of_chans rfl rfl rfl
  · exact h

theorem ControlOn.expireKeepalive (h : ControlOn X s) : ControlOn X s.expireKeepalive := ((h.modSite _).bumpUnit _).evaluateSite _ _

theorem ControlOn.commandDeclareLost (h : ControlOn X s) : ControlOn X s.commandDeclareLost.1 := by
  unfold State.commandDeclareLost
  split
  · exact h
  · dsimp only
    exact h.enterLost _ _

theorem ControlOn.siteRestoreNotice (h : ControlOn X s) : ControlOn X (s.siteRestoreNotice c) := by
  unfold State.siteRestoreNotice
  split
  · rename_i hg
    exact h.guide (CueLocal.refl c s).startGuard (guided_startGuard fun hl => by simp [State.guardAllowed, hl] at hg)
  · exact h

theorem siteTable_alive (a b : Bool) (h : (a || b) = true) : siteTable a b .alive ≠ .lost := by
  cases a <;> cases b <;> simp_all [siteTable]

theorem ControlOn.commandRestore (h : ControlOn X s) : ControlOn X s.commandRestore.1 := by
  unfold State.commandRestore
  split
  · split
    · rename_i hup
      rw [Bool.and_eq_true, beq_iff_eq] at hup
      have restored : ControlOn X (((s.modSite fun x =>
          { x with state := siteTable s.site.viewA s.site.viewB s.site.automation, loss := none }).bumpUnit .siteRestores).reportSite .lost .restored) := by
        refine ControlOn.reportSite (ControlOn.bumpUnit (h.modSiteTo _ ?_) _) _ _
        rw [hup.2]
        exact siteTable_alive _ _ hup.1
      dsimp only
      exact restored.eachChannel fun _ _ hu => hu.siteRestoreNotice
    · exact h.bumpUnit _
  · exact h

/-! ## A boundary, and what it leaves due -/

theorem ControlOn.finishChannel (h : ControlOn X s) : ControlOn X (s.finishChannel c) := by
  unfold State.finishChannel
  dsimp only
  split
  · split
    · exact ((h.modWork _).assemble).judge _
    · exact (h.modWork _).assemble
  · exact h

theorem ControlOn.countGuard (h : ControlOn X s) : ControlOn X (s.countGuard c) := by
  unfold State.countGuard
  split
  · exact h.modControl _
  · exact h

theorem ControlOn.afterRelease (h : ControlOn X s) (j : Option Judgement) (realigned : Bool) : ControlOn X (s.afterRelease c j realigned) := by
  unfold State.afterRelease
  dsimp only
  split
  · exact ((h.countGuard.realignCues).modWork _).finishChannel
  · exact (h.countGuard.modWork _).finishChannel

theorem ControlOn.releaseChannel (h : ControlOn X s) (realigned : Bool) : ControlOn X (s.releaseChannel c realigned) := by
  unfold State.releaseChannel
  dsimp only
  split
  · exact (h.rebaseMain.takeMainBoundary).afterRelease _ _
  · exact h.takeMainBoundary.afterRelease _ _

theorem ControlOn.takeChannelBoundary (h : ControlOn X s) (realigned : Bool) : ControlOn X (s.takeChannelBoundary c realigned) := by
  unfold State.takeChannelBoundary
  dsimp only
  split
  · split
    · split
      · exact ((h.takeStandbyBoundary _).applyRetime).releaseChannel _
      · exact (h.takeStandbyBoundary _).modWork _
    · exact (h.takeStandbyBoundary _).releaseChannel _
  · exact h

theorem ControlOn.takePathsBoundary (h : ControlOn X s) : ControlOn X s.takePathsBoundary := h.of_chans rfl rfl rfl

theorem ControlOn.takeBoundary (h : ControlOn X s) (prev : Nat) (realigned : Bool) : ControlOn X (s.takeBoundary prev realigned) := by
  unfold State.takeBoundary
  dsimp only
  refine ControlOn.setWork (ControlOn.eachChannel (ControlOn.takeScheduleBoundary ?_ _) fun _ _ hu => hu.takeChannelBoundary _) _
  exact ((h.setWork _).takePathsBoundary).countKeepalive

theorem ControlOn.doRetime (h : ControlOn X s) : ControlOn X (s.doRetime c) := by
  unfold State.doRetime
  split
  · exact ((h.modWork _).applyRetime).releaseChannel _
  · exact h

/-- The cue that a step of the boundary takes up is the pending one (R159, R160, R163). -/
theorem cueStep_waiting {x : Cue} (h : s.cueStep c = some (.joinSwitch x) ∨ s.cueStep c = some (.joinExpiry x) ∨ s.cueStep c = some (.followOnSwitch x)) :
    (s.cv c).waiting = some x := by
  show (s.ch c).cue.pendingCue = some x
  unfold State.cueStep at h
  cases hy : (s.ch c).cue.pendingCue with
  | some y =>
    rw [hy] at h
    dsimp only at h
    split at h
    · split at h <;> simp at h <;> rw [h]
    · simp at h
  | none =>
    rw [hy] at h
    dsimp only at h
    split at h
    · split at h <;> split at h <;> simp at h
    · simp at h

end Sys2Proof.Machine

/-! PROOFS. The invariant of the channels under every command, and the settling of O4 and O6. -/

namespace Sys2Proof.Machine

-- Each elaboration thread takes a large stack, and the text is compiled as one file under a memory limit: one thread at a time.
set_option Elab.async false

variable {s t : State} {c : Chan} {X : Chan → Prop}

/-! ## What a boundary leaves due, taken -/

theorem ControlOn.endCueStep (h : ControlOn X s) (f : State → State) (hf : ∀ u, u.cv c = s.cv c → ControlOn X u → ControlOn X (f u)) :
    ControlOn X (s.endCueStep c f) := (hf _ (by simp [State.cv]; rfl) (h.modWork _)).finishChannel

theorem ControlOn.switchCue (h : ControlOn X s) {x : Cue} (hx : (s.cv c).waiting = some x) : ControlOn X (s.switchCue c x) :=
  ((CueLocal.refl c s).switchCue x).controlOn_of_sound h (sound_switchCue hx (h.ruled c))

theorem ControlOn.doJoinSwitch (h : ControlOn X s) : ControlOn X (s.doJoinSwitch c) := by
  unfold State.doJoinSwitch
  split
  · rename_i hx
    exact h.endCueStep _ fun u hu hc => hc.switchCue (hu ▸ cueStep_waiting (.inl hx))
  · exact h

theorem ControlOn.doJoinExpiry (h : ControlOn X s) : ControlOn X (s.doJoinExpiry c) := by
  unfold State.doJoinExpiry
  split
  · rename_i x _ hx
    refine h.endCueStep _ fun u hu hc => ?_
    have hw : ((u.bumpCh c .cueExpiries).cv c).waiting ≠ none := by
      rw [State.cv_bumpCh, hu, cueStep_waiting (.inr (.inl hx))]
      simp
    exact ((CueLocal.refl c _).failJoin x).controlOn_of_sound (hc.bumpCh .cueExpiries) (sound_failJoin hw x)
  · exact h

theorem ControlOn.doFollowOnSwitch (h : ControlOn X s) : ControlOn X (s.doFollowOnSwitch c) := by
  unfold State.doFollowOnSwitch
  split
  · rename_i hx
    exact h.endCueStep _ fun u hu hc => hc.switchCue (hu ▸ cueStep_waiting (.inr (.inr hx)))
  · exact h

/-- The playing cue stopped in a channel with no cue pending (R163, R164). -/
theorem sound_stopPlaying (hw : (s.cv c).waiting = none) : Sound (s.cv c) ((s.stopPlaying c).cv c) := by
  rw [State.cv_stopPlaying]
  exact ⟨⟨rfl, rfl, Iff.rfl, id⟩, fun _ => .of_waiting_none hw nofun⟩

theorem ControlOn.endFollowOn (h : ControlOn X s) (hw : (s.cv c).waiting = none) : ControlOn X (((s.stopPlaying c).bumpCh c .followOnFailures).followOnFailed c) := by
  have stopped := ((CueLocal.refl c s).stopPlaying).controlOn_of_sound h (sound_stopPlaying hw)
  exact (CueLocal.refl c _).followOnFailed.controlOn_of_sound (stopped.bumpCh _) (sound_followOnFailed (by simp))

theorem ControlOn.doFollowOnFailure (h : ControlOn X s) : ControlOn X (s.doFollowOnFailure c) := by
  unfold State.doFollowOnFailure
  split
  · refine h.endCueStep _ fun u hu hc => ?_
    exact ((CueLocal.refl c u).cancelPending.controlOn_of_sound hc (sound_cancelPending u c)).endFollowOn (by simp)
  · exact h

theorem ControlOn.doFollowOnCheck (h : ControlOn X s) : ControlOn X (s.doFollowOnCheck c) := by
  unfold State.doFollowOnCheck
  split
  · exact h.endCueStep _ fun u _ hc => hc.followOnCheck
  · exact h

/-- The end of the schedule falls due with no cue pending (R164). -/
theorem cueStep_endOfSchedule (h : s.cueStep c = some .endOfSchedule) : (s.cv c).waiting = none := by
  show (s.ch c).cue.pendingCue = none
  unfold State.cueStep at h
  cases hy : (s.ch c).cue.pendingCue with
  | some y =>
    rw [hy] at h
    dsimp only at h
    split at h
    · split at h <;> simp at h
    · simp at h
  | none => rfl

theorem ControlOn.doEndOfSchedule (h : ControlOn X s) : ControlOn X (s.doEndOfSchedule c) := by
  unfold State.doEndOfSchedule
  split
  · rename_i hx
    exact h.endCueStep _ fun u hu hc => hc.endFollowOn (hu ▸ cueStep_endOfSchedule hx)
  · exact h

theorem ControlOn.doGuardExpiry (h : ControlOn X s) : ControlOn X (s.doGuardExpiry c) := by
  unfold State.doGuardExpiry
  split
  · rename_i hs
    have worked := (h.modWork (c := c) fun w => { w with control := false }).bumpCh (c := c) .guardExpiries
    have hstate : (((s.modWork c fun w => { w with control := false }).bumpCh c .guardExpiries).cv c).Returning := .inl (by simpa [State.cv, Channel.cv, State.chState] using hs.2)
    exact (worked.guide ((CueLocal.refl c _).enterReturning false) (guided_enterReturning (.inr (.inr hstate)) (.inr hstate) false)).finishChannel
  · exact h

theorem ControlOn.doReturnArrival (h : ControlOn X s) : ControlOn X (s.doReturnArrival c) := by
  unfold State.doReturnArrival
  split
  · rename_i hs
    have hstate : ((s.modWork c fun w => { w with control := false }).cv c).state = .returning := by simpa [State.cv, Channel.cv, State.chState] using hs.2
    exact ((h.modWork _).guide (CueLocal.refl c _).arrive (guided_arrive (by rw [hstate]; simp))).finishChannel
  · exact h

theorem ControlOn.dropVoid (h : ControlOn X s) : ControlOn X (s.dropVoid c) := (h.modWork _).finishChannel

theorem ControlOn.doSettlingEnd (h : ControlOn X s) (det : Detector) : ControlOn X (s.doSettlingEnd c det) := by
  unfold State.doSettlingEnd
  split
  · exact h.modDetector _ _
  · exact h

theorem ControlOn.doRampAdvance (h : ControlOn X s) : ControlOn X (s.doRampAdvance c) := by
  unfold State.doRampAdvance
  split
  · exact (h.modWork _).modOutput _
  · exact h

theorem ControlOn.clearPathDue (h : ControlOn X s) (side : Side) : ControlOn X (s.clearPathDue side) := by
  cases side <;> exact h.setWork _

theorem ControlOn.doPathDown (h : ControlOn X s) (side : Side) : ControlOn X (s.doPathDown side) := by
  unfold State.doPathDown
  split
  · exact (((h.clearPathDue _).modPath _ _).bump _).pathChanged _ _
  · exact h

theorem ControlOn.doPathUp (h : ControlOn X s) (side : Side) : ControlOn X (s.doPathUp side) := by
  unfold State.doPathUp
  split
  · exact (((h.clearPathDue _).modPath _ _).bump _).pathChanged _ _
  · exact h

theorem ControlOn.doKeepaliveExpiry (h : ControlOn X s) : ControlOn X s.doKeepaliveExpiry := by
  unfold State.doKeepaliveExpiry
  split
  · exact (h.setWork _).expireKeepalive
  · exact h

theorem ControlOn.doSnapshotTimeout (h : ControlOn X s) : ControlOn X (s.doSnapshotTimeout c) := by
  unfold State.doSnapshotTimeout
  split
  · exact ((h.modWork _).bumpCh _).failSnapshot _
  · exact h

theorem ControlOn.doResyncRepeat (h : ControlOn X s) : ControlOn X (s.doResyncRepeat c) := by
  unfold State.doResyncRepeat
  split
  · exact (h.modWork _).resync
  · exact h

theorem ControlOn.doWarmRestartEnd (h : ControlOn X s) : ControlOn X s.doWarmRestartEnd := by
  unfold State.doWarmRestartEnd
  split
  · dsimp only
    split
    · exact ControlOn.reply (ControlOn.setMgmt (h.setWork { s.work with warmEnd := false }) { s.mgmt with restarting := none } rfl) _ _ _
    · exact h.setWork _
  · exact h

theorem ControlOn.sendHead (h : ControlOn X s) (o : Origin) : ControlOn X (s.sendHead o) := by
  unfold State.sendHead
  split
  · exact h
  · exact ControlOn.foldl ((h.modCtx _ _).bump _) _ _ fun _ _ hu => hu.send _ _

theorem ControlOn.sendReports (h : ControlOn X s) (o : Origin) : ControlOn X (s.sendReports o) := by
  unfold State.sendReports
  split
  · exact (h.sendHead _).sendHead _
  · exact h

theorem ControlOn.doReport (h : ControlOn X s) : ControlOn X s.doReport := by
  unfold State.doReport
  split
  · exact ((h.setWork _).sendReports _).sendReports _
  · exact h

theorem ControlOn.catchUpChannel (h : ControlOn X s) : ControlOn X (s.catchUpChannel c) := by
  unfold State.catchUpChannel
  dsimp only
  refine ControlOn.endDelayWindow (ControlOn.doRampAdvance (ControlOn.foldl ?_ _ _ fun _ _ hu => hu.doSettlingEnd _))
  exact h.doRetime.doJoinSwitch.doJoinExpiry.doFollowOnSwitch.doFollowOnFailure.doFollowOnCheck.doEndOfSchedule.doGuardExpiry.doReturnArrival.dropVoid

theorem ControlOn.finishBoundary (h : ControlOn X s) : ControlOn X s.finishBoundary := by
  unfold State.finishBoundary
  split
  · exact h
  · dsimp only
    have channels := h.eachChannel (f := fun c t => t.catchUpChannel c) fun _ _ hu => hu.catchUpChannel
    have unit := ((((channels.doWarmRestartEnd.doPathDown .a).doPathUp .a).doPathDown .b).doPathUp .b).doKeepaliveExpiry
    have timed := unit.eachChannel (f := fun c t => (t.doSnapshotTimeout c).doResyncRepeat c) fun _ _ hu => hu.doSnapshotTimeout.doResyncRepeat
    exact timed.doReport

theorem ControlOn.catchUp (h : ControlOn X s) : ControlOn X s.catchUp := by
  rcases s.catchUp_cases with ⟨-, e⟩ | ⟨-, e⟩ <;> rw [e]
  · exact h.finishBoundary
  · exact h.finishBoundary.sendFrame

/-! ## The Timeline Unit (Chapter 1) -/

theorem ControlOn.setLock (h : ControlOn X s) (new : LockState) : ControlOn X (s.setLock new) := by
  unfold State.setLock
  dsimp only
  split
  · exact h
  · exact (h.modTime _).raise _

theorem ControlOn.makeBoundary (h : ControlOn X s) (kind : BoundaryKind) (new : Nat) (lock : LockState) (time : Nat) : ControlOn X (s.makeBoundary kind new lock time) := by
  unfold State.makeBoundary
  dsimp only
  exact ((h.modTime _).setLock _).takeBoundary _ _

theorem ControlOn.expireFrameTimer (h : ControlOn X s) : ControlOn X s.expireFrameTimer := by
  unfold State.expireFrameTimer
  split
  · exact h
  · dsimp only
    refine ControlOn.makeBoundary ?_ _ _ _ _
    have coasted : ControlOn X (if s.time.lock = .locked then (s.modTime fun x => { x with absence := min (s.time.absence + 1) 2 }).bumpUnit .coastedBoundaries
        else s.modTime fun x => { x with absence := min (s.time.absence + 1) 2 }) := by
      split
      · exact (h.modTime _).bumpUnit _
      · exact h.modTime _
    split
    · exact coasted.bumpUnit _
    · exact coasted

theorem ControlOn.matchLate (h : ControlOn X s) (difference : Int) (time : Nat) : ControlOn X (s.matchLate difference time) := (h.modTime _).setLock _

theorem ControlOn.realignPulse (h : ControlOn X s) (p time : Nat) : ControlOn X (s.realignPulse p time) := by
  unfold State.realignPulse
  dsimp only
  split_ifs
  · exact (h.modTime _).matchLate _ _
  · exact (h.modTime _).makeBoundary _ _ _ _
  · exact ((h.modTime _).bumpUnit _).makeBoundary _ _ _ _

theorem ControlOn.lockedPulse (h : ControlOn X s) (p time : Nat) : ControlOn X (s.lockedPulse p time) := by
  unfold State.lockedPulse
  dsimp only
  split_ifs
  · exact (h.modTime _).makeBoundary _ _ _ _
  · exact ((h.modTime _).bumpUnit _).makeBoundary _ _ _ _
  · exact ((h.modTime _).bumpUnit _).makeBoundary _ _ _ _
  · exact ((h.modTime _).bumpUnit _).makeBoundary _ _ _ _

theorem ControlOn.lostPulse (h : ControlOn X s) (p time : Nat) : ControlOn X (s.lostPulse p time) := by
  unfold State.lostPulse
  dsimp only
  split_ifs
  · exact (h.modTime _).makeBoundary _ _ _ _
  · exact ((h.modTime _).bumpUnit _).makeBoundary _ _ _ _
  · exact ((h.modTime _).bumpUnit _).makeBoundary _ _ _ _
  · exact ((h.modTime _).bumpUnit _).setLock _

theorem ControlOn.mismatchPulse (h : ControlOn X s) (p : Nat) : ControlOn X (s.mismatchPulse p) := by
  unfold State.mismatchPulse
  exact h.modTime _

theorem ControlOn.takePulse (h : ControlOn X s) (label : Label) (time : Nat) : ControlOn X (s.takePulse label time) := by
  unfold State.takePulse
  split
  · exact h
  · split
    · exact h.bumpUnit _
    · have present := h.modTime fun x => { x with absence := 0 }
      dsimp only
      split
      · exact present.realignPulse _ _
      · split
        · split
          · exact present.matchLate _ _
          · exact present.lockedPulse _ _
        · split
          · exact present.matchLate _ _
          · exact present.lostPulse _ _
        · exact present.mismatchPulse _
        · exact present.mismatchPulse _

theorem ControlOn.commandRealign (h : ControlOn X s) : ControlOn X s.commandRealign.1 := by
  unfold State.commandRealign
  split <;> dsimp only
  · exact h
  · exact h.modTime _

theorem ControlOn.changeRate (h : ControlOn X s) (r : Rate) (time : Nat) : ControlOn X (s.changeRate r time) := by
  unfold State.changeRate
  dsimp only
  exact ((h.modTime _).setLock _).clearAllLists _

/-! ## Settings (R194, R201) -/

/-- An entry stored, other than SERVICE_MODE. -/
theorem ControlOn.putRef (h : ControlOn X s) (r : SettingRef) (v : Nat) (hr : r.readOnly = false) : ControlOn X (s.putRef r v) := by
  rcases s.putRef_cases r v with ⟨c, f, e⟩ | ⟨c, rfl, -⟩ | ⟨f, e⟩ | ⟨-, e⟩
  · rw [e]; exact h.modSettings _
  · simp [SettingRef.readOnly] at hr
  · rw [e]; exact h.modUnit _
  · rw [e]; exact h.modTime _

end Sys2Proof.Machine

/-! PROOFS. The invariant of the channels under settings, service, the load and the resets, and every command: O4 and O6 settled. -/

namespace Sys2Proof.Machine

-- Each elaboration thread takes a large stack, and the text is compiled as one file under a memory limit: one thread at a time.
set_option Elab.async false

variable {s t : State} {c : Chan} {X : Chan → Prop}

/-! ## Writes (R194) -/

theorem ControlOn.writeDetector (h : ControlOn X s) (d : Detector) (k : DetSetting) (v : Nat) (hk : (SettingRef.det c d k).readOnly = false) :
    ControlOn X (s.writeDetector c d k v) := by
  have hput := h.putRef (.det c d k) v hk
  unfold State.writeDetector
  dsimp only
  split
  · exact h
  · split
    · split
      · split
        · exact hput.evaluate _
        · exact (hput.modDetector _ _).evaluate _
      · exact hput.evaluate _
      · exact hput
    · exact hput

theorem ControlOn.writeChain (h : ControlOn X s) (v : Nat) : ControlOn X (s.writeChain c v) := by
  have hput := h.putRef (.chain c) v rfl
  unfold State.writeChain
  dsimp only
  split
  · exact h
  · split
    · exact hput.evaluate _
    · exact hput

theorem ControlOn.writeRef (h : ControlOn X s) {r : SettingRef} {v time : Nat} (hr : r.readOnly = false) (ht : s.writeRef r v time = some t) : ControlOn X t := by
  unfold State.writeRef at ht
  split at ht
  · cases ht
    exact h.writeDetector _ _ _ hr
  · cases ht
    exact h.writeChain _
  · cases ht
    split
    · exact (h.putRef _ _ rfl).cutRamp
    · exact h.putRef _ _ rfl
  · split_ifs at ht
    · cases ht
      exact h
    · rw [← Option.some.inj ht]
      exact h.changeRate _ _
  · cases ht
    exact h.putRef _ _ hr

/-! ## Entry into service and exit (R123, R124) -/

theorem inUse_replicate {n : Nat} : inUse (Vector.replicate n Slot.free) = 0 := by
  simp [inUse, List.countP_replicate]

/-- The units of a channel that holds no frame and collects none. -/
theorem UnitInv.of_empty {x : Channel} (hs : x.slots.main = Vector.replicate 16 .free ∧ x.slots.standby = Vector.replicate 4 .free)
    (ha : x.align.mainHeld = none ∧ x.align.standbyHeld = none ∧ x.align.freeUnits = 21) : UnitInv x := by
  obtain ⟨hm, hb⟩ := hs
  obtain ⟨hmh, hbh, hf⟩ := ha
  have hheld : x.unitsHeld = 0 := by simp [unitsHeld_eq, Align.held, hm, hb, hmh, hbh, inUse_replicate]
  refine .of_placed ⟨fun i p hp => ?_, fun i p hp => ?_⟩ (by rw [hheld, hf]) fun _ => hheld
  · simp [hm] at hp
  · simp [hb] at hp

/-- A channel's record at an entry into service: MAIN in the mode named, the held frames given up. -/
theorem State.entry_ch (s : State) (c : Chan) (mode : ServiceMode) :
    (∀ c', c' ≠ c → ((s.controlEntry c mode).alignEntry c).ch c' = s.ch c') ∧
      ∃ control align output, ((s.controlEntry c mode).alignEntry c).ch c = { s.ch c with control := control, align := align, output := output } ∧
        control.mode = mode ∧ control.state = .main ∧ control.owner = (s.ch c).control.owner ∧
        align.mainHeld = none ∧ align.standbyHeld = none ∧ align.freeUnits = (s.ch c).align.freeUnits := by
  unfold State.controlEntry State.alignEntry State.setState
  refine ⟨fun c' hc => by simp [hc], ?_⟩
  simp only [State.ch_modAlign_same, State.ch_modOutput_same, State.ch_modControl_same]
  exact ⟨_, _, _, rfl, rfl, rfl, rfl, rfl, rfl, rfl⟩

/-- The record of a channel out of service taken to MAIN. -/
theorem UnitInv.entered {x y : Channel} (h : UnitInv x) (ho : x.control.state = .outOfService) (hs : y.slots = x.slots)
    (ha : y.align.mainHeld = none ∧ y.align.standbyHeld = none ∧ y.align.freeUnits = x.align.freeUnits) : UnitInv y := by
  obtain ⟨hm, hb, hf⟩ := ha
  have hout := h.out ho
  have hu := h.units
  rw [hout] at hu
  rw [unitsHeld_eq] at hout
  have hheld : y.unitsHeld = 0 := by
    rw [unitsHeld_eq, hs]
    simp only [Align.held, hm, hb, Option.isSome_none, flagNat_false]
    omega
  exact .of_placed (hs ▸ h.placed) (by omega) fun _ => hheld

theorem ControlOn.enterService (h : ControlOn X s) (hl : s.loading = false) (hs : s.chState c = .outOfService) {mode : ServiceMode} (hm : mode ≠ .outOfService)
    (hlost : s.site.state = .lost → (s.ch c).control.owner = .localSite) : ControlOn (fun c' => X c' ∨ c' = c) (s.enterService c mode) := by
  obtain ⟨hothers, control, align, output, hch, hmode, hstate, howner, hmh, hbh, hfree⟩ := s.entry_ch c mode
  have hout := (h.ruled c).noneInMain (.inr hs)
  have hplaying := (h.ruled c).playing_none (by rw [State.cv_state, hs]; simp) (by simp [CueView.Returning, State.cv_state, hs])
  refine ControlOn.monitorEntry (ControlOn.modWork (ControlOn.modOutput (h.replace (c := c) hothers rfl rfl ?_ ?_ (fun _ => ?_) (fun hsite _ => ?_) (fun hload => ?_)
    fun c' hc hX => hX.resolve_right hc) _) _)
  · rw [hch]
    exact (h.units c).entered hs rfl ⟨hmh, hbh, hfree⟩
  · unfold State.cv
    rw [hch]
    exact .of_waiting_none hout fun hp => absurd hplaying hp
  · rw [hch]
    dsimp only
    rw [hmode, hstate]
    simp [hm]
  · unfold State.cv
    rw [hch]
    refine ⟨howner.trans (hlost hsite), ?_⟩
    dsimp only [CueView.Returning, Channel.cv]
    simp [hstate]
  · rw [hl] at hload
    exact absurd hload (by simp)

theorem CueLocal.controlExit (h : CueLocal c s t) : CueLocal c s (t.controlExit c) := by
  unfold State.controlExit
  exact ((h.endCues.modRecord _).modControl _).setState _

theorem State.cv_controlExit (s : State) (c : Chan) :
    (s.controlExit c).cv c = { mode := .outOfService, state := .outOfService, owner := (s.cv c).owner, waiting := none, playing := none } := by
  have howner : (((s.endCues c).modRecord c abandonPending).ch c).control.owner = (s.cv c).owner := by
    have : (((s.endCues c).modRecord c abandonPending).cv c).owner = (s.cv c).owner := by rw [State.cv_modRecord, State.cv_endCues]
    exact this
  unfold State.controlExit
  rw [State.cv_setState, State.cv_modControl, State.cv_modRecord, State.cv_endCues]
  dsimp only
  rw [howner]

/-- A channel's record at an exit, its slots, held frames and units given up (R41). -/
def Channel.vacated (x : Channel) : Channel :=
  { x with
    slots := { main := Vector.replicate 16 .free, standby := Vector.replicate 4 .free, tracker := none }
    align :=
      { x.align with
        d := none, mainHeld := none, standbyHeld := none, mainOffer := .none, standbyOffer := .none, retime := none
        measurement := { x.align.measurement with count := 0, greatest := none, waiting := none }
        freeUnits := 21 } }

theorem State.alignExit_eq (s : State) (c : Chan) : s.alignExit c = (s.modCh c Channel.vacated).abandonCaptures c := rfl

theorem Channel.vacated_cv (x : Channel) : x.vacated.cv = x.cv := rfl

theorem UnitInv.vacated (x : Channel) : UnitInv x.vacated := .of_empty ⟨rfl, rfl⟩ ⟨rfl, rfl, rfl⟩

theorem ControlOn.leaveService (h : ControlOn X s) : ControlOn X (s.leaveService c) := by
  have hlocal := (CueLocal.refl c s).controlExit
  have hcv : ((s.controlExit c).modCh c Channel.vacated).cv c =
      { mode := .outOfService, state := .outOfService, owner := (s.cv c).owner, waiting := none, playing := none } := by
    rw [← State.cv_controlExit]
    unfold State.cv
    rw [State.ch_modCh_same, Channel.vacated_cv]
  have hstate : (((s.controlExit c).modCh c Channel.vacated).ch c).control.state = .outOfService := congrArg CueView.state hcv
  have hmode : (((s.controlExit c).modCh c Channel.vacated).ch c).control.mode = .outOfService := congrArg CueView.mode hcv
  have vacated : ControlOn X ((s.controlExit c).modCh c Channel.vacated) := by
    refine h.replace (c := c) (fun c' hc => ?_) ?_ ?_ ?_ ?_ (fun _ => iff_of_true hstate hmode) (fun hl hX => ?_) (fun _ => hstate) fun _ _ => id
    · rw [State.ch_modCh_ne _ _ _ _ hc, hlocal.others c' hc]
    · rw [State.modCh_site, hlocal.site]
    · rw [State.modCh_mgmt]
      exact (congrArg Management.config hlocal.mgmt :)
    · rw [State.ch_modCh_same]
      exact .vacated _
    · rw [hcv]
      exact .of_waiting_none rfl nofun
    · rw [hcv]
      exact ⟨(h.lost hl c hX).1, by simp [CueView.Returning]⟩
  unfold State.leaveService
  rw [State.alignExit_eq]
  unfold State.clearOutput
  exact ((vacated.abandonCaptures.modOutput _).modWork _).monitorExit

/-! ## The channel commands (R135) -/

/-- A change between the modes of service (R123). -/
theorem ControlOn.setMode (h : ControlOn X s) (hX : X c) (hs : s.inService c = true) {m : ServiceMode} (hm : m ≠ .outOfService) :
    ControlOn X (s.modControl c fun y => { y with mode := m }) := by
  have hstate : (s.ch c).control.state ≠ .outOfService := by simpa [State.inService] using hs
  refine h.guide ((CueLocal.refl c s).modControl _) ?_
  rw [State.cv_modControl]
  exact ⟨iff_of_false hm fun hmode => hstate ((h.service c hX).2 hmode), Iff.rfl, fun _ => id, fun _ => id,
    fun hv => ⟨hv.failed, hv.noneInMain, hv.playing, hv.followOn⟩⟩

theorem ControlOn.commandSetService (h : ControlOn (fun _ => True) s) (hl : s.loading = false) (mode : Nat) : ControlOn (fun _ => True) (s.commandSetService c mode).1 := by
  unfold State.commandSetService
  split
  · exact h
  · split <;> dsimp only
    · exact h.leaveService
    · exact h
  · rename_i m hne _
    have hmode : m ≠ .outOfService := hne
    split <;> dsimp only
    · rename_i hin
      exact h.setMode trivial hin hmode
    · rename_i hin
      have hout : s.chState c = .outOfService := by simpa [State.inService, State.chState] using hin
      exact (h.enterService hl hout hmode fun hsite => (h.lost hsite c trivial).1).mono fun _ _ => .inl trivial

theorem ControlOn.commandPin (h : ControlOn X s) (code : Nat) : ControlOn X (s.commandPin c code).1 := by
  unfold State.commandPin
  split
  · exact h.commandPinMain
  · exact h.commandPinStandby
  · exact h

theorem ControlOn.commandSeize (h : ControlOn X s) : ControlOn X (s.commandSeize c).1 := h.setOwner _ fun _ => rfl

theorem ControlOn.runChannel (h : ControlOn (fun _ => True) s) (hl : s.loading = false) (o : Origin) (k : ChannelCommand) :
    ControlOn (fun _ => True) (s.runChannel c o k).1 := by
  cases k with
  | setService mode => exact h.commandSetService hl mode
  | take => exact h.commandTake o
  | returnToMain => exact h.commandReturn o
  | hold => exact h.commandHold o
  | pin code => exact h.commandPin code
  | unpin => exact h.commandUnpin
  | seize => exact h.commandSeize
  | release => exact h.commandRelease
  | ackTakeover => exact h.commandAck o
  | recue => exact h.commandRecue
  | clearRecords => exact h.commandClearRecords

theorem ControlOn.commandRetime (h : ControlOn X s) (value : Option Nat) : ControlOn X (s.commandRetime c value).1 := by
  unfold State.commandRetime
  split
  · exact h
  · dsimp only
    split_ifs <;> dsimp only <;> exact h.modAlign _

theorem ControlOn.commandCapture (h : ControlOn X s) (slate : Nat) (channel : Option Chan) (path : Nat) (port : Port) (request : Nat) :
    ControlOn X (s.commandCapture slate channel path port request).1 := by
  unfold State.commandCapture
  split
  · split
    · split
      · exact h.requestCapture _ _
      · exact h
    · exact h
  · exact h

/-! ## The Management Unit (Chapter 10) -/

theorem ControlOn.clearEdges (h : ControlOn X s) (page offset n : Nat) : ControlOn X (s.clearEdges page offset n) := by
  unfold State.clearEdges
  split
  · exact h
  · exact h.modMonitor _

theorem ControlOn.takeWarmRestart (h : ControlOn X s) (a : Asked) : ControlOn X (s.takeWarmRestart a) := by
  unfold State.takeWarmRestart
  dsimp only
  refine ControlOn.modSite (ControlOn.eachChannel ?_ fun c u hu => ?_) _
  · exact h.setMgmt _ rfl
  split
  · exact hu.monitorRestart
  · exact hu

theorem ControlOn.commandSave (h : ControlOn X s) (owed : ReplyTo) : ControlOn X (s.commandSave owed).1 := by
  unfold State.commandSave
  split
  · exact h
  · exact h.of_chans rfl rfl rfl

theorem ControlOn.completeSave (h : ControlOn X s) (readBack : Option Image) : ControlOn X (s.completeSave readBack) := by
  unfold State.completeSave
  split
  · exact h
  · dsimp only
    split
    · exact h.of_chans rfl rfl rfl
    · refine ControlOn.reply ?_ _ _ _
      exact h.of_chans rfl rfl rfl

theorem ControlOn.changeLink (h : ControlOn X s) (p : Port) (up : Bool) : ControlOn X (s.changeLink p up) := by
  unfold State.changeLink
  dsimp only
  split
  · exact h
  · exact (h.setPorts _).bump _

theorem controlOn_keptByRequests : KeptByRequests fun t => t.loading = false ∧ ControlOn (fun _ => True) t := by
  have keep : ∀ {t u : State}, KeepsLists t u → ControlOn (fun _ => True) u → t.loading = false → u.loading = false ∧ ControlOn (fun _ => True) u :=
    fun k hu hl => ⟨k.toKeepsBounds.loading.trans hl, hu⟩
  constructor
  case bump => exact fun t key h => keep ((KeepsLists.refl t).bump key) (h.2.bump key) h.1
  case reply => exact fun t o p r h => keep ((KeepsLists.refl t).reply o p r) (h.2.reply o p r) h.1
  case context => exact fun t o f hf h => keep ((KeepsLists.refl t).modCtx o f hf) (h.2.modCtx o f) h.1
  case clearEdges => exact fun t page offset n h => keep ((KeepsLists.refl t).clearEdges page offset n) (h.2.clearEdges page offset n) h.1
  case clearCounters => exact fun t h => keep (KeepsLists.refl t).clearCounters (h.2.of_chans rfl rfl rfl) h.1
  case consolePort => exact fun t n h => keep ((KeepsLists.refl t).setMgmt _ rfl id id) (h.2.setMgmt _ rfl) h.1
  case warmRestart => exact fun t a h => keep ((KeepsLists.refl t).takeWarmRestart a) (h.2.takeWarmRestart a) h.1
  case command => exact fun t c o k h => keep ((KeepsLists.refl t).runChannel o k) (h.2.runChannel h.1 o k) h.1
  case retime => exact fun t c value h => keep ((KeepsLists.refl t).commandRetime value) (h.2.commandRetime value) h.1
  case capture =>
    exact fun t slate c path port request h => keep ((KeepsLists.refl t).commandCapture slate c path port request) (h.2.commandCapture slate c path port request) h.1
  case realign => exact fun t h => ⟨(commandRealign_loading t).trans h.1, h.2.commandRealign⟩
  case declareLost => exact fun t h => keep (KeepsLists.refl t).commandDeclareLost h.2.commandDeclareLost h.1
  case restore => exact fun t h => keep (KeepsLists.refl t).commandRestore h.2.commandRestore h.1
  case save => exact fun t owed h => keep ((KeepsLists.refl t).commandSave owed) (h.2.commandSave owed) h.1
  case writeRef =>
    rintro t r v time u hr hu ⟨hl, ht⟩
    refine ⟨?_, ht.writeRef hr hu⟩
    rcases State.writeRef_cases hu with k | ⟨-, -, e⟩
    · exact k.toKeepsBounds.loading.trans hl
    · rw [e]
      exact (changeRate_loading t (rateOf v) time).trans hl
  case keepalive => exact fun t side sequence h => keep ((KeepsLists.refl t).takeKeepalive side sequence) (h.2.takeKeepalive side sequence) h.1
  case schedule => exact fun t channel k h => ⟨(KeepsBounds.takeScheduleCarrier t channel k).loading.trans h.1, h.2.takeScheduleCarrier channel k⟩
  case ready => exact fun t n player number h => keep ((KeepsLists.refl t).takeReady n player number) (h.2.takeReady n player number) h.1
  case refused => exact fun t n player number h => keep ((KeepsLists.refl t).takeRefused n player number) (h.2.takeRefused n player number) h.1

theorem ControlOn.keepLoaded (h : t.loading = false ∧ ControlOn (fun _ => True) t) (p : Port) :
    (t.markTraffic p).loading = false ∧ ControlOn (fun _ => True) (t.markTraffic p) :=
  ⟨((KeepsLists.refl t).markTraffic p).toKeepsBounds.loading.trans h.1, h.2.markTraffic p⟩

theorem ControlOn.receiveControl (h : ControlOn (fun _ => True) s) (rx : ControlRx) (r : Request) (time : Nat) : ControlOn (fun _ => True) (s.receiveControl rx r time) :=
  receiveControl_kept controlOn_keptByRequests (fun _ key hu => hu.bump key) (fun _ p hu => ControlOn.keepLoaded hu p) h rx r time

theorem ControlOn.receiveRaw (h : ControlOn (fun _ => True) s) (raw : RawControl) : ControlOn (fun _ => True) (s.receiveRaw raw) :=
  receiveRaw_kept controlOn_keptByRequests (fun _ key hu => hu.bump key) (fun _ p hu => ControlOn.keepLoaded hu p) h raw

theorem ControlOn.receiveFrame (h : ControlOn (fun _ => True) s) (p : Port) (f : EthFrame) (time : Nat) : ControlOn (fun _ => True) (s.receiveFrame p f time) :=
  receiveFrame_kept controlOn_keptByRequests (fun _ key hu => hu.bump key) (fun _ p hu => ControlOn.keepLoaded hu p)
    (fun _ side m hu => hu.receiveMainMedia side m) (fun _ n m hu => hu.receiveStandbyMedia n m) h p f time

theorem ControlOn.walkReach (h : ControlOn X s) (o : Origin) : ControlOn X (s.walkReach o) := by
  have refused : ∀ {v : State}, ControlOn X v → ∀ a code, ControlOn X (v.refuseSticky a code) := fun hv a code => (hv.modCtx _ _).answer _ _ _ _
  have ended : ∀ w ranOut, ControlOn X (s.endWalk o w ranOut) := fun w ranOut => by
    unfold State.endWalk State.advance
    dsimp only
    exact ((h.modCtx _ _).answer _ _ _ _).modCtx _ _
  unfold State.walkReach
  split
  · exact h
  · split
    · dsimp only
      split
      · exact ended _ _
      · exact h.modCtx _ _
    · split
      · exact ended _ _
      · dsimp only
        exact refused (h.modCtx _ _) _ _

/-! ## The load (R201) -/

/-- What holds while the image's entries are taken: every channel is out of service, whatever its mode, and LOCAL while the site is LOST. -/
structure Vacant (s : State) : Prop extends ControlOn (fun _ => False) s where
  out : ∀ c, s.chState c = .outOfService
  owner : s.site.state = .lost → ∀ c, (s.ch c).control.owner = .localSite

theorem Vacant.of_control (h : Vacant s) (hs : ControlOn (fun _ => False) t) (hsite : t.site.state = s.site.state)
    (hc : ∀ c, (t.ch c).control.state = (s.ch c).control.state ∧ (t.ch c).control.owner = (s.ch c).control.owner) : Vacant t :=
  ⟨hs, fun c => (hc c).1.trans (h.out c), fun hl c => (hc c).2.trans (h.owner (hsite ▸ hl) c)⟩

theorem Vacant.modSettings (h : Vacant s) (f : ChannelSettings → ChannelSettings) : Vacant (s.modSettings c f) := by
  refine h.of_control (h.toControlOn.modSettings f) rfl fun c' => ?_
  by_cases hc : c' = c
  · subst hc; simp
  · simp [hc]

/-- A mode stored with no further effect. -/
theorem Vacant.setMode (h : Vacant s) (m : ServiceMode) : Vacant (s.modControl c fun y => { y with mode := m }) := by
  have hrest : ∀ c', ((s.modControl c fun y => { y with mode := m }).ch c').control.state = (s.ch c').control.state ∧
      ((s.modControl c fun y => { y with mode := m }).ch c').control.owner = (s.ch c').control.owner := fun c' => by
    by_cases hc : c' = c
    · subst hc; simp
    · simp [hc]
  refine h.of_control ?_ rfl hrest
  refine h.toControlOn.replace (c := c) (fun c' hc => State.ch_modControl_ne _ _ _ _ hc) rfl rfl ?_ ?_ (fun hX => hX.elim) (fun _ hX => hX.elim)
    (fun hl => (hrest c).1.trans (h.beforeLoad hl c)) fun _ _ hX => hX.elim
  · rw [State.ch_modControl_same]
    exact (h.units c).of_eq rfl rfl rfl rfl rfl
  · rw [State.cv_modControl]
    have hr := h.toControlOn.ruled c
    exact ⟨hr.failed, hr.noneInMain, hr.playing, hr.followOn⟩

theorem Vacant.of_chans (h : Vacant s) (hc : t.chans = s.chans) (hsite : t.site.state = s.site.state)
    (hconfig : t.mgmt.config = s.mgmt.config) : Vacant t := by
  refine h.of_control (h.toControlOn.of_chans hc hsite hconfig) hsite fun c => ?_
  unfold State.ch
  rw [hc]
  exact ⟨rfl, rfl⟩

theorem Vacant.putRef (h : Vacant s) (r : SettingRef) (v : Nat) : Vacant (s.putRef r v) := by
  rcases s.putRef_cases r v with ⟨c, f, e⟩ | ⟨c, -, e⟩ | ⟨f, e⟩ | ⟨-, e⟩ <;> rw [e]
  · exact h.modSettings f
  · exact h.setMode _
  · exact h.of_chans rfl rfl rfl
  · exact h.of_chans rfl rfl rfl

theorem Vacant.loadEntry {acc : State × List Byte} (h : Vacant acc.1) (r : SettingRef) : Vacant (loadEntry acc r).1 := by
  have counted : Vacant (if (adjustValue r.kind (bigEndian (acc.2.take r.kind.width))).2 = true then acc.1.bumpUnit .imageAdjustments else acc.1) := by
    split
    · exact h.of_chans rfl rfl rfl
    · exact h
  unfold Machine.loadEntry
  dsimp only
  split
  · exact counted.putRef _ _
  · exact counted

theorem Vacant.loadEntries (l : List SettingRef) {acc : State × List Byte} (h : Vacant acc.1) :
    Vacant (l.foldl Machine.loadEntry acc).1 := by
  induction l generalizing acc with
  | nil => exact h
  | cons r l ih => exact ih (h.loadEntry r)

theorem Vacant.defaultSettings (h : Vacant s) : Vacant s.defaultSettings := by
  unfold State.defaultSettings
  dsimp only
  refine State.eachChannel_keeps (fun c u hu => (hu.modSettings _).setMode _) ?_
  exact h.of_chans rfl rfl rfl

/-- The load over, with every channel out of service still. -/
theorem Vacant.setConfig (h : Vacant s) (m : Management) : Vacant { s with mgmt := m } :=
  ⟨⟨h.units, h.cues, h.service, h.lost, fun _ => h.out⟩, h.out, h.owner⟩

theorem Vacant.takeImage (h : Vacant s) (answer : Option Image) : Vacant (s.takeImage answer) := by
  unfold State.takeImage
  dsimp only
  split
  · exact (Vacant.loadEntries (acc := (s.defaultSettings, _)) _ h.defaultSettings).setConfig _
  · exact h.defaultSettings.setConfig _
  · exact h.defaultSettings

theorem Vacant.resync (h : Vacant s) : Vacant (s.resync c) := by
  refine h.of_control h.toControlOn.resync rfl fun c' => ?_
  unfold State.resync
  by_cases hc : c' = c
  · subst hc; simp [State.sendMain]
  · simp [hc, State.sendMain]

/-- One channel's turn in the sweep that ends the load (R149). -/
def enterLoaded (c : Chan) (t : State) : State :=
  match (t.ch c).control.mode with
  | .outOfService => t
  | m => t.enterService c m

theorem enterLoaded_of_out {c : Chan} (h : (t.ch c).control.mode = .outOfService) : enterLoaded c t = t := by
  unfold enterLoaded
  rw [h]

theorem enterLoaded_of_in {c : Chan} (h : (t.ch c).control.mode ≠ .outOfService) : enterLoaded c t = t.enterService c (t.ch c).control.mode := by
  unfold enterLoaded
  split
  · exact absurd ‹_› h
  · rfl

/-- The channels that the sweep has still to reach stand as the load left them. -/
theorem ControlOn.enterLoaded {l : List Chan} (hn : l.Nodup) {u : State} (hout : ∀ c ∈ l, u.chState c = .outOfService)
    (hlost : u.site.state = .lost → ∀ c, (u.ch c).control.owner = .localSite) :
    ∀ {t : State} {X : Chan → Prop}, ControlOn X t → t.loading = false → t.site = u.site → (∀ c ∈ l, t.ch c = u.ch c) →
      ControlOn (fun c => X c ∨ c ∈ l) (l.foldl (fun t c => Machine.enterLoaded c t) t) := by
  induction l with
  | nil => exact fun h _ _ _ => h.mono fun _ => by simp
  | cons c l ih =>
    obtain ⟨hc, hl⟩ := List.nodup_cons.1 hn
    intro t X ht hload hsite hch
    have hchc := hch c (List.mem_cons_self ..)
    have howner : t.site.state = .lost → (t.ch c).control.owner = .localSite := fun h => hchc ▸ hlost (hsite ▸ h) c
    have hstate : t.chState c = .outOfService := (congrArg (fun x => x.control.state) hchc).trans (hout c (List.mem_cons_self ..))
    have taken : ControlOn (fun c' => X c' ∨ c' = c) (Machine.enterLoaded c t) ∧ (Machine.enterLoaded c t).loading = false ∧
        Elsewhere c t (Machine.enterLoaded c t) := by
      by_cases hm : (t.ch c).control.mode = .outOfService
      · rw [enterLoaded_of_out hm]
        refine ⟨ht.replace (c := c) (fun _ _ => rfl) rfl rfl (ht.units c) (ht.ruled c) (fun _ => iff_of_true hstate hm) (fun h _ => ⟨howner h, ?_⟩)
          (ht.beforeLoad · c) fun _ hne hX => hX.resolve_right hne, hload, .refl _ _⟩
        rw [CueView.Returning, State.cv_state, hstate]
        simp
      · rw [enterLoaded_of_in hm]
        exact ⟨ht.enterService hload hstate hm howner, ((KeepsLists.refl t).enterService _).toKeepsBounds.loading.trans hload, (Elsewhere.refl c t).enterService _⟩
    obtain ⟨hon, hload', helse⟩ := taken
    refine (ih hl (fun c' hc' => hout c' (List.mem_cons_of_mem _ hc')) hon hload' (helse.site.trans hsite) fun c' hc' => ?_).mono fun c' hX => ?_
    · rw [helse.others c' fun he => hc (he ▸ hc')]
      exact hch c' (List.mem_cons_of_mem _ hc')
    · rcases hX with hX | hX
      · exact .inl (.inl hX)
      · rcases List.mem_cons.1 hX with rfl | hX
        · exact .inl (.inr rfl)
        · exact .inr hX

theorem ControlOn.completeLoad (h : ControlInv s) (answer : Option Image) (time : Nat) : ControlOn (fun _ => True) (s.completeLoad answer time) := by
  unfold State.completeLoad
  split
  · rename_i hl
    dsimp only
    have vacant : Vacant s := ⟨h.on _, h.beforeLoad hl, fun hsite c => (h.lost hsite c).1⟩
    have resent : Vacant
        (((s.takeImage answer).modTime fun x => { x with timer := some (time + x.rate.period) }).eachChannel fun c t => t.resync c) :=
      State.eachChannel_keeps (fun c u hu => hu.resync) ((vacant.takeImage answer).of_chans rfl rfl rfl)
    have k := (KeepsLists.refl ((s.takeImage answer).modTime fun x => { x with timer := some (time + x.rate.period) })).eachChannel
      (fun c t => t.resync c) fun _ _ hu => hu.resync
    have hload : (((s.takeImage answer).modTime fun x => { x with timer := some (time + x.rate.period) }).eachChannel fun c t => t.resync c).loading = false :=
      k.toKeepsBounds.loading.trans (takeImage_loading s answer)
    generalize (((s.takeImage answer).modTime fun x => { x with timer := some (time + x.rate.period) }).eachChannel fun c t => t.resync c) = u at resent hload ⊢
    show ControlOn _ (u.eachChannel Machine.enterLoaded)
    have swept := resent.toControlOn.enterLoaded Chan.nodup_all (u := u) (fun c _ => resent.out c) resent.owner hload rfl fun _ _ => rfl
    exact swept.mono fun c _ => .inr (Chan.mem_all c)
  · exact h.on _

/-! ## Resets (R149, R204) -/

theorem ControlInv.of_reset (hconfig : s.site.state = .starting) (hch : ∀ c, ∃ x : Control, x.state = .outOfService ∧ x.mode = .outOfService ∧
    s.ch c = { Channel.reset c with control := x }) : ControlInv s := by
  refine ⟨fun c => ?_, fun c => ?_, fun c => ?_, fun hl => ?_, fun _ c => ?_⟩
  · obtain ⟨x, -, -, he⟩ := hch c
    rw [he]
    exact .of_empty ⟨rfl, rfl⟩ ⟨rfl, rfl, rfl⟩
  · obtain ⟨x, -, -, he⟩ := hch c
    rw [he]
    exact ⟨nofun, fun _ => rfl, fun h => absurd rfl h, nofun⟩
  · obtain ⟨x, hs, hm, he⟩ := hch c
    rw [he]
    exact iff_of_true hs hm
  · rw [hconfig] at hl
    exact absurd hl (by simp)
  · obtain ⟨x, hs, -, he⟩ := hch c
    rw [he]
    exact hs

theorem reset_controlInv : ControlInv State.reset := .of_reset rfl fun c => ⟨(Channel.reset c).control, rfl, rfl, State.reset_ch c⟩

theorem powerOn_controlInv (s : State) : ControlInv s.powerOn := .of_reset rfl fun c => ⟨(Channel.reset c).control, rfl, rfl, State.powerOn_ch s c⟩

theorem resetByLine_controlInv (s : State) : ControlInv s.resetByLine := by
  obtain ⟨chans, mgmt, he, -, -, hch⟩ := resetByLine_eq s
  exact .of_reset (by rw [he]; rfl) fun c => ⟨((s.ch c).afterLine c).control, rfl, rfl, hch c⟩

/-! ## Every command -/

/-- A command that first takes what is due. -/
theorem ControlInv.control (h : ControlInv s) (rx : ControlRx) (r : Request) (time : Nat) : ControlInv (s.catchUp.receiveControl rx r time) :=
  ((h.on _).catchUp.receiveControl rx r time).controlInv

theorem exec_controls (i : Instr) (h : ControlInv s) : ∃ t, exec i s = .next t ∧ ControlInv t := by
  have on := h.on fun _ => True
  have caught := on.catchUp
  cases i with
  | powerOn => exact ⟨_, rfl, powerOn_controlInv s⟩
  | resetLine => exact ⟨_, rfl, resetByLine_controlInv _⟩
  | loadCompletion answer time => exact ⟨_, rfl, (ControlOn.completeLoad caught.controlInv answer time).controlInv⟩
  | referencePulse label time => exact ⟨_, rfl, (caught.takePulse label time).controlInv⟩
  | frameTimerExpiry => exact ⟨_, rfl, caught.expireFrameTimer.controlInv⟩
  | linkChange port up => exact ⟨_, rfl, (caught.changeLink port up).controlInv⟩
  | ethernetFrame port frame time => exact ⟨_, rfl, (caught.receiveFrame port frame time).controlInv⟩
  | mainMediaCarrier side m => exact ⟨_, rfl, (caught.receiveMainMedia side m).controlInv⟩
  | standbyMediaCarrier n m => exact ⟨_, rfl, (caught.receiveStandbyMedia n m).controlInv⟩
  | copyCompletion slate => exact ⟨_, rfl, (caught.completeCopy slate).controlInv⟩
  | saveCompletion readBack => exact ⟨_, rfl, (caught.completeSave readBack).controlInv⟩
  | walkReach origin => exact ⟨_, rfl, (caught.walkReach origin).controlInv⟩
  | badCommand raw => exact ⟨_, rfl, (caught.receiveRaw raw).controlInv⟩
  | misdirectedControl raw => exact ⟨_, rfl, (caught.receiveRaw raw).controlInv⟩
  | delayWindowEnd c => exact ⟨_, rfl, on.endDelayWindow.controlInv⟩
  | pathDown side => exact ⟨_, rfl, (on.doPathDown side).controlInv⟩
  | pathUp side => exact ⟨_, rfl, (on.doPathUp side).controlInv⟩
  | retimeApply c => exact ⟨_, rfl, on.doRetime.controlInv⟩
  | settlingEnd c det => exact ⟨_, rfl, (on.doSettlingEnd det).controlInv⟩
  | guardExpiry c => exact ⟨_, rfl, on.doGuardExpiry.controlInv⟩
  | returnArrival c => exact ⟨_, rfl, on.doReturnArrival.controlInv⟩
  | joinSwitch c => exact ⟨_, rfl, on.doJoinSwitch.controlInv⟩
  | joinExpiry c => exact ⟨_, rfl, on.doJoinExpiry.controlInv⟩
  | followOnCheck c => exact ⟨_, rfl, on.doFollowOnCheck.controlInv⟩
  | followOnSwitch c => exact ⟨_, rfl, on.doFollowOnSwitch.controlInv⟩
  | followOnFailure c => exact ⟨_, rfl, on.doFollowOnFailure.controlInv⟩
  | endOfSchedule c => exact ⟨_, rfl, on.doEndOfSchedule.controlInv⟩
  | keepaliveExpiry => exact ⟨_, rfl, on.doKeepaliveExpiry.controlInv⟩
  | snapshotTimeout c => exact ⟨_, rfl, on.doSnapshotTimeout.controlInv⟩
  | resyncRepeat c => exact ⟨_, rfl, on.doResyncRepeat.controlInv⟩
  | warmRestartEnd => exact ⟨_, rfl, on.doWarmRestartEnd.controlInv⟩
  | report => exact ⟨_, rfl, on.doReport.controlInv⟩
  | rampStepAdvance c => exact ⟨_, rfl, on.doRampAdvance.controlInv⟩
  | frameSend => exact ⟨_, rfl, on.finishBoundary.sendFrame.controlInv⟩
  | ready | refused | keepalive | declareSiteLost | restoreSite | insert | replace | delete | trim | shiftFrom | snapshotBegin | snapshotEvent
  | snapshotEnd | setService | setServiceOut | take | returnToMain | hold | pinMain | pinStandby | unpin | seize | release | ackTakeover | recue
  | clearRecords | retime | captureSlate | realign | select | subscribe | setWindow | read | write | clearError | clearCounters | saveConfig
  | warmRestart => exact ⟨_, rfl, h.control _ _ _⟩

theorem exec_controlInv (i : Instr) (h : ControlInv s) (he : exec i s = .next t) : ControlInv t := by
  obtain ⟨u, hu, hc⟩ := exec_controls i h
  rw [hu] at he
  cases he
  exact hc

theorem ControlInv.withPending (h : ControlInv s) (l : List Instr) : ControlInv { s with pending := l } :=
  ⟨h.units, h.cues, h.service, h.lost, h.beforeLoad⟩

theorem step_controlInv (h : step s = .next t) (hs : ControlInv s) : ControlInv t := by
  rcases step_cases h with ⟨-, rfl⟩ | ⟨i, rest, -, he⟩
  · exact (hs.on _).catchUp.controlInv
  · exact exec_controlInv i (hs.withPending rest) he

/-- Settles O4: the bounds by what every command keeps of them, the channel records by `ControlOn`. -/
theorem everyStepKeepsTheBounds : Obligations.EveryStepKeepsTheBounds := by
  unfold Obligations.EveryStepKeepsTheBounds
  exact ⟨fun _ _ hs h => step_inv h hs, fun _ _ hs h => step_controlInv h hs⟩

/-- Settles O6. -/
theorem powerOnMeetsTheInvariants : Obligations.PowerOnMeetsTheInvariants := by
  unfold Obligations.PowerOnMeetsTheInvariants
  exact ⟨powerOn_inv State.reset, reset_controlInv, powerOn_poolInv State.reset, by decide⟩

end Sys2Proof.Machine

/-! PROOFS. What a boundary does for one channel, and what it left due for one channel taken, stays with that channel and the slates. -/

namespace Sys2Proof.Machine

-- Each elaboration thread takes a large stack, and the text is compiled as one file under a memory limit: one thread at a time.
set_option Elab.async false

variable {s t u : State} {c : Chan}

/-- Two states that agree as `Elsewhere` says, but for the slates. -/
structure Beside (c : Chan) (s t : State) : Prop where
  time : t.time = s.time
  ports : t.ports = s.ports
  site : t.site = s.site
  poolFree : t.poolFree = s.poolFree
  settings : t.settings = s.settings
  mgmt : t.mgmt.quiet = s.mgmt.quiet
  work : t.work = s.work
  pending : t.pending = s.pending
  outbox : s.outbox <+: t.outbox
  others : ∀ c' : Chan, c' ≠ c → t.ch c' = s.ch c'
  counters : ∀ key, foreign c key = true → t.counter key = s.counter key

theorem Elsewhere.beside (h : Elsewhere c s t) : Beside c s t :=
  ⟨h.time, h.ports, h.site, h.poolFree, h.settings, h.mgmt, h.work, h.pending, h.outbox, h.others, h.counters⟩

theorem Beside.refl (c : Chan) (s : State) : Beside c s s := (Elsewhere.refl c s).beside

theorem Beside.trans (h : Beside c s t) (k : Beside c t u) : Beside c s u :=
  ⟨k.time.trans h.time, k.ports.trans h.ports, k.site.trans h.site, k.poolFree.trans h.poolFree, k.settings.trans h.settings, k.mgmt.trans h.mgmt,
   k.work.trans h.work, k.pending.trans h.pending, h.outbox.trans k.outbox, fun c' hc => (k.others c' hc).trans (h.others c' hc),
   fun key hk => (k.counters key hk).trans (h.counters key hk)⟩

theorem Beside.elsewhere (h : Beside c s t) (k : Elsewhere c t u) : Beside c s u := h.trans k.beside
theorem Beside.cueLocal (h : Beside c s t) (k : CueLocal c t u) : Beside c s u := h.elsewhere k.toElsewhere

theorem Beside.mapSlates (h : Beside c s t) (f : Slate → Slate) : Beside c s (t.mapSlates f) :=
  h.trans ⟨rfl, rfl, rfl, rfl, rfl, rfl, rfl, rfl, List.prefix_refl _, fun _ _ => rfl, fun _ _ => rfl⟩
theorem Beside.modCh (h : Beside c s t) (f : Channel → Channel) : Beside c s (t.modCh c f) := h.elsewhere ((Elsewhere.refl c t).modCh f)
theorem Beside.modSlots (h : Beside c s t) (f : Slots → Slots) : Beside c s (t.modSlots c f) := h.modCh _
theorem Beside.modAlign (h : Beside c s t) (f : Align → Align) : Beside c s (t.modAlign c f) := h.modCh _
theorem Beside.modControl (h : Beside c s t) (f : Control → Control) : Beside c s (t.modControl c f) := h.modCh _
theorem Beside.modWork (h : Beside c s t) (f : ChannelWork → ChannelWork) : Beside c s (t.modWork c f) := h.modCh _
theorem Beside.bumpBy (h : Beside c s t) (k : ChanCtr) (n : Nat) : Beside c s (t.bumpBy (.chan c k) n) := h.elsewhere ((Elsewhere.refl c t).bumpBy k n)
theorem Beside.bumpCh (h : Beside c s t) (k : ChanCtr) : Beside c s (t.bumpCh c k) := h.bumpBy k 1

theorem Beside.foldl {α : Type} (h : Beside c s t) (l : List α) (f : State → α → State) (hf : ∀ u x, Beside c s u → Beside c s (f u x)) :
    Beside c s (l.foldl f t) := by
  induction l generalizing t with
  | nil => exact h
  | cons x l ih => exact ih (hf t x h)

/-! ## Releases -/

/-- A state reached by what the Alignment Unit does for channel `c`: of the channel its slots and the Alignment Unit's record alone may differ. -/
structure Releases (c : Chan) (s t : State) : Prop extends Beside c s t where
  channel : { t.ch c with slots := (s.ch c).slots, align := (s.ch c).align } = s.ch c

theorem Releases.refl (c : Chan) (s : State) : Releases c s s := ⟨.refl c s, rfl⟩

theorem Releases.trans (h : Releases c s t) (k : Releases c t u) : Releases c s u := by
  refine ⟨h.toBeside.trans k.toBeside, ?_⟩
  have h1 := h.channel
  have h2 := k.channel
  rw [← h1, ← h2]

theorem Releases.channelWork (h : Releases c s t) : (t.ch c).work = (s.ch c).work := (congrArg Channel.work h.channel :)
theorem Releases.control (h : Releases c s t) : (t.ch c).control = (s.ch c).control := (congrArg Channel.control h.channel :)
theorem Releases.cue (h : Releases c s t) : (t.ch c).cue = (s.ch c).cue := (congrArg Channel.cue h.channel :)
theorem Releases.monitor (h : Releases c s t) : (t.ch c).monitor = (s.ch c).monitor := (congrArg Channel.monitor h.channel :)
theorem Releases.output (h : Releases c s t) : (t.ch c).output = (s.ch c).output := (congrArg Channel.output h.channel :)
theorem Releases.schedule (h : Releases c s t) : (t.ch c).schedule = (s.ch c).schedule := (congrArg Channel.schedule h.channel :)
theorem Releases.channelSettings (h : Releases c s t) : (t.ch c).settings = (s.ch c).settings := (congrArg Channel.settings h.channel :)

theorem Releases.modCh (h : Releases c s t) (f : Channel → Channel) (hf : ∀ x, { f x with slots := x.slots, align := x.align } = x) : Releases c s (t.modCh c f) :=
  h.trans ⟨(Beside.refl c t).modCh f, by rw [State.ch_modCh_same]; exact hf _⟩

theorem Releases.mapSlates (h : Releases c s t) (f : Slate → Slate) : Releases c s (t.mapSlates f) := h.trans ⟨(Beside.refl c t).mapSlates f, rfl⟩
theorem Releases.modSlots (h : Releases c s t) (f : Slots → Slots) : Releases c s (t.modSlots c f) := h.modCh _ fun _ => rfl
theorem Releases.modAlign (h : Releases c s t) (f : Align → Align) : Releases c s (t.modAlign c f) := h.modCh _ fun _ => rfl
theorem Releases.bumpBy (h : Releases c s t) (k : ChanCtr) (n : Nat) : Releases c s (t.bumpBy (.chan c k) n) := h.trans ⟨(Beside.refl c t).bumpBy k n, rfl⟩
theorem Releases.bumpCh (h : Releases c s t) (k : ChanCtr) : Releases c s (t.bumpCh c k) := h.bumpBy k 1

theorem Releases.freeMain (h : Releases c s t) (pred : Nat → Bool) : Releases c s (t.freeMain c pred) := h.modCh _ fun _ => rfl
theorem Releases.freeStandby (h : Releases c s t) (pred : Nat → Bool) : Releases c s (t.freeStandby c pred) := h.modCh _ fun _ => rfl
theorem Releases.startCopies (h : Releases c s t) (path : SourcePath) : Releases c s (t.startCopies c path) := h.mapSlates _

theorem Releases.trackMissing (h : Releases c s t) (q : Nat) (slot : Slot) : Releases c s (t.trackMissing c q slot) := by
  unfold State.trackMissing
  dsimp only
  split
  · exact h
  · split
    · exact (h.bumpCh _).modSlots _
    · exact h.modSlots _

theorem Releases.releaseMain (h : Releases c s t) (q : Nat) : Releases c s (t.releaseMain c q).1 := by
  unfold State.releaseMain
  dsimp only
  split
  · split <;> dsimp only
    · refine Releases.startCopies (h.modCh _ ?_) _
      exact fun _ => rfl
    · exact (((h.bumpCh _).trackMissing _ _).freeMain _).modAlign _
  · dsimp only
    exact (((h.bumpCh _).trackMissing _ _).freeMain _).modAlign _

theorem Releases.takeMainBoundary (h : Releases c s t) : Releases c s (t.takeMainBoundary c).1 := by
  unfold State.takeMainBoundary
  dsimp only
  split <;> dsimp only
  · exact Releases.freeMain (Releases.bumpBy (Releases.bumpCh (Releases.modAlign (Releases.freeMain (h.bumpBy _ _) _) _) _) _ _) _
  · refine Releases.freeMain (Releases.bumpBy (Releases.modAlign (Releases.releaseMain ?_ _) _) _ _) _
    split
    · exact h
    · exact (h.freeMain _).bumpBy _ _

theorem Releases.rebaseMain (h : Releases c s t) : Releases c s (t.rebaseMain c) := h.modAlign _

theorem Releases.releaseStandby (h : Releases c s t) (q : Nat) : Releases c s (t.releaseStandby c q) := by
  unfold State.releaseStandby
  dsimp only
  split
  · split
    · refine Releases.startCopies (h.modCh _ ?_) _
      exact fun _ => rfl
    · exact ((h.bumpCh _).freeStandby _).modAlign _
  · exact ((h.bumpCh _).freeStandby _).modAlign _

theorem Releases.takeStandbyBoundary (h : Releases c s t) (realigned : Bool) : Releases c s (t.takeStandbyBoundary c realigned) := by
  have rebased : Releases c s (if realigned then t.modAlign c fun x => { x with standbyFloor := t.wrap ((t.time.h : Int) - 1) } else t) := by
    split
    · exact h.modAlign _
    · exact h
  unfold State.takeStandbyBoundary
  dsimp only
  generalize (if realigned then t.modAlign c fun x => { x with standbyFloor := t.wrap ((t.time.h : Int) - 1) } else t) = u at rebased ⊢
  refine (Releases.bumpBy ?_ _ _).freeStandby _
  split
  · exact rebased.modAlign _
  · refine Releases.modAlign (Releases.releaseStandby ?_ _) _
    split
    · exact rebased
    · exact rebased.freeStandby _

theorem Releases.applyRetime (h : Releases c s t) : Releases c s (t.applyRetime c) := by
  unfold State.applyRetime
  split
  · exact h
  · exact (h.modAlign _).bumpCh _

/-! ## A channel's boundary -/

theorem Beside.releases (h : Beside c s t) (k : Releases c t u) : Beside c s u := h.trans k.toBeside

theorem Beside.finishChannel (h : Beside c s t) : Beside c s (t.finishChannel c) := h.elsewhere (Elsewhere.refl c t).finishChannel

theorem Beside.countGuard (h : Beside c s t) : Beside c s (t.countGuard c) := by
  unfold State.countGuard
  split
  · exact h.modControl _
  · exact h

theorem Beside.afterRelease (h : Beside c s t) (j : Option Judgement) (realigned : Bool) : Beside c s (t.afterRelease c j realigned) := by
  unfold State.afterRelease
  dsimp only
  split
  · exact ((h.countGuard.cueLocal (CueLocal.refl c _).realignCues).modWork _).finishChannel
  · exact (h.countGuard.modWork _).finishChannel

theorem Beside.releaseChannel (h : Beside c s t) (realigned : Bool) : Beside c s (t.releaseChannel c realigned) := by
  unfold State.releaseChannel
  dsimp only
  split
  · exact (h.releases (Releases.refl c t).rebaseMain.takeMainBoundary).afterRelease _ _
  · exact (h.releases (Releases.refl c t).takeMainBoundary).afterRelease _ _

theorem Beside.takeChannelBoundary (h : Beside c s t) (realigned : Bool) : Beside c s (t.takeChannelBoundary c realigned) := by
  unfold State.takeChannelBoundary
  dsimp only
  split
  · split
    · split
      · exact (h.releases ((Releases.refl c t).takeStandbyBoundary _).applyRetime).releaseChannel _
      · exact (h.releases ((Releases.refl c t).takeStandbyBoundary _)).modWork _
    · exact (h.releases ((Releases.refl c t).takeStandbyBoundary _)).releaseChannel _
  · exact h

/-! ## What is due of a channel, taken -/

theorem Beside.doRetime (h : Beside c s t) : Beside c s (t.doRetime c) := by
  unfold State.doRetime
  split
  · exact ((h.modWork _).releases (Releases.refl c _).applyRetime).releaseChannel _
  · exact h

theorem Beside.endCueStep (h : Beside c s t) (f : State → State) (hf : ∀ u, CueLocal c u (f u)) : Beside c s (t.endCueStep c f) :=
  ((h.modWork _).cueLocal (hf _)).finishChannel

theorem Beside.doJoinSwitch (h : Beside c s t) : Beside c s (t.doJoinSwitch c) := by
  unfold State.doJoinSwitch
  split
  · exact h.endCueStep _ fun u => (CueLocal.refl c u).switchCue _
  · exact h

theorem Beside.doJoinExpiry (h : Beside c s t) : Beside c s (t.doJoinExpiry c) := by
  unfold State.doJoinExpiry
  split
  · exact h.endCueStep _ fun u => ((CueLocal.refl c u).bumpCh _).failJoin _
  · exact h

theorem Beside.doFollowOnSwitch (h : Beside c s t) : Beside c s (t.doFollowOnSwitch c) := by
  unfold State.doFollowOnSwitch
  split
  · exact h.endCueStep _ fun u => (CueLocal.refl c u).switchCue _
  · exact h

theorem Beside.doFollowOnFailure (h : Beside c s t) : Beside c s (t.doFollowOnFailure c) := by
  unfold State.doFollowOnFailure
  split
  · exact h.endCueStep _ fun u => (((CueLocal.refl c u).cancelPending.stopPlaying).bumpCh _).followOnFailed
  · exact h

theorem Beside.doFollowOnCheck (h : Beside c s t) : Beside c s (t.doFollowOnCheck c) := by
  unfold State.doFollowOnCheck
  split
  · exact h.endCueStep _ fun u => (CueLocal.refl c u).followOnCheck
  · exact h

theorem Beside.doEndOfSchedule (h : Beside c s t) : Beside c s (t.doEndOfSchedule c) := by
  unfold State.doEndOfSchedule
  split
  · exact h.endCueStep _ fun u => ((CueLocal.refl c u).stopPlaying.bumpCh _).followOnFailed
  · exact h

theorem Beside.doGuardExpiry (h : Beside c s t) : Beside c s (t.doGuardExpiry c) := by
  unfold State.doGuardExpiry
  split
  · exact ((h.modWork _).cueLocal (CueLocal.refl c _).expireGuard).finishChannel
  · exact h

theorem Beside.doReturnArrival (h : Beside c s t) : Beside c s (t.doReturnArrival c) := by
  unfold State.doReturnArrival
  split
  · exact ((h.modWork _).cueLocal (CueLocal.refl c _).arrive).finishChannel
  · exact h

theorem Beside.dropVoid (h : Beside c s t) : Beside c s (t.dropVoid c) := (h.modWork _).finishChannel

theorem Beside.doSettlingEnd (h : Beside c s t) (det : Detector) : Beside c s (t.doSettlingEnd c det) := by
  unfold State.doSettlingEnd
  split
  · exact h.modCh _
  · exact h

theorem Beside.doRampAdvance (h : Beside c s t) : Beside c s (t.doRampAdvance c) := by
  unfold State.doRampAdvance
  split
  · exact (h.modWork _).modCh _
  · exact h

theorem Beside.endDelayWindow (h : Beside c s t) : Beside c s (t.endDelayWindow c) := by
  unfold State.endDelayWindow
  dsimp only
  split
  · exact h
  · exact (h.modAlign _).bumpCh _

/-- The steps of a channel's boundary that are due, taken in their order up to the last frame. -/
def State.catchUpSteps (s : State) (c : Chan) : State :=
  ((((((((((s.doRetime c).doJoinSwitch c).doJoinExpiry c).doFollowOnSwitch c).doFollowOnFailure c).doFollowOnCheck c).doEndOfSchedule c).doGuardExpiry c).doReturnArrival
    c).dropVoid c)

theorem State.catchUpChannel_eq (s : State) (c : Chan) :
    s.catchUpChannel c = ((Detector.all.foldl (fun t det => t.doSettlingEnd c det) (s.catchUpSteps c)).doRampAdvance c).endDelayWindow c := rfl

theorem Beside.catchUpSteps (h : Beside c s t) : Beside c s (t.catchUpSteps c) :=
  h.doRetime.doJoinSwitch.doJoinExpiry.doFollowOnSwitch.doFollowOnFailure.doFollowOnCheck.doEndOfSchedule.doGuardExpiry.doReturnArrival.dropVoid

theorem Beside.catchUpChannel (h : Beside c s t) : Beside c s (t.catchUpChannel c) := by
  rw [State.catchUpChannel_eq]
  exact ((h.catchUpSteps.foldl _ _ fun _ det hu => hu.doSettlingEnd det).doRampAdvance).endDelayWindow

end Sys2Proof.Machine

/-! PROOFS. What is due is taken once: after `catchUp` nothing is due. O2 settled. -/

namespace Sys2Proof.Machine

-- Each elaboration thread takes a large stack, and the text is compiled as one file under a memory limit: one thread at a time.
set_option Elab.async false

variable {s t u : State} {c : Chan}

/-! ## The work flags of a channel -/

theorem CueLocal.channelWork (h : CueLocal c s t) : (t.ch c).work = (s.ch c).work := (congrArg Channel.work h.channel :)
theorem CueLocal.align (h : CueLocal c s t) : (t.ch c).align = (s.ch c).align := (congrArg Channel.align h.channel :)
theorem CueLocal.monitor (h : CueLocal c s t) : (t.ch c).monitor = (s.ch c).monitor := (congrArg Channel.monitor h.channel :)
theorem CueLocal.channelSettings (h : CueLocal c s t) : (t.ch c).settings = (s.ch c).settings := (congrArg Channel.settings h.channel :)
theorem CueLocal.slots (h : CueLocal c s t) : (t.ch c).slots = (s.ch c).slots := (congrArg Channel.slots h.channel :)
theorem CueLocal.schedule (h : CueLocal c s t) : (t.ch c).schedule = (s.ch c).schedule := (congrArg Channel.schedule h.channel :)

theorem takeVerdict_work (s : State) (n : VerdictNotice) (c : Chan) : ((s.takeVerdict n).ch c).work = (s.ch c).work := by
  have h := CueLocal.takeVerdict n (CueLocal.refl n.chan s)
  by_cases hc : c = n.chan
  · subst hc
    exact h.channelWork
  · rw [h.others c hc]

theorem deliver_work (s : State) (n : Option VerdictNotice) (c : Chan) : ((s.deliver n).ch c).work = (s.ch c).work := by
  cases n with
  | none => rfl
  | some n => exact takeVerdict_work s n c

theorem holdVerdict_work (s : State) (c : Chan) (cause : EvalCause) : ((s.holdVerdict c cause).1.ch c).work = (s.ch c).work := by
  unfold State.holdVerdict
  dsimp only
  split <;> simp

theorem judgeDetector_work (s : State) (c : Chan) (j : Judgement) (det : Detector) : ((s.judgeDetector c j det).1.ch c).work = (s.ch c).work := by
  unfold State.judgeDetector
  dsimp only
  split
  · simp
  · split <;> simp

theorem reportEdge_ch (s : State) (c c' : Chan) (e : Detector × EdgeKind) : (s.reportEdge c e).ch c' = s.ch c' := by
  unfold State.reportEdge
  rcases e with ⟨det, _ | _⟩ <;> dsimp only <;> split <;> simp

theorem foldl_reportEdge_ch (l : List (Detector × EdgeKind)) (s : State) (c c' : Chan) : (l.foldl (fun t e => t.reportEdge c e) s).ch c' = s.ch c' := by
  induction l generalizing s with
  | nil => rfl
  | cons e l ih => rw [List.foldl_cons, ih, reportEdge_ch]

theorem judge_work (s : State) (c : Chan) (j : Judgement) : ((s.judge c j).ch c).work = (s.ch c).work := by
  have judged : ((s.judgeDetectors c j).1.ch c).work = (s.ch c).work :=
    State.judgeDetectors_keeps (P := fun u => (u.ch c).work = (s.ch c).work) (fun u det hu => (judgeDetector_work u c j det).trans hu) rfl
  unfold State.judge
  dsimp only
  rw [deliver_work, foldl_reportEdge_ch, holdVerdict_work]
  split
  · simpa using judged
  · exact judged

theorem assemble_work (s : State) (c : Chan) : ∃ r, ((s.assemble c).ch c).work = { (s.ch c).work with ramp := r } := by
  unfold State.assemble State.bufferFrame
  split
  · exact ⟨_, rfl⟩
  · dsimp only
    split <;> split <;> simp only [State.ch_modOutput_same, State.ch_bumpCh, State.ch_modWork_same] <;> exact ⟨_, rfl⟩

/-- Nothing of the boundary stands between a channel and its frame. -/
def ChannelWork.ready (w : ChannelWork) : Bool := w.frame && !w.retime && !w.cue && !w.control

theorem finishChannel_work (s : State) (c : Chan) : ∃ r, ((s.finishChannel c).ch c).work =
    if (s.ch c).work.ready then { (s.ch c).work with frame := false, judgement := none, ramp := r } else (s.ch c).work := by
  unfold State.finishChannel ChannelWork.ready
  dsimp only
  split
  · obtain ⟨r, hr⟩ := assemble_work (s.modWork c fun w => { w with frame := false, judgement := none }) c
    rw [State.ch_modWork_same] at hr
    refine ⟨r, ?_⟩
    split
    · rw [judge_work, hr]
    · exact hr
  · exact ⟨false, rfl⟩

/-- A finished channel with no retime, cue step or controller step due has its frame sent on its way. -/
theorem finishChannel_frame (h : (s.ch c).work.retime = false ∧ (s.ch c).work.cue = false ∧ (s.ch c).work.control = false) :
    ((s.finishChannel c).ch c).work.frame = false ∧ ((s.finishChannel c).ch c).work.retime = false ∧ ((s.finishChannel c).ch c).work.cue = false ∧
      ((s.finishChannel c).ch c).work.control = false := by
  obtain ⟨hr, hc, hk⟩ := h
  obtain ⟨r, he⟩ := finishChannel_work s c
  rw [he]
  split
  · exact ⟨rfl, hr, hc, hk⟩
  · rename_i hready
    refine ⟨?_, hr, hc, hk⟩
    simpa [ChannelWork.ready, hr, hc, hk] using hready

theorem finishChannel_retime (s : State) (c : Chan) : ((s.finishChannel c).ch c).work.retime = (s.ch c).work.retime := by
  obtain ⟨r, he⟩ := finishChannel_work s c
  rw [he]
  split <;> rfl

/-! ## The steps of a channel, taken -/

theorem afterRelease_retime (s : State) (c : Chan) (j : Option Judgement) (realigned : Bool) :
    ((s.afterRelease c j realigned).ch c).work.retime = (s.ch c).work.retime := by
  have guard : ((s.countGuard c).ch c).work = (s.ch c).work := by
    unfold State.countGuard
    split <;> simp
  unfold State.afterRelease
  dsimp only
  rw [finishChannel_retime, State.ch_modWork_same]
  split
  · rw [(CueLocal.refl c _).realignCues.channelWork, guard]
  · rw [guard]

theorem releaseChannel_retime (s : State) (c : Chan) (realigned : Bool) : ((s.releaseChannel c realigned).ch c).work.retime = (s.ch c).work.retime := by
  unfold State.releaseChannel
  dsimp only
  rw [afterRelease_retime, (Releases.refl c _).takeMainBoundary.channelWork]
  split
  · rw [(Releases.refl c s).rebaseMain.channelWork]
  · rfl

theorem doRetime_retime (s : State) (c : Chan) : ((s.doRetime c).ch c).work.retime = false := by
  unfold State.doRetime
  split
  · rw [releaseChannel_retime, (Releases.refl c _).applyRetime.channelWork, State.ch_modWork_same]
  · rename_i h
    simpa using h

/-- What a step of the boundary leaves of a channel: no retime due if none was, as it stood or after the step and the frame. -/
theorem endCueStep_retime (s : State) (c : Chan) (f : State → State) (hf : ∀ u, CueLocal c u (f u)) : ((s.endCueStep c f).ch c).work.retime = (s.ch c).work.retime := by
  unfold State.endCueStep
  rw [finishChannel_retime, (hf _).channelWork, State.ch_modWork_same]

theorem catchUpSteps_work (s : State) (c : Chan) : ((s.catchUpSteps c).ch c).work.frame = false ∧ ((s.catchUpSteps c).ch c).work.retime = false ∧
    ((s.catchUpSteps c).ch c).work.cue = false ∧ ((s.catchUpSteps c).ch c).work.control = false := by
  have switch : ∀ u : State, ((u.doJoinSwitch c).ch c).work.retime = (u.ch c).work.retime := fun u => by
    unfold State.doJoinSwitch
    split
    · exact endCueStep_retime _ _ _ fun v => (CueLocal.refl c v).switchCue _
    · rfl
  have expiry : ∀ u : State, ((u.doJoinExpiry c).ch c).work.retime = (u.ch c).work.retime := fun u => by
    unfold State.doJoinExpiry
    split
    · exact endCueStep_retime _ _ _ fun v => ((CueLocal.refl c v).bumpCh _).failJoin _
    · rfl
  have followOn : ∀ u : State, ((u.doFollowOnSwitch c).ch c).work.retime = (u.ch c).work.retime := fun u => by
    unfold State.doFollowOnSwitch
    split
    · exact endCueStep_retime _ _ _ fun v => (CueLocal.refl c v).switchCue _
    · rfl
  have failure : ∀ u : State, ((u.doFollowOnFailure c).ch c).work.retime = (u.ch c).work.retime := fun u => by
    unfold State.doFollowOnFailure
    split
    · exact endCueStep_retime _ _ _ fun v => (((CueLocal.refl c v).cancelPending.stopPlaying).bumpCh _).followOnFailed
    · rfl
  have check : ∀ u : State, ((u.doFollowOnCheck c).ch c).work.retime = (u.ch c).work.retime := fun u => by
    unfold State.doFollowOnCheck
    split
    · exact endCueStep_retime _ _ _ fun v => (CueLocal.refl c v).followOnCheck
    · rfl
  have ended : ∀ u : State, ((u.doEndOfSchedule c).ch c).work.retime = (u.ch c).work.retime := fun u => by
    unfold State.doEndOfSchedule
    split
    · exact endCueStep_retime _ _ _ fun v => ((CueLocal.refl c v).stopPlaying.bumpCh _).followOnFailed
    · rfl
  have guard : ∀ u : State, ((u.doGuardExpiry c).ch c).work.retime = (u.ch c).work.retime := fun u => by
    unfold State.doGuardExpiry
    split
    · rw [finishChannel_retime, (CueLocal.refl c _).expireGuard.channelWork, State.ch_modWork_same]
    · rfl
  have arrival : ∀ u : State, ((u.doReturnArrival c).ch c).work.retime = (u.ch c).work.retime := fun u => by
    unfold State.doReturnArrival
    split
    · rw [finishChannel_retime, (CueLocal.refl c _).arrive.channelWork, State.ch_modWork_same]
    · rfl
  unfold State.catchUpSteps State.dropVoid
  refine finishChannel_frame ?_
  rw [State.ch_modWork_same]
  refine ⟨?_, rfl, rfl⟩
  rw [arrival, guard, ended, check, failure, followOn, expiry, switch, doRetime_retime]

/-! ## A channel with nothing of a boundary due -/

/-- Nothing is due of a channel but its schedule timers. -/
structure Channel.Calm (x : Channel) : Prop where
  retime : x.work.retime = false
  cue : x.work.cue = false
  control : x.work.control = false
  frame : x.work.frame = false
  ramp : x.work.ramp = false
  waiting : x.align.measurement.waiting = none
  settled : ∀ det, ((x.detCfg det).enabled && (x.detState det).phase == .settling && (x.detState det).settle == 0) = false

theorem detectorIndex_inj {a b : Detector} (h : detectorIndex a = detectorIndex b) : a = b := by
  cases a <;> cases b <;> simp_all [detectorIndex]

/-- The end of a detector's settling leaves the other detectors and everything else of the channel. -/
theorem doSettlingEnd_ch (s : State) (c : Chan) (det : Detector) : ∃ v, ((s.doSettlingEnd c det).ch c) = { s.ch c with monitor := { (s.ch c).monitor with detectors := v } } ∧
    (∀ other, other ≠ det → v[(detectorIndex other).val] = (s.ch c).monitor.detectors[(detectorIndex other).val]) ∧ (s.doSettlingEnd c det).settleDue c det = false := by
  unfold State.doSettlingEnd
  split
  · refine ⟨vmod (s.ch c).monitor.detectors (detectorIndex det) fun x => { x with phase := settledPhase x.latched }, ?_, fun other ho => ?_, ?_⟩
    · unfold State.endSettling State.modDetector
      rw [State.ch_modMonitor_same]
    · exact vmod_get_ne _ _ _ _ fun he => ho (detectorIndex_inj he)
    · unfold State.settleDue State.endSettling State.modDetector Channel.detState
      rw [State.ch_modMonitor_same]
      dsimp only
      rw [vmod_get_same]
      cases (s.ch c).monitor.detectors[(detectorIndex det).val].latched <;> simp [settledPhase]
  · rename_i h
    exact ⟨_, rfl, fun _ _ => rfl, by simpa using h⟩

theorem settleDue_eq (s : State) (c : Chan) (det : Detector) : s.settleDue c det =
    ((((s.ch c).detCfg det).enabled && ((s.ch c).detState det).phase == .settling) && ((s.ch c).detState det).settle == 0) := rfl

theorem settlingEnds_ch (l : List Detector) (s : State) (c : Chan) :
    (∃ v, (l.foldl (fun t det => t.doSettlingEnd c det) s).ch c = { s.ch c with monitor := { (s.ch c).monitor with detectors := v } }) ∧
      ∀ det, det ∈ l ∨ s.settleDue c det = false → (l.foldl (fun t det => t.doSettlingEnd c det) s).settleDue c det = false := by
  induction l generalizing s with
  | nil => exact ⟨⟨_, rfl⟩, fun det h => by simpa using h⟩
  | cons d l ih =>
    obtain ⟨v, hv, hothers, hd⟩ := doSettlingEnd_ch s c d
    obtain ⟨⟨w, hw⟩, hl⟩ := ih (s.doSettlingEnd c d)
    refine ⟨⟨w, ?_⟩, fun det h => hl det ?_⟩
    · rw [List.foldl_cons, hw, hv]
    · by_cases he : det = d
      · exact .inr (he ▸ hd)
      · rcases h with h | h
        · exact .inl ((List.mem_cons.1 h).resolve_left he)
        · refine .inr ?_
          rw [settleDue_eq] at h ⊢
          unfold Channel.detState at h ⊢
          rw [hv]
          dsimp only
          rw [hothers det he]
          exact h

theorem catchUpChannel_calm (s : State) (c : Chan) : ((s.catchUpChannel c).ch c).Calm := by
  obtain ⟨hframe, hretime, hcue, hcontrol⟩ := catchUpSteps_work s c
  obtain ⟨⟨v, hv⟩, hsettled⟩ := settlingEnds_ch Detector.all (s.catchUpSteps c) c
  rw [State.catchUpChannel_eq]
  generalize Detector.all.foldl (fun t det => t.doSettlingEnd c det) (s.catchUpSteps c) = u at hv hsettled ⊢
  have hwork : (u.ch c).work = ((s.catchUpSteps c).ch c).work := by rw [hv]
  have hdet : ∀ det, u.settleDue c det = false := fun det => hsettled det (.inl (by cases det <;> decide))
  have ramped : ∃ o r, ((u.doRampAdvance c).ch c) = { u.ch c with output := o, work := { (u.ch c).work with ramp := r } } ∧ r = false := by
    unfold State.doRampAdvance
    split
    · exact ⟨_, false, by unfold State.advanceRamp; rw [State.ch_modOutput_same, State.ch_modWork_same], rfl⟩
    · rename_i h
      exact ⟨_, (u.ch c).work.ramp, rfl, by simpa using h⟩
  obtain ⟨o, r, hr, rfl⟩ := ramped
  have window : ∃ m, (((u.doRampAdvance c).endDelayWindow c).ch c) = { (u.doRampAdvance c).ch c with align := { ((u.doRampAdvance c).ch c).align with measurement := m } } ∧
      m.waiting = none := by
    unfold State.endDelayWindow
    dsimp only
    split
    · exact ⟨_, rfl, ‹_›⟩
    · exact ⟨_, by rw [State.ch_bumpCh, State.ch_modAlign_same], rfl⟩
  obtain ⟨m, hm, hwaiting⟩ := window
  rw [hm, hr]
  exact ⟨by rw [← hretime, ← hwork], by rw [← hcue, ← hwork], by rw [← hcontrol, ← hwork], by rw [← hframe, ← hwork], rfl, hwaiting, hdet⟩

end Sys2Proof.Machine

/-! PROOFS. What is due for the whole unit, taken once; O2 settled. -/

namespace Sys2Proof.Machine

-- Each elaboration thread takes a large stack, and the text is compiled as one file under a memory limit: one thread at a time.
set_option Elab.async false

variable {s t u : State} {c : Chan}

/-! ## Operations that make nothing due -/

/-- Two states in which the same is due, but for frames to send. -/
structure Unmoved (s t : State) : Prop where
  work : t.work = s.work
  chans : ∀ c, (t.ch c).work = (s.ch c).work ∧ (t.ch c).align = (s.ch c).align ∧ (t.ch c).monitor = (s.ch c).monitor ∧ (t.ch c).settings = (s.ch c).settings

theorem Unmoved.refl (s : State) : Unmoved s s := ⟨rfl, fun _ => ⟨rfl, rfl, rfl, rfl⟩⟩

theorem Unmoved.trans (h : Unmoved s t) (k : Unmoved t u) : Unmoved s u := by
  refine ⟨k.work.trans h.work, fun c => ?_⟩
  obtain ⟨h1, h2, h3, h4⟩ := h.chans c
  obtain ⟨k1, k2, k3, k4⟩ := k.chans c
  exact ⟨k1.trans h1, k2.trans h2, k3.trans h3, k4.trans h4⟩

theorem Unmoved.of_eq (h : Unmoved s t) (hw : u.work = t.work) (hc : u.chans = t.chans) : Unmoved s u := by
  refine h.trans ⟨hw, fun c => ?_⟩
  unfold State.ch
  rw [hc]
  exact ⟨rfl, rfl, rfl, rfl⟩

theorem Unmoved.cueLocal (h : Unmoved s t) (k : CueLocal c t u) : Unmoved s u := by
  refine h.trans ⟨k.work, fun c' => ?_⟩
  by_cases hc : c' = c
  · subst hc
    exact ⟨k.channelWork, k.align, k.monitor, k.channelSettings⟩
  · rw [k.others c' hc]
    exact ⟨rfl, rfl, rfl, rfl⟩

theorem Unmoved.bump (h : Unmoved s t) (key : CounterKey) : Unmoved s (t.bump key) := h.of_eq rfl rfl
theorem Unmoved.bumpCh (h : Unmoved s t) (k : ChanCtr) : Unmoved s (t.bumpCh c k) := h.of_eq rfl rfl
theorem Unmoved.bumpUnit (h : Unmoved s t) (k : UnitCtr) : Unmoved s (t.bumpUnit k) := h.of_eq rfl rfl
theorem Unmoved.raise (h : Unmoved s t) (r : Report) : Unmoved s (t.raise r) := h.of_eq (by simp) (by simp)
theorem Unmoved.send (h : Unmoved s t) (p : Port) (what : Outgoing) : Unmoved s (t.send p what) := h.of_eq rfl rfl
theorem Unmoved.reply (h : Unmoved s t) (o : Origin) (p : Port) (r : Reply) : Unmoved s (t.reply o p r) := h.of_eq (by simp) (by simp)
theorem Unmoved.modSite (h : Unmoved s t) (f : Site → Site) : Unmoved s (t.modSite f) := h.of_eq rfl rfl
theorem Unmoved.setPool (h : Unmoved s t) (n : Nat) : Unmoved s { t with poolFree := n } := h.of_eq rfl rfl
theorem Unmoved.modPath (h : Unmoved s t) (side : Side) (f : PathState → PathState) : Unmoved s (t.modPath side f) := by
  cases side <;> exact h.of_eq rfl rfl
theorem Unmoved.modCtx (h : Unmoved s t) (o : Origin) (f : Context → Context) : Unmoved s (t.modCtx o f) := by
  cases o <;> exact h.of_eq rfl rfl

theorem Unmoved.modSchedule (h : Unmoved s t) (f : Schedule → Schedule) : Unmoved s (t.modSchedule c f) := by
  refine h.trans ⟨rfl, fun c' => ?_⟩
  by_cases hc : c' = c
  · subst hc; simp
  · simp [hc]

theorem Unmoved.foldl {α : Type} (h : Unmoved s t) (l : List α) (f : State → α → State) (hf : ∀ u x, Unmoved s u → Unmoved s (f u x)) :
    Unmoved s (l.foldl f t) := by
  induction l generalizing t with
  | nil => exact h
  | cons x l ih => exact ih (hf t x h)

theorem Unmoved.enterLost (h : Unmoved s t) (cause : LossCause) (how : SiteCause) : Unmoved s (t.enterLost cause how) := by
  rw [State.enterLost_eq]
  have marked : Unmoved s (t.markLost cause how) := by
    unfold State.markLost State.reportSite
    exact ((h.modSite _).bumpUnit _).raise _
  exact State.eachChannel_keeps (fun c u hu => hu.cueLocal (CueLocal.refl c u).siteLossNotice) marked

theorem Unmoved.setSite (h : Unmoved s t) (cause : SiteCause) : Unmoved s (t.setSite cause) := by
  unfold State.setSite
  dsimp only
  split
  · exact h
  · split
    · exact h.enterLost _ _
    · exact (h.modSite _).raise _

theorem Unmoved.evaluateSite (h : Unmoved s t) (cause : SiteCause) (up : Bool) : Unmoved s (t.evaluateSite cause up) := by
  unfold State.evaluateSite
  split
  · exact h
  · split
    · exact h.setSite _
    · exact h
  · exact h.setSite _

theorem Unmoved.pathChanged (h : Unmoved s t) (side : Side) (up : Bool) : Unmoved s (t.pathChanged side up) := by
  unfold State.pathChanged
  cases side <;> exact (h.modSite _).evaluateSite _ _

theorem Unmoved.resync (h : Unmoved s t) : Unmoved s (t.resync c) := by
  unfold State.resync State.sendMain
  exact (((h.send _ _).send _ _).bumpCh _).modSchedule _

theorem Unmoved.setReplication (h : Unmoved s t) (new : Replication) (cause : ReplicationCause) : Unmoved s (t.setReplication c new cause) := by
  unfold State.setReplication
  dsimp only
  split
  · exact h
  · exact ((h.modSchedule _).bumpCh _).raise _

theorem Unmoved.failSnapshot (h : Unmoved s t) (cause : ReplicationCause) : Unmoved s (t.failSnapshot c cause) := by
  unfold State.failSnapshot State.fallBehind State.freeShadow
  exact ((((h.setPool _).modSchedule _).bumpCh _).setReplication _ _).resync

/-! ## The rows of the whole unit, taken -/

theorem doWarmRestartEnd_unmoved (s : State) : Unmoved { s with work := { s.work with warmEnd := false } } s.doWarmRestartEnd := by
  unfold State.doWarmRestartEnd
  split
  · dsimp only
    split
    · refine Unmoved.reply ?_ _ _ _
      exact (Unmoved.refl _).of_eq rfl rfl
    · exact .refl _
  · rename_i h
    have hw : s.work.warmEnd = false := by simpa using h
    exact ⟨by rw [← hw], fun _ => ⟨rfl, rfl, rfl, rfl⟩⟩

theorem doKeepaliveExpiry_unmoved (s : State) : Unmoved { s with work := { s.work with keepalive := false } } s.doKeepaliveExpiry := by
  unfold State.doKeepaliveExpiry
  split
  · unfold State.expireKeepalive
    exact (((Unmoved.refl _).modSite _).bumpUnit _).evaluateSite _ _
  · rename_i h
    have hw : s.work.keepalive = false := by simpa using h
    exact ⟨by rw [← hw], fun _ => ⟨rfl, rfl, rfl, rfl⟩⟩

theorem doReport_unmoved (s : State) : Unmoved { s with work := { s.work with report := false } } s.doReport := by
  have head : ∀ {v w : State} o, Unmoved v w → Unmoved v (w.sendHead o) := fun o h => by
    unfold State.sendHead
    split
    · exact h
    · exact Unmoved.foldl ((h.modCtx _ _).bump _) _ _ fun _ _ hu => hu.send _ _
  have sent : ∀ {v w : State} o, Unmoved v w → Unmoved v (w.sendReports o) := fun o h => by
    unfold State.sendReports
    split
    · exact head _ (head _ h)
    · exact h
  unfold State.doReport
  split
  · exact sent _ (sent _ (.refl _))
  · rename_i h
    have hw : s.work.report = false := by simpa using h
    exact ⟨by rw [← hw], fun _ => ⟨rfl, rfl, rfl, rfl⟩⟩

/-- A path's change of state, taken up or taken down, is due no more; one not taken stands as it was. -/
theorem doPathDown_unmoved (s : State) (side : Side) :
    Unmoved (s.clearPathDue side) (s.doPathDown side) ∨ s.doPathDown side = s ∧ (s.pathDue side = true → (s.path side).up = false) := by
  unfold State.doPathDown
  split
  · exact .inl ((((Unmoved.refl _).modPath _ _).bump _).pathChanged _ _)
  · rename_i h
    exact .inr ⟨rfl, fun hd => by simpa [hd] using h⟩

theorem doPathUp_unmoved (s : State) (side : Side) :
    Unmoved (s.clearPathDue side) (s.doPathUp side) ∨ s.doPathUp side = s ∧ (s.pathDue side = true → (s.path side).up = true) := by
  unfold State.doPathUp
  split
  · exact .inl ((((Unmoved.refl _).modPath _ _).bump _).pathChanged _ _)
  · rename_i h
    exact .inr ⟨rfl, fun hd => by simpa [hd] using h⟩

theorem clearPathDue_idem (s : State) (side : Side) : (s.clearPathDue side).clearPathDue side = s.clearPathDue side := by cases side <;> rfl

theorem Unmoved.clearPathDue (h : Unmoved s t) (side : Side) : Unmoved (s.clearPathDue side) (t.clearPathDue side) := by
  cases side <;> exact ⟨by unfold State.clearPathDue; dsimp only; rw [h.work], h.chans⟩

theorem clearPathDue_of_not_due (h : s.pathDue side = false) : s.clearPathDue side = s := by
  cases side <;> unfold State.clearPathDue State.pathDue at * <;> dsimp only at * <;> rw [← h]

/-- Both rows of a path taken: its change of state is due no more. -/
theorem doPath_unmoved (s : State) (side : Side) : Unmoved (s.clearPathDue side) ((s.doPathDown side).doPathUp side) := by
  rcases doPathDown_unmoved s side with h | ⟨h, hdown⟩
  · rcases doPathUp_unmoved (s.doPathDown side) side with k | ⟨k, -⟩
    · have := h.clearPathDue side
      rw [clearPathDue_idem] at this
      exact this.trans k
    · rw [k]
      exact h
  · rw [h]
    rcases doPathUp_unmoved s side with k | ⟨k, hup⟩
    · exact k
    · rw [k]
      have hnot : s.pathDue side = false := by
        by_contra hd
        rw [Bool.not_eq_false] at hd
        rw [hdown hd] at hup
        exact absurd (hup hd) (by simp)
      rw [clearPathDue_of_not_due hnot]
      exact .refl _

theorem State.modWork_id {f : ChannelWork → ChannelWork} (h : f (s.ch c).work = (s.ch c).work) : s.modWork c f = s :=
  State.modCh_id _ _ _ (by rw [h])

theorem doSnapshotTimeout_unmoved (s : State) (c : Chan) : Unmoved (s.modWork c fun w => { w with snapshot := false }) (s.doSnapshotTimeout c) := by
  unfold State.doSnapshotTimeout
  split
  · unfold State.expireSnapshot
    exact ((Unmoved.refl _).bumpCh _).failSnapshot _
  · rename_i h
    have hw : (s.ch c).work.snapshot = false := by simpa using h
    rw [State.modWork_id (by rw [← hw])]
    exact .refl _

theorem doResyncRepeat_unmoved (s : State) (c : Chan) : Unmoved (s.modWork c fun w => { w with resync := false }) (s.doResyncRepeat c) := by
  unfold State.doResyncRepeat
  split
  · exact (Unmoved.refl _).resync
  · rename_i h
    have hw : (s.ch c).work.resync = false := by simpa using h
    rw [State.modWork_id (by rw [← hw])]
    exact .refl _

/-- The schedule timers' rows of a channel leave the other channels. -/
theorem scheduleRows_others (s : State) (c c' : Chan) (hc : c' ≠ c) : (((s.doSnapshotTimeout c).doResyncRepeat c).ch c') = s.ch c' := by
  have resync : ∀ u : State, (u.resync c).ch c' = u.ch c' := fun u => by
    unfold State.resync State.sendMain
    simp [hc]
  have replication : ∀ (u : State) new cause, (u.setReplication c new cause).ch c' = u.ch c' := fun u new cause => by
    unfold State.setReplication
    dsimp only
    split <;> simp [hc]
  have timeout : (s.doSnapshotTimeout c).ch c' = s.ch c' := by
    unfold State.doSnapshotTimeout
    split
    · unfold State.expireSnapshot State.failSnapshot State.fallBehind State.freeShadow
      rw [resync, replication, State.ch_bumpCh, State.ch_modSchedule_ne _ _ _ _ hc]
      show ((s.modWork c fun w => { w with snapshot := false }).ch c') = s.ch c'
      rw [State.ch_modWork_ne _ _ _ _ hc]
    · rfl
  rw [← timeout]
  unfold State.doResyncRepeat
  split
  · rw [resync, State.ch_modWork_ne _ _ _ _ hc]
  · rfl

/-- The schedule timers' rows of a channel leave nothing of them due, and make nothing else due. -/
theorem scheduleRows_work (s : State) (c : Chan) : (((s.doSnapshotTimeout c).doResyncRepeat c).ch c).work = { (s.ch c).work with snapshot := false, resync := false } ∧
    (((s.doSnapshotTimeout c).doResyncRepeat c).ch c).align = (s.ch c).align ∧ (((s.doSnapshotTimeout c).doResyncRepeat c).ch c).monitor = (s.ch c).monitor ∧
    (((s.doSnapshotTimeout c).doResyncRepeat c).ch c).settings = (s.ch c).settings := by
  obtain ⟨hw, ha, hm, hs⟩ := (doSnapshotTimeout_unmoved s c).chans c
  obtain ⟨kw, ka, km, ks⟩ := (doResyncRepeat_unmoved (s.doSnapshotTimeout c) c).chans c
  rw [State.ch_modWork_same] at hw ha hm hs kw ka km ks
  exact ⟨by rw [kw, hw], ka.trans ha, km.trans hm, ks.trans hs⟩

theorem Channel.Calm.of_same {x y : Channel} (h : x.Calm) (hw : y.work.retime = x.work.retime ∧ y.work.cue = x.work.cue ∧ y.work.control = x.work.control ∧
    y.work.frame = x.work.frame ∧ y.work.ramp = x.work.ramp) (ha : y.align = x.align) (hm : y.monitor = x.monitor) (hs : y.settings = x.settings) : y.Calm := by
  obtain ⟨h1, h2, h3, h4, h5⟩ := hw
  refine ⟨h1.trans h.retime, h2.trans h.cue, h3.trans h.control, h4.trans h.frame, h5.trans h.ramp, by rw [ha]; exact h.waiting, fun det => ?_⟩
  unfold Channel.detCfg Channel.detState
  rw [hm, hs]
  exact h.settled det

theorem Unmoved.calm (h : Unmoved s t) (hs : (s.ch c).Calm) : (t.ch c).Calm := by
  obtain ⟨hw, ha, hm, hk⟩ := h.chans c
  exact hs.of_same (by rw [hw]; exact ⟨rfl, rfl, rfl, rfl, rfl⟩) ha hm hk

/-! ## Nothing due -/

theorem assembled_iff (s : State) : s.assembled = true ↔ (s.work.pathA = false ∧ s.work.pathB = false ∧ s.work.keepalive = false ∧ s.work.warmEnd = false ∧
    s.work.report = false) ∧ ∀ c, (s.ch c).Calm ∧ (s.ch c).work.snapshot = false ∧ (s.ch c).work.resync = false := by
  have channel : ∀ c, s.channelDue c = false ↔ (s.ch c).Calm ∧ (s.ch c).work.snapshot = false ∧ (s.ch c).work.resync = false := fun c => by
    have settle : Detector.all.any (s.settleDue c) = false ↔ ∀ det, s.settleDue c det = false := by
      rw [List.any_eq_false]
      exact ⟨fun h det => by simpa using h det (by cases det <;> decide), fun h det _ => by simp [h det]⟩
    unfold State.channelDue
    simp only [Bool.or_eq_false_iff, settle, Option.isSome_eq_false_iff, Option.isNone_iff_eq_none]
    refine ⟨fun ⟨⟨⟨⟨⟨⟨⟨⟨h1, h2⟩, h3⟩, h4⟩, h5⟩, h6⟩, h7⟩, h8⟩, h9⟩ => ⟨⟨h3, h4, h5, h6, h7, h8, h9⟩, h1, h2⟩, fun ⟨h, h1, h2⟩ => ?_⟩
    exact ⟨⟨⟨⟨⟨⟨⟨⟨h1, h2⟩, h.retime⟩, h.cue⟩, h.control⟩, h.frame⟩, h.ramp⟩, h.waiting⟩, h.settled⟩
  unfold State.assembled
  simp only [Bool.and_eq_true, Bool.not_eq_true', List.all_eq_true, channel]
  exact ⟨fun ⟨⟨⟨⟨⟨h1, h2⟩, h3⟩, h4⟩, h5⟩, h6⟩ => ⟨⟨h1, h2, h3, h4, h5⟩, fun c => h6 c (Chan.mem_all c)⟩,
    fun ⟨⟨h1, h2, h3, h4, h5⟩, h6⟩ => ⟨⟨⟨⟨⟨h1, h2⟩, h3⟩, h4⟩, h5⟩, fun c _ => h6 c⟩⟩

/-- Every channel caught up in turn. -/
theorem catchUpChannels_calm (s : State) (c : Chan) : ((s.eachChannel fun c t => t.catchUpChannel c).ch c).Calm :=
  State.eachChannel_ch (P := fun _ => True) (Q := fun _ x => x.Calm) (fun _ _ _ => trivial) (fun c c' t _ hc => (Beside.refl c t).catchUpChannel.others c' hc)
    (fun c t _ _ => catchUpChannel_calm t c) trivial c

/-- The rows of the whole unit taken after the channels. -/
def State.finishUnit (s : State) : State :=
  (((((s.doWarmRestartEnd.doPathDown .a).doPathUp .a).doPathDown .b).doPathUp .b).doKeepaliveExpiry)

theorem finishUnit_unmoved (s : State) : Unmoved { s with work := { s.work with warmEnd := false, pathA := false, pathB := false, keepalive := false } } s.finishUnit := by
  have warm := (doWarmRestartEnd_unmoved s).clearPathDue .a
  have pathA := (warm.trans (doPath_unmoved _ .a)).clearPathDue .b
  have pathB := pathA.trans (doPath_unmoved _ .b)
  have last := doKeepaliveExpiry_unmoved ((((s.doWarmRestartEnd.doPathDown .a).doPathUp .a).doPathDown .b).doPathUp .b)
  refine ⟨?_, fun c => ?_⟩
  · unfold State.finishUnit
    rw [last.work]
    dsimp only
    rw [pathB.work]
    rfl
  · obtain ⟨h1, h2, h3, h4⟩ := last.chans c
    obtain ⟨k1, k2, k3, k4⟩ := pathB.chans c
    exact ⟨h1.trans k1, h2.trans k2, h3.trans k3, h4.trans k4⟩

theorem finishBoundary_eq (h : s.assembled = false) : s.finishBoundary =
    ((s.eachChannel fun c t => t.catchUpChannel c).finishUnit.eachChannel fun c t => (t.doSnapshotTimeout c).doResyncRepeat c).doReport := by
  unfold State.finishBoundary
  rw [if_neg (by simp [h])]
  rfl

theorem finishBoundary_assembled (s : State) : s.finishBoundary.assembled = true := by
  cases ha : s.assembled with
  | true => rw [State.finishBoundary_assembled ha, ha]
  | false =>
    rw [finishBoundary_eq ha]
    have calm := catchUpChannels_calm s
    generalize s.eachChannel (fun c t => t.catchUpChannel c) = v at calm ⊢
    have unit := finishUnit_unmoved v
    have hcalm : ∀ c, (v.finishUnit.ch c).Calm := fun c => unit.calm (calm c)
    have hwork := unit.work
    generalize v.finishUnit = w at hcalm hwork ⊢
    have timed := State.eachChannel_ch (P := fun _ => True) (Q := fun c x => x.Calm ∧ x.work.snapshot = false ∧ x.work.resync = false) (s := w)
      (f := fun c t => (t.doSnapshotTimeout c).doResyncRepeat c) (fun _ _ _ => trivial) (fun c c' t _ hc => scheduleRows_others t c c' hc)
      (fun c t _ ht => by
        obtain ⟨h1, h2, h3, h4⟩ := scheduleRows_work t c
        refine ⟨(hcalm c).of_same ?_ (h2.trans (by rw [ht])) (h3.trans (by rw [ht])) (h4.trans (by rw [ht])), by rw [h1], by rw [h1]⟩
        rw [h1, ht]
        exact ⟨rfl, rfl, rfl, rfl, rfl⟩) trivial
    have htimed : (w.eachChannel fun c t => (t.doSnapshotTimeout c).doResyncRepeat c).work = w.work :=
      State.eachChannel_keeps (P := fun u => u.work = w.work) (fun c u hu => by
        rw [(doResyncRepeat_unmoved (u.doSnapshotTimeout c) c).work]
        exact (doSnapshotTimeout_unmoved u c).work.trans hu) rfl
    generalize w.eachChannel (fun c t => (t.doSnapshotTimeout c).doResyncRepeat c) = z at timed htimed ⊢
    have reported := doReport_unmoved z
    refine (assembled_iff _).2 ⟨?_, fun c => ?_⟩
    · rw [reported.work]
      dsimp only
      rw [htimed, hwork]
      exact ⟨rfl, rfl, rfl, rfl, rfl⟩
    · obtain ⟨hc, h1, h2⟩ := timed c
      obtain ⟨k, -, -, -⟩ := reported.chans c
      exact ⟨reported.calm hc, by rw [k]; exact h1, by rw [k]; exact h2⟩

/-! ## Sending (R180) -/

/-- Sending takes up nothing that a boundary leaves due. -/
theorem modOutput_unmoved (s : State) (c : Chan) (f : Output → Output) : Unmoved s (s.modOutput c f) := by
  refine ⟨rfl, fun c' => ?_⟩
  by_cases hc : c' = c
  · subst hc; simp
  · simp [hc]

theorem emit_unmoved (s : State) (side : Side) (f : OutFrame) : Unmoved s (s.emit side f) := by
  unfold State.emit
  dsimp only
  split <;> exact (Unmoved.refl _).of_eq rfl rfl

theorem emit_ch (s : State) (side : Side) (f : OutFrame) (c : Chan) : (s.emit side f).ch c = s.ch c := by
  unfold State.emit
  dsimp only
  split <;> rfl

/-- Every frame being sent is finished. -/
def State.endSending (s : State) : State := s.eachChannel fun c t => t.modOutput c fun y => { y with sending := none }

theorem endSending_ch (s : State) (c : Chan) : s.endSending.ch c = { s.ch c with output := { (s.ch c).output with sending := none } } :=
  State.eachChannel_ch_eq (g := fun _ x => { x with output := { x.output with sending := none } })
    (fun c t c' => by unfold State.modOutput; rw [State.ch_modCh]) c

theorem endSending_unmoved (s : State) : Unmoved s s.endSending :=
  State.eachChannel_keeps (P := Unmoved s) (fun c u hu => hu.trans (modOutput_unmoved u c _)) (.refl s)

theorem Unmoved.assembled (h : Unmoved s t) (hs : s.assembled = true) : t.assembled = true := by
  obtain ⟨hw, hc⟩ := (assembled_iff s).1 hs
  refine (assembled_iff t).2 ⟨by rw [h.work]; exact hw, fun c => ?_⟩
  obtain ⟨k, k1, k2⟩ := hc c
  obtain ⟨hwork, -, -, -⟩ := h.chans c
  exact ⟨h.calm k, by rw [hwork]; exact k1, by rw [hwork]; exact k2⟩

/-- The frame `f` of channel `c` on its way, on both ports. -/
def State.sendWaiting (s : State) (c : Chan) (f : OutFrame) : State :=
  ((s.modOutput c fun y => { y with sending := some f, waiting := none }).emit .a f).emit .b f

theorem sendFrame_of_none (h : s.endSending.nextToSend = none) : s.sendFrame = s.endSending := by
  unfold State.sendFrame
  unfold State.endSending at h ⊢
  simp only [h]

theorem waiting_of_nextToSend (h : s.nextToSend = some c) : ∃ f, (s.ch c).output.waiting = some f := by
  unfold State.nextToSend at h
  exact Option.isSome_iff_exists.1 (List.find?_some (p := fun c => (s.ch c).output.waiting.isSome) h)

theorem sendFrame_of_some (h : s.endSending.nextToSend = some c) (hf : (s.endSending.ch c).output.waiting = some f) :
    s.sendFrame = s.endSending.sendWaiting c f := by
  unfold State.sendFrame State.sendWaiting
  unfold State.endSending at h hf ⊢
  simp only [h, hf]

theorem sendWaiting_unmoved (s : State) (c : Chan) (f : OutFrame) : Unmoved s (s.sendWaiting c f) := by
  unfold State.sendWaiting
  exact ((modOutput_unmoved s c _).trans (emit_unmoved _ .a f)).trans (emit_unmoved _ .b f)

theorem sendFrame_unmoved (s : State) : Unmoved s s.sendFrame := by
  cases hn : s.endSending.nextToSend with
  | none => rw [sendFrame_of_none hn]; exact endSending_unmoved s
  | some c =>
    obtain ⟨f, hf⟩ := waiting_of_nextToSend hn
    rw [sendFrame_of_some hn hf]
    exact (endSending_unmoved s).trans (sendWaiting_unmoved s.endSending c f)

theorem nextToSend_endSending (s : State) : s.endSending.nextToSend = s.nextToSend := by
  unfold State.nextToSend
  simp only [endSending_ch]

/-- A frame waiting is on its way after a sending, and the ports are not free. -/
theorem sendFrame_sendDue (h : s.sendDue = true) : s.sendFrame.sendDue = false := by
  have hdue : s.nextToSend.isSome = true := by
    unfold State.sendDue at h
    rw [Bool.and_eq_true] at h
    exact h.2
  obtain ⟨c, hc⟩ := Option.isSome_iff_exists.1 hdue
  rw [← nextToSend_endSending] at hc
  obtain ⟨f, hf⟩ := waiting_of_nextToSend hc
  have hsending : (s.sendFrame.ch c).output.sending = some f := by
    rw [sendFrame_of_some hc hf, State.sendWaiting, emit_ch, emit_ch, State.ch_modOutput_same]
  unfold State.sendDue State.portsFree
  rw [Bool.and_eq_false_iff]
  left
  rw [List.all_eq_false]
  exact ⟨c, Chan.mem_all c, by simp [hsending]⟩

theorem catchUp_settled (s : State) : s.catchUp.settled = true := by
  have assembled := finishBoundary_assembled s
  rw [State.settled_iff]
  rcases s.catchUp_cases with ⟨hdue, e⟩ | ⟨hdue, e⟩ <;> rw [e]
  · exact ⟨assembled, hdue⟩
  · exact ⟨(sendFrame_unmoved _).assembled assembled, sendFrame_sendDue hdue⟩

/-- Settles O2: what is due is taken once. -/
theorem idleStepSettlesThePart : Obligations.IdleStepSettlesThePart := by
  unfold Obligations.IdleStepSettlesThePart
  intro s hp
  refine ⟨s.catchUp, ?_, catchUp_settled s, (KeepsBounds.catchUp s).pending.trans hp, fun hs => State.catchUp_settled hs⟩
  unfold step
  rw [hp]

end Sys2Proof.Machine

/-! PROOFS. How a request of an origin, and a command of the part, reach the operation that does its work: what the obligations about single requests start from. -/

namespace Sys2Proof.Machine

-- Each elaboration thread takes a large stack, and the text is compiled as one file under a memory limit: one thread at a time.
set_option Elab.async false

variable {s : State} {o : Origin} {rx : ControlRx}

/-- Who asked for a request, on which port, and for what (R190). -/
def asked (o : Origin) (rx : ControlRx) (r : Request) : Asked :=
  { origin := o, port := rx.port, request := rx.request, kind := r.code, channel := rx.channel }

/-- R188: a request of the kinds that reach an owner or an authority check. -/
def Answerable : Request → Prop
  | .keepalive _ | .schedule _ | .ready .. | .refused .. | .outbound _ | .unknown _ | .malformed _ => False
  | _ => True

theorem heard_answerable (h : Heard s o rx) {r : Request} (hr : Answerable r) (time : Nat) :
    s.catchUp.receiveControl rx r time =
      if authorised o r then (s.heard rx).passOn (asked o rx r) rx.group time r else (s.heard rx).refuseAuthority (asked o rx r) r := by
  refine route_asked h r time fun k => ?_
  cases r <;> simp [Answerable] at hr ⊢

/-- R189: an authorised request is passed to its owner. -/
theorem heard_passOn (h : Heard s o rx) {r : Request} (hr : Answerable r) (ha : authorised o r = true) (time : Nat) :
    s.catchUp.receiveControl rx r time = (s.heard rx).passOn (asked o rx r) rx.group time r := by
  rw [heard_answerable h hr, if_pos ha]

/-- R189: a request that its origin may not send is refused. -/
theorem heard_refused (h : Heard s o rx) {r : Request} (hr : Answerable r) (ha : authorised o r = false) (time : Nat) :
    s.catchUp.receiveControl rx r time = (s.heard rx).refuseAuthority (asked o rx r) r := by
  rw [heard_answerable h hr, if_neg (by simp [ha])]

theorem State.answer_asked (u : State) (r : Request) (result : Result) (contents : List Atom) :
    u.answer (asked o rx r) result false contents = u.answered o rx r.code result contents := rfl

/-- R190: a request of the whole unit for channel 255, without GROUP. -/
theorem unitRequest_whole (h : Whole s o rx) (u f : State) (r : Request) : unitRequest u (asked o rx r) rx.group f = f := by
  obtain ⟨-, hg, hc⟩ := h
  exact if_pos ⟨hc, hg⟩

end Sys2Proof.Machine

/-! PROOFS. The Timeline Unit (Chapter 1): what each pulse and each expiry of the frame timer makes of the part. -/

namespace Sys2Proof.Machine

-- Each elaboration thread takes a large stack, and the text is compiled as one file under a memory limit: one thread at a time.
set_option Elab.async false

variable {s : State} {l : Label} {time : Nat}

/-! ## Changes of lock state and boundaries -/

theorem State.setLock_same {new : LockState} (h : new = s.time.lock) : s.setLock new = s := by
  unfold State.setLock
  exact if_pos h

theorem State.setLock_change {new : LockState} (h : new ≠ s.time.lock) :
    s.setLock new = (s.modTime fun x => { x with lock := new }).raise (.reference s.time.lock new s.time.h s.time.lastDifference) := by
  unfold State.setLock
  exact if_neg h

/-- The Timeline Unit's record as a boundary leaves it, before the lock state takes its value. -/
def Timeline.atBoundary (x : Timeline) (kind : BoundaryKind) (new : Nat) (lock : LockState) (time : Nat) : Timeline :=
  { x with
    h := new, timer := some (time + if kind ≠ .timer ∧ lock = .locked then x.rate.longPeriod else x.rate.period)
    boundaryKind := some kind, boundaryTime := time }

theorem State.makeBoundary_eq (s : State) (kind : BoundaryKind) (new : Nat) (lock : LockState) (time : Nat) :
    s.makeBoundary kind new lock time =
      (State.setLock { s with time := s.time.atBoundary kind new lock time } lock).takeBoundary s.time.h (kind == BoundaryKind.realigned) := by
  unfold State.makeBoundary State.modTime Timeline.atBoundary
  dsimp only

theorem State.makeBoundary_same {kind : BoundaryKind} {new : Nat} {lock : LockState} (h : lock = s.time.lock) :
    s.makeBoundary kind new lock time =
      State.takeBoundary { s with time := s.time.atBoundary kind new lock time } s.time.h (kind == BoundaryKind.realigned) := by
  rw [State.makeBoundary_eq, State.setLock_same (by exact h)]

theorem State.makeBoundary_change {kind : BoundaryKind} {new : Nat} {lock : LockState} (h : lock ≠ s.time.lock) :
    s.makeBoundary kind new lock time =
      (({ s with time := { s.time.atBoundary kind new lock time with lock := lock } } : State).raise
        (.reference s.time.lock lock new s.time.lastDifference)).takeBoundary s.time.h (kind == BoundaryKind.realigned) := by
  rw [State.makeBoundary_eq, State.setLock_change (by exact h)]
  unfold State.modTime Timeline.atBoundary
  dsimp only

/-! ## Which rule takes a pulse -/

/-- The part with the absence count that a valid pulse leaves (R8). -/
def State.heardPulse (s : State) : State := s.modTime fun x => { x with absence := 0 }

theorem State.takePulse_free (hload : s.loading = false) (hv : ValidLabel s.time.rate l)
    (hfree : s.time.realignPending = true ∨ s.time.lock = .unreferenced) :
    s.takePulse l time = s.heardPulse.realignPulse (labelPosition s.time.rate l) time := by
  have hfree' : (s.time.realignPending || s.time.lock == .unreferenced) = true := by simpa using hfree
  simp only [State.takePulse, hload, pulsePosition_of_validLabel hv]
  exact if_pos hfree'

/-- Outside free-running the lock state chooses the rule. -/
theorem State.takePulse_held (hload : s.loading = false) (hv : ValidLabel s.time.rate l) (hp : s.time.realignPending = false)
    (hlock : s.time.lock ≠ .unreferenced) :
    s.takePulse l time =
      if (s.time.lock = .locked ∨ s.time.lock = .refLost) ∧ s.latePulse time = true ∧ labelPosition s.time.rate l = s.time.h then
        s.heardPulse.matchLate 0 time
      else if s.time.lock = .locked then s.heardPulse.lockedPulse (labelPosition s.time.rate l) time
      else if s.time.lock = .refLost then s.heardPulse.lostPulse (labelPosition s.time.rate l) time
      else s.heardPulse.mismatchPulse (labelPosition s.time.rate l) := by
  have hlate : s.heardPulse.latePulse time = s.latePulse time := rfl
  have hheld : s.heardPulse.time.lock = s.time.lock := rfl
  have hfree : ¬((s.heardPulse.time.realignPending || s.heardPulse.time.lock == .unreferenced) = true) := by
    rw [show s.heardPulse.time.realignPending = false from hp, hheld]
    simpa using hlock
  simp only [State.takePulse, hload, pulsePosition_of_validLabel hv]
  rw [← State.heardPulse, if_neg (by decide), if_neg hfree, hheld, hlate]
  cases h : s.time.lock with
  | unreferenced => exact absurd h hlock
  | locked | refLost | refMismatch => simp [State.heardPulse, State.modTime]

/-! ## What a boundary made by a pulse leaves -/

/-- The Timeline Unit's record after a pulse of difference `d` at an instant has made a boundary (R8, R10). -/
def Timeline.pulsed (x : Timeline) (d : Int) (new : Nat) (lock : LockState) (period : Nat) (time : Nat) : Timeline :=
  { h := new, rate := x.rate, lock := lock, realignPending := false, absence := 0, lastDifference := some d
    timer := some (time + period), boundaryKind := some .pulse, boundaryTime := time }

/-- The part with a pulse's difference recorded, no absence counted and no realignment pending. -/
def State.compared (s : State) (d : Int) : State :=
  { s with time := { s.time with realignPending := false, absence := 0, lastDifference := some d } }

theorem State.heardPulse_compared (hp : s.time.realignPending = false) (d : Int) :
    (s.heardPulse.modTime fun x => { x with lastDifference := some d }) = s.compared d := by
  unfold State.heardPulse State.modTime State.compared
  dsimp only
  rw [hp]

theorem State.heardPulse_realigned (d : Int) :
    (s.heardPulse.modTime fun x => { x with realignPending := false, lastDifference := some d }) = s.compared d := rfl

theorem State.compared_h (d : Int) : (s.compared d).time.h = s.time.h := rfl
theorem State.compared_wrap (d : Int) (x : Int) : (s.compared d).wrap x = s.wrap x := rfl
theorem State.heardPulse_h : s.heardPulse.time.h = s.time.h := rfl
theorem State.heardPulse_wrap (x : Int) : s.heardPulse.wrap x = s.wrap x := rfl
theorem State.heardPulse_signed (x y : Int) : s.heardPulse.signed x y = s.signed x y := rfl
theorem State.compared_bump (d : Int) (k : UnitCtr) : (s.compared d).bumpUnit k = (s.bump (.whole k)).compared d := rfl

/-- The difference of a pulse's position from H + 1 (R10). -/
def State.difference (s : State) (p : Nat) : Int := s.signed p (s.wrap (s.time.h + 1 : Nat))

theorem State.lockedPulse_eq (hp : s.time.realignPending = false) (p : Nat) :
    s.heardPulse.lockedPulse p time =
      let v := s.compared (s.difference p)
      if s.difference p = 0 then v.makeBoundary .pulse (s.wrap (s.time.h + 1 : Nat)) .locked time
      else if s.difference p = 1 then (v.bumpUnit .refAdjusts).makeBoundary .pulse (s.wrap (s.time.h + 2 : Nat)) .locked time
      else if s.difference p = -1 then (v.bumpUnit .refAdjusts).makeBoundary .pulse s.time.h .locked time
      else (v.bumpUnit .refMismatches).makeBoundary .pulse (s.wrap (s.time.h + 1 : Nat)) .refMismatch time := by
  unfold State.lockedPulse State.difference
  simp only [State.heardPulse_compared hp, State.heardPulse_h, State.heardPulse_wrap, State.heardPulse_signed, State.compared_wrap, State.compared_h]

theorem State.lostPulse_eq (hp : s.time.realignPending = false) (p : Nat) :
    s.heardPulse.lostPulse p time =
      let v := s.compared (s.difference p)
      if s.difference p = 0 then v.makeBoundary .pulse (s.wrap (s.time.h + 1 : Nat)) .locked time
      else if s.difference p = 1 then (v.bumpUnit .refAdjusts).makeBoundary .pulse (s.wrap (s.time.h + 2 : Nat)) .locked time
      else if s.difference p = -1 then (v.bumpUnit .refAdjusts).makeBoundary .pulse s.time.h .locked time
      else (v.bumpUnit .refMismatches).setLock .refMismatch := by
  unfold State.lostPulse State.difference
  simp only [State.heardPulse_compared hp, State.heardPulse_h, State.heardPulse_wrap, State.heardPulse_signed, State.compared_wrap, State.compared_h]

/-- A difference does not tell a position from the number that it reduces (R3). -/
theorem State.signed_wrap (s : State) (y x : Int) : s.signed y (s.wrap x) = s.signed y x := by
  have hpos : (0 : Int) < s.cycle := by
    unfold State.cycle Rate.cycle
    cases s.time.rate <;> decide
  have hwrap : ((s.wrap x : Nat) : Int) = x % s.cycle := Int.toNat_of_nonneg (Int.emod_nonneg _ hpos.ne')
  have hmod : (y - x % s.cycle) % s.cycle = (y - x) % s.cycle := Int.sub_emod_emod ..
  unfold State.signed signedDifference
  rw [hwrap, hmod]

theorem State.mismatchPulse_eq (p : Nat) :
    s.heardPulse.mismatchPulse p = { s with time := { s.time with absence := 0, lastDifference := some (s.difference p) } } := by
  unfold State.difference
  rw [State.signed_wrap]
  rfl

theorem State.realignPulse_eq (p : Nat) :
    s.heardPulse.realignPulse p time =
      let v := s.compared (s.difference p)
      if (s.latePulse time && p == s.time.h) = true then v.matchLate (s.difference p) time
      else if p = s.wrap (s.time.h + 1 : Nat) then v.makeBoundary .pulse p .locked time
      else (v.bumpUnit .realignments).makeBoundary .realigned p .locked time := by
  have hlate : s.heardPulse.latePulse time = s.latePulse time := rfl
  unfold State.realignPulse State.difference
  simp only [State.heardPulse_realigned, State.heardPulse_h, State.heardPulse_wrap, State.heardPulse_signed, hlate]
  rfl

theorem pulse_not_realigned : (BoundaryKind.pulse == BoundaryKind.realigned) = false := rfl

/-- A boundary of a compared pulse in the lock state held. -/
theorem compared_boundary_same (d : Int) (new : Nat) (hlock : s.time.lock = .locked) :
    (s.compared d).makeBoundary .pulse new .locked time =
      State.takeBoundary { s with time := s.time.pulsed d new .locked (s.time.rate.period + s.time.rate.period / 4) time } s.time.h false := by
  rw [State.makeBoundary_same (by exact hlock.symm)]
  unfold State.compared Timeline.atBoundary Timeline.pulsed Rate.longPeriod
  simp [hlock, pulse_not_realigned]

/-- A boundary of a compared pulse that locks the part. -/
theorem compared_boundary_locks (d : Int) (new : Nat) (kind : BoundaryKind) (hkind : kind ≠ .timer) (hlock : s.time.lock ≠ .locked) :
    (s.compared d).makeBoundary kind new .locked time =
      (({ s with time := { s.time.pulsed d new .locked (s.time.rate.period + s.time.rate.period / 4) time with boundaryKind := some kind } } : State).raise
        (.reference s.time.lock .locked new (some d))).takeBoundary s.time.h (kind == BoundaryKind.realigned) := by
  rw [State.makeBoundary_change (by exact hlock.symm)]
  unfold State.compared Timeline.atBoundary Timeline.pulsed Rate.longPeriod
  simp [hkind]

/-- A boundary of a compared pulse that is a mismatch. -/
theorem compared_boundary_mismatch (d : Int) (new : Nat) (hlock : s.time.lock = .locked) :
    (s.compared d).makeBoundary .pulse new .refMismatch time =
      (({ s with time := s.time.pulsed d new .refMismatch s.time.rate.period time } : State).raise
        (.reference .locked .refMismatch new (some d))).takeBoundary s.time.h false := by
  rw [State.makeBoundary_change (by rw [State.compared]; simp [hlock])]
  unfold State.compared Timeline.atBoundary Timeline.pulsed
  simp [hlock, pulse_not_realigned]

/-! ## The obligations -/

/-- Settles O13, by the four differences of R10. -/
theorem pulseInLocked : Obligations.PulseInLocked := by
  unfold Obligations.PulseInLocked
  intro s l time hrun hv hlock hp hlate δ made one long
  have hexec : exec (.referencePulse l time) s = .next (s.heardPulse.lockedPulse (labelPosition s.time.rate l) time) := by
    rw [exec_referencePulse_settled hrun.1, State.takePulse_held hrun.2 hv hp (by rw [hlock]; decide), if_neg (fun h => hlate h.2), if_pos hlock]
  rw [State.lockedPulse_eq hp] at hexec
  dsimp only at hexec
  simp only [State.compared_bump] at hexec
  have hδ : s.difference (labelPosition s.time.rate l) = δ := rfl
  refine ⟨fun h => ?_, fun h => ?_, fun h => ?_, fun h0 h1 h2 => ?_⟩
  · rw [hexec, hδ, if_pos h, compared_boundary_same _ _ hlock]
    rfl
  · rw [hexec, hδ, if_neg (by omega), if_pos h, compared_boundary_same (s := s.bump _) _ _ hlock]
    rfl
  · rw [hexec, hδ, if_neg (by omega), if_neg (by omega), if_pos h, compared_boundary_same (s := s.bump _) _ _ hlock]
    rfl
  · rw [hexec, hδ, if_neg h0, if_neg h1, if_neg h2, compared_boundary_mismatch (s := s.bump _) _ _ hlock]
    rfl

/-- A pulse taken for the TIMER boundary just made, in a part that is locked already and in one that is not. -/
theorem State.matchLate_same (d : Int) (hlock : s.time.lock = .locked) :
    s.matchLate d time =
      { s with time := { s.time with lastDifference := some d, timer := some (time + (s.time.rate.period + s.time.rate.period / 4)) } } := by
  unfold State.matchLate
  rw [State.setLock_same (by exact hlock.symm)]
  rfl

theorem State.matchLate_change (d : Int) (hlock : s.time.lock ≠ .locked) :
    s.matchLate d time =
      State.raise
        { s with
          time := { s.time with lock := .locked, lastDifference := some d, timer := some (time + (s.time.rate.period + s.time.rate.period / 4)) } }
        (.reference s.time.lock .locked s.time.h (some d)) := by
  unfold State.matchLate
  rw [State.setLock_change (by exact hlock.symm)]
  rfl

/-- Settles O14: R11 where the pulse belongs to the boundary just made, R12 by its four differences, and R13. -/
theorem latePulsesAndReturningReference : Obligations.LatePulsesAndReturningReference := by
  unfold Obligations.LatePulsesAndReturningReference
  refine ⟨fun s l time hrun hv hlock hp hkind hat hquarter hpos => ?_, fun s l time hrun hv hp => ?_⟩
  · have hfree : s.time.lock ≠ .unreferenced := by rcases hlock with h | h <;> rw [h] <;> decide
    have hlate : s.latePulse time = true := by
      unfold State.latePulse
      simp [hkind, hat, hquarter]
    rw [exec_referencePulse_settled hrun.1, State.takePulse_held hrun.2 hv hp hfree, if_pos ⟨hlock, hlate, hpos⟩]
    dsimp only
    by_cases h : s.time.lock = .locked
    · rw [if_pos h, State.matchLate_same 0 (by exact h)]
      dsimp only [State.heardPulse, State.modTime]
      rw [h]
    · rw [if_neg h, State.matchLate_change 0 (by exact h)]
      rw [show s.heardPulse.time.lock = .refLost from hlock.resolve_left h]
      rfl
  · intro δ made
    have hδ : s.difference (labelPosition s.time.rate l) = δ := rfl
    constructor
    · intro hlock hlate
      have hnot : s.time.lock ≠ .locked := by rw [hlock]; decide
      have hexec : exec (.referencePulse l time) s = .next (s.heardPulse.lostPulse (labelPosition s.time.rate l) time) := by
        rw [exec_referencePulse_settled hrun.1, State.takePulse_held hrun.2 hv hp (by rw [hlock]; decide), if_neg (fun h => hlate h.2), if_neg hnot,
          if_pos hlock]
      rw [State.lostPulse_eq hp] at hexec
      dsimp only at hexec
      simp only [State.compared_bump] at hexec
      refine ⟨fun h => ?_, fun h => ?_, fun h => ?_, fun h0 h1 h2 => ?_⟩
      · rw [hexec, hδ, if_pos h, compared_boundary_locks _ _ _ (by decide) hnot, hlock]
        rfl
      · rw [hexec, hδ, if_neg (by omega), if_pos h, compared_boundary_locks (s := s.bump _) _ _ _ (by decide) hnot]
        rw [show (s.bump (.whole .refAdjusts)).time.lock = .refLost from hlock]
        rfl
      · rw [hexec, hδ, if_neg (by omega), if_neg (by omega), if_pos h, compared_boundary_locks (s := s.bump _) _ _ _ (by decide) hnot]
        rw [show (s.bump (.whole .refAdjusts)).time.lock = .refLost from hlock]
        rfl
      · rw [hexec, hδ, if_neg h0, if_neg h1, if_neg h2, State.setLock_change (by rw [show ((s.bump (.whole .refMismatches)).compared δ).time.lock = .refLost from hlock]; decide)]
        rw [show ((s.bump (.whole .refMismatches)).compared δ).time.lock = .refLost from hlock]
        unfold State.compared State.modTime
        dsimp only
        rw [hp]
        rfl
    · intro hlock
      rw [exec_referencePulse_settled hrun.1, State.takePulse_held hrun.2 hv hp (by rw [hlock]; decide), if_neg (by rw [hlock]; simp),
        if_neg (by rw [hlock]; decide), if_neg (by rw [hlock]; decide), State.mismatchPulse_eq]
      rfl

/-- Settles O15. -/
theorem realignSetsTheFlag : Obligations.RealignSetsTheFlag := by
  unfold Obligations.RealignSetsTheFlag
  intro s rx h
  change Host.Outcome.next (s.catchUp.receiveControl rx .realign 0) = _
  rw [heard_passOn (r := .realign) h.1 trivial rfl, State.passOn, unitRequest_whole h, State.commandRealign, State.heard_time]
  split
  · rfl
  · dsimp only [State.modTime]
    rw [State.heard_time]
    rfl

/-- Settles O16, by R15's three cases. -/
theorem pulseEndsFreeRunning : Obligations.PulseEndsFreeRunning := by
  unfold Obligations.PulseEndsFreeRunning
  intro s l time hrun hv hnot hfree p δ locked
  have hexec : exec (.referencePulse l time) s = .next (s.heardPulse.realignPulse p time) := by
    rw [exec_referencePulse_settled hrun.1, State.takePulse_free hrun.2 hv hfree]
  have hδ : s.difference p = δ := rfl
  rw [State.realignPulse_eq] at hexec
  dsimp only at hexec
  simp only [State.compared_bump] at hexec
  refine ⟨fun h => ?_, fun h h1 => ?_, fun h h1 => ?_⟩
  · rw [hexec, if_pos (by simpa using h), State.matchLate_change (s := s.compared _) _ (by exact hnot)]
    rfl
  · rw [hexec, if_neg (by simpa using h), if_pos h1, compared_boundary_locks _ _ _ (by decide) hnot]
    rfl
  · rw [hexec, if_neg (by simpa using h), if_neg h1, compared_boundary_locks (s := s.bump _) _ _ _ (by decide) hnot]
    rfl

theorem Timeline.atBoundary_timer (x : Timeline) (new : Nat) (lock : LockState) (time : Nat) :
    x.atBoundary .timer new lock time =
      { x with h := new, timer := some (time + x.rate.period), boundaryKind := some .timer, boundaryTime := time } := by
  simp [Timeline.atBoundary]

/-- The part with an absence more counted, a coast in LOCKED, and the loss of the reference where it comes to that (R8). -/
def State.absent (s : State) (coast lost : Bool) : State :=
  let a := s.modTime fun x => { x with absence := min (x.absence + 1) 2 }
  let b := if coast then a.bumpUnit .coastedBoundaries else a
  if lost then b.bumpUnit .refLosses else b

/-- R8: whether the expiry of the frame timer is the loss of the reference. -/
def State.losesReference (s : State) : Bool := (s.time.lock == .locked || s.time.lock == .refMismatch) && min (s.time.absence + 1) 2 == 2

theorem State.expireFrameTimer_eq {at_ : Nat} (h : s.time.timer = some at_) :
    s.expireFrameTimer =
      (s.absent (s.time.lock == .locked) s.losesReference).makeBoundary .timer (s.wrap (s.time.h + 1 : Nat))
        (if s.losesReference then .refLost else s.time.lock) at_ := by
  have hwrap : ∀ coast lost x, (s.absent coast lost).wrap x = s.wrap x := by intro coast lost x; cases coast <;> cases lost <;> rfl
  have hh : ∀ coast lost, (s.absent coast lost).time.h = s.time.h := by intro coast lost; cases coast <;> cases lost <;> rfl
  rw [← hwrap (s.time.lock == .locked) s.losesReference, ← hh (s.time.lock == .locked) s.losesReference]
  unfold State.expireFrameTimer
  rw [h]
  dsimp only
  unfold State.absent State.losesReference
  simp only [beq_iff_eq]
  rfl

/-- Settles O17, by R8's cases. -/
theorem frameTimerMakesABoundary : Obligations.FrameTimerMakesABoundary := by
  unfold Obligations.FrameTimerMakesABoundary
  intro s hsettled
  have hexec : exec .frameTimerExpiry s = .next s.expireFrameTimer := by
    change Host.Outcome.next s.catchUp.expireFrameTimer = _
    rw [State.catchUp_settled hsettled]
  refine ⟨fun h => ?_, fun at_ h => ?_⟩
  · rw [hexec, State.expireFrameTimer, h]
  · rw [hexec, State.expireFrameTimer_eq h]
    intro absence lost h1 lock a b t
    have hcoast : (s.time.lock == .locked) = decide (s.time.lock = .locked) := by cases s.time.lock <;> rfl
    have hloses : s.losesReference = decide lost := by
      unfold State.losesReference
      simp only [lost, absence, Bool.decide_and, Bool.decide_or, Bool.beq_eq_decide_eq]
    have htime : ∀ coast l', (s.absent coast l').time = { s.time with absence := absence } := by
      intro coast l'
      cases coast <;> cases l' <;> rfl
    have hcounted : ∀ u : Timeline, { s.absent (s.time.lock == .locked) s.losesReference with time := u } =
        { if lost then b.bump (.whole .refLosses) else b with time := u } := by
      intro u
      by_cases hl : s.time.lock = .locked <;> by_cases hlost : lost <;>
        simp only [hloses, hlost, hcoast, hl, b, decide_true, decide_false, if_true, if_false] <;> rfl
    have hb : b.time = { s.time with
        h := h1, lock := lock, absence := absence, timer := some (at_ + s.time.rate.period), boundaryKind := some .timer, boundaryTime := at_ } := by
      by_cases hl : s.time.lock = .locked <;> simp only [b, hl, if_true, if_false] <;> rfl
    by_cases hlost : lost
    · have hchange : LockState.refLost ≠ (s.absent (s.time.lock == .locked) s.losesReference).time.lock := by
        rw [htime]
        rcases hlost.1 with h | h <;> simp [h]
      have hlock : lock = .refLost := if_pos hlost
      rw [if_pos (by simpa [hloses] using hlost), State.makeBoundary_change hchange, Timeline.atBoundary_timer, hcounted, htime]
      simp only [t, hlost, if_true]
      rw [hlock] at hb
      rw [show ∀ u, u = b.time → { b.bump (.whole .refLosses) with time := u } = b.bump (.whole .refLosses) from fun u hu => hu ▸ rfl]
      · rfl
      · exact hb.symm
    · have hlock : lock = s.time.lock := if_neg hlost
      rw [if_neg (by simpa [hloses] using hlost), State.makeBoundary_same (by rw [htime]), Timeline.atBoundary_timer, hcounted, htime]
      simp only [t, hlost, if_false]
      rw [hlock] at hb
      rw [show ∀ u, u = b.time → { b with time := u } = b from fun u hu => hu ▸ rfl]
      · rfl
      · exact hb.symm

end Sys2Proof.Machine

/-! PROOFS. The channel commands (Chapter 7): what each does to its channel, and what refuses it. -/

namespace Sys2Proof.Machine

-- Each elaboration thread takes a large stack, and the text is compiled as one file under a memory limit: one thread at a time.
set_option Elab.async false

variable {s t : State} {o : Origin} {rx : ControlRx} {c : Chan} {k : ChannelCommand} {r : Result}

/-! ## From a command to its channel -/

/-- A channel command refused. -/
theorem named_refused (h : Named s o rx c) (ha : authorised o (.channel k) = true) (hrun : (s.heard rx).runChannel c o k = (t, r)) (hr : r ≠ .accepted) :
    s.catchUp.receiveControl rx (.channel k) 0 = t.answered o rx k.code r [] := by
  rw [named_channel h k ha, hrun]
  dsimp only
  rw [State.commandAnswer, if_neg hr]

/-- A channel command accepted for a channel that does not enter service by it. -/
theorem named_accepted (h : Named s o rx c) (ha : authorised o (.channel k) = true) (hrun : (s.heard rx).runChannel c o k = (t, .accepted))
    (hin : t.inService c = true → s.inService c = true) :
    s.catchUp.receiveControl rx (.channel k) 0 = t.acceptedFor o rx k.code c := by
  rw [named_channel h k ha, hrun]
  dsimp only
  have hstay : (!s.inService c && t.inService c) = false := by
    cases ht : t.inService c
    · simp
    · simp [hin ht]
  rw [hstay, State.commandAnswer, if_pos rfl, if_neg (by decide), List.append_nil]
  rfl

theorem inService_iff (s : State) (c : Chan) : s.inService c = true ↔ (s.ch c).control.state ≠ .outOfService := by
  simp [State.inService]

theorem inService_modControl_of_state (f : Control → Control) (hf : ∀ y, (f y).state = y.state) : (s.modControl c f).inService c = s.inService c := by
  simp [State.inService, hf]

theorem heard_inService_modControl (f : Control → Control) (hf : ∀ y, (f y).state = y.state) :
    ((s.heard rx).modControl c f).inService c = true → s.inService c = true := by
  rw [inService_modControl_of_state f hf, State.heard_inService]
  exact id

/-! ## UNPIN, ACK_TAKEOVER, CLEAR_RECORDS -/

/-- Settles O39. -/
theorem unpinAcknowledgeAndClearRecords : Obligations.UnpinAcknowledgeAndClearRecords := by
  unfold Obligations.UnpinAcknowledgeAndClearRecords
  intro s rx c h
  refine ⟨?_, ?_, ?_⟩
  · exact congrArg Host.Outcome.next (named_accepted (k := .clearRecords) h rfl rfl (heard_inService_modControl _ fun _ => rfl))
  · exact congrArg Host.Outcome.next (named_accepted (k := .ackTakeover) h rfl rfl (heard_inService_modControl _ fun _ => rfl))
  · split
    · next hout =>
      have hrun : (s.heard rx).runChannel c .console .unpin = (s.heard rx, .outOfService) := by
        rw [State.runChannel, State.commandUnpin, if_pos (by simp [State.inService, hout])]
      exact congrArg Host.Outcome.next (named_refused h rfl hrun (by decide))
    · next hin =>
      have hrun : (s.heard rx).runChannel c .console .unpin = ((s.heard rx).modControl c fun y => { y with pin := .none }, .accepted) := by
        rw [State.runChannel, State.commandUnpin, if_neg (by simp [State.inService, hin])]
      exact congrArg Host.Outcome.next (named_accepted h rfl hrun (heard_inService_modControl _ fun _ => rfl))

/-! ## One channel updated more than once -/

theorem State.modCh_congr {f g : Channel → Channel} (h : f (s.ch c) = g (s.ch c)) : s.modCh c f = s.modCh c g := by
  unfold State.modCh vmod
  exact congrArg (fun x => { s with chans := s.chans.set c.val x }) h

theorem State.modControl_congr {f g : Control → Control} (h : f (s.ch c).control = g (s.ch c).control) : s.modControl c f = s.modControl c g :=
  State.modCh_congr (congrArg (fun y => { s.ch c with control := y }) h)

theorem State.modOutput_congr {f g : Output → Output} (h : f (s.ch c).output = g (s.ch c).output) : s.modOutput c f = s.modOutput c g :=
  State.modCh_congr (congrArg (fun y => { s.ch c with output := y }) h)

theorem State.modControl_id {f : Control → Control} (h : f (s.ch c).control = (s.ch c).control) : s.modControl c f = s :=
  State.modCh_id s c _ (congrArg (fun y => { s.ch c with control := y }) h)

theorem State.modControl_modControl (s : State) (c : Chan) (f g : Control → Control) :
    (s.modControl c f).modControl c g = s.modControl c fun y => g (f y) := State.modCh_modCh ..

theorem State.modOutput_modControl (s : State) (c : Chan) (f : Output → Output) (g : Control → Control) :
    (s.modOutput c f).modControl c g = (s.modControl c g).modOutput c f := by
  unfold State.modOutput State.modControl
  rw [State.modCh_modCh, State.modCh_modCh]

theorem State.modCue_congr {f g : CueContext → CueContext} (h : f (s.ch c).cue = g (s.ch c).cue) : s.modCue c f = s.modCue c g :=
  State.modCh_congr (congrArg (fun y => { s.ch c with cue := y }) h)

theorem State.modCue_id {f : CueContext → CueContext} (h : f (s.ch c).cue = (s.ch c).cue) : s.modCue c f = s :=
  State.modCh_id s c _ (congrArg (fun y => { s.ch c with cue := y }) h)

theorem State.modCue_modCue (s : State) (c : Chan) (f g : CueContext → CueContext) :
    (s.modCue c f).modCue c g = s.modCue c fun y => g (f y) := State.modCh_modCh ..

theorem State.modControl_modCue (s : State) (c : Chan) (f : Control → Control) (g : CueContext → CueContext) :
    (s.modControl c f).modCue c g = (s.modCue c g).modControl c f := by
  unfold State.modCue State.modControl
  rw [State.modCh_modCh, State.modCh_modCh]

theorem State.modControl_bump (s : State) (c : Chan) (f : Control → Control) (key : CounterKey) :
    (s.modControl c f).bump key = (s.bump key).modControl c f := rfl

/-- The current record's update as one update of the channel record. -/
theorem State.modRecord_eq (s : State) (c : Chan) (f : TakeoverRecord → TakeoverRecord) :
    s.modRecord c f = s.modControl c fun y => { y with ring := y.ring.map fun r => if y.current = some r.sequence then f r else r } := by
  unfold State.modRecord
  cases h : (s.ch c).control.current with
  | none => exact (State.modControl_id (by simp only [h, reduceCtorEq, if_false, List.map_id']; rw [← h])).symm
  | some q => exact State.modControl_congr (by simp [h, eq_comm])

/-! ## TAKE -/

theorem State.commandTake_eq (ho : s.owns c o = true) :
    s.commandTake c o =
      if (s.ch c).control.state = .outOfService then (s, .outOfService)
      else if (s.ch c).control.pin = .main then (s, .pinned)
      else if (s.ch c).control.state = .main then (s.takeover c .command [] (some o), .accepted)
      else (s, .alreadyTaken) := by
  unfold State.commandTake
  by_cases hm : (s.ch c).control.state = .main <;> simp [ho, State.inService, State.chState, hm]

/-- A takeover of a channel in MAIN, its record opened and its channel record written at once (R126). -/
theorem State.takeover_main (hm : (s.ch c).control.state = .main) (cause : TakeoverCause) (asserted : List Detector) (origin : Option Origin) :
    s.takeover c cause asserted origin =
      let x := (s.ch c).control
      let record : TakeoverRecord :=
        { sequence := x.nextSequence, causes := [cause], asserted := asserted, origin := origin, decision := s.time.h
          replication := (s.ch c).schedule.state, event := none, switchPosition := none, outcome := .pending, returnPosition := none }
      let full := 8 ≤ x.ring.length
      let a := if full then s.bump (.chan c .recordsOverwritten) else s
      let b := a.modControl c fun y =>
        { y with
          current := some x.nextSequence, nextSequence := (x.nextSequence + 1) % 65536
          ring := (if full then x.ring.drop 1 else x.ring) ++ [record], overflow := x.overflow || decide full
          cause := some cause, sticky := true, returnAck := false, suspended := false, awaitingRecue := false, state := takeoverState cause }
      let d := ((b.modOutput c fun y => { y with delivered := takeoverState cause }).bump (.chan c .takeovers)).raise
        (.takeoverStarted c x.nextSequence cause asserted origin s.time.h (s.ch c).schedule.state (takeoverState cause))
      (d.modCue c fun y => { y with recordLink := true }).requestJoin c := by
  unfold State.takeover State.openRecord State.chState pushRecord State.setState
  rw [if_pos hm]
  dsimp only
  by_cases hfull : 8 ≤ (s.ch c).control.ring.length <;> simp [hfull, State.modControl_modControl, State.bumpCh]

/-- Settles O41. -/
theorem takeOpensARecordAndCues : Obligations.TakeOpensARecordAndCues := by
  unfold Obligations.TakeOpensARecordAndCues
  intro s o rx c h ho x refuse
  have hauth : authorised o (.channel .take) = true := by cases o <;> rfl
  have hrun := State.commandTake_eq (s := s.heard rx) (c := c) (o := o) (by rw [State.heard_owns]; exact ho)
  rw [State.heard_ch] at hrun
  have refused : ∀ r, (s.heard rx).commandTake c o = (s.heard rx, r) → r ≠ .accepted → exec (.take rx) s = refuse r :=
    fun r hrun hr => congrArg Host.Outcome.next (named_refused (k := .take) h hauth hrun hr)
  refine ⟨fun hout => refused _ ?_ (by decide), fun hs hp => refused _ ?_ (by decide), fun hs hp hm => refused _ ?_ (by decide), fun hm hp => ?_⟩
  · rw [hrun, if_pos hout]
  · rw [hrun, if_neg hs, if_pos hp]
  · rw [hrun, if_neg hs, if_neg hp, if_neg hm]
  · have hs : (s.ch c).control.state ≠ .outOfService := fun e => by rw [show (s.ch c).control.state = .main from hm] at e; cases e
    rw [if_neg hs, if_neg hp, if_pos hm, State.takeover_main (by rw [State.heard_ch]; exact hm)] at hrun
    simp only [State.heard_ch, State.heard_time] at hrun
    exact congrArg Host.Outcome.next (named_accepted (k := .take) h hauth hrun fun _ => (inService_iff s c).2 hs)

end Sys2Proof.Machine

/-! PROOFS. RECUE, SEIZE and RELEASE, and channel commands alone and flagged GROUP (R140, R142, R143). -/

namespace Sys2Proof.Machine

-- Each elaboration thread takes a large stack, and the text is compiled as one file under a memory limit: one thread at a time.
set_option Elab.async false

variable {s t : State} {o : Origin} {rx : ControlRx} {c : Chan} {k : ChannelCommand} {r : Result}

/-! ## RECUE -/

theorem State.commandRecue_out (h : (s.ch c).control.state = .outOfService) : s.commandRecue c = (s, .outOfService) := by
  simp [State.commandRecue, State.inService, h]

theorem State.commandRecue_pinned (h : (s.ch c).control.state ≠ .outOfService) (hp : (s.ch c).control.pin = .main) : s.commandRecue c = (s, .pinned) := by
  simp [State.commandRecue, State.inService, h, hp]

theorem State.commandRecue_cued (h : (s.ch c).control.state = .cueing ∨ (s.ch c).control.state = .fill ∨ (s.ch c).control.state = .standby)
    (hp : (s.ch c).control.pin ≠ .main) : s.commandRecue c = (s.requestJoin c, .accepted) := by
  rcases h with h | h | h <;> simp [State.commandRecue, State.inService, State.chState, h, hp]

theorem State.commandRecue_returning (h : (s.ch c).control.state = .returnGuard ∨ (s.ch c).control.state = .returning)
    (hp : (s.ch c).control.pin ≠ .main) : s.commandRecue c = (s, .inReturn) := by
  rcases h with h | h <;> simp [State.commandRecue, State.inService, State.chState, h, hp]

theorem State.commandRecue_notTaken (h : (s.ch c).control.state = .main) (hp : (s.ch c).control.pin ≠ .main) (hw : (s.ch c).control.awaitingRecue = false) :
    s.commandRecue c = (s, .notTaken) := by
  simp [State.commandRecue, State.inService, State.chState, h, hp, hw]

theorem State.commandRecue_awaited (h : (s.ch c).control.state = .main) (hp : (s.ch c).control.pin ≠ .main) (hw : (s.ch c).control.awaitingRecue = true) :
    s.commandRecue c =
      ((((s.modControl c fun y =>
        { y with
          state := .cueing, awaitingRecue := false, cause := some .command, sticky := true
          ring := y.ring.map fun r => if y.current = some r.sequence then { r with outcome := .pending } else r }).modOutput c fun y =>
            { y with delivered := .cueing }).requestJoin c), .accepted) := by
  simp [State.commandRecue, State.inService, State.chState, h, hp, hw, State.modRecord_eq, State.setState, State.modControl_modControl]

/-- Settles O44, by the state, the pin and the awaiting-recue flag. -/
theorem recueAsksForAJoin : Obligations.RecueAsksForAJoin := by
  unfold Obligations.RecueAsksForAJoin
  intro s rx c h x t refuse
  have hx : (t.ch c).control = x := congrArg Channel.control (State.heard_ch s rx c)
  have refused : ∀ r, t.commandRecue c = (t, r) → r ≠ .accepted → exec (.recue rx) s = refuse r :=
    fun r hrun hr => congrArg Host.Outcome.next (named_refused (k := .recue) h rfl hrun hr)
  have accepted : ∀ u, t.commandRecue c = (u, .accepted) → x.state ≠ .outOfService → exec (.recue rx) s = .next (u.acceptedFor .console rx 0x29 c) :=
    fun u hrun hs => congrArg Host.Outcome.next (named_accepted (k := .recue) h rfl hrun fun _ => (inService_iff s c).2 hs)
  rw [← hx] at accepted ⊢
  refine ⟨fun hs => refused _ (State.commandRecue_out hs) (by decide), fun hs hp => refused _ (State.commandRecue_pinned hs hp) (by decide), fun hp => ?_⟩
  refine ⟨fun hs => accepted _ (State.commandRecue_cued hs hp) ?_, fun hs => refused _ (State.commandRecue_returning hs hp) (by decide),
    fun hs hw => refused _ (State.commandRecue_notTaken hs hp hw) (by decide), fun hs hw => accepted _ (State.commandRecue_awaited hs hp hw) ?_⟩
  · rcases hs with hs | hs | hs <;> simp [hs]
  · simp [hs]

end Sys2Proof.Machine

/-! PROOFS. What a channel command does stays with its channel, and how a command flagged GROUP runs through its channels (R135, R140, R143). -/

namespace Sys2Proof.Machine

-- Each elaboration thread takes a large stack, and the text is compiled as one file under a memory limit: one thread at a time.
set_option Elab.async false

variable {s t : State} {o : Origin} {rx : ControlRx} {c : Chan} {k : ChannelCommand} {r : Result}

/-! ## Channel commands and the other channels -/

theorem CueLocal.commandTake (h : CueLocal c s t) (o : Origin) : CueLocal c s (t.commandTake c o).1 := by
  unfold State.commandTake
  split <;> [exact h; split <;> [exact h; split <;> [exact h; split <;> [exact h; exact h.takeover _ _ _]]]]

theorem CueLocal.commandReturn (h : CueLocal c s t) (o : Origin) : CueLocal c s (t.commandReturn c o).1 := by
  unfold State.commandReturn
  split <;> [exact h; split <;> [exact h; split <;> [exact h; split <;> [exact h; split]]]] <;> dsimp only
  · exact (h.modControl _).enterReturning _
  · exact (h.requestCancel.modControl _).enterReturning _
  · exact h.enterReturning _
  · exact h
  · exact h.abandonTakeover
  · exact h
  · exact h

theorem CueLocal.commandHold (h : CueLocal c s t) (o : Origin) : CueLocal c s (t.commandHold c o).1 := by
  unfold State.commandHold
  split <;> [exact h; split <;> [exact h; split]] <;> dsimp only
  · exact h
  · exact h
  · exact h
  · exact (h.modControl _).callOffReturn
  · exact (h.modControl _).callOffReturn
  · exact h.modControl _
  · exact h.modControl _

/-- The part after R185 and R138 have taken a new pin MAIN. -/
def State.pinnedMain (s : State) (c : Chan) : State := (s.setPin c .main).modControl c fun y => { y with awaitingRecue := false }

/-- What PIN MAIN does for a channel whose pin it has changed (R138). -/
def State.followPinMain (s : State) (c : Chan) : State :=
  match s.chState c with
  | .cueing => s.abandonTakeover c
  | .fill => ((s.requestCancel c).modControl c fun y => { y with returnOrigin := some .fill }).enterReturning c true
  | .standby => ((s.requestCancel c).modControl c fun y => { y with returnOrigin := some .standby }).enterReturning c true
  | .returnGuard => (s.requestCancel c).enterReturning c true
  | .returning =>
    let t := s.requestCancel c
    let h1 := s.wrap (s.time.h + 1 : Nat)
    let later : Bool :=
      match (t.ch c).control.returnPosition with
      | some r => 0 < t.signed r h1
      | none => false
    if later then (t.modControl c fun y => { y with returnPosition := some h1 }).tellReturn c h1 else t
  | .main | .outOfService => s

theorem State.commandPinMain_changed (hs : s.inService c = true) (hl : ¬(s.site.state = .lost ∧ (s.chState c = .fill ∨ s.chState c = .standby)))
    (hp : (s.ch c).control.pin ≠ .main) : s.commandPinMain c = ((s.pinnedMain c).followPinMain c, .accepted) := by
  unfold State.commandPinMain
  rw [if_neg (by simp [hs]), if_neg hl, if_neg hp]
  unfold State.followPinMain State.pinnedMain
  dsimp only
  generalize (s.setPin c .main).modControl c _ = u
  cases u.chState c with
  | returning =>
    dsimp only
    generalize (u.requestCancel c).ch c = y
    cases y.control.returnPosition with
    | none => rfl
    | some r => dsimp only; split <;> rfl
  | _ => rfl

theorem CueLocal.followPinMain (h : CueLocal c s t) : CueLocal c s (t.followPinMain c) := by
  unfold State.followPinMain
  split
  · exact h.abandonTakeover
  · exact (h.requestCancel.modControl _).enterReturning _
  · exact (h.requestCancel.modControl _).enterReturning _
  · exact h.requestCancel.enterReturning _
  · dsimp only
    have either : ∀ later : Bool, CueLocal c s (if later then ((t.requestCancel c).modControl c fun y =>
        { y with returnPosition := some (t.wrap (t.time.h + 1 : Nat)) }).tellReturn c (t.wrap (t.time.h + 1 : Nat)) else t.requestCancel c) := by
      intro later
      cases later <;> [exact h.requestCancel; exact (h.requestCancel.modControl _).tellReturn _]
    exact either _
  · exact h
  · exact h

theorem CueLocal.commandPinMain (h : CueLocal c s t) : CueLocal c s (t.commandPinMain c).1 := by
  by_cases hs : t.inService c = true
  · by_cases hl : t.site.state = .lost ∧ (t.chState c = .fill ∨ t.chState c = .standby)
    · unfold State.commandPinMain
      rw [if_neg (by simp [hs]), if_pos hl]
      exact h
    · by_cases hp : (t.ch c).control.pin = .main
      · unfold State.commandPinMain
        rw [if_neg (by simp [hs]), if_neg hl, if_pos hp]
        exact h
      · rw [State.commandPinMain_changed hs hl hp]
        exact ((h.setPin _).modControl _).followPinMain
  · unfold State.commandPinMain
    rw [if_pos (by simp [hs])]
    exact h

/-- What PIN STANDBY does for a channel whose pin it has changed (R139). -/
def State.followPinStandby (s : State) (c : Chan) : State :=
  match s.chState c with
  | .main => s.takeover c .command [] (some .console)
  | .returnGuard | .returning => s.callOffReturn c
  | _ => s

theorem State.commandPinStandby_changed (hs : s.inService c = true) (hp : (s.ch c).control.pin ≠ .standby) :
    s.commandPinStandby c = ((s.setPin c .standby).followPinStandby c, .accepted) := by
  unfold State.commandPinStandby
  rw [if_neg (by simp [hs]), if_neg hp]
  unfold State.followPinStandby
  dsimp only
  generalize s.setPin c .standby = u
  cases u.chState c <;> rfl

theorem CueLocal.followPinStandby (h : CueLocal c s t) : CueLocal c s (t.followPinStandby c) := by
  unfold State.followPinStandby
  split
  · exact h.takeover _ _ _
  · exact h.callOffReturn
  · exact h.callOffReturn
  · exact h

theorem CueLocal.commandPinStandby (h : CueLocal c s t) : CueLocal c s (t.commandPinStandby c).1 := by
  by_cases hs : t.inService c = true
  · by_cases hp : (t.ch c).control.pin = .standby
    · unfold State.commandPinStandby
      rw [if_neg (by simp [hs]), if_pos hp]
      exact h
    · rw [State.commandPinStandby_changed hs hp]
      exact (h.setPin _).followPinStandby
  · unfold State.commandPinStandby
    rw [if_pos (by simp [hs])]
    exact h

theorem CueLocal.commandRecue (h : CueLocal c s t) : CueLocal c s (t.commandRecue c).1 := by
  unfold State.commandRecue
  split <;> [exact h; split <;> [exact h; split]] <;> dsimp only
  · exact h.requestJoin
  · exact h.requestJoin
  · split <;> [exact (((h.modControl _).modRecord _).setState _).requestJoin; exact h]
  · exact h.requestJoin
  · exact h
  · exact h
  · exact h

/-- No operation on the slates reaches a channel. -/
theorem State.abandonCaptures_ch (s : State) (c c' : Chan) : (s.abandonCaptures c).ch c' = s.ch c' := by
  refine List.foldlRecOn (motive := fun u : State => u.ch c' = s.ch c') slateIndices _ rfl fun u hu i _ => ?_
  split
  · split
    · rw [← hu]
      unfold State.endCapture State.captureReply State.reply
      split <;> rfl
    · exact hu
  · exact hu

theorem State.leaveService_others (s : State) {c c' : Chan} (hc : c' ≠ c) : (s.leaveService c).ch c' = s.ch c' := by
  have exited : ((s.controlExit c).modCh c Channel.vacated).ch c' = s.ch c' := by
    rw [State.ch_modCh_ne _ _ _ _ hc, ((CueLocal.refl c s).controlExit).others c' hc]
  unfold State.leaveService
  rw [State.alignExit_eq, ((Elsewhere.refl c _).clearOutput.monitorExit).others c' hc, State.abandonCaptures_ch, exited]

theorem State.commandSetService_others (s : State) {c c' : Chan} (hc : c' ≠ c) (mode : Nat) : (s.commandSetService c mode).1.ch c' = s.ch c' := by
  unfold State.commandSetService
  split
  · rfl
  · split <;> dsimp only
    exact s.leaveService_others hc
  · split <;> dsimp only <;> [exact State.ch_modControl_ne _ _ _ _ hc; exact ((Elsewhere.refl c s).enterService _).others c' hc]

/-- R135: a channel command for one channel leaves every other channel. -/
theorem State.runChannel_others (s : State) {c c' : Chan} (hc : c' ≠ c) (o : Origin) (k : ChannelCommand) : (s.runChannel c o k).1.ch c' = s.ch c' := by
  have start := CueLocal.refl c s
  cases k with
  | setService mode => exact s.commandSetService_others hc mode
  | take => exact (start.commandTake o).others c' hc
  | returnToMain => exact (start.commandReturn o).others c' hc
  | hold => exact (start.commandHold o).others c' hc
  | pin code =>
    dsimp only [State.runChannel, State.commandPin]
    split <;> [exact start.commandPinMain.others c' hc; exact start.commandPinStandby.others c' hc; rfl]
  | unpin => dsimp only [State.runChannel, State.commandUnpin]; split <;> [rfl; exact (start.modControl _).others c' hc]
  | seize => exact (start.modControl _).others c' hc
  | release => dsimp only [State.runChannel, State.commandRelease]; split <;> [rfl; exact (start.modControl _).others c' hc]
  | ackTakeover => dsimp only [State.runChannel, State.commandAck]; split <;> [rfl; exact (start.modControl _).others c' hc]
  | recue => exact start.commandRecue.others c' hc
  | clearRecords => exact (start.modControl _).others c' hc

/-! ## A command flagged GROUP -/

/-- The REPLY's item for one channel of a GROUP command (R143). -/
def groupStep (o : Origin) (k : ChannelCommand) (x : State × List (List Atom)) (c : Chan) : State × List (List Atom) :=
  let t := x.1.runChannel c o k
  (t.1, x.2 ++ [t.1.groupItem c t.2])

theorem runGroup_eq (s : State) (o : Origin) (k : ChannelCommand) (l : List Chan) : s.runGroup o k l = l.foldl (groupStep o k) (s, []) := rfl

theorem runGroup_append (s : State) (o : Origin) (k : ChannelCommand) (l : List Chan) (c : Chan) :
    s.runGroup o k (l ++ [c]) = groupStep o k (s.runGroup o k l) c := by
  rw [runGroup_eq, runGroup_eq, List.foldl_append]
  rfl

theorem runGroup_length (s : State) (o : Origin) (k : ChannelCommand) (l : List Chan) : (s.runGroup o k l).2.length = l.length := by
  induction l using List.reverseRecOn with
  | nil => rfl
  | append_singleton l c ih =>
    rw [runGroup_append]
    simp [groupStep, ih]

/-- The channels of a GROUP command are taken one after another. -/
theorem runGroup_take (s : State) (o : Origin) (k : ChannelCommand) {l : List Chan} {n : Nat} {c : Chan} (h : l[n]? = some c) :
    s.runGroup o k (l.take (n + 1)) = groupStep o k (s.runGroup o k (l.take n)) c := by
  rw [List.take_add_one, h, Option.toList_some, runGroup_append]

/-- Each channel's item is that of its own turn. -/
theorem runGroup_item (s : State) (o : Origin) (k : ChannelCommand) (l : List Chan) {n : Nat} {c : Chan} (h : l[n]? = some c) :
    (s.runGroup o k l).2[n]? =
      let t := (s.runGroup o k (l.take n)).1.runChannel c o k
      some (t.1.groupItem c t.2) := by
  induction l using List.reverseRecOn with
  | nil => simp at h
  | append_singleton l a ih =>
    rw [runGroup_append]
    dsimp only [groupStep]
    rcases Nat.lt_or_ge n l.length with hn | hn
    · rw [List.getElem?_append_left (by rw [runGroup_length]; exact hn), List.take_append_of_le_length hn.le]
      exact ih (by rwa [List.getElem?_append_left hn] at h)
    · have hle : n = l.length := by
        have := (List.getElem?_eq_some_iff.1 h).1
        simp at this
        omega
      subst hle
      have hc : a = c := by simpa using h
      subst hc
      rw [List.getElem?_append_right (by rw [runGroup_length]), runGroup_length]
      simp

theorem runGroup_others (s : State) (o : Origin) (k : ChannelCommand) {l : List Chan} {c : Chan} (h : c ∉ l) : (s.runGroup o k l).1.ch c = s.ch c := by
  induction l using List.reverseRecOn with
  | nil => rfl
  | append_singleton l a ih =>
    rw [runGroup_append]
    simp only [List.mem_append, List.mem_singleton, not_or] at h
    exact (State.runChannel_others _ h.2 _ _).trans (ih h.1)

theorem runGroup_seize (s : State) (o : Origin) (l : List Chan) (c : Chan) :
    (s.runGroup o .seize l).1.ch c = if c ∈ l then { s.ch c with control := { (s.ch c).control with owner := .localSite } } else s.ch c := by
  induction l using List.reverseRecOn with
  | nil => rfl
  | append_singleton l a ih =>
    rw [runGroup_append]
    change (((s.runGroup o .seize l).1.modControl a fun y => { y with owner := .localSite }).ch c) = _
    by_cases hc : c = a
    · subst hc
      by_cases hl : c ∈ l <;> simp [ih, hl]
    · simp [ih, hc]

theorem groupChannels_eq (mask : BitVec 16) (n : Nat) :
    groupChannels mask (chanOf n) = Chan.all.filter fun c => mask.getLsbD c.val || n == c.val := by
  unfold groupChannels chanOf
  congr 1
  funext c
  split
  · next h =>
    have same : (some (⟨n, h⟩ : Chan) == some c) = (n == c.val) := by rw [Bool.eq_iff_iff]; simp [Fin.ext_iff]
    rw [same]
  · next h =>
    have : ¬n = c.val := fun e => h (e ▸ c.isLt)
    simp [this]

/-- R143: a GROUP command runs through its channels and is answered once. -/
theorem grouped_channel (h : Heard s o rx) (hg : rx.group = true) (ha : authorised o (.channel k) = true) :
    s.catchUp.receiveControl rx (.channel k) 0 =
      let x := (s.heard rx).runGroup o k (Chan.all.filter fun c => (s.ctx o).mask.getLsbD c.val || rx.channel == c.val)
      x.1.answered o rx k.code .accepted (.num 1 x.2.length :: x.2.flatten) := by
  rw [heard_passOn (r := .channel k) h trivial ha, State.passOn, State.takeChannelCommand, if_pos hg]
  dsimp only [asked]
  rw [groupChannels_eq, State.heard_ctx]
  dsimp only [listAtoms]
  rw [List.flatMap_id]
  rfl

/-! ## The obligation -/

/-- A channel command by the instruction that carries it. -/
theorem exec_channelForm {i : Instr} {code : Nat} (hk : channelForm i = some k) (hi : channelCommand i = some (rx, code)) (s : State) :
    exec i s = .next (s.catchUp.receiveControl rx (.channel k) 0) ∧ k.code = code := by
  cases i <;> simp only [channelForm, reduceCtorEq, Option.some.injEq] at hk <;> subst hk <;>
    simp only [channelCommand, ownerCommand, consoleChannelCommand, Option.some.injEq, Prod.mk.injEq] at hi <;>
    obtain ⟨rfl, rfl⟩ := hi <;> exact ⟨rfl, rfl⟩

/-- R189: what the main automation may send of the channel commands. -/
theorem authorised_ownerCommand {i : Instr} {x : ControlRx × Nat} (hk : channelForm i = some k) (ho : ownerCommand i = some x) (o : Origin) :
    authorised o (.channel k) = true := by
  cases o
  · cases i <;> simp only [ownerCommand, reduceCtorEq] at ho <;> cases hk <;> rfl
  · rfl

/-- Settles O38: SEIZE and RELEASE of one channel, SEIZE of a group, and every channel command alone and grouped. -/
theorem seizeReleaseAndGroups : Obligations.SeizeReleaseAndGroups := by
  unfold Obligations.SeizeReleaseAndGroups
  refine ⟨fun s rx c h => ⟨?_, ?_⟩, fun s rx h hg => ?_, ?_⟩
  · exact congrArg Host.Outcome.next (named_accepted (k := .seize) h rfl rfl (heard_inService_modControl _ fun _ => rfl))
  · have hrun : (s.heard rx).runChannel c .console .release = if s.site.state = .lost then (s.heard rx, .siteLost)
        else ((s.heard rx).modControl c fun y => { y with owner := .mainSite }, .accepted) := by
      rw [State.runChannel, State.commandRelease, State.heard_site]
    split
    · next hl => exact congrArg Host.Outcome.next (named_refused (k := .release) h rfl (hrun.trans (if_pos hl)) (by decide))
    · next hl =>
      exact congrArg Host.Outcome.next (named_accepted (k := .release) h rfl (hrun.trans (if_neg hl)) (heard_inService_modControl _ fun _ => rfl))
  · have hmask : (s.ctx .console).mask = s.mgmt.console.mask := rfl
    refine ⟨_, _, congrArg Host.Outcome.next (grouped_channel (k := .seize) h hg rfl), by rw [runGroup_length, hmask], fun c => ?_⟩
    rw [runGroup_seize, State.heard_ch, hmask]
    simp [Chan.mem_all]
  · intro s o i rx code k h hk hi ho shown
    have ha : authorised o (.channel k) = true := by
      rcases ho with rfl | ⟨x, hx⟩
      · rfl
      · exact authorised_ownerCommand hk hx o
    obtain ⟨hexec, hcode⟩ := exec_channelForm hk hi s
    refine ⟨fun c hg hc => ?_, fun hg => ?_⟩
    · rw [hexec, named_channel ⟨h, hg, hc⟩ k ha, hcode]
      intro t entered
      have answer : t.1.commandAnswer c t.2 (!s.inService c && t.1.inService c) =
          if t.2 ≠ .accepted then []
          else if entered then shown t.1 c ++ [.enum (modeCode (t.1.ch c).control.mode), .num 1 (t.1.delay c)]
          else shown t.1 c := by
        unfold State.commandAnswer
        by_cases hr : t.2 = .accepted
        · rw [if_pos hr, if_neg (not_not.2 hr)]
          by_cases he : entered
          · rw [if_pos he, if_pos (by simp [he.1, he.2])]
            rfl
          · rw [if_neg he, if_neg (by simpa [entered] using he), List.append_nil]
            rfl
        · rw [if_neg hr, if_pos hr]
      rw [← answer]
    · intro l
      refine ⟨fun n => ((s.heard rx).runGroup o k (l.take n)).1, ((s.heard rx).runGroup o k l).2, rfl, runGroup_length .., fun n c hn => ⟨?_, ?_⟩, ?_, fun c hc => ?_⟩
      · dsimp only
        rw [runGroup_take _ _ _ hn]
        rfl
      · rw [runGroup_item _ _ _ _ hn]
        rfl
      · rw [hexec, grouped_channel h hg ha, hcode]
        dsimp only
        rw [List.take_length, runGroup_length]
      · dsimp only
        rw [List.take_length]
        exact (runGroup_others _ o k hc).trans (State.heard_ch s rx c)

end Sys2Proof.Machine

/-! PROOFS. The refusals of requests: the wrong owner, origin or channel, and the GROUP flag where it may not be (R135, R143, R189, R190, R196). -/

namespace Sys2Proof.Machine

-- Each elaboration thread takes a large stack, and the text is compiled as one file under a memory limit: one thread at a time.
set_option Elab.async false

variable {s t : State} {o : Origin} {rx : ControlRx} {c : Chan} {i : Instr} {code : Nat}

/-! ## The request that an instruction carries -/

/-- An instruction that carries an answerable request, with its control code. -/
structure Carries (i : Instr) (rx : ControlRx) (r : Request) (code time : Nat) : Prop where
  exec : ∀ s, exec i s = .next (s.catchUp.receiveControl rx r time)
  answerable : Answerable r
  code : r.code = code

/-- R189: a console command is refused to the main automation. -/
theorem carries_consoleCommand (h : consoleCommand i = some (rx, code)) :
    ∃ r time, Carries i rx r code time ∧ authorised .mainSite r = false ∧ ∀ values, r ≠ .write values := by
  cases i <;> simp only [consoleCommand, consoleChannelCommand, reduceCtorEq, Option.some.injEq, Prod.mk.injEq] at h <;> obtain ⟨rfl, rfl⟩ := h <;>
    exact ⟨_, _, ⟨fun _ => rfl, trivial, rfl⟩, rfl, nofun⟩

/-- A command that needs the owner. -/
theorem carries_ownerCommand (h : ownerCommand i = some (rx, code)) :
    ∃ k, Carries i rx (.channel k) code 0 ∧ (∀ o, authorised o (.channel k) = true) ∧
      ∀ (s : State) (c : Chan) (o : Origin), s.owns c o = false → (o = .mainSite ∨ code ≠ 0x28) → s.runChannel c o k = (s, .notOwner) := by
  cases i <;> simp only [ownerCommand, reduceCtorEq, Option.some.injEq, Prod.mk.injEq] at h <;> obtain ⟨rfl, rfl⟩ := h
  case take | returnToMain | hold =>
    refine ⟨_, ⟨fun _ => rfl, trivial, rfl⟩, fun o => by cases o <;> rfl, fun s c o ho _ => ?_⟩
    simp [State.runChannel, State.commandTake, State.commandReturn, State.commandHold, ho]
  case ackTakeover =>
    refine ⟨_, ⟨fun _ => rfl, trivial, rfl⟩, fun o => by cases o <;> rfl, fun s c o ho ho' => ?_⟩
    have : o = .mainSite := ho'.resolve_right (by decide)
    subst this
    simp [State.runChannel, State.commandAck, ho]

/-- A channel command that only the console may send. -/
theorem carries_consoleChannelCommand (h : consoleChannelCommand i = some (rx, code)) :
    ∃ r, Carries i rx r code 0 ∧ ((∃ k, r = .channel k) ∨ (∃ v, r = .retime v) ∨ ∃ slate path, r = .captureSlate slate path) := by
  cases i <;> simp only [consoleChannelCommand, reduceCtorEq, Option.some.injEq, Prod.mk.injEq] at h <;> obtain ⟨rfl, rfl⟩ := h <;>
    exact ⟨_, ⟨fun _ => rfl, trivial, rfl⟩, by simp⟩

/-- A request of the whole unit is its operation behind the check of R190. -/
theorem carries_unitRequestOf (h : unitRequestOf i = some (rx, code)) :
    ∃ r, Carries i rx r code 0 ∧ ((∃ channels, i = .select rx channels) → authorised .mainSite r = true) ∧
      ∀ u a g time, ∃ f, u.passOn a g time r = unitRequest u a g f := by
  cases i <;> simp only [unitRequestOf, reduceCtorEq, Option.some.injEq, Prod.mk.injEq] at h <;> obtain ⟨rfl, rfl⟩ := h
  case select => exact ⟨_, ⟨fun _ => rfl, trivial, rfl⟩, fun _ => rfl, fun _ _ _ _ => ⟨_, rfl⟩⟩
  all_goals exact ⟨_, ⟨fun _ => rfl, trivial, rfl⟩, by simp, fun _ _ _ _ => ⟨_, rfl⟩⟩

/-- A window request is its operation behind the checks of R190 and R196. -/
theorem carries_windowRequestOf (h : windowRequestOf i = some (rx, code)) :
    ∃ r time, Carries i rx r code time ∧ (code ≠ 0x43 → authorised .mainSite r = true) ∧
      ∀ u a g time, ∃ f, u.passOn a g time r = windowRequest u a g (decide (code ≠ 0x44)) f := by
  cases i <;> simp only [windowRequestOf, reduceCtorEq, Option.some.injEq, Prod.mk.injEq] at h <;> obtain ⟨rfl, rfl⟩ := h
  case write => exact ⟨_, _, ⟨fun _ => rfl, trivial, rfl⟩, by simp, fun _ _ _ _ => ⟨_, rfl⟩⟩
  all_goals exact ⟨_, _, ⟨fun _ => rfl, trivial, rfl⟩, fun _ => rfl, fun _ _ _ _ => ⟨_, rfl⟩⟩

/-! ## The refusals -/

theorem owns_false (h : (o = .mainSite ∧ (s.ch c).control.owner = .localSite) ∨ (o = .console ∧ (s.ch c).control.owner = .mainSite)) : s.owns c o = false := by
  rcases h with ⟨rfl, h⟩ | ⟨rfl, h⟩ <;> simp [State.owns, h]

/-- A channel command, RETIME and CAPTURE_SLATE for channel 255. -/
theorem passOn_noChannel (u : State) (time : Nat) {r : Request} (hc : rx.channel = 255) (hg : rx.group = false)
    (hr : (∃ k, r = .channel k) ∨ (∃ v, r = .retime v) ∨ ∃ slate path, r = .captureSlate slate path) :
    u.passOn (asked o rx r) rx.group time r = u.answered o rx r.code .badValue [] := by
  have hnone : chanOf rx.channel = none := by rw [hc]; rfl
  rw [hg]
  obtain ⟨k, rfl⟩ | ⟨v, rfl⟩ | ⟨slate, path, rfl⟩ := hr
  · simp [State.passOn, State.takeChannelCommand, asked, hnone]
    rfl
  · simp [State.passOn, State.takeRetime, asked, hnone]
    rfl
  · simp [State.passOn, State.takeCapture, State.commandCapture, asked, hnone]
    rfl

/-- R195: the sticky error of a refused window request, unless one is held; it carries the window's offset (log 33). -/
def Context.stuck (y : Context) (result : Result) (request : Nat) : Context :=
  if y.sticky.isSome then y else { y with sticky := some { code := result, request := request, offset := y.window.offset } }

theorem State.setSticky_offset (u : State) (o : Origin) (result : Result) (request : Nat) :
    u.setSticky o result request (u.ctx o).window.offset = u.modCtx o fun y => y.stuck result request := by
  cases o
  · simp only [State.setSticky, State.modCtx, State.ctx, Context.stuck]
    cases u.mgmt.mainSite.sticky <;> simp
  · simp only [State.setSticky, State.modCtx, State.ctx, Context.stuck]
    cases u.mgmt.console.sticky <;> simp

theorem windowRequest_free (h : (s.ctx o).walk = none) (hg : rx.group = true) (sets : Bool) (f : State) (r : Request) :
    windowRequest s (asked o rx r) rx.group sets f =
      (if sets then s.modCtx o fun y => y.stuck .badValue rx.request else s).answered o rx r.code .badValue [] := by
  unfold windowRequest
  dsimp only [asked]
  rw [h, hg]
  dsimp only
  rw [if_pos rfl]
  cases sets
  · rfl
  · dsimp only [State.refuseSticky]
    rw [State.setSticky_offset]
    rfl

theorem windowRequest_busy {w : Walk} (h : (s.ctx o).walk = some w) (g sets : Bool) (f : State) (r : Request) :
    windowRequest s (asked o rx r) g sets f =
      ((((s.modCtx o fun y => y.stuck .busy rx.request).answered o rx r.code .busy []).modCtx o fun y => { y with walk := none }).reply o w.port
        { request := w.request, kind := 0x42, channel := w.channel, result := .busy, clamped := false, contents := [] }) := by
  unfold windowRequest
  dsimp only [asked]
  rw [h]
  dsimp only [State.refuseBusy, State.refuseSticky]
  rw [State.setSticky_offset]
  rfl

/-- Settles O40: the owner, the origin, channel 255 from either origin, requests of the whole unit, RETIME and CAPTURE_SLATE, and window requests. -/
theorem commandsThatAreRefused : Obligations.CommandsThatAreRefused := by
  unfold Obligations.CommandsThatAreRefused
  refine ⟨fun s o i rx code c h hi ho => ?_, fun s i rx code h hi => ?_, fun s i rx code h hi => ?_, fun s i rx code h hi => ?_,
    fun s o i rx code h hi ho hbad => ?_, fun s rx h hg => ⟨fun value => ?_, fun slate path => ?_⟩, ?_⟩
  · obtain ⟨k, hk, ha, hrun⟩ := carries_ownerCommand hi
    have howns : (s.heard rx).owns c o = false := by
      rw [State.heard_owns]
      exact owns_false (ho.imp id fun h => ⟨h.1, h.2.1⟩)
    rw [hk.exec, ← hk.code]
    exact congrArg Host.Outcome.next
      (named_refused h (ha o) (hrun _ _ _ howns (ho.imp And.left fun h => h.2.2)) (by decide))
  · obtain ⟨r, time, hr, ha, hw⟩ := carries_consoleCommand hi
    rw [hr.exec, heard_refused h hr.answerable ha, ← hr.code]
    cases r with
    | write values => exact absurd rfl (hw values)
    | _ => rfl
  · unfold channelCommand at hi
    cases hown : ownerCommand i with
    | none =>
      rw [hown] at hi
      obtain ⟨r, hr, hkind⟩ := carries_consoleChannelCommand hi
      rw [hr.exec, heard_passOn h.1 hr.answerable rfl, passOn_noChannel _ _ h.2.2 h.2.1 hkind, hr.code]
    | some x =>
      rw [hown] at hi
      cases hi
      obtain ⟨k, hk, ha, -⟩ := carries_ownerCommand hown
      rw [hk.exec, heard_passOn h.1 hk.answerable rfl, passOn_noChannel _ _ h.2.2 h.2.1 (.inl ⟨k, rfl⟩), hk.code]
  · obtain ⟨k, hk, ha, -⟩ := carries_ownerCommand hi
    rw [hk.exec, heard_passOn h.1 hk.answerable (ha _), passOn_noChannel _ _ h.2.2 h.2.1 (.inl ⟨k, rfl⟩), hk.code]
  · obtain ⟨r, hr, ha, hpass⟩ := carries_unitRequestOf hi
    have hauth : authorised o r = true := by
      rcases ho with rfl | hsel
      · rfl
      · cases o <;> [exact ha hsel; rfl]
    obtain ⟨f, hf⟩ := hpass (s.heard rx) (asked o rx r) rx.group 0
    rw [hr.exec, heard_passOn h hr.answerable hauth, hf, ← hr.code]
    refine congrArg Host.Outcome.next (if_neg fun hok => ?_)
    rcases hbad with hbad | hbad
    · exact hbad hok.1
    · rw [hok.2] at hbad
      cases hbad
  · change Host.Outcome.next (s.catchUp.receiveControl rx (.retime value) 0) = _
    rw [heard_passOn (r := .retime value) h trivial rfl, hg]
    rfl
  · change Host.Outcome.next (s.catchUp.receiveControl rx (.captureSlate slate path) 0) = _
    rw [heard_passOn (r := .captureSlate slate path) h trivial rfl, hg]
    rfl
  · intro s o i rx code h hi hg ho x stick
    obtain ⟨r, time, hr, ha, hpass⟩ := carries_windowRequestOf hi
    have hauth : authorised o r = true := by
      rcases ho with rfl | hcode
      · rfl
      · cases o <;> [exact ha hcode; rfl]
    obtain ⟨f, hf⟩ := hpass (s.heard rx) (asked o rx r) rx.group time
    rw [hr.exec, heard_passOn h hr.answerable hauth, hf, ← hr.code]
    refine ⟨fun hw => ?_, fun w hw => ?_⟩
    · rw [windowRequest_free (by rw [State.heard_ctx]; exact hw) hg]
      by_cases hc : r.code = 0x44
      · rw [hc]
        rfl
      · rw [if_pos (by simpa using hc), if_neg hc]
        rfl
    · rw [windowRequest_busy (by rw [State.heard_ctx]; exact hw)]
      rfl

end Sys2Proof.Machine

/-! PROOFS. Joins: the event at S and the event to cue (R152, R153), and what a request for a join leaves (R154, R155). -/

namespace Sys2Proof.Machine

-- Each elaboration thread takes a large stack, and the text is compiled as one file under a memory limit: one thread at a time.
set_option Elab.async false

variable {s t : State} {c : Chan}

/-! ## Table 8-2 -/

/-- Whether an event covers a position, a plain number. -/
def Event.covers (e : Event) (p : Int) : Bool := (e.start : Int) ≤ p && p < e.finish

theorem Event.covers_iff (e : Event) (p : Int) : e.covers p = true ↔ (e.start : Int) ≤ p ∧ p < (e.finish : Int) := by
  simp [Event.covers]

/-- Of a list in order the event that covers a position is the only one. -/
theorem Ordered.find_covers {l : List Event} (h : Ordered l) {e : Event} (he : e ∈ l) {p : Int} (hp : e.covers p = true) :
    (l.find? fun e => e.covers p) = some e := by
  cases hfind : l.find? fun e => e.covers p with
  | none => exact absurd hp (List.find?_eq_none.1 hfind e he)
  | some x =>
    have hxp : x.covers p = true := List.find?_some (p := fun e : Event => e.covers p) hfind
    have hx := List.mem_of_find?_eq_some hfind
    by_cases hid : x.id = e.id
    · rw [h.eq_of_id hx he hid]
    · obtain ⟨h1, h2⟩ := (e.covers_iff p).1 hp
      obtain ⟨h3, h4⟩ := (x.covers_iff p).1 hxp
      rcases h.apart hx he hid with hap | hap <;> omega

theorem chooseJoin_none {l : List Event} {h lead d margin : Nat} (hn : (l.find? fun e => e.covers (((h + lead : Nat) : Int) - d)) = none) :
    chooseJoin l h lead d margin =
      { found := none, cued := (l.find? fun e => ((h + lead : Nat) : Int) - d < e.start).map fun e => (e, 0, e.start + d) } := by
  unfold Event.covers at hn
  unfold chooseJoin
  simp only [hn]

theorem chooseJoin_some {l : List Event} {h lead d margin : Nat} {e : Event} (hn : (l.find? fun e => e.covers (((h + lead : Nat) : Int) - d)) = some e) :
    let at_ : Int := ((h + lead : Nat) : Int) - d
    let o := (at_ - e.start).toNat
    let next := (l.find? fun e => at_ < (e.start : Int)).map fun e => (e, 0, e.start + d)
    chooseJoin l h lead d margin =
      { found := some (e, o)
        cued :=
          match e.material with
          | .clip _ _ => if margin ≤ e.duration - o then some (e, o, h + lead) else next
          | .fixed _ _ => if o = 0 then some (e, 0, h + lead) else next
          | .live _ => some (e, o, h + lead) } := by
  unfold Event.covers at hn
  unfold chooseJoin
  simp only [hn] <;> rfl

/-- Settles O46, by whether an event covers S. -/
theorem joinsFollowTheTable : Obligations.JoinsFollowTheTable := by
  unfold Obligations.JoinsFollowTheTable
  intro l h lead d margin hl at_ j next
  have hat : at_ = ((h + lead : Nat) : Int) - d := by simp [at_]
  refine ⟨fun e he h1 h2 => ?_, fun hnone => ?_⟩
  · intro o
    have hj : j = _ := chooseJoin_some (margin := margin) (hl.find_covers he (p := ((h + lead : Nat) : Int) - d) ((e.covers_iff _).2 (hat ▸ ⟨h1, h2⟩)))
    rw [← hat] at hj
    have hfin : (e.finish : Int) = e.start + e.duration := by simp [Event.finish]
    rw [hj]
    refine ⟨rfl, by omega, ?_⟩
    cases e.material <;> rfl
  · have hfind : (l.find? fun e => e.covers (((h + lead : Nat) : Int) - d)) = none :=
      List.find?_eq_none.2 fun e he hc => hnone e he (hat ▸ (e.covers_iff _).1 hc)
    have hj : j = _ := chooseJoin_none (margin := margin) hfind
    rw [hj, ← hat]

/-! ## The record link (R154) -/

/-- What R154 writes into the current record. -/
def JoinChoice.linked (j : JoinChoice) (r : TakeoverRecord) : TakeoverRecord :=
  match j.found, j.cued with
  | some (e, o), some _ => { r with event := some (e.id, o) }
  | _, _ => r

/-- The record link taken up: the current record written, and the link cleared (R154). -/
def State.takeLink (s : State) (c : Chan) (j : JoinChoice) : State :=
  (s.modControl c fun y => { y with ring := y.ring.map fun r => if y.current = some r.sequence then j.linked r else r }).modCue c fun y =>
    { y with recordLink := false }

theorem State.writeLink_set (h : (s.ch c).cue.recordLink = true) (j : JoinChoice) : s.writeLink c j = s.takeLink c j := by
  have unwritten : (s.modControl c fun y => { y with ring := y.ring.map fun r => if y.current = some r.sequence then r else r }) = s :=
    State.modControl_id (by simp)
  unfold State.writeLink State.takeLink JoinChoice.linked
  rw [if_pos h]
  obtain ⟨found, cued⟩ := j
  cases found with
  | none => dsimp only; rw [unwritten]
  | some x => cases cued <;> dsimp only <;> [rw [unwritten]; rw [State.modRecord_eq]]

theorem State.writeLink_clear (h : (s.ch c).cue.recordLink = false) (j : JoinChoice) : s.writeLink c j = s := by
  unfold State.writeLink
  rw [if_neg (by simp [h])]

theorem takeLink_recordLink (s : State) (c : Chan) (j : JoinChoice) : ((s.takeLink c j).ch c).cue.recordLink = false := by
  simp [State.takeLink]

theorem takeLink_cue (s : State) (c : Chan) (j : JoinChoice) : ((s.takeLink c j).ch c).cue = { (s.ch c).cue with recordLink := false } := by
  simp [State.takeLink]

theorem takeLink_chooseJoin (s : State) (c : Chan) (j : JoinChoice) : (s.takeLink c j).chooseJoin c = s.chooseJoin c := by
  simp [State.takeLink, State.chooseJoin, State.live, State.delay]

/-- A join takes up the record link first, and goes on with it clear. -/
theorem runJoin_link (h : (s.ch c).cue.recordLink = true) (fuel used limit : Nat) :
    State.runJoin (fuel + 1) s c used limit = State.runJoin (fuel + 1) (s.takeLink c (s.chooseJoin c)) c used limit := by
  conv_lhs => unfold State.runJoin
  conv_rhs => unfold State.runJoin
  dsimp only
  rw [State.writeLink_set h, takeLink_chooseJoin, State.writeLink_clear (takeLink_recordLink ..)]

theorem cancelCue_takeLink (s : State) (c : Chan) (j : JoinChoice) (x : Cue) : (s.takeLink c j).cancelCue c x = (s.cancelCue c x).takeLink c j := by
  have hreach : ∀ n, (s.takeLink c j).reach n = s.reach n := fun n => rfl
  unfold State.cancelCue State.sendCancel
  cases x.status <;> cases x.number <;> dsimp only
  all_goals
    rw [hreach]
    cases s.reach x.server <;> rfl

theorem cancelPending_takeLink (s : State) (c : Chan) (j : JoinChoice) : (s.takeLink c j).cancelPending c = (s.cancelPending c).takeLink c j := by
  unfold State.cancelPending
  rw [takeLink_cue]
  dsimp only
  cases (s.ch c).cue.pendingCue with
  | none => rfl
  | some x =>
    dsimp only
    rw [cancelCue_takeLink]
    unfold State.takeLink
    rw [← State.modControl_modCue, State.modCue_modCue, State.modCue_modCue]

theorem clearWait_takeLink (s : State) (c : Chan) (j : JoinChoice) : (s.takeLink c j).clearWait c = (s.clearWait c).takeLink c j := by
  unfold State.clearWait State.takeLink
  rw [← State.modControl_modCue, State.modCue_modCue, State.modCue_modCue]

/-- R154: a join with fresh attempts takes up the record link first. -/
theorem requestJoin_link (h : (s.ch c).cue.recordLink = true) : s.requestJoin c = (s.takeLink c (s.chooseJoin c)).requestJoin c := by
  have hcue := CueOnly.requestCancel (CueOnly.refl c s)
  have hlink : ((s.requestCancel c).ch c).cue.recordLink = true := by rw [State.requestCancel_cue]; exact h
  have hchoose : (s.requestCancel c).chooseJoin c = s.chooseJoin c := by
    unfold State.chooseJoin State.live State.delay
    rw [hcue.settings, hcue.schedule, hcue.align, hcue.time]
  have hlimit : ((s.takeLink c (s.chooseJoin c)).ch c).settings = (s.ch c).settings := by simp [State.takeLink]
  unfold State.requestJoin State.join
  rw [cancelPending_takeLink, clearWait_takeLink, hlimit, ← hchoose]
  exact runJoin_link hlink _ _ _

/-! ## One attempt of a join (R155) -/

theorem runJoin_none (hlink : (s.ch c).cue.recordLink = false) (hj : (s.chooseJoin c).cued = none) (fuel used limit : Nat) :
    State.runJoin (fuel + 1) s c used limit = (s.modCue c fun y => { y with wait := some (used, limit) }).noSchedule c := by
  unfold State.runJoin
  dsimp only
  rw [State.writeLink_clear hlink, hj]

theorem runJoin_sent (hlink : (s.ch c).cue.recordLink = false) {e : Event} {o x : Nat} (hj : (s.chooseJoin c).cued = some (e, o, x)) {p : Port}
    (hp : s.reach (s.ch c).settings.server = some p) (fuel used limit : Nat) :
    State.runJoin (fuel + 1) s c used limit = s.sendCue c p .join e o x used limit := by
  unfold State.runJoin
  dsimp only
  rw [State.writeLink_clear hlink, hj]
  dsimp only
  rw [hp]

theorem runJoin_unreached (hlink : (s.ch c).cue.recordLink = false) {x : Event × Nat × Nat} (hj : (s.chooseJoin c).cued = some x)
    (hp : s.reach (s.ch c).settings.server = none) (fuel used limit : Nat) :
    State.runJoin (fuel + 1) s c used limit =
      if used + 1 < limit then State.runJoin fuel (s.bumpCh c .noServerFailures) c (used + 1) limit else (s.bumpCh c .noServerFailures).exhausted c := by
  obtain ⟨e, o, y⟩ := x
  conv_lhs => unfold State.runJoin
  dsimp only
  rw [State.writeLink_clear hlink, hj]
  dsimp only
  rw [hp]

/-- Two saturating sums are one. -/
theorem satAdd_satAdd (n a b : Nat) : satAdd (satAdd n a) b = satAdd n (a + b) := by
  unfold satAdd
  generalize counterMax = m
  omega

/-- With the server out of reach every attempt left fails at once, and the attempts are exhausted (R155, R158). -/
theorem runJoin_exhausts (fuel used limit : Nat) (hfuel : limit ≤ used + fuel) (hused : used < limit) :
    ∀ s : State, (s.ch c).cue.recordLink = false → (∃ x, (s.chooseJoin c).cued = some x) → s.reach (s.ch c).settings.server = none →
      ∃ n, State.runJoin fuel s c used limit = State.exhausted { s with counters := n } c ∧
        n.get (.chan c .noServerFailures) = satAdd (s.counter (.chan c .noServerFailures)) (limit - used) := by
  induction fuel generalizing used with
  | zero => omega
  | succ fuel ih =>
    intro s hlink hj hp
    obtain ⟨x, hx⟩ := hj
    have hbump : (s.bumpCh c .noServerFailures).counter (.chan c .noServerFailures) = satAdd (s.counter (.chan c .noServerFailures)) 1 := by
      rw [State.counter_bumpCh, if_pos rfl]
    rw [runJoin_unreached hlink hx hp]
    split
    · next hmore =>
      obtain ⟨n, hn, hc⟩ := ih (used + 1) (by omega) hmore (s.bumpCh c .noServerFailures) hlink ⟨x, hx⟩ hp
      refine ⟨n, hn, ?_⟩
      rw [hc, hbump, satAdd_satAdd, show 1 + (limit - (used + 1)) = limit - used by omega]
    · next hlast =>
      refine ⟨s.counters.add (.chan c .noServerFailures) 1, rfl, ?_⟩
      rw [show limit - used = 1 by omega]
      exact hbump

/-! ## What the outcomes of a join leave -/

theorem modRecord_counter (s : State) (c : Chan) (f : TakeoverRecord → TakeoverRecord) (key : CounterKey) :
    (s.modRecord c f).counter key = s.counter key := by
  rw [State.modRecord_eq]
  rfl

theorem cueFailed_counter (s : State) (c : Chan) : (s.cueFailed c).counter (.chan c .noServerFailures) = s.counter (.chan c .noServerFailures) := by
  unfold State.cueFailed
  rw [State.counter_raise _ _ _ (by simp), State.counter_bumpCh, if_neg (by simp)]

theorem stopPlaying_counter (s : State) (c : Chan) :
    (s.stopPlaying c).counter (.chan c .noServerFailures) = s.counter (.chan c .noServerFailures) := by
  unfold State.stopPlaying State.sendStop
  split
  · rfl
  · dsimp only
    split
    · split
      · exact (State.counter_bumpCh ..).trans (if_neg (by simp))
      · exact (State.counter_bumpCh ..).trans (if_neg (by simp))
    · rfl

theorem exhausted_counter (s : State) (c : Chan) : (s.exhausted c).counter (.chan c .noServerFailures) = s.counter (.chan c .noServerFailures) := by
  unfold State.exhausted
  split
  · rw [cueFailed_counter, State.counter_modControl, State.counter_setState, modRecord_counter]
  · rw [cueFailed_counter, modRecord_counter]
  · rw [cueFailed_counter, stopPlaying_counter, State.counter_setState]
  · rw [cueFailed_counter, State.counter_modControl]
  · rw [cueFailed_counter, State.counter_modControl]
  · rfl

theorem cueFailed_ch (s : State) (c c' : Chan) : (s.cueFailed c).ch c' = s.ch c' := by
  simp [State.cueFailed]

theorem exhausted_cue (s : State) (c : Chan) :
    ((s.exhausted c).ch c).cue = { (s.ch c).cue with playing := if s.chState c = .standby then none else (s.ch c).cue.playing } := by
  unfold State.exhausted
  cases h : s.chState c <;> simp [cueFailed_ch, State.modRecord_eq, State.setState, State.stopPlaying_cue]

theorem noSchedule_cue (s : State) (c : Chan) :
    ((s.noSchedule c).ch c).cue = { (s.ch c).cue with playing := if s.chState c = .standby then none else (s.ch c).cue.playing } := by
  unfold State.noSchedule
  cases h : s.chState c <;> simp [State.modRecord_eq, State.setState, State.stopPlaying_cue]

theorem exhausted_fill (h : s.chState c = .fill) : ((s.exhausted c).ch c).control.state = .fill := by
  simp [State.exhausted, h, cueFailed_ch, State.modRecord_eq]
  exact h

theorem exhausted_cueing (h : s.chState c = .cueing) :
    ((s.exhausted c).ch c).control.state = .main ∧ ((s.exhausted c).ch c).control.awaitingRecue = true ∧ ((s.exhausted c).ch c).control.cause = none := by
  simp [State.exhausted, h, cueFailed_ch, State.modRecord_eq, State.setState]

theorem noSchedule_state (h : s.chState c = .cueing ∨ s.chState c = .fill ∨ s.chState c = .standby) : ((s.noSchedule c).ch c).control.state = .fill := by
  have hv : (s.cv c).noSchedule.state = .fill := by
    unfold CueView.noSchedule
    rw [State.cv_state]
    rcases h with h | h | h <;> rw [h]
    exact h
  rw [← hv, ← State.cv_noSchedule]
  rfl

/-! ## A request for a join -/

theorem cancelPending_of_none (h : (s.ch c).cue.pendingCue = none) : s.cancelPending c = s := by
  unfold State.cancelPending
  rw [h]

/-- Settles O47: the record link, and the three outcomes of a join with fresh attempts. -/
theorem joinRequests : Obligations.JoinRequests := by
  unfold Obligations.JoinRequests
  refine ⟨fun s c h => requestJoin_link h, fun s c hone hlink => ?_⟩
  intro limit j entry up n
  refine ⟨fun x hx => ⟨?_, ?_, (CueLocal.refl c s).cancelPending⟩, fun hnone => ?_⟩
  · have hcue : ((s.cancelPending c).ch c).cue.pendingCue = none := by rw [State.cancelPending_cue]
    unfold State.requestJoin
    rw [cancelPending_of_none hcue, ((CueOnly.refl c s).cancelPending).settings]
  · rw [State.cancelPending_cue]
  · have hstart : s.requestJoin c = State.runJoin (limit + 1) (s.clearWait c) c 0 limit := by
      unfold State.requestJoin
      rw [cancelPending_of_none hnone]
      rfl
    have hcleared : ((s.clearWait c).ch c) = { s.ch c with cue := { (s.ch c).cue with wait := none } } := by simp [State.clearWait]
    have hlink' : ((s.clearWait c).ch c).cue.recordLink = false := by rw [hcleared]; exact hlink
    have hj : (s.clearWait c).chooseJoin c = j := by
      unfold State.chooseJoin State.live State.delay
      rw [hcleared]
      rfl
    have hserver : ((s.clearWait c).ch c).settings = (s.ch c).settings := by rw [hcleared]
    have hreach : (s.clearWait c).reach ((s.clearWait c).ch c).settings.server = if up then some (.standby entry.port) else none := by
      rw [hserver]
      change (if (entry.mapped && s.linkUp (.standby entry.port)) = true then some (Port.standby entry.port) else none) = _
      simp [up]
    refine ⟨fun e o x hx hup => ?_, fun hx => ?_, fun e o x hx hup => ?_⟩
    · rw [hstart, runJoin_sent hlink' (hj ▸ hx) (hreach.trans (if_pos hup))]
      have hmake : (s.clearWait c).makeCue c .join e o x 0 limit (some n) .sent = s.makeCue c .join e o x 0 limit (some n) .sent := by
        unfold State.makeCue
        rw [hserver]
        rfl
      have hnext : ((s.clearWait c).ch c).cue.nextNumber = n := by rw [hcleared]
      unfold State.sendCue
      dsimp only
      rw [hnext, hmake]
      unfold State.clearWait
      rw [State.modCue_modCue]
      rfl
    · have hstate : ((s.clearWait c).modCue c fun y => { y with wait := some (0, limit) }).chState c = (s.ch c).control.state := by
        unfold State.chState
        rw [State.ch_modCue_same, hcleared]
      have hcue : (((s.clearWait c).modCue c fun y => { y with wait := some (0, limit) }).ch c).cue = { (s.ch c).cue with wait := some (0, limit) } := by
        rw [State.ch_modCue_same, hcleared]
      rw [hstart, runJoin_none hlink' (hj ▸ hx), noSchedule_cue, hstate, hcue]
      refine ⟨fun hs => ⟨?_, noSchedule_state (hstate ▸ hs.imp id .inl)⟩, fun hs => ⟨?_, noSchedule_state (hstate ▸ .inr (.inr hs))⟩⟩
      · rw [if_neg (by rcases hs with hs | hs <;> simp [hs])]
      · rw [if_pos hs]
    · obtain ⟨m, hm, hcount⟩ := runJoin_exhausts (limit + 1) 0 limit (by omega) hone (s.clearWait c) hlink' ⟨_, hj ▸ hx⟩ (hreach.trans (if_neg hup))
      have hch : State.ch { s.clearWait c with counters := m } c = { s.ch c with cue := { (s.ch c).cue with wait := none } } := hcleared
      have hstate : State.chState { s.clearWait c with counters := m } c = (s.ch c).control.state := by
        unfold State.chState
        rw [hch]
      rw [hstart, hm, exhausted_counter, exhausted_cue, hch]
      exact ⟨hcount, hnone, rfl, fun hs => exhausted_fill (hstate.trans hs), fun hs => exhausted_cueing (hstate.trans hs)⟩

end Sys2Proof.Machine

/-! PROOFS. RETURN and HOLD (R136, R137): entering RETURNING, a takeover abandoned, and a return called off. -/

namespace Sys2Proof.Machine

-- Each elaboration thread takes a large stack, and the text is compiled as one file under a memory limit: one thread at a time.
set_option Elab.async false

variable {s t : State} {o : Origin} {rx : ControlRx} {c : Chan}

/-! ## Updates that commute -/

theorem State.offer_modControl (s : State) (c : Chan) (f : Control → Control) (o : Origin) (r : Report) :
    (s.modControl c f).offer o r = (s.offer o r).modControl c f := by
  have hctx : (s.modControl c f).ctx o = s.ctx o := by cases o <;> rfl
  unfold State.offer
  rw [hctx]
  dsimp only
  by_cases h0 : (s.ctx o).levels[(reportKind r).val] = 0
  · rw [if_pos h0, if_pos h0]
  · rw [if_neg h0, if_neg h0]
    by_cases h1 : (s.ctx o).queue.length < admissionLimit (s.ctx o).levels[(reportKind r).val]
    · rw [if_pos h1, if_pos h1]
      cases o <;> rfl
    · rw [if_neg h1, if_neg h1]
      cases o <;> rfl

theorem State.raise_modControl (s : State) (c : Chan) (f : Control → Control) (r : Report) :
    (s.modControl c f).raise r = (s.raise r).modControl c f := by
  unfold State.raise
  rw [State.offer_modControl, State.offer_modControl]

/-! ## The current record -/

theorem State.currentRecord_eq (s : State) (c : Chan) :
    s.currentRecord c = (s.ch c).control.ring.find? fun r => decide ((s.ch c).control.current = some r.sequence) := by
  unfold State.currentRecord
  cases (s.ch c).control.current with
  | none => exact (List.find?_eq_none.2 (by simp)).symm
  | some q =>
    refine congrArg (fun p => List.find? p (s.ch c).control.ring) (funext fun r => ?_)
    rw [Bool.eq_iff_iff, beq_iff_eq, decide_eq_true_eq, Option.some.injEq]
    exact eq_comm

theorem find?_mapIf (l : List TakeoverRecord) (q : Option Nat) (f : TakeoverRecord → TakeoverRecord) (hf : ∀ r, (f r).sequence = r.sequence) :
    ((l.map fun r => if q = some r.sequence then f r else r).find? fun r => decide (q = some r.sequence)) =
      (l.find? fun r => decide (q = some r.sequence)).map f := by
  induction l with
  | nil => rfl
  | cons r l ih =>
    by_cases h : q = some r.sequence
    · simp [h, hf]
    · simp [h]
      simpa using ih

/-! ## A takeover abandoned (R136, R138) -/

theorem abandonTakeover_eq (s : State) (c : Chan) :
    s.abandonTakeover c =
      let x := (s.ch c).control
      let record := x.ring.find? fun r => x.current = some r.sequence
      let back := ((s.requestCancel c).modOutput c fun y => { y with delivered := .main }).modControl c fun y =>
        { y with
          state := .main, cause := none, current := none
          ring := x.ring.map fun r => if x.current = some r.sequence then { r with returnPosition := some s.time.h, outcome := .abandoned } else r }
      (back.bump (.chan c .returns)).raise (.returned c (record.map TakeoverRecord.sequence) s.time.h (record.map fun _ => .abandoned)) := by
  have hcancel := (CueOnly.refl c s).requestCancel
  have hx : ((s.requestCancel c).ch c).control = (s.ch c).control := hcancel.control
  have hh : (s.requestCancel c).time = s.time := hcancel.time
  unfold State.abandonTakeover
  dsimp only
  generalize s.requestCancel c = u at hx hh
  have hback : (((u.setState c .main).modControl c fun y => { y with cause := none }).modRecord c fun r =>
      { r with returnPosition := some s.time.h, outcome := .abandoned }) =
      (u.modOutput c fun y => { y with delivered := .main }).modControl c fun y =>
        { y with
          state := .main, cause := none
          ring := y.ring.map fun r => if y.current = some r.sequence then { r with returnPosition := some s.time.h, outcome := .abandoned } else r } := by
    rw [State.modRecord_eq]
    unfold State.setState
    rw [State.modOutput_modControl, State.modOutput_modControl, State.modOutput_modControl, State.modControl_modControl, State.modControl_modControl]
  rw [hback]
  have hrecord : (State.modControl (u.modOutput c fun y => { y with delivered := .main }) c fun y =>
        { y with
          state := .main, cause := none
          ring := y.ring.map fun r => if y.current = some r.sequence then { r with returnPosition := some s.time.h, outcome := .abandoned } else r }).currentRecord c =
      ((s.ch c).control.ring.find? fun r => decide ((s.ch c).control.current = some r.sequence)).map fun r =>
        { r with returnPosition := some s.time.h, outcome := .abandoned } := by
    rw [State.currentRecord_eq, State.ch_modControl_same, State.ch_modOutput_same, hx]
    exact find?_mapIf _ _ _ fun _ => rfl
  unfold State.closeRecord State.currentSequence
  dsimp only
  rw [hrecord, ← State.raise_modControl, Option.map_map, Option.map_map]
  unfold State.bumpCh
  rw [← State.modControl_bump, State.modControl_modControl]
  refine congrArg₂ (fun v r => State.raise (State.bump v _) r) (State.modControl_congr ?_) ?_
  · rw [State.ch_modOutput_same, hx]
  · rw [State.modControl_time, State.modOutput_time, hh]
    rfl

theorem abandonTakeover_control (s : State) (c : Chan) :
    ((s.abandonTakeover c).ch c).control =
      { (s.ch c).control with
        state := .main, cause := none, current := none
        ring := (s.ch c).control.ring.map fun r =>
          if (s.ch c).control.current = some r.sequence then { r with returnPosition := some s.time.h, outcome := .abandoned } else r } := by
  rw [abandonTakeover_eq]
  dsimp only
  rw [State.ch_raise, State.ch_bump, State.ch_modControl_same, State.ch_modOutput_same]
  dsimp only
  rw [(CueOnly.refl c s).requestCancel.control]

theorem abandonTakeover_cue (s : State) (c : Chan) : ((s.abandonTakeover c).ch c).cue = { (s.ch c).cue with pendingCue := none, wait := none } := by
  rw [abandonTakeover_eq]
  dsimp only
  rw [State.ch_raise, State.ch_bump, State.ch_modControl_same, State.ch_modOutput_same]
  exact State.requestCancel_cue s c

theorem abandonTakeover_counter (s : State) (c : Chan) :
    (s.abandonTakeover c).counter (.chan c .returns) = satAdd (s.counter (.chan c .returns)) 1 := by
  rw [abandonTakeover_eq]
  dsimp only
  rw [State.counter_raise _ _ _ (by simp), State.counter_bump, if_pos rfl, State.counter_modControl, State.counter_modOutput,
    (CueOnly.refl c s).requestCancel.counters (.chan c .returns) rfl]

/-! ## Entering RETURNING (R133) -/

/-- R133: the return position of a return at the channel's own pace: at once, or at the next event's start on the main path. -/
def State.returnAt (s : State) (c : Chan) : Nat :=
  if (s.ch c).settings.returnMode = .immediate ∨ (s.ch c).schedule.state = .empty then s.wrap (s.time.h + 1 : Nat)
  else match ((s.ch c).schedule.live.getD []).find? fun e => s.time.h < e.start + s.delay c with
    | some e => s.wrap (e.start + s.delay c : Nat)
    | none => s.wrap (s.time.h + 1 : Nat)

theorem computeReturn_fill (h : (s.ch c).control.returnOrigin = some .fill) (byPin : Bool) : s.computeReturn c byPin = s.wrap (s.time.h + 1 : Nat) := by
  simp [State.computeReturn, h]

theorem computeReturn_byPin (s : State) (c : Chan) : s.computeReturn c true = s.wrap (s.time.h + 1 : Nat) := by
  simp [State.computeReturn]

theorem computeReturn_paced (h : (s.ch c).control.returnOrigin ≠ some .fill) : s.computeReturn c false = s.returnAt c := by
  unfold State.computeReturn State.returnAt
  simp [h, State.live, firstLater] <;> rfl

/-- A channel in RETURNING, with a return origin and a return position, before the Cue Engine is told (R133). -/
def State.entering (s : State) (c : Chan) (origin : Option ReturnOrigin) (r : Nat) : State :=
  (s.modOutput c fun z => { z with delivered := .returning }).modControl c fun z =>
    { z with state := .returning, guard := none, returnOrigin := origin, returnPosition := some r }

theorem enterReturning_eq (s : State) (c : Chan) (byPin : Bool) :
    s.enterReturning c byPin = (s.entering c (s.ch c).control.returnOrigin (s.computeReturn c byPin)).tellReturn c (s.computeReturn c byPin) := by
  unfold State.enterReturning State.entering State.setState
  dsimp only
  rw [State.modOutput_modControl, State.modControl_modControl]
  exact congrArg (fun v => State.tellReturn (State.modOutput v c _) c _) (State.modControl_congr rfl)

/-- A return entered with a return origin set as it begins. -/
theorem enterReturning_from (s : State) (c : Chan) (origin : Option ReturnOrigin) (byPin : Bool) :
    let r := (s.modControl c fun y => { y with returnOrigin := origin }).computeReturn c byPin
    (s.modControl c fun y => { y with returnOrigin := origin }).enterReturning c byPin = (s.entering c origin r).tellReturn c r := by
  dsimp only
  rw [enterReturning_eq, State.ch_modControl_same]
  dsimp only
  generalize State.computeReturn _ c byPin = r
  unfold State.entering
  rw [State.modOutput_modControl, State.modControl_modControl, ← State.modOutput_modControl]

theorem returnAt_modControl (f : Control → Control) : (s.modControl c f).returnAt c = s.returnAt c := by
  unfold State.returnAt State.delay State.wrap State.cycle
  simp

theorem entering_control (s : State) (c : Chan) (origin : Option ReturnOrigin) (r : Nat) :
    ((s.entering c origin r).ch c).control =
      { (s.ch c).control with state := .returning, guard := none, returnOrigin := origin, returnPosition := some r } := by
  simp [State.entering]

theorem entering_cue (s : State) (c : Chan) (origin : Option ReturnOrigin) (r : Nat) : ((s.entering c origin r).ch c).cue = (s.ch c).cue := by
  simp [State.entering]

theorem CueLocal.entering (h : CueLocal c s t) (origin : Option ReturnOrigin) (r : Nat) : CueLocal c s (t.entering c origin r) :=
  (h.modOutput _).modControl _

/-- What the Cue Engine keeps of a channel's cues once it is told of a return position (Table 8-1). -/
def State.toldCue (s : State) (c : Chan) (r : Nat) : CueContext :=
  match (s.ch c).cue.pendingCue with
  | some y => if y.kind = .followOn ∧ 0 ≤ s.signed y.switchPosition r then { (s.ch c).cue with pendingCue := none } else (s.ch c).cue
  | none => (s.ch c).cue

theorem tellReturn_cue (s : State) (c : Chan) (r : Nat) : ((s.tellReturn c r).ch c).cue = s.toldCue c r := by
  unfold State.tellReturn State.toldCue
  cases (s.ch c).cue.pendingCue with
  | none => rfl
  | some x =>
    dsimp only
    split
    · exact State.cancelPending_cue s c
    · rfl

theorem tellReturn_of_none (h : (s.ch c).cue.pendingCue = none) (r : Nat) : s.tellReturn c r = s := by
  unfold State.tellReturn
  rw [h]

theorem toldCue_entering (s : State) (c : Chan) (origin : Option ReturnOrigin) (r r' : Nat) : (s.entering c origin r).toldCue c r' = s.toldCue c r' := by
  unfold State.toldCue
  rw [entering_cue]
  rfl

/-! ## RETURN -/

theorem commandReturn_lost (ho : s.owns c o = true) (h : s.site.state = .lost) : s.commandReturn c o = (s, .siteLost) := by
  simp [State.commandReturn, ho, h]

theorem commandReturn_out (ho : s.owns c o = true) (h : s.site.state ≠ .lost) (hs : (s.ch c).control.state = .outOfService) :
    s.commandReturn c o = (s, .outOfService) := by
  simp [State.commandReturn, State.inService, ho, h, hs]

theorem commandReturn_pinned (ho : s.owns c o = true) (h : s.site.state ≠ .lost) (hs : (s.ch c).control.state ≠ .outOfService)
    (hp : (s.ch c).control.pin ≠ .none) : s.commandReturn c o = (s, .pinned) := by
  simp [State.commandReturn, State.inService, ho, h, hs, hp]

/-- What RETURN does for a channel in service with no pin (R136). -/
def State.returned (s : State) (c : Chan) : State × Result :=
  match s.chState c with
  | .standby => ((s.modControl c fun y => { y with returnOrigin := some .standby }).enterReturning c false, .accepted)
  | .fill => (((s.requestCancel c).modControl c fun y => { y with returnOrigin := some .fill }).enterReturning c false, .accepted)
  | .returnGuard => (s.enterReturning c false, .accepted)
  | .returning => (s, .accepted)
  | .cueing => (s.abandonTakeover c, .accepted)
  | .main | .outOfService => (s, .notTaken)

theorem commandReturn_free (ho : s.owns c o = true) (h : s.site.state ≠ .lost) (hs : (s.ch c).control.state ≠ .outOfService)
    (hp : (s.ch c).control.pin = .none) : s.commandReturn c o = s.returned c := by
  unfold State.commandReturn
  rw [if_neg (by simp [ho]), if_neg h, if_neg (by simp [State.inService, hs]), if_neg (not_not.2 hp)]
  rfl

theorem returned_standby (h : (s.ch c).control.state = .standby) :
    s.returned c = ((s.entering c (some .standby) (s.returnAt c)).tellReturn c (s.returnAt c), .accepted) := by
  unfold State.returned State.chState
  rw [h]
  dsimp only
  rw [enterReturning_from, computeReturn_paced (by simp), returnAt_modControl]

theorem returned_fill (h : (s.ch c).control.state = .fill) :
    s.returned c = ((s.requestCancel c).entering c (some .fill) (s.wrap (s.time.h + 1 : Nat)), .accepted) := by
  have htime := (CueOnly.refl c s).requestCancel.time
  unfold State.returned State.chState
  rw [h]
  dsimp only
  rw [enterReturning_from, computeReturn_fill (by simp), tellReturn_of_none (by rw [entering_cue, State.requestCancel_cue])]
  unfold State.wrap State.cycle
  rw [State.modControl_time, htime]

theorem returned_guard (h : (s.ch c).control.state = .returnGuard) :
    let r := if (s.ch c).control.returnOrigin = some .fill then s.wrap (s.time.h + 1 : Nat) else s.returnAt c
    s.returned c = ((s.entering c (s.ch c).control.returnOrigin r).tellReturn c r, .accepted) := by
  have hr : s.computeReturn c false = if (s.ch c).control.returnOrigin = some .fill then s.wrap (s.time.h + 1 : Nat) else s.returnAt c := by
    split
    · next hf => exact computeReturn_fill hf _
    · next hf => exact computeReturn_paced hf
  unfold State.returned State.chState
  rw [h]
  dsimp only
  rw [enterReturning_eq, hr]

/-! ## HOLD -/

theorem commandHold_out (ho : s.owns c o = true) (hs : (s.ch c).control.state = .outOfService) : s.commandHold c o = (s, .outOfService) := by
  simp [State.commandHold, State.inService, ho, hs]

theorem commandHold_notTaken (ho : s.owns c o = true) (hs : (s.ch c).control.state = .main ∨ (s.ch c).control.state = .cueing) :
    s.commandHold c o = (s, .notTaken) := by
  rcases hs with hs | hs <;> simp [State.commandHold, State.inService, State.chState, ho, hs]

theorem commandHold_taken (ho : s.owns c o = true) (hs : (s.ch c).control.state = .standby ∨ (s.ch c).control.state = .fill) :
    s.commandHold c o = (s.modControl c fun y => { y with suspended := true }, .accepted) := by
  rcases hs with hs | hs <;> simp [State.commandHold, State.inService, State.chState, ho, hs]

theorem commandHold_returning (ho : s.owns c o = true) (hs : (s.ch c).control.state = .returnGuard ∨ (s.ch c).control.state = .returning) :
    s.commandHold c o = ((s.modControl c fun y => { y with suspended := true }).callOffReturn c, .accepted) := by
  rcases hs with hs | hs <;> simp [State.commandHold, State.inService, State.chState, ho, hs]

/-- A return called off: the state it leads to, and the guard, return position and return origin gone (R134). -/
def State.calledOff (s : State) (c : Chan) (y : ChannelState) : State :=
  (s.modOutput c fun z => { z with delivered := y }).modControl c fun z =>
    { z with state := y, guard := none, returnPosition := none, returnOrigin := none }

/-- R132: the guard counted as cancelled. -/
def State.guardCancelled (s : State) (c : Chan) : State := if (s.ch c).control.state = .returnGuard then s.bump (.chan c .guardCancels) else s

theorem guardCancelled_ch (s : State) (c c' : Chan) : (s.guardCancelled c).ch c' = s.ch c' := by
  unfold State.guardCancelled
  split <;> rfl

theorem callOffReturn_eq (s : State) (c : Chan) : s.callOffReturn c = (s.guardCancelled c).callOff c false := rfl

theorem calledOff_eq (s : State) (c : Chan) (y : ChannelState) :
    (s.modControl c fun y => { y with guard := none, returnPosition := none, returnOrigin := none }).setState c y = s.calledOff c y := by
  unfold State.setState State.calledOff
  rw [State.modControl_modControl, State.modOutput_modControl]

theorem callOffReturn_standby (h : (s.ch c).control.returnOrigin = some .standby) :
    s.callOffReturn c = ((s.guardCancelled c).calledOff c .standby).followOnCheck c := by
  rw [callOffReturn_eq]
  unfold State.callOff
  dsimp only
  rw [guardCancelled_ch, h, ← calledOff_eq]

theorem callOffReturn_fill (h : (s.ch c).control.returnOrigin = some .fill) :
    s.callOffReturn c = ((((s.guardCancelled c).calledOff c .fill).stopPlaying c).requestJoin c) := by
  rw [callOffReturn_eq]
  unfold State.callOff
  dsimp only
  rw [guardCancelled_ch, h, ← calledOff_eq]

/-- The follow-on check with a cue pending finds nothing to do (R161). -/
theorem followOnCheck_pending (h : (s.ch c).cue.pendingCue ≠ none) : s.followOnCheck c = s := by
  have target : s.followOnTarget c = none := by
    unfold State.followOnTarget
    cases hp : (s.ch c).cue.pendingCue with
    | none => exact absurd hp h
    | some x => cases onStandbyPath (s.chState c) <;> rfl
  unfold State.followOnCheck
  dsimp only
  unfold State.runFollowOn
  rw [target]

/-- Follow-ons leave the playing cue. -/
theorem runFollowOn_playing (fuel : Nat) (s : State) (c : Chan) (used limit : Nat) :
    ((State.runFollowOn fuel s c used limit).ch c).cue.playing = (s.ch c).cue.playing := by
  induction fuel generalizing s used with
  | zero => rfl
  | succ fuel ih =>
    unfold State.runFollowOn
    split
    · rfl
    · dsimp only
      split
      · rw [State.sendCue_cue]
      · split
        · exact ih _ _
        · rw [State.ch_modCue_same]
          rfl

theorem followOnCheck_playing (s : State) (c : Chan) : ((s.followOnCheck c).ch c).cue.playing = (s.ch c).cue.playing := runFollowOn_playing ..

/-! ## The obligation -/

/-- A return that HOLD has called off, before the Cue Engine goes on with it (R137). -/
def State.heldOff (s : State) (c : Chan) (y : ChannelState) : State :=
  let counted := if (s.ch c).control.state = .returnGuard then s.bump (.chan c .guardCancels) else s
  (counted.modOutput c fun z => { z with delivered := y }).modControl c fun z =>
    { z with state := y, suspended := true, guard := none, returnPosition := none, returnOrigin := none }

theorem held_eq (s : State) (c : Chan) (y : ChannelState) :
    ((s.modControl c fun z => { z with suspended := true }).guardCancelled c).calledOff c y = s.heldOff c y := by
  unfold State.guardCancelled State.calledOff State.heldOff
  rw [State.ch_modControl_same]
  dsimp only
  split
  · rw [State.modControl_bump, State.modOutput_modControl, State.modControl_modControl, ← State.modOutput_modControl]
  · rw [State.modOutput_modControl, State.modControl_modControl, ← State.modOutput_modControl]

theorem heldOff_ch (s : State) (c : Chan) (y : ChannelState) :
    (s.heldOff c y).ch c =
      { s.ch c with
        control := { (s.ch c).control with state := y, suspended := true, guard := none, returnPosition := none, returnOrigin := none }
        output := { (s.ch c).output with delivered := y } } := by
  unfold State.heldOff
  dsimp only
  split <;> simp

theorem heldOff_cue (s : State) (c : Chan) (y : ChannelState) : ((s.heldOff c y).ch c).cue = (s.ch c).cue := by
  rw [heldOff_ch]

theorem CueLocal.heldOff (h : CueLocal c s t) (y : ChannelState) : CueLocal c s (t.heldOff c y) := by
  unfold State.heldOff
  dsimp only
  split
  · exact ((h.bumpCh _).modOutput _).modControl _
  · exact (h.modOutput _).modControl _

theorem heard_counter (s : State) (rx : ControlRx) (c : Chan) (k : ChanCtr) : (s.heard rx).counter (.chan c k) = s.counter (.chan c k) := by
  have counted : (s.bump (.port rx.port .carriersIn)).counter (.chan c k) = s.counter (.chan c k) := by rw [State.counter_bump, if_neg (by simp)]
  rw [← counted]
  unfold State.heard
  rcases rx.port with (_ | _) | n | side <;> rfl

/-- Settles O42: each command by the state of the channel, RETURN by the site and the pin, HOLD by the return origin. -/
theorem returnAndHold : Obligations.ReturnAndHold := by
  unfold Obligations.ReturnAndHold
  intro s o rx c h ho x t refuse following returnAt entering told toldCue
  have ho' : t.owns c o = true := by rw [State.heard_owns]; exact ho
  have hx : (t.ch c).control = x := congrArg Channel.control (State.heard_ch s rx c)
  have hsite : t.site = s.site := State.heard_site s rx
  have auth : ∀ k, k = ChannelCommand.returnToMain ∨ k = ChannelCommand.hold → authorised o (.channel k) = true := by
    rintro k (rfl | rfl) <;> cases o <;> rfl
  have refused : ∀ r, t.commandReturn c o = (t, r) → r ≠ .accepted → exec (.returnToMain rx) s = refuse 0x22 r :=
    fun r hrun hr => congrArg Host.Outcome.next (named_refused (k := .returnToMain) h (auth _ (.inl rfl)) hrun hr)
  have accepted : ∀ u, t.commandReturn c o = (u, .accepted) → x.state ≠ .outOfService → exec (.returnToMain rx) s = .next (u.acceptedFor o rx 0x22 c) :=
    fun u hrun hs => congrArg Host.Outcome.next (named_accepted (k := .returnToMain) h (auth _ (.inl rfl)) hrun fun _ => (inService_iff s c).2 hs)
  have heldRefused : ∀ r, t.commandHold c o = (t, r) → r ≠ .accepted → exec (.hold rx) s = refuse 0x23 r :=
    fun r hrun hr => congrArg Host.Outcome.next (named_refused (k := .hold) h (auth _ (.inr rfl)) hrun hr)
  have held : ∀ u, t.commandHold c o = (u, .accepted) → x.state ≠ .outOfService → exec (.hold rx) s = .next (u.acceptedFor o rx 0x23 c) :=
    fun u hrun hs => congrArg Host.Outcome.next (named_accepted (k := .hold) h (auth _ (.inr rfl)) hrun fun _ => (inService_iff s c).2 hs)
  have htold : ∀ origin r, told (entering origin r) r = (t.entering c origin r).tellReturn c r := fun origin r => by
    have hv : (t.entering c origin r).time = s.time := State.heard_time s rx
    unfold State.tellReturn State.signed State.cycle
    rw [hv]
    rfl
  have htoldCue : ∀ r, toldCue r = t.toldCue c r := fun r => by
    unfold State.toldCue State.signed State.cycle
    rw [State.heard_ch, State.heard_time]
    rfl
  have hentering : ∀ origin r, entering origin r = t.entering c origin r := fun _ _ => rfl
  have hreturnAt : returnAt = t.returnAt c := by
    unfold State.returnAt State.delay State.wrap State.cycle
    rw [State.heard_ch, State.heard_time]
    rfl
  have hh1 : s.wrap (s.time.h + 1 : Nat) = t.wrap (t.time.h + 1 : Nat) := by
    unfold State.wrap State.cycle
    rw [State.heard_time]
  simp only [hh1, hreturnAt]
  rw [← hx] at accepted held ⊢
  rw [← hsite]
  refine ⟨fun hl => refused _ (commandReturn_lost ho' hl) (by decide), fun hl hs => refused _ (commandReturn_out ho' hl hs) (by decide),
    fun hl hs hp => refused _ (commandReturn_pinned ho' hl hs hp) (by decide), fun hl hp => ?_, fun hs => heldRefused _ (commandHold_out ho' hs) (by decide),
    fun hs => heldRefused _ (commandHold_notTaken ho' hs) (by decide), fun hs => held _ (commandHold_taken ho' hs) ?_, ?_⟩
  · have entered : ∀ origin r, CueLocal c t ((t.entering c origin r).tellReturn c r) := fun origin r => ((CueLocal.refl c t).entering _ _).tellReturn _
    have control : ∀ origin r, (((t.entering c origin r).tellReturn c r).ch c).control =
        { (t.ch c).control with state := .returning, guard := none, returnOrigin := origin, returnPosition := some r } := fun origin r => by
      rw [((CueOnly.refl c _).tellReturn r).control, entering_control]
    have cue : ∀ origin r, (((t.entering c origin r).tellReturn c r).ch c).cue = toldCue r := fun origin r => by
      rw [tellReturn_cue, toldCue_entering, htoldCue]
    have run : ∀ hs : (t.ch c).control.state ≠ .outOfService, t.commandReturn c o = t.returned c := fun hs => commandReturn_free ho' hl hs hp
    have hcueing : (t.ch c).control.state = .cueing → exec (.returnToMain rx) s = .next ((t.abandonTakeover c).acceptedFor o rx 0x22 c) := fun hs => by
      refine accepted _ ?_ (by simp [hs])
      rw [run (by simp [hs])]
      simp [State.returned, State.chState, hs]
    refine ⟨fun hs => refused _ ?_ (by decide), fun hs => accepted _ ?_ (by simp [hs]), fun hs => ?_, fun hs => ?_, fun hs => ?_, fun hs => ?_, fun hs => ?_⟩
    · rw [run (by simp [hs])]
      simp [State.returned, State.chState, hs]
    · rw [run (by simp [hs])]
      simp [State.returned, State.chState, hs]
    · exact ⟨_, accepted _ ((run (by simp [hs])).trans (returned_standby hs)) (by simp [hs]), control _ _,
        (htold _ _).symm, cue _ _, entered _ _⟩
    · refine ⟨_, accepted _ ((run (by simp [hs])).trans (returned_fill hs)) (by simp [hs]), ?_, ?_, ((CueLocal.refl c t).requestCancel).entering _ _⟩
      · rw [entering_control, (CueOnly.requestCancel (.refl c t)).control]
      · rw [entering_cue, State.requestCancel_cue, State.heard_ch]
    · exact ⟨_, _, accepted _ ((run (by simp [hs])).trans (returned_guard hs)) (by simp [hs]), control _ _, rfl,
        (htold _ _).symm, cue _ _, entered _ _⟩
    · refine ⟨_, hcueing hs, ?_⟩
      rw [abandonTakeover_control, abandonTakeover_cue, abandonTakeover_counter, heard_counter]
      exact ⟨rfl, rfl, rfl, rfl, rfl, (CueLocal.refl c t).abandonTakeover⟩
    · refine ⟨by rw [State.requestCancel_cue, State.heard_ch], ?_⟩
      have hback := abandonTakeover_eq t c
      rw [State.heard_time] at hback
      rw [hcueing hs, hback]
  · rcases hs with hs | hs <;> simp [hs]
  · have off : ∀ hs : (t.ch c).control.state = .returnGuard ∨ (t.ch c).control.state = .returning, (t.ch c).control.returnOrigin = some .standby →
        exec (.hold rx) s = .next (((t.heldOff c .standby).followOnCheck c).acceptedFor o rx 0x23 c) := fun hs horigin => by
      refine held _ ?_ (by rcases hs with hs | hs <;> simp [hs])
      rw [commandHold_returning ho' hs, callOffReturn_standby (by rw [State.ch_modControl_same]; exact horigin), held_eq]
    have hlocal : CueLocal c t ((t.heldOff c .standby).followOnCheck c) := ((CueLocal.refl c t).heldOff _).followOnCheck
    have hcontrol : (((t.heldOff c .standby).followOnCheck c).ch c).control =
        { (t.ch c).control with state := .standby, suspended := true, guard := none, returnPosition := none, returnOrigin := none } := by
      rw [(CueOnly.followOnCheck (.refl c _)).control, heldOff_ch]
    refine ⟨fun hs horigin => ⟨_, off (.inl hs) horigin, hcontrol, ?_, hlocal⟩, fun hs horigin => ⟨_, off (.inr hs) horigin, hcontrol, hlocal⟩,
      fun hs horigin => ⟨off hs horigin, ?_, fun hpending => ?_⟩, fun hs horigin => ⟨?_, ?_⟩⟩
    · rw [(CueOnly.followOnCheck (.refl c _)).counters _ rfl]
      unfold State.heldOff
      rw [if_pos hs]
      dsimp only
      rw [State.counter_modControl, State.counter_modOutput, State.counter_bump, if_pos rfl, heard_counter]
      rfl
    · rw [followOnCheck_playing]
      exact congrArg CueContext.playing ((heldOff_cue ..).trans (congrArg Channel.cue (State.heard_ch s rx c)))
    · have hcue : (t.ch c).cue = (s.ch c).cue := congrArg Channel.cue (State.heard_ch s rx c)
      exact followOnCheck_pending (s := t.heldOff c .standby) (by rw [heldOff_cue]; exact fun e => hpending (hcue ▸ e))
    · refine held _ ?_ (by rcases hs with hs | hs <;> simp [hs])
      rw [commandHold_returning ho' hs, callOffReturn_fill (by rw [State.ch_modControl_same]; exact horigin), held_eq]
      rfl
    · exact congrArg CueContext.playing (State.stopPlaying_cue ..)

end Sys2Proof.Machine

/-! PROOFS. PIN (R138, R139, R185): what a changed pin does in every state. -/

namespace Sys2Proof.Machine

-- Each elaboration thread takes a large stack, and the text is compiled as one file under a memory limit: one thread at a time.
set_option Elab.async false

variable {s t u : State} {o : Origin} {rx : ControlRx} {c : Chan}

/-! ## What a join leaves of the channel record -/

/-- Two states that agree on the channel record of a channel, but for what the outcome of a join sets (R128, R129), and on its ramp. -/
structure JoinKeeps (c : Chan) (s t : State) : Prop where
  control : { (t.ch c).control with
    state := (s.ch c).control.state, cause := (s.ch c).control.cause, returnOrigin := (s.ch c).control.returnOrigin
    awaitingRecue := (s.ch c).control.awaitingRecue, ring := (s.ch c).control.ring } = (s.ch c).control
  ramp : (t.ch c).output.ramp = (s.ch c).output.ramp

theorem JoinKeeps.refl (c : Chan) (s : State) : JoinKeeps c s s := ⟨rfl, rfl⟩

theorem JoinKeeps.trans (h : JoinKeeps c s t) (k : JoinKeeps c t u) : JoinKeeps c s u := by
  refine ⟨?_, k.ramp.trans h.ramp⟩
  rw [← h.control, ← k.control]

theorem JoinKeeps.of_ch (h : JoinKeeps c s t) (hc : (u.ch c).control = (t.ch c).control) (ho : (u.ch c).output = (t.ch c).output) : JoinKeeps c s u := by
  refine ⟨?_, ?_⟩
  · rw [hc]; exact h.control
  · rw [ho]; exact h.ramp

theorem JoinKeeps.cueOnly (h : JoinKeeps c s t) (k : CueOnly c t u) : JoinKeeps c s u := h.of_ch k.control k.output
theorem JoinKeeps.modCue (h : JoinKeeps c s t) (f : CueContext → CueContext) : JoinKeeps c s (t.modCue c f) := h.of_ch (by simp) (by simp)
theorem JoinKeeps.bumpCh (h : JoinKeeps c s t) (k : ChanCtr) : JoinKeeps c s (t.bumpCh c k) := h.of_ch rfl rfl
theorem JoinKeeps.cueFailed (h : JoinKeeps c s t) : JoinKeeps c s (t.cueFailed c) := h.of_ch (by rw [cueFailed_ch]) (by rw [cueFailed_ch])

theorem JoinKeeps.setState (h : JoinKeeps c s t) (x : ChannelState) : JoinKeeps c s (t.setState c x) :=
  h.trans ⟨by simp [State.setState], by simp [State.setState]⟩

theorem JoinKeeps.modRecord (h : JoinKeeps c s t) (f : TakeoverRecord → TakeoverRecord) : JoinKeeps c s (t.modRecord c f) := by
  rw [State.modRecord_eq]
  exact h.trans ⟨by simp, by simp⟩

theorem JoinKeeps.returnOrigin (h : JoinKeeps c s t) (x : Option ReturnOrigin) : JoinKeeps c s (t.modControl c fun y => { y with returnOrigin := x }) :=
  h.trans ⟨by simp, by simp⟩

theorem JoinKeeps.awaiting (h : JoinKeeps c s t) : JoinKeeps c s (t.modControl c fun y => { y with cause := none, awaitingRecue := true }) :=
  h.trans ⟨by simp, by simp⟩

theorem JoinKeeps.exhausted (h : JoinKeeps c s t) : JoinKeeps c s (t.exhausted c) := by
  unfold State.exhausted
  split
  · exact ((h.modRecord _).setState _).awaiting.cueFailed
  · exact (h.modRecord _).cueFailed
  · exact ((h.setState _).cueOnly (CueOnly.refl c _).stopPlaying).cueFailed
  · exact (h.returnOrigin _).cueFailed
  · exact (h.returnOrigin _).cueFailed
  · exact h

theorem JoinKeeps.noSchedule (h : JoinKeeps c s t) : JoinKeeps c s (t.noSchedule c) := by
  unfold State.noSchedule
  split
  · exact (h.modRecord _).setState _
  · exact h.modRecord _
  · exact (h.setState _).cueOnly (CueOnly.refl c _).stopPlaying
  · exact h.returnOrigin _
  · exact h.returnOrigin _
  · exact h

theorem JoinKeeps.writeLink (h : JoinKeeps c s t) (j : JoinChoice) : JoinKeeps c s (t.writeLink c j) := by
  by_cases hlink : (t.ch c).cue.recordLink = true
  · rw [State.writeLink_set hlink]
    exact (h.trans ⟨by simp [State.takeLink], by simp [State.takeLink]⟩ : JoinKeeps c s (t.takeLink c j))
  · rw [State.writeLink_clear (by simpa using hlink)]
    exact h

theorem JoinKeeps.runJoin (fuel : Nat) (h : JoinKeeps c s t) (used limit : Nat) : JoinKeeps c s (State.runJoin fuel t c used limit) := by
  induction fuel generalizing t used with
  | zero => exact h
  | succ fuel ih =>
    unfold State.runJoin
    dsimp only
    split
    · exact ((h.writeLink _).modCue _).noSchedule
    · split
      · exact (h.writeLink _).cueOnly ((CueOnly.refl c _).sendCue _ _ _ _ _ _ _)
      · split
        · exact ih ((h.writeLink _).bumpCh _) _
        · exact ((h.writeLink _).bumpCh _).exhausted

theorem JoinKeeps.requestJoin (h : JoinKeeps c s t) : JoinKeeps c s (t.requestJoin c) :=
  JoinKeeps.runJoin _ (h.cueOnly (CueOnly.refl c _).requestCancel) _ _

/-! ## A changed pin (R185) -/

theorem setPin_eq (s : State) (c : Chan) (p : Pin) : s.setPin c p = (s.cutRamp c).modControl c fun y => { y with pin := p } := by
  unfold State.setPin State.cutRamp
  by_cases h : (s.ch c).output.ramp = .idle <;> simp [h]

theorem cutRamp_ch (s : State) (c : Chan) : (s.cutRamp c).ch c = { s.ch c with output := { (s.ch c).output with ramp := .idle } } := by
  unfold State.cutRamp
  split
  · next h => rw [← h]
  · simp

theorem cutRamp_counter (s : State) (c : Chan) :
    (s.cutRamp c).counter (.chan c .rampsCut) =
      if (s.ch c).output.ramp = .idle then s.counter (.chan c .rampsCut) else min (s.counter (.chan c .rampsCut) + 1) 4294967295 := by
  unfold State.cutRamp
  split
  · rfl
  · exact (State.counter_bumpCh ..).trans (if_pos rfl)

theorem cutRamp_time (s : State) (c : Chan) : (s.cutRamp c).time = s.time := by
  unfold State.cutRamp
  split <;> rfl

theorem cutRamp_site (s : State) (c : Chan) : (s.cutRamp c).site = s.site := by
  unfold State.cutRamp
  split <;> rfl

theorem CueLocal.cutRamp (h : CueLocal c s t) : CueLocal c s (t.cutRamp c) := by
  unfold State.cutRamp
  split
  · exact h
  · exact (h.modOutput _).bumpCh _

theorem pinnedMain_eq (s : State) (c : Chan) : s.pinnedMain c = (s.cutRamp c).modControl c fun y => { y with pin := .main, awaitingRecue := false } := by
  unfold State.pinnedMain
  rw [setPin_eq, State.modControl_modControl]

theorem pinnedMain_ch (s : State) (c : Chan) :
    (s.pinnedMain c).ch c =
      { s.ch c with
        control := { (s.ch c).control with pin := .main, awaitingRecue := false }
        output := { (s.ch c).output with ramp := .idle } } := by
  rw [pinnedMain_eq, State.ch_modControl_same, cutRamp_ch]

theorem pinnedMain_counter (s : State) (c : Chan) : (s.pinnedMain c).counter (.chan c .rampsCut) = (s.cutRamp c).counter (.chan c .rampsCut) := by
  rw [pinnedMain_eq]
  rfl

theorem pinnedMain_time (s : State) (c : Chan) : (s.pinnedMain c).time = s.time := by
  rw [pinnedMain_eq]
  exact cutRamp_time s c

theorem cancelCue_modControl (s : State) (c : Chan) (f : Control → Control) (x : Cue) :
    (s.modControl c f).cancelCue c x = (s.cancelCue c x).modControl c f := by
  have hreach : ∀ n, (s.modControl c f).reach n = s.reach n := fun n => rfl
  unfold State.cancelCue State.sendCancel
  cases x.status <;> cases x.number <;> dsimp only
  all_goals
    rw [hreach]
    cases s.reach x.server <;> rfl

theorem requestCancel_modControl (s : State) (c : Chan) (f : Control → Control) :
    (s.modControl c f).requestCancel c = (s.requestCancel c).modControl c f := by
  unfold State.requestCancel State.cancelPending State.clearWait
  rw [State.ch_modControl_same]
  dsimp only
  cases (s.ch c).cue.pendingCue with
  | none => dsimp only; rw [State.modControl_modCue]
  | some x =>
    dsimp only
    rw [cancelCue_modControl, State.modControl_modCue, State.modControl_modCue]

/-! ## PIN MAIN -/

/-- The end of a running ramp, as the statement of R185 counts it. -/
def RampEnded (c : Chan) (s u : State) : Prop :=
  (u.ch c).output.ramp = .idle ∧
    u.counter (.chan c .rampsCut) =
      if (s.ch c).output.ramp = .idle then s.counter (.chan c .rampsCut) else min (s.counter (.chan c .rampsCut) + 1) 4294967295

theorem RampEnded.of_cut (hr : (u.ch c).output.ramp = .idle) (hc : u.counter (.chan c .rampsCut) = (s.cutRamp c).counter (.chan c .rampsCut)) :
    RampEnded c s u := ⟨hr, hc.trans (cutRamp_counter s c)⟩

theorem enterReturning_byPin (s : State) (c : Chan) (h : (s.ch c).cue.pendingCue = none) :
    s.enterReturning c true = s.entering c (s.ch c).control.returnOrigin (s.wrap (s.time.h + 1 : Nat)) := by
  rw [enterReturning_eq, computeReturn_byPin, tellReturn_of_none (by rw [entering_cue]; exact h)]

/-- What RETURNING by PIN MAIN leaves, where the Cue Engine has no pending cue left (R138). -/
theorem pinned_entering (s : State) (c : Chan) (origin : Option ReturnOrigin) :
    let u := ((s.pinnedMain c).requestCancel c).entering c origin (s.wrap (s.time.h + 1 : Nat))
    (u.ch c).control =
      { (s.ch c).control with
        pin := .main, awaitingRecue := false, state := .returning, guard := none, returnPosition := some (s.wrap (s.time.h + 1 : Nat)), returnOrigin := origin } ∧
      (u.ch c).cue = { (s.ch c).cue with pendingCue := none, wait := none } ∧ (u.ch c).output.delivered = .returning ∧ RampEnded c s u ∧ CueLocal c s u := by
  have hcancel := (CueOnly.refl c (s.pinnedMain c)).requestCancel
  refine ⟨?_, ?_, ?_, .of_cut ?_ ?_, (((CueLocal.refl c s).setPin _).modControl _).requestCancel.entering _ _⟩
  · rw [entering_control, hcancel.control, pinnedMain_ch]
  · rw [entering_cue, State.requestCancel_cue, pinnedMain_ch]
  · simp [State.entering]
  · unfold State.entering
    rw [State.ch_modControl_same, State.ch_modOutput_same]
    dsimp only
    rw [hcancel.output, pinnedMain_ch]
  · unfold State.entering
    rw [State.counter_modControl, State.counter_modOutput, hcancel.counters _ rfl, pinnedMain_counter]

theorem requestCancel_pending (s : State) (c : Chan) : ((s.requestCancel c).ch c).cue.pendingCue = none := by rw [State.requestCancel_cue]

theorem wrap_next (h : t.time = s.time) : t.wrap (t.time.h + 1 : Nat) = s.wrap (s.time.h + 1 : Nat) := by
  unfold State.wrap State.cycle
  rw [h]

theorem requestCancel_pinned_time (s : State) (c : Chan) : ((s.pinnedMain c).requestCancel c).time = s.time :=
  (CueOnly.refl c (s.pinnedMain c)).requestCancel.time.trans (pinnedMain_time s c)

/-- R138 in FILL, STANDBY and RETURN_GUARD. -/
theorem followPinMain_entering (hs : (s.ch c).control.state = .fill ∨ (s.ch c).control.state = .standby ∨ (s.ch c).control.state = .returnGuard) :
    (s.pinnedMain c).followPinMain c =
      ((s.pinnedMain c).requestCancel c).entering c
        (if (s.ch c).control.state = .fill then some .fill else if (s.ch c).control.state = .standby then some .standby else (s.ch c).control.returnOrigin)
        (s.wrap (s.time.h + 1 : Nat)) := by
  have htime := requestCancel_pinned_time s c
  have hcontrol : ((s.pinnedMain c).ch c).control = { (s.ch c).control with pin := .main, awaitingRecue := false } := by rw [pinnedMain_ch]
  have from_ : ∀ origin, (((s.pinnedMain c).requestCancel c).modControl c fun y => { y with returnOrigin := origin }).enterReturning c true =
      ((s.pinnedMain c).requestCancel c).entering c origin (s.wrap (s.time.h + 1 : Nat)) := fun origin => by
    rw [enterReturning_from, computeReturn_byPin, tellReturn_of_none (by rw [entering_cue]; exact requestCancel_pending ..)]
    exact congrArg _ (wrap_next htime)
  unfold State.followPinMain State.chState
  rw [hcontrol]
  rcases hs with hs | hs | hs <;> rw [hs] <;> dsimp only
  · rw [from_, if_pos rfl]
  · rw [from_, if_neg (by decide), if_pos rfl]
  · rw [enterReturning_byPin _ _ (requestCancel_pending ..), if_neg (by decide), if_neg (by decide), wrap_next htime,
      (CueOnly.requestCancel (.refl c _)).control, hcontrol]

/-- R138 in RETURNING: a later return position is brought to H + 1. -/
theorem followPinMain_returning (hs : (s.ch c).control.state = .returning) :
    (s.pinnedMain c).followPinMain c =
      ((s.pinnedMain c).requestCancel c).modControl c fun y =>
        { y with
          returnPosition := match (s.ch c).control.returnPosition with
            | some r => if 0 < s.signed r (s.wrap (s.time.h + 1 : Nat)) then some (s.wrap (s.time.h + 1 : Nat)) else some r
            | none => none } := by
  have htime := requestCancel_pinned_time s c
  have hcontrol : ((s.pinnedMain c).ch c).control = { (s.ch c).control with pin := .main, awaitingRecue := false } := by rw [pinnedMain_ch]
  have hcancelled : (((s.pinnedMain c).requestCancel c).ch c).control = { (s.ch c).control with pin := .main, awaitingRecue := false } := by
    rw [(CueOnly.requestCancel (.refl c _)).control, hcontrol]
  have hsigned : ∀ x y, ((s.pinnedMain c).requestCancel c).signed x y = s.signed x y := fun x y => by
    unfold State.signed State.cycle
    rw [htime]
  unfold State.followPinMain State.chState
  rw [hcontrol, hs]
  dsimp only
  rw [hcancelled, wrap_next (pinnedMain_time s c)]
  cases hr : (s.ch c).control.returnPosition with
  | none =>
    dsimp only
    rw [if_neg (by decide)]
    exact (State.modControl_id (by rw [hcancelled, ← hr])).symm
  | some r =>
    dsimp only
    by_cases hlater : 0 < s.signed r (s.wrap (s.time.h + 1 : Nat))
    · rw [if_pos (by simpa [hsigned] using hlater), tellReturn_of_none (by rw [State.ch_modControl_same]; exact requestCancel_pending ..), if_pos hlater]
    · rw [if_neg (by simpa [hsigned] using hlater), if_neg hlater]
      exact (State.modControl_id (by rw [hcancelled, ← hr])).symm

/-- R138 in CUEING: the takeover is abandoned as the pin is taken. -/
theorem followPinMain_cueing (hs : (s.ch c).control.state = .cueing) :
    (s.pinnedMain c).followPinMain c =
      let x := (s.ch c).control
      let record := x.ring.find? fun r => x.current = some r.sequence
      let back := (((s.cutRamp c).requestCancel c).modOutput c fun y => { y with delivered := .main }).modControl c fun y =>
        { y with
          pin := .main, awaitingRecue := false, state := .main, cause := none, current := none
          ring := x.ring.map fun r => if x.current = some r.sequence then { r with returnPosition := some s.time.h, outcome := .abandoned } else r }
      (back.bump (.chan c .returns)).raise (.returned c (record.map TakeoverRecord.sequence) s.time.h (record.map fun _ => .abandoned)) := by
  have hcontrol : ((s.pinnedMain c).ch c).control = { (s.ch c).control with pin := .main, awaitingRecue := false } := by rw [pinnedMain_ch]
  have hstep : (s.pinnedMain c).followPinMain c = (s.pinnedMain c).abandonTakeover c := by
    unfold State.followPinMain State.chState
    rw [hcontrol, hs]
  rw [hstep, abandonTakeover_eq, hcontrol, pinnedMain_time]
  dsimp only
  rw [pinnedMain_eq, requestCancel_modControl, State.modOutput_modControl, State.modControl_modControl, ← State.modOutput_modControl]

/-! ## PIN STANDBY -/

theorem followPinStandby_kept (h : s.chState c = .cueing ∨ s.chState c = .fill ∨ s.chState c = .standby) : s.followPinStandby c = s := by
  unfold State.followPinStandby
  rcases h with h | h | h <;> rw [h]

theorem followPinStandby_returning (h : s.chState c = .returnGuard ∨ s.chState c = .returning) : s.followPinStandby c = s.callOffReturn c := by
  unfold State.followPinStandby
  rcases h with h | h <;> rw [h]

theorem followPinStandby_main (h : s.chState c = .main) : s.followPinStandby c = s.takeover c .command [] (some .console) := by
  unfold State.followPinStandby
  rw [h]

/-- What a takeover of a channel in MAIN keeps and sets of the channel record and the ramp. -/
theorem takeover_main_leaves (hm : (s.ch c).control.state = .main) (cause : TakeoverCause) (asserted : List Detector) (origin : Option Origin) :
    let u := s.takeover c cause asserted origin
    (u.ch c).control.pin = (s.ch c).control.pin ∧ (u.ch c).control.current = some (s.ch c).control.nextSequence ∧ (u.ch c).control.sticky = true ∧
      (u.ch c).output.ramp = (s.ch c).output.ramp := by
  rw [State.takeover_main hm]
  dsimp only
  generalize hv : State.modCue _ c _ = v
  have hkeep := (JoinKeeps.refl c v).requestJoin
  have hcontrol := hkeep.control
  have hvc : (v.ch c).control.pin = (s.ch c).control.pin ∧ (v.ch c).control.current = some (s.ch c).control.nextSequence ∧ (v.ch c).control.sticky = true ∧
      (v.ch c).output.ramp = (s.ch c).output.ramp := by
    rw [← hv]
    simp only [State.ch_modCue_same, State.ch_raise, State.ch_bump, State.ch_modOutput_same, State.ch_modControl_same]
    split <;> simp
  obtain ⟨hpin, hcurrent, hsticky, hramp⟩ := hvc
  refine ⟨?_, ?_, ?_, hkeep.ramp.trans hramp⟩
  · exact (congrArg Control.pin hcontrol).trans hpin
  · exact (congrArg Control.current hcontrol).trans hcurrent
  · exact (congrArg Control.sticky hcontrol).trans hsticky

/-- A return that PIN STANDBY has called off, before the Cue Engine goes on with it (R139). -/
def State.pinnedOff (s : State) (c : Chan) (y : ChannelState) : State :=
  let counted := if (s.ch c).control.state = .returnGuard then (s.cutRamp c).bump (.chan c .guardCancels) else s.cutRamp c
  (counted.modOutput c fun z => { z with delivered := y }).modControl c fun z =>
    { z with pin := .standby, state := y, guard := none, returnPosition := none, returnOrigin := none }

theorem pinnedOff_eq (s : State) (c : Chan) (y : ChannelState) : ((s.setPin c .standby).guardCancelled c).calledOff c y = s.pinnedOff c y := by
  unfold State.guardCancelled State.calledOff State.pinnedOff
  rw [setPin_eq, State.ch_modControl_same, cutRamp_ch]
  dsimp only
  split
  · rw [State.modControl_bump, State.modOutput_modControl, State.modControl_modControl, ← State.modOutput_modControl]
  · rw [State.modOutput_modControl, State.modControl_modControl, ← State.modOutput_modControl]

theorem pinnedOff_cue (s : State) (c : Chan) (y : ChannelState) : ((s.pinnedOff c y).ch c).cue = (s.ch c).cue := by
  unfold State.pinnedOff
  dsimp only
  split <;> simp [cutRamp_ch]

/-- Settles O43: PIN MAIN and PIN STANDBY by the state of the channel, its pin and the return origin. -/
theorem pins : Obligations.Pins := by
  unfold Obligations.Pins
  intro s rx c h x t cut h1 ended
  have hch : t.ch c = s.ch c := State.heard_ch s rx c
  have hx : (t.ch c).control = x := congrArg Channel.control hch
  have hin : t.inService c = true ↔ x.state ≠ .outOfService := (State.heard_inService s rx c ▸ inService_iff s c)
  have hstate : t.chState c = x.state := congrArg Control.state hx
  have hsite : t.site = s.site := State.heard_site s rx
  have hh1 : h1 = t.wrap (t.time.h + 1 : Nat) := (wrap_next (State.heard_time s rx)).symm
  have hcut : cut = t.cutRamp c := by
    unfold State.cutRamp
    rw [hch]
    rfl
  have hended : ∀ u, RampEnded c t u → ended u := fun u hu => by
    unfold RampEnded at hu
    rw [hch, heard_counter] at hu
    exact hu
  have auth : ∀ k, authorised .console (.channel k) = true := fun _ => rfl
  have mainRefused : ∀ r, t.commandPinMain c = (t, r) → r ≠ .accepted → exec (.pinMain rx) s = .next (t.answered .console rx 0x24 r []) :=
    fun r hrun hr => congrArg Host.Outcome.next (named_refused (k := .pin 0) h rfl hrun hr)
  have main : ∀ u, t.commandPinMain c = (u, .accepted) → x.state ≠ .outOfService → exec (.pinMain rx) s = .next (u.acceptedFor .console rx 0x24 c) :=
    fun u hrun hs => congrArg Host.Outcome.next (named_accepted (k := .pin 0) h rfl hrun fun _ => (inService_iff s c).2 hs)
  have standbyRefused : ∀ r, t.commandPinStandby c = (t, r) → r ≠ .accepted → exec (.pinStandby rx) s = .next (t.answered .console rx 0x24 r []) :=
    fun r hrun hr => congrArg Host.Outcome.next (named_refused (k := .pin 1) h rfl hrun hr)
  have standby : ∀ u, t.commandPinStandby c = (u, .accepted) → x.state ≠ .outOfService → exec (.pinStandby rx) s = .next (u.acceptedFor .console rx 0x24 c) :=
    fun u hrun hs => congrArg Host.Outcome.next (named_accepted (k := .pin 1) h rfl hrun fun _ => (inService_iff s c).2 hs)
  have followed : x.state ≠ .outOfService → ¬(s.site.state = .lost ∧ (x.state = .fill ∨ x.state = .standby)) → x.pin ≠ .main →
      exec (.pinMain rx) s = .next (((t.pinnedMain c).followPinMain c).acceptedFor .console rx 0x24 c) := fun hs hl hp =>
    main _ (State.commandPinMain_changed (hin.2 hs) (by rw [hsite, hstate]; exact hl) (by rw [hx]; exact hp)) hs
  have followedStandby : x.state ≠ .outOfService → x.pin ≠ .standby →
      exec (.pinStandby rx) s = .next (((t.setPin c .standby).followPinStandby c).acceptedFor .console rx 0x24 c) := fun hs hp =>
    standby _ (State.commandPinStandby_changed (hin.2 hs) (by rw [hx]; exact hp)) hs
  have hpinned : (t.setPin c .standby).chState c = x.state := by
    unfold State.chState
    rw [setPin_eq, State.ch_modControl_same, cutRamp_ch]
    dsimp only
    rw [hx]
  have hcue : ∀ u : State, (u.ch c).cue = { (t.ch c).cue with pendingCue := none, wait := none } →
      (u.ch c).cue = { (s.ch c).cue with pendingCue := none, wait := none } := fun u hu => hu.trans (by rw [hch])
  simp only [hh1, hcut]
  refine ⟨fun hs => ⟨mainRefused _ ?_ (by decide), standbyRefused _ ?_ (by decide)⟩, fun hl hs => mainRefused _ ?_ (by decide), fun hs hp => ?_, fun hs hp => ?_,
    fun hs hp hl => ?_, fun hs hp => ?_, fun hs hp hl => main _ ?_ hs, fun hs hp => standby _ ?_ hs, fun hs hp => ?_, fun hs hp => ?_, fun hs hp => ?_⟩
  · unfold State.commandPinMain
    rw [if_pos (by simp [State.inService, hx, hs])]
  · unfold State.commandPinStandby
    rw [if_pos (by simp [State.inService, hx, hs])]
  · have hne : x.state ≠ .outOfService := by rcases hs with hs | hs <;> simp [hs]
    unfold State.commandPinMain
    rw [if_neg (by simp [hin.2 hne]), if_pos (by rw [hsite, hstate]; exact ⟨hl, hs⟩)]
  · rw [followed (by simp [hs]) (by simp [hs]) hp]
    have : (t.pinnedMain c).chState c = .main := by
      unfold State.chState
      rw [pinnedMain_ch, hx]
      exact hs
    unfold State.followPinMain
    rw [this]
    dsimp only
    rw [pinnedMain_eq]
  · rw [followed (by simp [hs]) (by simp [hs]) hp, followPinMain_cueing (by rw [hx]; exact hs), hx, State.heard_time]
  · have hne : x.state ≠ .outOfService := by rcases hs with hs | hs | hs <;> simp [hs]
    have hl' : ¬(s.site.state = .lost ∧ (x.state = .fill ∨ x.state = .standby)) := fun e => hl ⟨e.1, fun e' => by rcases e.2 with e | e <;> rw [e] at e' <;> cases e'⟩
    obtain ⟨hcontrol, hcued, hdelivered, hramp, hlocal⟩ := pinned_entering t c
      (if x.state = .fill then some .fill else if x.state = .standby then some .standby else x.returnOrigin)
    refine ⟨_, ?_, ?_, hcue _ hcued, hdelivered, hended _ hramp, hlocal⟩
    · rw [followed hne hl' hp, followPinMain_entering (by rw [hx]; exact hs), hx]
    · rw [hcontrol, hx]
  · have hcancel := (CueOnly.refl c (t.pinnedMain c)).requestCancel
    have hlocal : CueLocal c t ((t.pinnedMain c).followPinMain c) := (((CueLocal.refl c t).setPin _).modControl _).followPinMain
    have hstep := followPinMain_returning (s := t) (c := c) (by rw [hx]; exact hs)
    have hsigned : ∀ y z, t.signed y z = s.signed y z := fun y z => by
      unfold State.signed State.cycle
      rw [State.heard_time]
    refine ⟨_, followed (by simp [hs]) (by simp [hs]) hp, ?_, hcue _ ?_, hended _ (.of_cut ?_ ?_), hlocal⟩
    · rw [hstep, State.ch_modControl_same]
      dsimp only
      rw [hcancel.control, pinnedMain_ch, hx]
      simp only [hsigned] <;> rfl
    · rw [hstep, State.ch_modControl_same]
      dsimp only
      rw [State.requestCancel_cue, pinnedMain_ch]
    · rw [hstep, State.ch_modControl_same]
      dsimp only
      rw [hcancel.output, pinnedMain_ch]
    · rw [hstep, State.counter_modControl, hcancel.counters _ rfl, pinnedMain_counter]
  · unfold State.commandPinMain
    rw [if_neg (by simp [hin.2 hs]), if_neg (by rw [hsite, hstate]; exact hl), if_pos (by rw [hx]; exact hp)]
  · unfold State.commandPinStandby
    rw [if_neg (by simp [hin.2 hs]), if_pos (by rw [hx]; exact hp)]
  · have hne : x.state ≠ .outOfService := by rcases hs with hs | hs | hs <;> simp [hs]
    rw [followedStandby hne hp, followPinStandby_kept (by rw [hpinned]; exact hs), setPin_eq]
  · have hset : (t.setPin c .standby).ch c = { t.ch c with control := { (t.ch c).control with pin := .standby }, output := { (t.ch c).output with ramp := .idle } } := by
      rw [setPin_eq, State.ch_modControl_same, cutRamp_ch]
    obtain ⟨hpin, hcurrent, hsticky, hramp⟩ := takeover_main_leaves (s := t.setPin c .standby) (hpinned.trans hs) .command [] (some .console)
    rw [hset] at hpin hcurrent hramp
    refine ⟨_, followedStandby (by simp [hs]) hp, ?_⟩
    rw [followPinStandby_main (hpinned.trans hs)]
    exact ⟨hpin, hcurrent.trans (by rw [hx]), hsticky, hramp, ((CueLocal.refl c t).setPin _).takeover _ _ _⟩
  · have hne : x.state ≠ .outOfService := by rcases hs with hs | hs <;> simp [hs]
    have horigin : ((t.setPin c .standby).ch c).control.returnOrigin = x.returnOrigin := by
      rw [setPin_eq, State.ch_modControl_same, cutRamp_ch]
      dsimp only
      rw [hx]
    have off : ∀ y, (t.pinnedOff c y) = State.modControl (State.modOutput (if x.state = .returnGuard then (t.cutRamp c).bump (.chan c .guardCancels)
        else t.cutRamp c) c fun z => { z with delivered := y }) c fun z =>
          { z with pin := .standby, state := y, guard := none, returnPosition := none, returnOrigin := none } := fun y => by
      unfold State.pinnedOff
      rw [hx]
    have hcue' : ∀ y, ((t.pinnedOff c y).ch c).cue = (s.ch c).cue := fun y => (pinnedOff_cue t c y).trans (congrArg Channel.cue hch)
    have run := followedStandby hne hp
    rw [followPinStandby_returning (by rw [hpinned]; exact hs)] at run
    refine ⟨fun ho => ⟨?_, ?_, fun hpending => ?_⟩, fun ho => ⟨?_, ?_⟩⟩
    · rw [run, callOffReturn_standby (horigin.trans ho), pinnedOff_eq, off]
    · rw [← off, followOnCheck_playing, hcue']
    · rw [← off]
      exact followOnCheck_pending (by rw [hcue']; exact hpending)
    · rw [run, callOffReturn_fill (horigin.trans ho), pinnedOff_eq, off]
    · exact congrArg CueContext.playing (State.stopPlaying_cue ..)

end Sys2Proof.Machine

/-! PROOFS. The Continuity Monitor's detectors taken in turn, and service entry and exit (R49, R72, R73, R123, R124). -/

namespace Sys2Proof.Machine

-- Each elaboration thread takes a large stack, and the text is compiled as one file under a memory limit: one thread at a time.
set_option Elab.async false

variable {s t u : State} {o : Origin} {rx : ControlRx} {c : Chan}

/-! ## Every detector updated -/

theorem modDetector_ch (s : State) (c : Chan) (det : Detector) (f : DetectorState → DetectorState) :
    (s.modDetector c det f).ch c =
      { s.ch c with monitor := { (s.ch c).monitor with detectors := vmod (s.ch c).monitor.detectors (detectorIndex det) f } } := by
  simp [State.modDetector]

theorem modDetector_detState (s : State) (c : Chan) (det d : Detector) (f : DetectorState → DetectorState) :
    ((s.modDetector c det f).ch c).detState d = if d = det then f ((s.ch c).detState d) else (s.ch c).detState d := by
  rw [modDetector_ch]
  unfold Channel.detState
  rw [vmod_get]
  by_cases h : d = det
  · simp [h]
  · rw [if_neg (fun e => h (detectorIndex_inj e)), if_neg h]

/-- A channel with its detectors left out: what updates of detectors leave. -/
def Channel.undetected (x : Channel) : Channel :=
  { x with monitor := { x.monitor with detectors := Vector.replicate 4 { phase := .clear, latched := false, settle := 0, bad := 0, good := 0 } } }

theorem modDetector_undetected (s : State) (c : Chan) (det : Detector) (f : DetectorState → DetectorState) :
    ((s.modDetector c det f).ch c).undetected = (s.ch c).undetected := by
  rw [modDetector_ch]
  rfl

theorem detCfg_of_undetected {x y : Channel} (h : x.undetected = y.undetected) (det : Detector) : x.detCfg det = y.detCfg det := by
  have hsettings : x.undetected.settings = y.undetected.settings := by rw [h]
  have hsettings : x.settings = y.settings := hsettings
  unfold Channel.detCfg
  rw [hsettings]

theorem Detector.mem_all (det : Detector) : det ∈ Detector.all := by cases det <;> decide

theorem Detector.nodup_all : Detector.all.Nodup := by decide

/-- Updating detectors in turn updates each of them once, and leaves the rest of the channel. -/
theorem foldl_modDetector (l : List Detector) (hl : l.Nodup) (s : State) (c : Chan) (f : DetectorSettings → DetectorState → DetectorState) :
    let t := l.foldl (fun t det => t.modDetector c det (f ((t.ch c).detCfg det))) s
    (t.ch c).undetected = (s.ch c).undetected ∧
      ∀ det, (t.ch c).detState det = if det ∈ l then f ((s.ch c).detCfg det) ((s.ch c).detState det) else (s.ch c).detState det := by
  induction l generalizing s with
  | nil => exact ⟨rfl, fun det => by simp⟩
  | cons d l ih =>
    obtain ⟨hd, hl⟩ := List.nodup_cons.1 hl
    obtain ⟨h1, h2⟩ := ih hl (s.modDetector c d (f ((s.ch c).detCfg d)))
    have hu := modDetector_undetected s c d (f ((s.ch c).detCfg d))
    refine ⟨h1.trans hu, fun det => ?_⟩
    rw [List.foldl_cons, h2, detCfg_of_undetected hu, modDetector_detState]
    by_cases he : det = d
    · subst he
      simp [hd]
    · simp [he]

theorem eachDetector_undetected (s : State) (c : Chan) (f : DetectorSettings → DetectorState → DetectorState) :
    ((s.eachDetector c f).ch c).undetected = (s.ch c).undetected := (foldl_modDetector _ Detector.nodup_all s c f).1

theorem eachDetector_detState (s : State) (c : Chan) (f : DetectorSettings → DetectorState → DetectorState) (det : Detector) :
    ((s.eachDetector c f).ch c).detState det = f ((s.ch c).detCfg det) ((s.ch c).detState det) := by
  rw [State.eachDetector, (foldl_modDetector _ Detector.nodup_all s c f).2 det, if_pos (Detector.mem_all det)]

theorem eachDetector_detCfg (s : State) (c : Chan) (f : DetectorSettings → DetectorState → DetectorState) (det : Detector) :
    ((s.eachDetector c f).ch c).detCfg det = (s.ch c).detCfg det := detCfg_of_undetected (eachDetector_undetected s c f) det

/-! ## The verdict -/

theorem evaluate_same (h : (s.ch c).evaluate = (s.ch c).monitor.verdict) (cause : EvalCause) : s.evaluate c cause = s := by
  unfold State.evaluate State.holdVerdict
  dsimp only
  rw [if_pos h]
  rfl

/-- R68, R70: a channel none of whose enabled detectors is latched or has a bad run is HEALTHY. -/
theorem evaluate_healthy {x : Channel} (h : ∀ det, (x.detCfg det).enabled = true → (x.detState det).latched = false ∧ (x.detState det).bad = 0) :
    x.evaluate = .healthy := by
  have hstands : ∀ det, x.stands det = false := fun det => by
    unfold Channel.stands standsAsserted
    cases he : (x.detCfg det).enabled with
    | false => rfl
    | true => rw [(h det he).1]; rfl
  have hfailing : Detector.all.any x.failing = false := by
    rw [List.any_eq_false]
    intro det _
    simp [Channel.failing, hstands]
  have hsuspecting : Detector.all.any x.suspecting = false := by
    rw [List.any_eq_false]
    intro det _
    unfold Channel.suspecting Channel.counted
    cases he : (x.detCfg det).enabled with
    | false => simp
    | true => simp [hstands, (h det he).2]
  have hpair : x.pairFailing = false := by simp [Channel.pairFailing, hstands]
  unfold Channel.evaluate
  simp [hfailing, hsuspecting, hpair]

/-! ## Entry -/

theorem answered_ch (s : State) (o : Origin) (rx : ControlRx) (kind : Nat) (r : Result) (contents : List Atom) (c : Chan) :
    (s.answered o rx kind r contents).ch c = s.ch c := State.ch_reply ..

theorem answered_counter (s : State) (o : Origin) (rx : ControlRx) (kind : Nat) (r : Result) (contents : List Atom) (c : Chan) (k : ChanCtr) :
    (s.answered o rx kind r contents).counter (.chan c k) = s.counter (.chan c k) := by
  unfold State.answered State.reply
  split <;> [rw [State.counter_send, State.counter_bump]; rw [State.counter_bump]] <;> exact if_neg (by simp)

/-- R72: the monitor at an entry of a channel with no detector latched: the detectors start, and no verdict is notified. -/
theorem monitorEntry_eq (h : ∀ det, ((s.ch c).detState det).latched = false) :
    s.monitorEntry c =
      ((s.modMonitor c fun m => { m with reference := none, verdict := .healthy }).eachDetector c fun cfg x => if cfg.enabled then startSettling cfg x else x) := by
  unfold State.monitorEntry
  refine evaluate_same ?_ _
  have hverdict : ((((s.modMonitor c fun m => { m with reference := none, verdict := .healthy }).eachDetector c fun cfg x =>
      if cfg.enabled then startSettling cfg x else x).ch c)).monitor.verdict = .healthy := by
    have hu := congrArg (fun x : Channel => x.monitor.verdict) (eachDetector_undetected (s.modMonitor c fun m => { m with reference := none, verdict := .healthy }) c
      fun cfg x => if cfg.enabled then startSettling cfg x else x)
    exact hu.trans (by simp [Channel.undetected])
  rw [hverdict]
  refine evaluate_healthy fun det he => ?_
  rw [eachDetector_detCfg] at he
  rw [eachDetector_detState, if_pos he]
  refine ⟨?_, rfl⟩
  have : ((s.modMonitor c fun m => { m with reference := none, verdict := .healthy }).ch c).detState det = (s.ch c).detState det := by
    simp [Channel.detState]
  rw [this]
  exact h det

/-- What R123 and R49 leave of a channel that enters service, before its monitor. -/
def State.entered (s : State) (c : Chan) (mode : ServiceMode) : State := ((s.controlEntry c mode).alignEntry c).clearOutput c

theorem State.entered_undetected (h : ∀ det, ((s.ch c).detState det).latched = false) (mode : ServiceMode) :
    let q := (s.entered c mode).ch c
    ((s.enterService c mode).ch c).undetected = { q with monitor := { q.monitor with reference := none, verdict := .healthy } }.undetected ∧
      ∀ det, ((s.enterService c mode).ch c).detState det =
        if (s.ch c).detCfg det |>.enabled then startSettling ((s.ch c).detCfg det) ((s.ch c).detState det) else (s.ch c).detState det := by
  have hstate : ∀ det, ((s.entered c mode).ch c).detState det = (s.ch c).detState det := fun det => by
    simp [State.entered, State.controlEntry, State.alignEntry, State.clearOutput, State.setState, Channel.detState]
  have hcfg : ∀ det, ((s.entered c mode).ch c).detCfg det = (s.ch c).detCfg det := fun det => by
    simp [State.entered, State.controlEntry, State.alignEntry, State.clearOutput, State.setState, Channel.detCfg]
  have heq : s.enterService c mode = (s.entered c mode).monitorEntry c := rfl
  rw [heq, monitorEntry_eq fun det => by rw [hstate, h]]
  refine ⟨?_, fun det => ?_⟩
  · rw [eachDetector_undetected, State.ch_modMonitor_same]
  · have hmod : (((s.entered c mode).modMonitor c fun m => { m with reference := none, verdict := .healthy }).ch c).detState det =
        ((s.entered c mode).ch c).detState det := by simp [Channel.detState]
    have hmodcfg : (((s.entered c mode).modMonitor c fun m => { m with reference := none, verdict := .healthy }).ch c).detCfg det =
        ((s.entered c mode).ch c).detCfg det := by simp [Channel.detCfg]
    rw [eachDetector_detState, hmod, hmodcfg, hstate, hcfg]

/-! ## Exit -/

/-- A notice for a channel out of service has no effect (R71). -/
theorem deliver_out (h : (s.ch c).control.state = .outOfService) {n : VerdictNotice} (hn : n.chan = c) : s.takeVerdict n = s := by
  unfold State.takeVerdict
  rw [hn]
  dsimp only
  rw [h]

/-- R73: an evaluation that finds a channel out of service HEALTHY leaves that verdict, and changes nothing else of the channel. -/
theorem evaluate_out (hs : (s.ch c).control.state = .outOfService) (hv : (s.ch c).evaluate = .healthy) (cause : EvalCause) :
    ((s.evaluate c cause).ch c) = { s.ch c with monitor := { (s.ch c).monitor with verdict := .healthy } } ∧
      ∀ key, key ≠ .chan c .verdictChanges → (s.evaluate c cause).counter key = s.counter key := by
  by_cases hold : (s.ch c).evaluate = (s.ch c).monitor.verdict
  · rw [evaluate_same hold, ← hv, hold]
    exact ⟨rfl, fun _ _ => rfl⟩
  · have heq : s.evaluate c cause = (s.modMonitor c fun m => { m with verdict := (s.ch c).evaluate }).bumpCh c .verdictChanges := by
      unfold State.evaluate State.holdVerdict
      dsimp only
      rw [if_neg hold]
      exact deliver_out (by simpa using hs) rfl
    rw [heq, hv]
    refine ⟨by simp, fun key hkey => ?_⟩
    rw [State.bumpCh, State.counter_bump, if_neg hkey, State.counter_modMonitor]

/-- R73: the monitor of a channel that leaves service. -/
theorem monitorExit_leaves (hs : (s.ch c).control.state = .outOfService) :
    ((s.monitorExit c).ch c).undetected = { s.ch c with monitor := { (s.ch c).monitor with reference := none, verdict := .healthy } }.undetected ∧
      (∀ det, ((s.monitorExit c).ch c).detState det = { phase := .clear, latched := false, settle := 0, bad := 0, good := 0 }) ∧
      ∀ key, key ≠ .chan c .verdictChanges → (s.monitorExit c).counter key = s.counter key := by
  let t := s.eachDetector c fun _ _ => { phase := .clear, latched := false, settle := 0, bad := 0, good := 0 }
  let m := t.modMonitor c fun m => { m with reference := none }
  have hund : (t.ch c).undetected = (s.ch c).undetected := eachDetector_undetected ..
  have hdet : ∀ det, (m.ch c).detState det = { phase := .clear, latched := false, settle := 0, bad := 0, good := 0 } := fun det => by
    have : (m.ch c).detState det = (t.ch c).detState det := by simp [m, Channel.detState]
    rw [this]
    exact eachDetector_detState ..
  have hcontrol : (t.ch c).control = (s.ch c).control := by
    have := congrArg (fun x : Channel => x.control) hund
    exact this
  obtain ⟨hch, hcounter⟩ := evaluate_out (s := m) (c := c) (by rw [State.ch_modMonitor_same, ← hs, ← hcontrol])
    (evaluate_healthy fun det _ => ⟨by rw [hdet], by rw [hdet]⟩) .service
  refine ⟨?_, fun det => ?_, fun key hkey => ?_⟩
  · have hm : (m.ch c).undetected = { s.ch c with monitor := { (s.ch c).monitor with reference := none } }.undetected := by
      rw [State.ch_modMonitor_same]
      exact congrArg (fun x : Channel => { x with monitor := { x.monitor with reference := none } }) hund
    exact (congrArg Channel.undetected hch).trans
      (congrArg (fun x : Channel => { x with monitor := { x.monitor with verdict := .healthy } }) hm)
  · exact (congrArg (fun x : Channel => x.detState det) hch).trans (hdet det)
  · refine (hcounter key hkey).trans ?_
    rw [State.counter_modMonitor]
    exact List.foldlRecOn (motive := fun u : State => u.counter key = s.counter key) Detector.all _ rfl fun u hu det _ => by
      rw [State.modDetector, State.counter_modMonitor, hu]

/-- No operation on the slates counts on a channel. -/
theorem State.abandonCaptures_counter (s : State) (c c' : Chan) (k : ChanCtr) :
    (s.abandonCaptures c).counter (.chan c' k) = s.counter (.chan c' k) := by
  refine List.foldlRecOn (motive := fun u : State => u.counter (.chan c' k) = s.counter (.chan c' k)) slateIndices _ rfl fun u hu i _ => ?_
  split
  · split
    · rw [← hu]
      unfold State.endCapture State.captureReply State.reply
      split <;> [rw [State.counter_send, State.counter_bump]; rw [State.counter_bump]] <;> rw [if_neg (by simp), State.counter_modSlate]
    · exact hu
  · exact hu

theorem CueContext.emptied {x : CueContext} (h : x.pendingCue = none) (k : x.playing = none) : { x with pendingCue := none, playing := none } = x := by
  obtain ⟨p, q, n, w, l⟩ := x
  dsimp only at h k
  rw [h, k]

/-- R124: the channel record at an exit, its cues and its ring. -/
theorem State.controlExit_ch (s : State) (c : Chan) :
    (s.controlExit c).ch c =
      { s.ch c with
        control :=
          { (s.ch c).control with
            mode := .outOfService, state := .outOfService, pin := .none, cause := none, returnOrigin := none, guard := none, returnPosition := none
            suspended := false, awaitingRecue := false, current := none
            ring := (s.ch c).control.ring.map fun r => if (s.ch c).control.current = some r.sequence then abandonPending r else r }
        cue := { ((s.endCues c).ch c).cue with pendingCue := none, playing := none }
        output := { (s.ch c).output with delivered := .outOfService } } := by
  have hcue := (CueOnly.refl c s).endCues
  have hended : ((s.endCues c).ch c).cue.pendingCue = none ∧ ((s.endCues c).ch c).cue.playing = none := by
    have := s.cv_endCues c
    exact ⟨congrArg CueView.waiting this, congrArg CueView.playing this⟩
  have hch : (s.endCues c).ch c = { s.ch c with cue := { ((s.endCues c).ch c).cue with pendingCue := none, playing := none } } := by
    rw [CueContext.emptied hended.1 hended.2]
    exact congrArg (fun x : Channel => { x with cue := ((s.endCues c).ch c).cue }) hcue.channel
  unfold State.controlExit State.setState
  dsimp only
  rw [State.modRecord_eq]
  simp only [State.ch_modOutput_same, State.ch_modControl_same, hcue.control, hcue.output]
  rw [hch]

theorem State.leaveService_leaves (s : State) (c : Chan) :
    ((s.leaveService c).ch c).undetected =
      ({ ((s.controlExit c).ch c).vacated with
        output := { ((s.controlExit c).ch c).output with lastCategory := none, lastTag := none, ramp := .idle, sending := none, waiting := none }
        work := { ((s.controlExit c).ch c).work with ramp := false }
        monitor := { (s.ch c).monitor with reference := none, verdict := .healthy } } : Channel).undetected ∧
      (∀ det, ((s.leaveService c).ch c).detState det = { phase := .clear, latched := false, settle := 0, bad := 0, good := 0 }) ∧
      (s.leaveService c).counter (.chan c .outputOverruns) = s.counter (.chan c .outputOverruns) := by
  have hq : (((s.controlExit c).alignExit c).clearOutput c).ch c =
      { ((s.controlExit c).ch c).vacated with
        output := { ((s.controlExit c).ch c).output with lastCategory := none, lastTag := none, ramp := .idle, sending := none, waiting := none }
        work := { ((s.controlExit c).ch c).work with ramp := false } } := by
    rw [State.alignExit_eq]
    unfold State.clearOutput
    simp only [State.ch_modWork_same, State.ch_modOutput_same, State.abandonCaptures_ch, State.ch_modCh_same]
    rfl
  have hstate : ((((s.controlExit c).alignExit c).clearOutput c).ch c).control.state = .outOfService := by
    rw [hq, State.controlExit_ch]
    rfl
  obtain ⟨hund, hdet, hcounter⟩ := monitorExit_leaves hstate
  refine ⟨hund.trans ?_, hdet, (hcounter _ (by simp)).trans ?_⟩
  · rw [hq]
    have : ((s.controlExit c).ch c).monitor = (s.ch c).monitor := by rw [State.controlExit_ch]
    unfold Channel.vacated
    rw [this]
  · rw [State.alignExit_eq]
    unfold State.clearOutput
    rw [State.counter_modWork, State.counter_modOutput, State.abandonCaptures_counter]
    unfold State.controlExit State.setState
    dsimp only
    rw [State.counter_modCh, State.counter_modOutput, State.counter_modControl, State.counter_modControl, modRecord_counter,
      (CueOnly.refl c s).endCues.counters _ rfl]

/-! ## SET_SERVICE -/

theorem exec_setService (h : Named s .console rx c) (mode : Nat) :
    exec (.setService rx mode) s =
      let x := (s.heard rx).commandSetService c mode
      .next (x.1.answered .console rx 0x20 x.2 (x.1.commandAnswer c x.2 (!s.inService c && x.1.inService c))) :=
  congrArg Host.Outcome.next (named_channel h (.setService mode) rfl)

/-- SET_SERVICE that leaves every channel in service in service, and takes none into it. -/
theorem exec_setService_settled (h : Named s .console rx c) {mode : Nat} (hrun : (s.heard rx).commandSetService c mode = (t, .accepted))
    (hin : t.inService c = true → s.inService c = true) :
    exec (.setService rx mode) s = .next (t.acceptedFor .console rx 0x20 c) :=
  congrArg Host.Outcome.next (named_accepted (k := .setService mode) h rfl hrun hin)

theorem commandSetService_mode (hin : s.inService c = true) {mode : Nat} {m : ServiceMode} (hm : mode = 0 ∧ m = .monitor ∨ mode = 1 ∧ m = .protected_) :
    s.commandSetService c mode = (s.modControl c fun y => { y with mode := m }, .accepted) := by
  rcases hm with ⟨rfl, rfl⟩ | ⟨rfl, rfl⟩ <;> exact if_pos hin

theorem commandSetService_enters (hin : s.inService c = false) {mode : Nat} {m : ServiceMode} (hm : mode = 0 ∧ m = .monitor ∨ mode = 1 ∧ m = .protected_) :
    s.commandSetService c mode = (s.enterService c m, .accepted) := by
  rcases hm with ⟨rfl, rfl⟩ | ⟨rfl, rfl⟩ <;> exact if_neg (by simp [hin])

theorem commandSetService_out (s : State) (c : Chan) :
    s.commandSetService c 2 = (if s.inService c then s.leaveService c else s, .accepted) := by
  change (if s.inService c then (s.leaveService c, Result.accepted) else (s, .accepted)) = _
  split <;> rfl

theorem commandSetService_unknown (s : State) (c : Chan) {mode : Nat} (h : 3 ≤ mode) : s.commandSetService c mode = (s, .badValue) := by
  obtain ⟨k, rfl⟩ := Nat.exists_eq_add_of_le' h
  rfl

/-- What two channels that differ in their detectors alone share. -/
theorem Channel.undetected_fields {x y : Channel} (h : x.undetected = y.undetected) :
    x.control = y.control ∧ x.align = y.align ∧ x.slots = y.slots ∧ x.schedule = y.schedule ∧ x.cue = y.cue ∧ x.output = y.output ∧
      x.monitor.reference = y.monitor.reference ∧ x.monitor.verdict = y.monitor.verdict :=
  have fields {α : Type} (g : Channel → α) : g x.undetected = g y.undetected := by rw [h]
  ⟨fields fun z => z.control, fields fun z => z.align, fields fun z => z.slots, fields fun z => z.schedule, fields fun z => z.cue,
    fields fun z => z.output, fields fun z => z.monitor.reference, fields fun z => z.monitor.verdict⟩

/-- Settles O45. -/
theorem setServiceEntersAndLeaves : Obligations.SetServiceEntersAndLeaves := by
  unfold Obligations.SetServiceEntersAndLeaves
  intro s rx c h
  refine ⟨fun mode m hm => ⟨fun hs => ?_, fun hs hl => ?_⟩, fun mode hmode => ?_, rfl, fun hs => ?_, fun hs => ?_⟩
  · have hin : (s.heard rx).inService c = true := (inService_iff _ c).2 (by simpa using hs)
    refine exec_setService_settled h (commandSetService_mode hin hm) fun _ => (inService_iff s c).2 hs
  · have hin : (s.heard rx).inService c = false := by simpa [State.inService] using hs
    obtain ⟨hund, hdet⟩ := (s.heard rx).entered_undetected (c := c) (by simpa using hl) m
    obtain ⟨hcontrol, halign, -, hschedule, -, houtput, hreference, -⟩ := Channel.undetected_fields hund
    refine ⟨_, (exec_setService h mode).trans (by rw [commandSetService_enters hin hm]), ?_⟩
    rw [answered_ch, hcontrol, halign, hschedule, houtput, hreference]
    simp only [State.entered, State.controlEntry, State.alignEntry, State.clearOutput, State.setState, State.ch_modWork_same, State.ch_modOutput_same,
      State.ch_modAlign_same, State.ch_modControl_same, State.modOutput_time, State.modControl_time, State.heard_time, State.heard_ch, State.wrap, State.cycle, true_and]
    refine fun det hon hpos => ?_
    have hcfg : ((s.ch c).detCfg det).enabled = true := hon
    rw [hdet, State.heard_ch, if_pos hcfg]
    exact ⟨if_neg (Nat.pos_iff_ne_zero.1 hpos), rfl⟩
  · exact congrArg Host.Outcome.next (named_refused (k := .setService mode) h rfl (commandSetService_unknown _ c hmode) (by decide))
  · have hin : (s.heard rx).inService c = false := by simpa [State.inService] using hs
    exact exec_setService_settled h (t := s.heard rx) ((commandSetService_out _ c).trans (by rw [hin]; rfl)) (by rw [hin]; nofun)
  · have hin : (s.heard rx).inService c = true := (inService_iff _ c).2 (by simpa using hs)
    obtain ⟨hund, hdet, hcounter⟩ := (s.heard rx).leaveService_leaves c
    obtain ⟨hcontrol, halign, hslots, hschedule, hcue, houtput, -, hverdict⟩ := Channel.undetected_fields hund
    refine ⟨_, (exec_setService h 2).trans (by rw [commandSetService_out, if_pos hin]), ?_⟩
    simp only [answered_ch, hcontrol, halign, hslots, hschedule, hcue, houtput, hverdict, State.controlExit_ch, Channel.vacated, State.heard_ch, true_and]
    refine ⟨hdet, ?_, ?_, fun c' hc => ?_⟩
    · simp only [abandonPending, ite_and]
    · rw [answered_counter, hcounter, heard_counter]
    · rw [(s.heard rx).leaveService_others hc, State.heard_ch]

end Sys2Proof.Machine

/-! PROOFS. A governing event placed in a list (R106). -/

namespace Sys2Proof.Machine

-- Each elaboration thread takes a large stack, and the text is compiled as one file under a memory limit: one thread at a time.
set_option Elab.async false

/-! ## What a governing event leaves of one event -/

/-- Whether a governing event cuts the tail of an event. -/
def tailCutBy (x y : Event) : Bool := decide (y.start < x.start ∧ x.start < y.finish)

/-- Whether a governing event cuts the head of an event: it meets the head alone, and the material can begin later. -/
def headCutBy (x y : Event) : Bool :=
  decide (x.start ≤ y.start ∧ y.start < x.finish ∧ x.finish < y.finish) &&
    match y.material with
    | .fixed _ _ => false
    | .live _ => true
    | .clip _ i => decide (i + (x.finish - y.start) ≤ 4294967295)

theorem trimmedBy_iff {x y : Event} (hx : 1 ≤ x.duration) (hy : 1 ≤ y.duration) : trimmedBy x y = (tailCutBy x y || headCutBy x y) := by
  rcases overlap_cases x y with hap | ⟨h1, h2⟩ | ⟨h1, h2⟩ | ⟨h1, h2, h3⟩
  · have htail : tailCutBy x y = false := decide_eq_false (by unfold Apart Event.finish at *; omega)
    have hhead : ¬(x.start ≤ y.start ∧ y.start < x.finish ∧ x.finish < y.finish) := by unfold Apart Event.finish at *; omega
    rw [trimmedBy, overlap_of_apart hap, htail, headCutBy, decide_eq_false hhead] <;> rfl
  · have htail : tailCutBy x y = false := decide_eq_false (by omega)
    have hhead : ¬(x.start ≤ y.start ∧ y.start < x.finish ∧ x.finish < y.finish) := by omega
    rw [trimmedBy, overlap_of_covered hy h1 h2, htail, headCutBy, decide_eq_false hhead] <;> rfl
  · rw [trimmedBy, overlap_of_tail hx h1 h2, tailCutBy, decide_eq_true ⟨h1, h2⟩] <;> rfl
  · have htail : tailCutBy x y = false := decide_eq_false (by omega)
    rw [trimmedBy, overlap_of_head h1 h2 h3, htail, headCutBy, decide_eq_true ⟨h1, h2, h3⟩]
    cases y.material with
    | clip name i =>
      by_cases hi : i + (x.finish - y.start) ≤ 4294967295 <;> simp [Material.cutHead, hi]
    | fixed name i => rfl
    | live source => rfl

/-- What stands of an event whose head a governing event meets. -/
theorem survivor_of_head {x y : Event} (h1 : x.start ≤ y.start) (h2 : y.start < x.finish) (h3 : x.finish < y.finish) :
    survivor x y = (y.material.cutHead (x.finish - y.start)).map fun m =>
      { y with start := x.finish, duration := y.finish - x.finish, material := m, headTrimmed := true } := by
  have hduration : y.duration - (x.finish - y.start) = y.finish - x.finish := by unfold Event.finish at *; omega
  rw [survivor, overlap_of_head h1 h2 h3, hduration]
  cases y.material.cutHead (x.finish - y.start) <;> rfl

/-! ## One governing event in a list -/

section
variable {x : Event} {l : List Event}

theorem placeEvents_one (x : Event) (l : List Event) (own : List Item) :
    (placeEvents [x] l own).events = insertEvent x (l.filterMap (survivor x)) := (placeEvents_spec [x] l own).1

theorem mem_placeEvents_one {e : Event} : e ∈ (placeEvents [x] l []).events ↔ e = x ∨ ∃ y ∈ l, survivor x y = some e := by
  rw [placeEvents_one, mem_insertEvent, List.mem_filterMap]

/-- An event of which nothing stands has left the list. -/
theorem not_mem_placeEvents_one (hx : 1 ≤ x.duration) (hid : x.id ∉ l.map Event.id) (h : Ordered l) {y : Event} (hy : y ∈ l) (hs : survivor x y = none) :
    y.id ∉ (placeEvents [x] l []).events.map Event.id := by
  intro hmem
  obtain ⟨e, he, heq⟩ := List.mem_map.1 hmem
  rcases mem_placeEvents_one.1 he with rfl | ⟨z, hz, hze⟩
  · exact hid (heq ▸ List.mem_map_of_mem hy)
  · have := h.eq_of_id hz hy ((survivor_spec hx (h.2 z hz) hze).1.symm.trans heq)
    rw [this, hs] at hze
    cases hze

end

/-- Settles O35. -/
theorem overlapResolution : Obligations.OverlapResolution := by
  unfold Obligations.OverlapResolution
  intro x l h hx hid
  dsimp only
  have hlength := placeEvents_length [x] l []
  obtain ⟨-, -, htrims⟩ := placeEvents_spec [x] l []
  have stays : ∀ {y e : Event}, y ∈ l → survivor x y = some e → e ∈ (placeEvents [x] l []).events :=
    fun hy he => mem_placeEvents_one.2 (.inr ⟨_, hy, he⟩)
  have leaves : ∀ {y : Event}, y ∈ l → survivor x y = none → y.id ∉ (placeEvents [x] l []).events.map Event.id :=
    fun hy hs => not_mem_placeEvents_one hx hid h hy hs
  refine ⟨placeEvents_ordered [] (ordered_singleton hx) h fun z hz y hy hyz => hid ?_, mem_placeEvents_one.2 (.inl rfl), hlength, ?_, fun y hy => ⟨?_, ?_, ?_, ?_⟩⟩
  · rw [← List.mem_singleton.1 hz, ← hyz]
    exact List.mem_map_of_mem hy
  · rw [htrims, trimsOf, trimsOf, Nat.add_zero]
    exact List.countP_congr fun y hy => by rw [trimmedBy_iff hx (h.2 y hy)]; rfl
  · intro hap
    exact stays hy (by rw [survivor, overlap_of_apart hap])
  · intro h1 h2
    exact leaves hy (by rw [survivor, overlap_of_covered (h.2 y hy) h1 h2])
  · intro h1 h2
    exact stays hy (by rw [survivor, overlap_of_tail hx h1 h2])
  · intro h1 h2 h3
    have hsurvivor := survivor_of_head h1 h2 h3
    cases hm : y.material with
    | fixed name i => exact leaves hy (hsurvivor.trans (by rw [hm]; rfl))
    | live source => exact stays hy (hsurvivor.trans (by rw [hm]; rfl))
    | clip name i =>
      dsimp only
      split <;> rename_i hi
      · exact stays hy (hsurvivor.trans (by rw [hm, Material.cutHead, if_pos hi]; rfl))
      · exact leaves hy (hsurvivor.trans (by rw [hm, Material.cutHead, if_neg hi]; rfl))

end Sys2Proof.Machine

/-! PROOFS. The five amendments on a list in order (R101 to R105): every refusal, and the list given. -/

namespace Sys2Proof.Machine

-- Each elaboration thread takes a large stack, and the text is compiled as one file under a memory limit: one thread at a time.
set_option Elab.async false

/-! ## Governing events that meet none -/

theorem insertEvent_of_first {e : Event} {l : List Event} (h : ∀ y ∈ l, e.start ≤ y.start) : insertEvent e l = e :: l := by
  cases l with
  | nil => rfl
  | cons y l => exact if_pos (h y List.mem_cons_self)

/-- A governing event that meets none of a list leaves every event of it untouched. -/
theorem governAll_apart {x : Event} {p : Placing} (h : ∀ t ∈ p.events, ∀ y, t.now = some y → Apart y x) : governAll x p = p := by
  have key : ∀ (l : List Touched) (acc : Placing), (∀ t ∈ l, ∀ y, t.now = some y → Apart y x) →
      l.foldl (govern x) acc = { acc with events := acc.events ++ l } := by
    intro l
    induction l with
    | nil => intro acc _; simp
    | cons t l ih =>
      intro acc hall
      have hone : govern x acc t = { acc with events := acc.events ++ [t] } := by
        unfold govern
        cases hnow : t.now with
        | none => rfl
        | some y => simp only [overlap_of_apart (hall t List.mem_cons_self y hnow)]
      rw [List.foldl_cons, hone, ih _ fun u hu => hall u (List.mem_cons_of_mem _ hu)]
      simp
  exact key p.events _ h

theorem placeEvents_none (others : List Event) (own : List Item) :
    placeEvents [] others own = { events := others, items := own.foldl (fun l x => insertItem x l) [], removals := 0, trims := 0 } := by
  simp [placeEvents, List.filterMap_map, Function.comp_def, Touched.item]

/-- R106: a governing event that meets none of a list joins it. -/
theorem placeEvents_apart {e : Event} {others : List Event} (h : ∀ y ∈ others, Apart y e) (own : List Item) :
    placeEvents [e] others own = { events := insertEvent e others, items := own.foldl (fun l x => insertItem x l) [], removals := 0, trims := 0 } := by
  unfold placeEvents
  dsimp only [List.foldl_cons, List.foldl_nil]
  rw [governAll_apart]
  · simp [List.filterMap_map, Function.comp_def, Touched.item]
  · intro t ht y hy
    obtain ⟨z, hz, rfl⟩ := List.mem_map.1 ht
    exact Option.some.inj hy ▸ h z hz

/-- Governing events that meet none of a list trim nothing of it. -/
theorem governed_apart {governing others : List Event} (h : ∀ x ∈ governing, ∀ y ∈ others, Apart y x) :
    governed governing others = others ∧ trimsOf governing others = 0 := by
  induction governing with
  | nil => exact ⟨rfl, rfl⟩
  | cons x rest ih =>
    obtain ⟨h1, h2⟩ := ih fun z hz => h z (List.mem_cons_of_mem _ hz)
    have hx := h x List.mem_cons_self
    have hstay := filterMap_survivor_of_apart hx
    refine ⟨?_, ?_⟩
    · rw [governed, List.foldl_cons, hstay]
      exact h1
    · rw [trimsOf, hstay, h2, Nat.add_zero]
      exact List.countP_eq_zero.2 fun y hy => by rw [trimmedBy, overlap_of_apart (hx y hy)]; simp

/-! ## Governing events taken one at a time -/

/-- A later governing event meets the others of a list alike, before and after an earlier one joins it. -/
theorem survivors_insertEvent {x y : Event} {l : List Event} (hy : 1 ≤ y.duration) (hl : Ordered l) (hap : ∀ e ∈ l, Apart e x) (hxy : x.finish ≤ y.start) :
    (insertEvent x l).filterMap (survivor y) = insertEvent x (l.filterMap (survivor y)) := by
  have hstays : ∀ e : Event, e.finish ≤ y.start → survivor y e = some e := fun e he => by rw [survivor, overlap_of_apart (.inl he)]
  induction l with
  | nil => exact List.filterMap_cons_some (hstays x hxy)
  | cons e l ih =>
    obtain ⟨hall, hdur, hl'⟩ := ordered_cons.1 hl
    have hfirst := hap e List.mem_cons_self
    by_cases he : x.start ≤ e.start
    · have hlater : ∀ z ∈ (e :: l).filterMap (survivor y), x.start ≤ z.start := fun z hz => by
        obtain ⟨w, hw, hwz⟩ := List.mem_filterMap.1 hz
        have hfrom := (survivor_spec hy (hl.2 w hw) hwz).2.1
        rcases List.mem_cons.1 hw with rfl | hw
        · omega
        · have := (hall w hw).1
          unfold Event.finish at this
          omega
      rw [insertEvent_of_first hlater, insertEvent, if_pos he, List.filterMap_cons_some (hstays x hxy)]
    · have hbefore : e.finish ≤ y.start := by unfold Apart Event.finish at *; omega
      rw [insertEvent, if_neg he, List.filterMap_cons_some (hstays e hbefore), List.filterMap_cons_some (hstays e hbefore), insertEvent, if_neg he,
        ih hl' fun z hz => hap z (List.mem_cons_of_mem _ hz)]

theorem governed_insertEvent {x : Event} {rest l : List Event} (hr : ∀ y ∈ rest, 1 ≤ y.duration ∧ x.finish ≤ y.start) (hl : Ordered l)
    (hap : ∀ e ∈ l, Apart e x) : governed rest (insertEvent x l) = insertEvent x (governed rest l) := by
  induction rest generalizing l with
  | nil => rfl
  | cons y rest ih =>
    obtain ⟨hy, hxy⟩ := hr y List.mem_cons_self
    have hkept : ∀ e ∈ l.filterMap (survivor y), Apart e x := fun e he => by
      obtain ⟨z, hz, hze⟩ := List.mem_filterMap.1 he
      obtain ⟨-, hs, hf, -⟩ := survivor_spec hy (hl.2 z hz) hze
      have := hap z hz
      unfold Apart at *
      omega
    have := ih (fun z hz => hr z (List.mem_cons_of_mem _ hz)) (hl.survivors hy) hkept
    rw [governed, governed, List.foldl_cons, List.foldl_cons, survivors_insertEvent hy hl hap hxy]
    exact this

/-- R105: governing events in order, placed one after another, give what they give together. -/
theorem placeEvents_each {governing others : List Event} (hg : Ordered governing) (ho : Ordered others) (hid : ∀ x ∈ governing, ∀ e ∈ others, e.id ≠ x.id)
    (own : List Item) :
    (placeEvents governing others own).events = governing.foldl (fun placed y => (placeEvents [y] placed []).events) others := by
  rw [(placeEvents_spec governing others own).1]
  induction governing generalizing others with
  | nil => rfl
  | cons x rest ih =>
    obtain ⟨hall, hdur, hrest⟩ := ordered_cons.1 hg
    have hlater := fun y (hy : y ∈ rest) => (⟨hrest.2 y hy, (hall y hy).1⟩ : 1 ≤ y.duration ∧ x.finish ≤ y.start)
    have hsurvive := ho.survivors hdur
    have hclear := survivors_apart hdur ho
    have hids : ∀ e ∈ others.filterMap (survivor x), ∀ z, (∀ w ∈ others, w.id ≠ z) → e.id ≠ z := fun e he z hz => by
      obtain ⟨w, hw, heq⟩ := List.mem_map.1 (survivors_ids hdur ho he)
      exact heq ▸ hz w hw
    have hinsert : Ordered (insertEvent x (others.filterMap (survivor x))) :=
      hsurvive.insertEvent hdur hclear fun e he => hids e he _ (hid x List.mem_cons_self)
    have hstep := ih hrest hinsert fun y hy e he => by
      rcases mem_insertEvent.1 he with rfl | he
      · exact (hall y hy).2
      · exact hids e he _ (hid y (List.mem_cons_of_mem _ hy))
    rw [List.foldl_cons, List.foldl_cons, placeEvents_one, ← hstep, governed_insertEvent hlater hsurvive hclear]
    rfl

/-- Events in order, all of them after a list, join it at its end. -/
theorem foldl_insertEvent_of_last {governing l : List Event} (hg : Ordered governing) (h : ∀ x ∈ governing, ∀ y ∈ l, y.start < x.start) :
    governing.foldl (fun l e => insertEvent e l) l = l ++ governing := by
  induction governing generalizing l with
  | nil => exact (List.append_nil l).symm
  | cons x rest ih =>
    obtain ⟨hall, hdur, hrest⟩ := ordered_cons.1 hg
    rw [List.foldl_cons, insertEvent_of_last (h x List.mem_cons_self), ih hrest, List.append_assoc, List.singleton_append]
    intro z hz y hy
    rcases List.mem_append.1 hy with hy | hy
    · exact h z (List.mem_cons_of_mem _ hz) y hy
    · have := (hall z hz).1
      rw [List.mem_singleton.1 hy]
      unfold Event.finish at this
      omega

/-- Governing events in order that come after every other event. -/
theorem placeEvents_last {governing others : List Event} (hg : Ordered governing) (ho : ∀ y ∈ others, 1 ≤ y.duration)
    (h : ∀ x ∈ governing, ∀ y ∈ others, y.finish ≤ x.start) (own : List Item) :
    (placeEvents governing others own).events = others ++ governing ∧ (placeEvents governing others own).removals = 0 ∧
      (placeEvents governing others own).trims = 0 := by
  obtain ⟨h1, h2, h3⟩ := placeEvents_spec governing others own
  obtain ⟨k1, k2⟩ := governed_apart (governing := governing) (others := others) fun x hx y hy => .inl (h x hx y hy)
  rw [k1] at h1 h2
  refine ⟨h1.trans (foldl_insertEvent_of_last hg fun x hx y hy => ?_), by omega, h3.trans k2⟩
  have := h x hx y hy
  have := ho y hy
  unfold Event.finish at *
  omega

/-! ## The amendments, one by one -/

section
variable {r : Rate} {edge : Int} {free : Nat} {l : List Event} {c : EventCarried} {e old : Event} {id n : Nat} {delta : Int}

theorem applyInsert_of_wellFormed (he : wellFormedEvent r c = .ok e) :
    applyInsert r edge free l c =
      (let x := placeEvents [e] l [addedItem e]
      if (findEvent l e.id).isSome then .error .duplicateId
      else if inPast edge e then .error .inPast
      else if 1024 < x.events.length then .error .listFull
      else if free + x.removals < 1 then .error .poolFull
      else .ok x) := by
  unfold applyInsert
  rw [he]

theorem inPast_iff : inPast edge e = true ↔ (e.finish : Int) ≤ edge := by simp [inPast]

/-- R101: the insertion of a new event that is not past. -/
theorem applyInsert_new (he : wellFormedEvent r c = .ok e) (hid : e.id ∉ l.map Event.id) (hp : edge < e.finish) :
    (1024 < (placeEvents [e] l []).events.length → applyInsert r edge free l c = .error .listFull) ∧
      ((placeEvents [e] l []).events.length ≤ 1024 → free + (placeEvents [e] l []).removals = 0 → applyInsert r edge free l c = .error .poolFull) ∧
      ((placeEvents [e] l []).events.length ≤ 1024 → 1 ≤ free + (placeEvents [e] l []).removals →
        applyInsert r edge free l c = .ok (placeEvents [e] l [addedItem e])) := by
  have hfind : ¬(findEvent l e.id).isSome = true := fun h => hid (findEvent_isSome.1 h)
  have hpast : ¬inPast edge e = true := fun h => by have := inPast_iff.1 h; omega
  have hevents : (placeEvents [e] l [addedItem e]).events = (placeEvents [e] l []).events := rfl
  have hremovals : (placeEvents [e] l [addedItem e]).removals = (placeEvents [e] l []).removals := rfl
  rw [applyInsert_of_wellFormed he]
  dsimp only
  rw [if_neg hfind, if_neg hpast, hevents, hremovals]
  refine ⟨fun h => if_pos h, fun h k => ?_, fun h k => ?_⟩
  · rw [if_neg (by omega), if_pos (by omega)]
  · rw [if_neg (by omega), if_neg (by omega)]

theorem applyReplace_of_mem (h : Ordered l) (he : wellFormedEvent r c = .ok e) (ho : old ∈ l) :
    applyReplace r edge l old.id c =
      if e.id ≠ old.id ∧ (findEvent l e.id).isSome then .error .duplicateId
      else if inPast edge e then .error .inPast
      else .ok (placeEvents [e] (withoutEvent l old.id) [removedItem old, addedItem e]) := by
  unfold applyReplace
  rw [he]
  dsimp only
  rw [findEvent_of_mem h ho]

/-- R102: the replacement by an event that is not past, under the same id or a new one. -/
theorem applyReplace_new (h : Ordered l) (he : wellFormedEvent r c = .ok e) (ho : old ∈ l) (hid : e.id = old.id ∨ e.id ∉ l.map Event.id)
    (hp : edge < e.finish) :
    applyReplace r edge l old.id c = .ok (placeEvents [e] (withoutEvent l old.id) [removedItem old, addedItem e]) := by
  have hdup : ¬(e.id ≠ old.id ∧ (findEvent l e.id).isSome) := fun ⟨hne, hin⟩ => hid.elim hne fun hnot => hnot (findEvent_isSome.1 hin)
  have hpast : ¬inPast edge e = true := fun h => by have := inPast_iff.1 h; omega
  rw [applyReplace_of_mem h he ho, if_neg hdup, if_neg hpast]

theorem applyTrim_of_mem (h : Ordered l) (he : e ∈ l) (h1 : 1 ≤ n) (h2 : n ≤ r.fday) :
    applyTrim r edge l e.id n =
      if inPast edge { e with duration := n } then .error .inPast
      else if n = e.duration then .ok { events := l, items := [], removals := 0, trims := 0 }
      else
        .ok (placeEvents [{ e with duration := n }] (withoutEvent l e.id)
          [{ id := e.id, change := .resized, before := some e.range, after := some (Event.range { e with duration := n }) }]) := by
  unfold applyTrim
  rw [if_neg (by omega), findEvent_of_mem h he]

/-- Whether every event of a set may be moved by a delta (R105). -/
def Movable (r : Rate) (delta : Int) (set : List Event) : Prop := ∀ y ∈ set, 0 ≤ (y.start : Int) + delta ∧ (y.start : Int) + delta < r.cycle

theorem applyShift_of_mem (h : Ordered l) (he : e ∈ l) (h1 : -(r.fday : Int) ≤ delta) (h2 : delta ≤ r.fday) :
    let set := l.filter fun y => e.start ≤ y.start
    let outside := l.filter fun y => y.start < e.start
    (¬Movable r delta set → applyShift r edge l e.id delta = .error .badTime) ∧
      (Movable r delta set → applyShift r edge l e.id delta =
        if inPast edge (shiftEvent delta e) then .error .inPast
        else if delta = 0 then .ok { events := l, items := [], removals := 0, trims := 0 }
        else
          .ok (placeEvents (set.map (shiftEvent delta)) outside
            (set.map fun y => { id := y.id, change := .moved, before := some y.range, after := some (shiftEvent delta y).range }))) := by
  have hmovable : (l.filter fun y => e.start ≤ y.start).any (fun y => (y.start : Int) + delta < 0 || (r.cycle : Int) ≤ (y.start : Int) + delta) = true ↔
      ¬Movable r delta (l.filter fun y => e.start ≤ y.start) := by
    unfold Movable
    rw [List.any_eq_true]
    simp only [not_forall, Bool.or_eq_true, decide_eq_true_eq, exists_prop]
    exact ⟨fun ⟨y, hy, hbad⟩ => ⟨y, hy, by omega⟩, fun ⟨y, hy, hbad⟩ => ⟨y, hy, by omega⟩⟩
  unfold applyShift
  rw [if_neg (by omega), findEvent_of_mem h he]
  dsimp only
  exact ⟨fun hn => if_pos (hmovable.2 hn), fun hm => if_neg fun hn => hmovable.1 hn hm⟩

theorem shiftEvent_finish (h : 0 ≤ (e.start : Int) + delta) : ((shiftEvent delta e).finish : Int) = (e.finish : Int) + delta := by
  unfold shiftEvent Event.finish
  dsimp only
  omega

end

end Sys2Proof.Machine

/-! PROOFS. What each amendment does to a list, and the reasons for which each is refused. -/

namespace Sys2Proof.Machine

-- Each elaboration thread takes a large stack, and the text is compiled as one file under a memory limit: one thread at a time.
set_option Elab.async false

variable {r : Rate} {edge : Int} {free : Nat} {l : List Event} {c : EventCarried} {e old : Event} {id n : Nat} {delta : Int}

/-- The events of a list from a named one on, and those before it. -/
theorem Ordered.split (h : Ordered l) (he : e ∈ l) :
    l = (l.filter fun y => y.start < e.start) ++ l.filter fun y => e.start ≤ y.start := by
  induction l with
  | nil => rfl
  | cons a l ih =>
    obtain ⟨hall, hdur, hl⟩ := ordered_cons.1 h
    by_cases ha : a.start < e.start
    · have hmem : e ∈ l := by
        rcases List.mem_cons.1 he with rfl | he
        · omega
        · exact he
      rw [List.filter_cons_of_pos (by simpa using ha), List.filter_cons_of_neg (by simpa using ha), List.cons_append, ← ih hl hmem]
    · have hfrom : ∀ y ∈ a :: l, e.start ≤ y.start := fun y hy => by
        rcases List.mem_cons.1 hy with rfl | hy
        · omega
        · have := (hall y hy).1
          unfold Event.finish at this
          omega
      rw [List.filter_eq_nil_iff.2 fun y hy => by simpa using hfrom y hy, List.filter_eq_self.2 fun y hy => by simpa using hfrom y hy, List.nil_append]

/-- R105: the events before a named one end before it. -/
theorem Ordered.before (h : Ordered l) (he : e ∈ l) {y : Event} (hy : y ∈ l.filter fun y => y.start < e.start) : y.finish ≤ e.start := by
  obtain ⟨hyl, hlt⟩ := List.mem_filter.1 hy
  have hlt : y.start < e.start := by simpa using hlt
  have hne : y.id ≠ e.id := fun hid => by rw [h.eq_of_id hyl he hid] at hlt; exact lt_irrefl _ hlt
  have := h.apart hyl he hne
  unfold Apart Event.finish at *
  omega

/-- R105: a shift by a negative delta, and one by a positive delta, that is neither out of the cycle nor past. -/
theorem applyShift_moves (h : Ordered l) (he : e ∈ l) (h1 : -(r.fday : Int) ≤ delta) (h2 : delta ≤ r.fday)
    (hm : Movable r delta (l.filter fun y => e.start ≤ y.start)) (hp : edge < (e.finish : Int) + delta) (h0 : delta ≠ 0) :
    ∃ x, applyShift r edge l e.id delta = .ok x ∧
      x.events = ((l.filter fun y => e.start ≤ y.start).map (shiftEvent delta)).foldl (fun placed y => (placeEvents [y] placed []).events)
        (l.filter fun y => y.start < e.start) ∧
      x.events.length + x.removals = l.length ∧
      ((∀ y ∈ l.filter (fun y => y.start < e.start), (y.finish : Int) ≤ (e.start : Int) + delta) →
        x.events = (l.filter fun y => y.start < e.start) ++ (l.filter fun y => e.start ≤ y.start).map (shiftEvent delta) ∧ x.removals = 0 ∧ x.trims = 0) := by
  have hmem : e ∈ l.filter fun y => e.start ≤ y.start := List.mem_filter.2 ⟨he, by simp⟩
  have hpast : ¬inPast edge (shiftEvent delta e) = true := fun hp' => by
    have := inPast_iff.1 hp'
    rw [shiftEvent_finish (hm e hmem).1] at this
    omega
  have hmoved := (h.filter fun y => e.start ≤ y.start).shift delta fun y hy => (hm y hy).1
  have hid : ∀ x ∈ (l.filter fun y => e.start ≤ y.start).map (shiftEvent delta), ∀ y ∈ l.filter (fun y => y.start < e.start), y.id ≠ x.id := by
    intro x hx y hy hyx
    obtain ⟨z, hz, rfl⟩ := List.mem_map.1 hx
    simp only [List.mem_filter, decide_eq_true_eq] at hz hy
    have := h.eq_of_id hy.1 hz.1 hyx
    subst this
    omega
  refine ⟨_, ((applyShift_of_mem h he h1 h2).2 hm).trans (by rw [if_neg hpast, if_neg h0]), placeEvents_each hmoved (h.filter _) hid _, ?_, fun hbefore => ?_⟩
  · rw [placeEvents_length, List.length_map, length_shift_split]
  · refine placeEvents_last hmoved (h.filter _).2 (fun x hx y hy => ?_) _
    obtain ⟨z, hz, rfl⟩ := List.mem_map.1 hx
    have hstart : e.start ≤ z.start := by simpa using (List.mem_filter.1 hz).2
    have := hbefore y hy
    unfold shiftEvent
    dsimp only
    omega

/-- R105: moving an event of a list and those after it later, each where it stands. -/
theorem moveLater_eq (h : Ordered l) (he : e ∈ l) (n : Nat) :
    (l.map fun y => if e.start ≤ y.start then { y with start := y.start + n } else y) =
      (l.filter fun y => y.start < e.start) ++ (l.filter fun y => e.start ≤ y.start).map (shiftEvent n) := by
  conv_lhs => rw [h.split he, List.map_append]
  congr 1
  · refine (List.map_congr_left fun y hy => ?_).trans (List.map_id _)
    have : y.start < e.start := by simpa using (List.mem_filter.1 hy).2
    exact if_neg (by omega)
  · refine List.map_congr_left fun y hy => ?_
    have hy : e.start ≤ y.start := by simpa using (List.mem_filter.1 hy).2
    rw [if_pos hy, shiftEvent, ← Nat.cast_add, Int.toNat_natCast]

theorem not_inPast_resized (hp : edge < (e.start + n : Nat)) : ¬inPast edge { e with duration := n } = true := fun k => by
  have hfinish : ((e.start + n : Nat) : Int) ≤ edge := inPast_iff.1 k
  omega

/-- Settles O34. -/
theorem amendmentsToAList : Obligations.AmendmentsToAList := by
  unfold Obligations.AmendmentsToAList
  intro r edge free l h
  dsimp only [applyAmendment]
  have hmissing : ∀ {id : Nat}, id ∉ l.map Event.id → findEvent l id = none := fun hid => findEvent_eq_none.2 hid
  refine ⟨fun c e he => ⟨fun hid => ?_, fun hid hp => ?_, fun hid hp => ?_, fun hid hp hclear => ?_⟩, fun c reason hbad => ⟨?_, fun id => ?_⟩, fun id hid => ?_,
    fun e he => ?_, fun c e he => ⟨fun id hid => ?_, fun old ho => ⟨fun hne hid => ?_, fun hid hp => ?_, fun hid hp => ?_⟩⟩,
    ⟨fun id n hn => ?_, fun id n h1 h2 hid => ?_, fun e n he h1 h2 => ⟨fun hp => ?_, fun hp => ⟨fun hn => ?_, fun hn => ?_, fun hn hclear => ?_⟩⟩⟩,
    fun id delta hd => ?_, fun id delta h1 h2 hid => ?_, fun e delta he h1 h2 => ⟨fun hm => ?_, fun hm hp => ?_, fun hm hp => ⟨fun h0 => ?_, fun hneg => ?_⟩⟩,
    fun e delta he h1 h2 hm hp => ?_⟩
  -- INSERT
  · rw [applyInsert_of_wellFormed he]
    exact if_pos (findEvent_isSome.2 hid)
  · rw [applyInsert_of_wellFormed he]
    dsimp only
    rw [if_neg fun hin => hid (findEvent_isSome.1 hin), if_pos (inPast_iff.2 hp)]
  · obtain ⟨hfull, hpool, hok⟩ := applyInsert_new (free := free) he hid hp
    exact ⟨hfull, hpool, fun h1 h2 => ⟨_, hok h1 h2, rfl, rfl, rfl⟩⟩
  · have hplaced : ∀ own, placeEvents [e] l own = _ := fun own => placeEvents_apart (fun y hy => hclear y hy) own
    obtain ⟨hfull, hpool, hok⟩ := applyInsert_new (free := free) he hid hp
    rw [hplaced, hplaced] at *
    dsimp only at *
    rw [length_insertEvent] at *
    exact ⟨fun hl => hfull (by omega), fun hl hf => hpool (by omega) (by omega), fun hl hf => hok (by omega) (by omega)⟩
  -- an event that is not well-formed
  · unfold applyInsert; rw [hbad]
  · unfold applyReplace; rw [hbad]
  -- DELETE
  · unfold applyDelete; rw [hmissing hid]
  · unfold applyDelete
    rw [findEvent_of_mem h he]
    exact congrArg Except.ok (placeEvents_none ..)
  -- REPLACE
  · unfold applyReplace; rw [he]; dsimp only; rw [hmissing hid]
  · rw [applyReplace_of_mem h he ho, if_pos ⟨hne, findEvent_isSome.2 hid⟩]
  · rw [applyReplace_of_mem h he ho, if_neg fun ⟨hne, hin⟩ => hid.elim hne fun hnot => hnot (findEvent_isSome.1 hin), if_pos (inPast_iff.2 hp)]
  · have hok := applyReplace_new h he ho hid hp
    refine ⟨⟨_, hok, rfl, rfl, rfl⟩, fun hclear => ⟨_, hok, ?_⟩⟩
    rw [placeEvents_apart fun y hy => hclear y (mem_withoutEvent.1 hy).1 (mem_withoutEvent.1 hy).2]
    exact ⟨rfl, rfl, rfl⟩
  -- TRIM
  · exact if_pos (by omega)
  · unfold applyTrim; rw [if_neg (by omega), hmissing hid]
  · rw [applyTrim_of_mem h he h1 h2, if_pos (inPast_iff.2 hp)]
  · rw [applyTrim_of_mem h he h1 h2, if_neg (not_inPast_resized hp), if_pos hn]
  · rw [applyTrim_of_mem h he h1 h2, if_neg (not_inPast_resized hp), if_neg hn]
    exact ⟨_, rfl, rfl, rfl, rfl⟩
  · rw [applyTrim_of_mem h he h1 h2, if_neg (not_inPast_resized hp), if_neg hn, placeEvents_apart fun y hy => ?_]
    · rfl
    · obtain ⟨hyl, hid⟩ := mem_withoutEvent.1 hy
      have hap := h.apart hyl he hid
      have := hclear y hyl
      have := h.2 y hyl
      have := h.2 e he
      unfold Apart Event.finish at *
      dsimp only
      omega
  -- SHIFT_FROM
  · exact if_pos hd
  · unfold applyShift; rw [if_neg (by omega), hmissing hid]
  · exact (applyShift_of_mem h he h1 h2).1 hm
  · have hmem : e ∈ l.filter fun y => e.start ≤ y.start := List.mem_filter.2 ⟨he, by simp⟩
    refine ((applyShift_of_mem h he h1 h2).2 hm).trans (if_pos (inPast_iff.2 ?_))
    rw [shiftEvent_finish (hm e hmem).1]
    exact hp
  · have hmem : e ∈ l.filter fun y => e.start ≤ y.start := List.mem_filter.2 ⟨he, by simp⟩
    refine ((applyShift_of_mem h he h1 h2).2 hm).trans ?_
    rw [if_neg fun k => ?_, if_pos h0]
    have := inPast_iff.1 k
    rw [shiftEvent_finish (hm e hmem).1] at this
    omega
  · exact applyShift_moves h he h1 h2 hm hp (by omega)
  · have hmovable : Movable r (delta : Int) (l.filter fun y => e.start ≤ y.start) := fun y hy => by
      have := hm y (List.mem_filter.1 hy).1
      omega
    obtain ⟨x, hx, -, -, hlast⟩ := applyShift_moves h he (by omega) (by omega) hmovable (by exact_mod_cast hp) (by omega)
    obtain ⟨hevents, -, -⟩ := hlast fun y hy => by have := h.before he hy; omega
    exact ⟨x, hx, hevents.trans (moveLater_eq h he delta).symm⟩

end Sys2Proof.Machine

/-! PROOFS. The Schedule Store taken in turn: what a fall behind, a failed snapshot and a repeated RESYNC leave (R109, R111, R112). -/

namespace Sys2Proof.Machine

-- Each elaboration thread takes a large stack, and the text is compiled as one file under a memory limit: one thread at a time.
set_option Elab.async false

variable {s t u : State} {o : Origin} {rx : ControlRx} {c : Chan}

/-! ## Updates of a channel's schedule that commute -/

theorem State.offer_modCh (s : State) (c : Chan) (f : Channel → Channel) (o : Origin) (r : Report) :
    (s.modCh c f).offer o r = (s.offer o r).modCh c f := by
  have hctx : (s.modCh c f).ctx o = s.ctx o := by cases o <;> rfl
  unfold State.offer
  rw [hctx]
  dsimp only
  by_cases h0 : (s.ctx o).levels[(reportKind r).val] = 0
  · rw [if_pos h0, if_pos h0]
  · rw [if_neg h0, if_neg h0]
    by_cases h1 : (s.ctx o).queue.length < admissionLimit (s.ctx o).levels[(reportKind r).val]
    · rw [if_pos h1, if_pos h1]
      cases o <;> rfl
    · rw [if_neg h1, if_neg h1]
      cases o <;> rfl

theorem State.raise_modSchedule (s : State) (c : Chan) (f : Schedule → Schedule) (r : Report) :
    (s.modSchedule c f).raise r = (s.raise r).modSchedule c f := by
  unfold State.raise State.modSchedule
  rw [State.offer_modCh, State.offer_modCh]

theorem State.modSchedule_congr {f g : Schedule → Schedule} (h : f (s.ch c).schedule = g (s.ch c).schedule) : s.modSchedule c f = s.modSchedule c g :=
  State.modCh_congr (congrArg (fun y => { s.ch c with schedule := y }) h)

theorem State.modSchedule_modSchedule (s : State) (c : Chan) (f g : Schedule → Schedule) :
    (s.modSchedule c f).modSchedule c g = s.modSchedule c fun y => g (f y) := State.modCh_modCh ..

theorem State.modSchedule_bumpBy (s : State) (c : Chan) (f : Schedule → Schedule) (k : CounterKey) (n : Nat) :
    (s.bumpBy k n).modSchedule c f = (s.modSchedule c f).bumpBy k n := rfl

theorem State.modSchedule_bump (s : State) (c : Chan) (f : Schedule → Schedule) (k : CounterKey) :
    (s.bump k).modSchedule c f = (s.modSchedule c f).bump k := rfl

theorem State.modSchedule_sendMain (s : State) (c : Chan) (f : Schedule → Schedule) (what : Outgoing) :
    (s.sendMain what).modSchedule c f = (s.modSchedule c f).sendMain what := rfl

/-- The pool counted between two updates of a channel's schedule. -/
theorem State.modSchedule_pool (s : State) (c : Chan) (f g : Schedule → Schedule) (n : Nat) :
    ({ s.modSchedule c f with poolFree := n } : State).modSchedule c g = ({ s with poolFree := n } : State).modSchedule c fun y => g (f y) :=
  State.modSchedule_modSchedule ({ s with poolFree := n } : State) c f g

/-! ## Replication state (R112, R117) -/

theorem setReplication_same (h : (s.ch c).schedule.state = new) (cause : ReplicationCause) : s.setReplication c new cause = s := if_pos h.symm

theorem setReplication_change (h : (s.ch c).schedule.state ≠ new) (cause : ReplicationCause) :
    s.setReplication c new cause =
      ((s.modSchedule c fun x => { x with state := new }).bump (.chan c .replicationChanges)).raise
        (.replication c (s.ch c).schedule.state new s.time.h (s.ch c).schedule.expected cause) := by
  unfold State.setReplication
  dsimp only
  rw [if_neg (Ne.symm h)]
  have : ((((s.modSchedule c fun x => { x with state := new }).bumpCh c .replicationChanges)).ch c).schedule.expected = (s.ch c).schedule.expected := by simp
  rw [this]
  rfl

theorem setReplication_schedule (s : State) (c : Chan) (new : Replication) (cause : ReplicationCause) :
    ((s.setReplication c new cause).ch c).schedule = { (s.ch c).schedule with state := new } := by
  by_cases h : (s.ch c).schedule.state = new
  · rw [setReplication_same h, ← h]
  · rw [setReplication_change h]
    simp

/-- R112: a channel whose state changes falls behind. -/
theorem fallBehind_change (h : (s.ch c).schedule.state ≠ new) (cause : ReplicationCause) :
    s.fallBehind c new cause =
      (((((s.modSchedule c fun x => { x with state := new }).bump (.chan c .replicationChanges)).raise
        (.replication c (s.ch c).schedule.state new s.time.h (s.ch c).schedule.expected cause)).sendMain
          (.resync c (s.ch c).schedule.expected new)).bump (.chan c .resyncsSent)).modSchedule c fun y => { y with resyncTimer := some 0 } := by
  have hschedule := setReplication_schedule s c new cause
  unfold State.fallBehind State.resync
  dsimp only
  rw [hschedule]
  dsimp only
  rw [setReplication_change h]
  rfl

/-! ## A failed snapshot (R109) -/

theorem freeShadow_some {y : Shadow} (h : (s.ch c).schedule.shadow = some y) :
    s.freeShadow c = ({ s with poolFree := s.poolFree + y.events.length } : State).modSchedule c fun x => { x with shadow := none, snapshotTimer := none } := by
  unfold State.freeShadow
  rw [h]

/-- R109: a snapshot in progress fails. -/
theorem failSnapshot_eq {y : Shadow} (hy : (s.ch c).schedule.shadow = some y) (hs : (s.ch c).schedule.state = .rebuilding) (cause : ReplicationCause) :
    let freed := ({ s with poolFree := s.poolFree + y.events.length } : State).modSchedule c fun z =>
      { z with shadow := none, snapshotTimer := none, state := .stale, resyncTimer := some 0 }
    s.failSnapshot c cause =
      ((((freed.bump (.chan c .snapshotsFailed)).bump (.chan c .replicationChanges)).raise
        (.replication c .rebuilding .stale s.time.h (s.ch c).schedule.expected cause)).sendMain
          (.resync c (s.ch c).schedule.expected .stale)).bump (.chan c .resyncsSent) := by
  have hfreed : ∀ f : Schedule → Schedule, (({ s with poolFree := s.poolFree + y.events.length } : State).modSchedule c f).ch c =
      { s.ch c with schedule := f (s.ch c).schedule } := fun f => State.ch_modSchedule_same ..
  have hchange : ((((({ s with poolFree := s.poolFree + y.events.length } : State).modSchedule c fun x =>
      { x with shadow := none, snapshotTimer := none }).bumpCh c .snapshotsFailed).ch c).schedule.state) ≠ .stale := by
    rw [State.ch_bumpCh, hfreed]
    dsimp only
    rw [hs]
    decide
  unfold State.failSnapshot
  rw [freeShadow_some hy, fallBehind_change hchange, State.ch_bumpCh, hfreed]
  dsimp only
  rw [hs, State.modSchedule_bump, State.modSchedule_sendMain, ← State.raise_modSchedule, State.modSchedule_bump, State.modSchedule_modSchedule,
    State.bumpCh, State.modSchedule_bump, State.modSchedule_modSchedule]
  rfl

end Sys2Proof.Machine

/-! PROOFS. The snapshot timeout and the repeated RESYNC (R111, R112). -/

namespace Sys2Proof.Machine

-- Each elaboration thread takes a large stack, and the text is compiled as one file under a memory limit: one thread at a time.
set_option Elab.async false

variable {s t u : State} {c : Chan}

/-- R109, R111, R112: what a snapshot timeout leaves of a part that has its shadow's records back. -/
def State.snapshotExpired (s : State) (c : Chan) (expected : Nat) : State :=
  ((((((s.bump (.chan c .snapshotTimeouts)).modSchedule c fun z =>
    { z with shadow := none, snapshotTimer := none, state := .stale, resyncTimer := some 0 }).bump (.chan c .snapshotsFailed)).bump
      (.chan c .replicationChanges)).raise (.replication c .rebuilding .stale s.time.h expected .snapshotTimeout)).sendMain
        (.resync c expected .stale)).bump (.chan c .resyncsSent)

theorem snapshotExpired_elsewhere (s : State) (c : Chan) (expected : Nat) : Elsewhere c s (s.snapshotExpired c expected) :=
  ((((((((Elsewhere.refl c s).bumpCh _).modSchedule _).bumpCh _).bumpCh _).raise _).send _ _).send _ _).bumpCh _

theorem snapshotExpired_ch (s : State) (c : Chan) (expected : Nat) :
    (s.snapshotExpired c expected).ch c =
      { s.ch c with schedule := { (s.ch c).schedule with shadow := none, snapshotTimer := none, state := .stale, resyncTimer := some 0 } } := by
  simp [State.snapshotExpired]

theorem snapshotExpired_counter (s : State) (c : Chan) (expected : Nat) {k : ChanCtr} (h : k = .snapshotTimeouts ∨ k = .snapshotsFailed ∨ k = .resyncsSent) :
    (s.snapshotExpired c expected).counter (.chan c k) = satAdd (s.counter (.chan c k)) 1 := by
  unfold State.snapshotExpired
  rcases h with rfl | rfl | rfl <;>
    simp [State.counter_bump, State.counter_raise]

theorem snapshotExpired_resync (s : State) (c : Chan) (expected : Nat) (side : Side) :
    ∃ z ∈ (s.snapshotExpired c expected).outbox, z.port = .contribution side ∧ z.what = .resync c expected .stale := by
  cases side
  · exact ⟨_, List.mem_append_left _ (List.mem_append_right _ (List.mem_singleton_self _)), rfl, rfl⟩
  · exact ⟨_, List.mem_append_right _ (List.mem_singleton_self _), rfl, rfl⟩

/-- R111: the snapshot timeout of a channel, when it is due and a snapshot is in progress. -/
theorem doSnapshotTimeout_due_eq (hw : (s.ch c).work.snapshot = true) {y : Shadow} (hy : (s.ch c).schedule.shadow = some y)
    (hs : (s.ch c).schedule.state = .rebuilding) :
    s.doSnapshotTimeout c =
      (({ s with poolFree := s.poolFree + y.events.length } : State).modWork c fun w => { w with snapshot := false }).snapshotExpired c
        (s.ch c).schedule.expected := by
  have hch : (((s.modWork c fun w => { w with snapshot := false }).bumpCh c .snapshotTimeouts).ch c).schedule = (s.ch c).schedule := by simp
  unfold State.doSnapshotTimeout State.expireSnapshot
  rw [if_pos hw, failSnapshot_eq (by rw [hch, hy]) (by rw [hch, hs]), hch]
  rfl

/-- Settles O37. -/
theorem scheduleTimersExpire : Obligations.ScheduleTimersExpire := by
  unfold Obligations.ScheduleTimersExpire
  intro s c
  refine ⟨fun h => ?_, fun h => ?_, fun h => ?_, fun hw y hy hs => ?_⟩
  · exact congrArg Host.Outcome.next (if_neg (by simp [h]))
  · exact congrArg Host.Outcome.next (if_neg (by simp [h]))
  · refine congrArg Host.Outcome.next ((if_pos h).trans ?_)
    have hch : ((s.modWork c fun w => { w with resync := false }).ch c).schedule = (s.ch c).schedule := by simp
    unfold State.resync
    dsimp only
    rw [hch]
    rfl
  · refine ⟨_, congrArg Host.Outcome.next (doSnapshotTimeout_due_eq hw hy hs), ?_⟩
    generalize hv : ({ s with poolFree := s.poolFree + y.events.length } : State).modWork c (fun w => { w with snapshot := false }) = v
    have hch : v.ch c = { s.ch c with work := { (s.ch c).work with snapshot := false } } := by
      rw [← hv, State.ch_modWork_same]
      rfl
    have hcounter : ∀ k, v.counter k = s.counter k := fun k => by rw [← hv]; rfl
    have helse := snapshotExpired_elsewhere v c (s.ch c).schedule.expected
    have hpool : (v.snapshotExpired c (s.ch c).schedule.expected).poolFree = s.poolFree + y.events.length := helse.poolFree.trans (by rw [← hv]; rfl)
    refine ⟨hpool, ?_, ?_, ?_, ?_, fun side => snapshotExpired_resync v c _ side, ?_, ?_⟩
    · rw [snapshotExpired_ch, hch]
    · rw [snapshotExpired_counter v c _ (.inl rfl), hcounter]; rfl
    · rw [snapshotExpired_counter v c _ (.inr (.inl rfl)), hcounter]; rfl
    · rw [snapshotExpired_counter v c _ (.inr (.inr rfl)), hcounter]; rfl
    · rw [hpool]
      have hmodified : Elsewhere c ({ s with poolFree := s.poolFree + y.events.length } : State) v := hv ▸ (Elsewhere.refl c _).modWork _
      exact hmodified.trans helse
    · rw [snapshotExpired_ch, hch]

end Sys2Proof.Machine

/-! PROOFS. Schedule carriers: an amendment judged by its revision (R98, R99, R100, R116). -/

namespace Sys2Proof.Machine

-- Each elaboration thread takes a large stack, and the text is compiled as one file under a memory limit: one thread at a time.
set_option Elab.async false

variable {s t u : State} {o : Origin} {rx : ControlRx} {c : Chan} {revision : Nat} {a : Amendment} {k : ScheduleCarrier}

/-! ## A schedule carrier that is heard -/

theorem heard_schedule (h : Heard s o rx) (k : ScheduleCarrier) :
    s.catchUp.receiveControl rx (.schedule k) 0 = if rx.group then s.heard rx else (s.heard rx).takeScheduleCarrier rx.channel k :=
  receive_heard h _ _

theorem takeScheduleCarrier_none (s : State) (k : ScheduleCarrier) : s.takeScheduleCarrier 255 k = s.bump (.whole .scheduleNoChannel) := rfl

theorem heard_schedule_grouped (h : Heard s o rx) (hg : rx.group = true) (k : ScheduleCarrier) :
    s.catchUp.receiveControl rx (.schedule k) 0 = s.heard rx := by
  rw [heard_schedule h, if_pos hg]

theorem heard_schedule_single (h : Heard s o rx) (hg : rx.group = false) (k : ScheduleCarrier) :
    s.catchUp.receiveControl rx (.schedule k) 0 = (s.heard rx).takeScheduleCarrier rx.channel k := by
  rw [heard_schedule h, if_neg (by simp [hg])]

theorem heard_schedule_whole (h : Heard s o rx) (hg : rx.group = false) (hc : rx.channel = 255) (k : ScheduleCarrier) :
    s.catchUp.receiveControl rx (.schedule k) 0 = (s.heard rx).bump (.whole .scheduleNoChannel) := by
  rw [heard_schedule_single h hg, hc, takeScheduleCarrier_none]

theorem exec_amendment {i : Instr} (hi : amendmentOf i = some (rx, revision, a)) (s : State) :
    exec i s = .next (s.catchUp.receiveControl rx (.schedule (.amendment revision a)) 0) := by
  cases i <;> simp only [amendmentOf, reduceCtorEq, Option.some.injEq, Prod.mk.injEq] at hi <;> obtain ⟨rfl, rfl, rfl⟩ := hi <;> rfl

theorem heard_amendment (h : Heard s o rx) (hg : rx.group = false) (hc : rx.channel = c.val) (revision : Nat) (a : Amendment) :
    s.catchUp.receiveControl rx (.schedule (.amendment revision a)) 0 = (s.heard rx).takeAmendment c revision a := by
  rw [heard_schedule_single h hg]
  unfold State.takeScheduleCarrier
  rw [hc, chanOf_val]

/-! ## The revision (R99) -/

theorem takeAmendment_discarded (h : (s.ch c).schedule.state ≠ .current) : s.takeAmendment c revision a = s.bump (.chan c .amendDiscarded) := by
  unfold State.takeAmendment
  dsimp only
  split
  · rename_i hs; exact absurd hs h
  · rfl

theorem takeAmendment_current (h : (s.ch c).schedule.state = .current) (hd : ((revision : Int) - (s.ch c).schedule.expected) % 65536 ≠ 0) :
    s.takeAmendment c revision a =
      if ((revision : Int) - (s.ch c).schedule.expected) % 65536 ≤ 32767 then (s.bumpCh c .amendGaps).fallBehind c .stale .gap
      else s.bump (.chan c .amendOld) := by
  unfold State.takeAmendment
  dsimp only
  rw [h]
  dsimp only
  rw [if_neg hd]
  rfl

theorem scheduleEdge_modSchedule (s : State) (c : Chan) (f : Schedule → Schedule) : (s.modSchedule c f).scheduleEdge c = s.scheduleEdge c := by
  simp [State.scheduleEdge, State.inService, State.delay]

theorem heard_scheduleEdge (s : State) (rx : ControlRx) (c : Chan) : (s.heard rx).scheduleEdge c = s.scheduleEdge c := by
  simp [State.scheduleEdge, State.delay]

/-- The expected revision advanced (R99), as the amendment taken finds it. -/
theorem modSchedule_advance {next : Nat} (hn : next = ((s.ch c).schedule.expected + 1) % 65536) :
    s.modSchedule c (fun y => { y with expected := (y.expected + 1) % 65536 }) = s.modSchedule c fun y => { y with expected := next } :=
  State.modSchedule_congr (by rw [hn])

/-- R99, R100: the amendment of the expected revision, refused. -/
theorem takeAmendment_refused (h : (s.ch c).schedule.state = .current) (hd : ((revision : Int) - (s.ch c).schedule.expected) % 65536 = 0)
    {next : Nat} (hn : next = ((s.ch c).schedule.expected + 1) % 65536)
    {reason : AmendReason} (hr : applyAmendment s.time.rate (s.scheduleEdge c) s.poolFree ((s.ch c).schedule.live.getD []) a = .error reason) :
    let t := s.modSchedule c fun y => { y with expected := next }
    s.takeAmendment c revision a =
      (((if reason = .poolFull then t.bump (.whole .poolExhaustions) else t).bump (.chan c .refusedAmendments)).sendMain
        (.amendRefused c revision a.code (some a.id) reason)) := by
  unfold State.takeAmendment
  dsimp only
  rw [h]
  dsimp only
  rw [if_pos hd, modSchedule_advance hn, scheduleEdge_modSchedule, State.modSchedule_time, State.modSchedule_poolFree, hr]
  rfl

/-- R99, R100, R116: the amendment of the expected revision, applied. -/
theorem takeAmendment_applied (h : (s.ch c).schedule.state = .current) (hd : ((revision : Int) - (s.ch c).schedule.expected) % 65536 = 0)
    {next : Nat} (hn : next = ((s.ch c).schedule.expected + 1) % 65536)
    {x : Applied} (hx : applyAmendment s.time.rate (s.scheduleEdge c) s.poolFree ((s.ch c).schedule.live.getD []) a = .ok x) :
    s.takeAmendment c revision a =
      (((((({ s with poolFree := s.poolFree + ((s.ch c).schedule.live.getD []).length - x.events.length } : State).modSchedule c fun y =>
        { y with expected := next, live := some x.events }).bumpBy (.chan c .overlapRemovals) x.removals).bumpBy (.chan c .overlapTrims) x.trims).bump
          (.chan c .amendApplied)).takeNotice c (.amendment revision x.items)) := by
  unfold State.takeAmendment
  dsimp only
  rw [h]
  dsimp only
  rw [if_pos hd, modSchedule_advance hn, scheduleEdge_modSchedule, State.modSchedule_time, State.modSchedule_poolFree, hx]
  dsimp only
  unfold State.commitAmendment
  rw [State.modSchedule_poolFree, State.modSchedule_pool]
  rfl

/-- Settles O33. -/
theorem amendmentsAgainstTheRevision : Obligations.AmendmentsAgainstTheRevision := by
  unfold Obligations.AmendmentsAgainstTheRevision
  refine ⟨fun s o i rx revision a h hi => ⟨fun hg => ?_, fun hg => ⟨fun hc => ?_, fun c hc => ⟨fun hs => ?_, fun hs hd => ?_, fun hs h1 h2 => ?_⟩⟩⟩,
    fun s o i rx revision a c h hi hg hc hs hd => ⟨fun reason hr => ?_, fun x hx => ?_⟩⟩
  · rw [exec_amendment hi, heard_schedule_grouped h hg]
  · rw [exec_amendment hi, heard_schedule_whole h hg hc]
  · rw [exec_amendment hi, heard_amendment h hg hc, takeAmendment_discarded (by simpa using hs)]
  · rw [exec_amendment hi, heard_amendment h hg hc, takeAmendment_current (by simpa using hs) (by rw [State.heard_ch]; omega), State.heard_ch, if_neg (by omega)]
  · rw [exec_amendment hi, heard_amendment h hg hc, takeAmendment_current (by simpa using hs) (by rw [State.heard_ch]; omega), State.heard_ch, if_pos (by omega),
      fallBehind_change (by simp [hs])]
    rw [State.bumpCh, State.ch_bump, State.bump_time, State.heard_ch, State.heard_time, hs]
    rfl
  · rw [exec_amendment hi, heard_amendment h hg hc, takeAmendment_refused (by simpa using hs) (by simpa using hd) (by rw [State.heard_ch])
      (by rw [heard_scheduleEdge, State.heard_time, State.heard_poolFree, State.heard_ch]; exact hr)]
    rfl
  · rw [exec_amendment hi, heard_amendment h hg hc, takeAmendment_applied (by simpa using hs) (by simpa using hd) (by rw [State.heard_ch])
      (by rw [heard_scheduleEdge, State.heard_time, State.heard_poolFree, State.heard_ch]; exact hx), State.heard_poolFree, State.heard_ch]

end Sys2Proof.Machine

/-! PROOFS. Snapshots (R98, R107 to R110). -/

namespace Sys2Proof.Machine

-- Each elaboration thread takes a large stack, and the text is compiled as one file under a memory limit: one thread at a time.
set_option Elab.async false

variable {s t u : State} {o : Origin} {rx : ControlRx} {c : Chan} {revision count index : Nat} {y : Shadow} {e : EventCarried}

theorem heard_named (h : Named s o rx c) (k : ScheduleCarrier) :
    s.catchUp.receiveControl rx (.schedule k) 0 = (s.heard rx).takeScheduleCarrier c.val k := by
  obtain ⟨hh, hg, hc⟩ := h
  rw [heard_schedule_single hh hg, hc]

theorem takeScheduleCarrier_chan (s : State) (c : Chan) (k : ScheduleCarrier) :
    s.takeScheduleCarrier c.val k =
      match k with
      | .amendment revision a => s.takeAmendment c revision a
      | .snapshotBegin revision count => s.takeSnapshotBegin c revision count
      | .snapshotEvent revision index e => s.takeSnapshotEvent c revision index e
      | .snapshotEnd revision count => s.takeSnapshotEnd c revision count := by
  unfold State.takeScheduleCarrier
  rw [chanOf_val] <;> rfl

/-! ## SNAPSHOT_BEGIN (R107) -/

theorem takeSnapshotBegin_long (h : 1024 < count) : s.takeSnapshotBegin c revision count = s.bump (.chan c .snapshotDiscards) := if_pos h

theorem takeSnapshotBegin_duplicate (h : count ≤ 1024) (hy : (s.ch c).schedule.shadow = some y) (hr : y.revision = revision) :
    s.takeSnapshotBegin c revision count = s.bump (.chan c .snapshotDuplicates) := by
  unfold State.takeSnapshotBegin
  rw [if_neg (by omega)]
  dsimp only
  rw [hy]
  exact if_pos (by simpa using hr)

/-- R107: a new snapshot while one is in progress. -/
theorem takeSnapshotBegin_again (h : count ≤ 1024) (hs : (s.ch c).schedule.state = .rebuilding) (hy : (s.ch c).schedule.shadow = some y)
    (hr : y.revision ≠ revision) :
    s.takeSnapshotBegin c revision count =
      ((({ s with poolFree := s.poolFree + y.events.length } : State).modSchedule c fun z =>
        { z with
          live := some ((s.ch c).schedule.live.getD []), shadow := some { events := [], revision := revision, count := count, received := [] }
          snapshotTimer := some 0, resyncTimer := none }).bump (.chan c .snapshotsFailed)).bump (.chan c .snapshotsBegun) := by
  unfold State.takeSnapshotBegin
  rw [if_neg (by omega)]
  dsimp only
  rw [hy]
  dsimp only
  rw [if_neg (by simpa using hr), if_pos Option.isSome_some, freeShadow_some hy, State.bumpCh, State.bumpCh, State.modSchedule_bump, State.modSchedule_modSchedule, setReplication_same]
  · exact congrArg (fun t : State => (t.bump _).bump _) (State.modSchedule_congr rfl)
  · rw [State.ch_bump, State.ch_modSchedule_same]
    exact hs

/-- R107: a snapshot that begins with none in progress. -/
theorem takeSnapshotBegin_new (h : count ≤ 1024) (hs : (s.ch c).schedule.state ≠ .rebuilding) (hy : (s.ch c).schedule.shadow = none) :
    s.takeSnapshotBegin c revision count =
      (((s.modSchedule c fun z =>
        { z with
          live := some ((s.ch c).schedule.live.getD []), shadow := some { events := [], revision := revision, count := count, received := [] }
          state := .rebuilding, snapshotTimer := some 0, resyncTimer := none }).bump (.chan c .replicationChanges)).raise
        (.replication c (s.ch c).schedule.state .rebuilding s.time.h (s.ch c).schedule.expected .snapshotBegin)).bump (.chan c .snapshotsBegun) := by
  unfold State.takeSnapshotBegin
  rw [if_neg (by omega)]
  dsimp only
  rw [hy]
  dsimp only
  rw [if_neg (by simp), if_neg (by simp), setReplication_change, State.modSchedule_modSchedule, State.ch_modSchedule_same]
  · exact congrArg (fun t : State => ((t.bump _).raise _).bump _) (State.modSchedule_congr rfl)
  · rw [State.ch_modSchedule_same]
    exact hs

/-! ## SNAPSHOT_EVENT (R108) -/

theorem takeSnapshotEvent_stray (h : ∀ y, (s.ch c).schedule.shadow = some y → y.revision ≠ revision ∨ y.count ≤ index) :
    s.takeSnapshotEvent c revision index e = s.bump (.chan c .snapshotDiscards) := by
  unfold State.takeSnapshotEvent
  split
  · rfl
  · rename_i y hy
    exact if_pos (h y hy)

theorem takeSnapshotEvent_known (hy : (s.ch c).schedule.shadow = some y) (hr : y.revision = revision) (hi : index < y.count) :
    s.takeSnapshotEvent c revision index e =
      if index ∈ y.received then s.bump (.chan c .snapshotDuplicates)
      else
        (s.modSchedule c fun z => { z with shadow := some { y with received := insertNat index y.received } }).snapshotInsert c
          { y with received := insertNat index y.received } e := by
  unfold State.takeSnapshotEvent
  rw [hy]
  dsimp only
  rw [if_neg (by omega)]
  simp only [List.contains_iff_mem] <;> rfl

/-! ### The event itself -/

theorem snapshotInsert_malformed {reason : AmendReason} (h : wellFormedEvent s.time.rate e = .error reason) :
    s.snapshotInsert c y e = (s.bump (.chan c .snapshotRejects)).sendMain (.amendRefused c y.revision 0x19 (some e.id) reason) := by
  unfold State.snapshotInsert
  dsimp only
  rw [h]
  rfl

theorem snapshotInsert_wellFormed {v : Event} (h : wellFormedEvent s.time.rate e = .ok v) :
    s.snapshotInsert c y e =
      (if (findEvent y.events v.id).isSome then
        (s.bump (.chan c .snapshotRejects)).sendMain (.amendRefused c y.revision 0x19 (some e.id) .duplicateId)
      else if inPast (s.scheduleEdge c) v then s.bump (.chan c .snapshotPast)
      else if s.poolFree + (placeEvents [v] y.events []).removals < 1 then (s.bump (.whole .poolExhaustions)).failSnapshot c .snapshotPool
      else
        ((s.putShadow c y (placeEvents [v] y.events []).events).bumpBy (.chan c .overlapRemovals) (placeEvents [v] y.events []).removals).bumpBy
          (.chan c .overlapTrims) (placeEvents [v] y.events []).trims) := by
  unfold State.snapshotInsert
  dsimp only
  rw [h]
  rfl

theorem not_inPast {edge : Int} {v : Event} (h : edge < v.finish) : ¬inPast edge v = true := fun k => by
  have := inPast_iff.1 k
  omega

/-! ## SNAPSHOT_END (R109) -/

theorem takeSnapshotEnd_stray (h : ∀ y, (s.ch c).schedule.shadow = some y → y.revision ≠ revision) :
    s.takeSnapshotEnd c revision count = s.bump (.chan c .snapshotDiscards) := by
  unfold State.takeSnapshotEnd
  split
  · rfl
  · rename_i y hy
    exact if_pos (h y hy)

theorem takeSnapshotEnd_known (hy : (s.ch c).schedule.shadow = some y) (hr : y.revision = revision) :
    s.takeSnapshotEnd c revision count =
      if count = y.count ∧ ∀ i, i < y.count → i ∈ y.received then s.swapLists c y else s.failSnapshot c .snapshotMismatch := by
  have hall : ((List.range y.count).all y.received.contains = true) ↔ ∀ i, i < y.count → i ∈ y.received := by simp
  unfold State.takeSnapshotEnd
  rw [hy]
  dsimp only
  rw [if_neg (by simpa using hr)]
  exact if_congr (and_congr_right fun _ => hall) rfl rfl

/-- R109: the shadow of a whole snapshot becomes the live list. -/
theorem swapLists_eq (hs : (s.ch c).schedule.state ≠ .current) :
    s.swapLists c y =
      ((((({ s with poolFree := s.poolFree + ((s.ch c).schedule.live.getD []).length } : State).modSchedule c fun z =>
        { z with live := some y.events, shadow := none, state := .current, expected := (y.revision + 1) % 65536, snapshotTimer := none }).bump
          (.chan c .replicationChanges)).raise
            (.replication c (s.ch c).schedule.state .current s.time.h ((y.revision + 1) % 65536) .snapshotDone)).bump (.chan c .snapshotsCompleted)).takeNotice c
              .swap := by
  unfold State.swapLists
  dsimp only
  rw [setReplication_change, State.modSchedule_modSchedule, State.ch_modSchedule_same]
  · rfl
  · rw [State.ch_modSchedule_same]
    exact hs

/-! ## The carriers of a snapshot -/

theorem exec_snapshotBegin (h : Named s o rx c) (revision count : Nat) :
    exec (.snapshotBegin rx revision count) s = .next ((s.heard rx).takeSnapshotBegin c revision count) :=
  congrArg Host.Outcome.next ((heard_named h (.snapshotBegin revision count)).trans (takeScheduleCarrier_chan ..))

theorem exec_snapshotEvent (h : Named s o rx c) (revision index : Nat) (e : EventCarried) :
    exec (.snapshotEvent rx revision index e) s = .next ((s.heard rx).takeSnapshotEvent c revision index e) :=
  congrArg Host.Outcome.next ((heard_named h (.snapshotEvent revision index e)).trans (takeScheduleCarrier_chan ..))

theorem exec_snapshotEnd (h : Named s o rx c) (revision count : Nat) :
    exec (.snapshotEnd rx revision count) s = .next ((s.heard rx).takeSnapshotEnd c revision count) :=
  congrArg Host.Outcome.next ((heard_named h (.snapshotEnd revision count)).trans (takeScheduleCarrier_chan ..))

/-- R108: an event of a snapshot in progress, well-formed and of an id that the shadow does not hold. -/
theorem exec_snapshotEvent_fresh (h : Named s o rx c) (hy : (s.ch c).schedule.shadow = some y) (hr : y.revision = revision) (hi : index < y.count)
    (hin : index ∉ y.received) {v : Event} (hv : wellFormedEvent s.time.rate e = .ok v) (hid : v.id ∉ y.events.map Event.id) :
    let t := (s.heard rx).modSchedule c fun z => { z with shadow := some { y with received := insertNat index y.received } }
    let p := placeEvents [v] y.events []
    exec (.snapshotEvent rx revision index e) s =
      .next
        (if inPast (s.scheduleEdge c) v then t.bump (.chan c .snapshotPast)
        else if s.poolFree + p.removals < 1 then (t.bump (.whole .poolExhaustions)).failSnapshot c .snapshotPool
        else
          ((t.putShadow c { y with received := insertNat index y.received } p.events).bumpBy (.chan c .overlapRemovals) p.removals).bumpBy
            (.chan c .overlapTrims) p.trims) := by
  rw [exec_snapshotEvent h, takeSnapshotEvent_known (by rwa [State.heard_ch]) hr hi, if_neg hin, snapshotInsert_wellFormed (by simpa using hv),
    if_neg fun hin' => hid (findEvent_isSome.1 hin'), scheduleEdge_modSchedule, heard_scheduleEdge, State.modSchedule_poolFree, State.heard_poolFree]

/-- Settles O36. -/
theorem snapshots : Obligations.Snapshots := by
  unfold Obligations.Snapshots
  refine ⟨fun s o rx h hg => ⟨fun revision count => ⟨?_, ?_⟩, fun revision index e => ?_⟩,
    fun s o rx ⟨h, hg, hc⟩ => ⟨fun revision count => ⟨?_, ?_⟩, fun revision index e => ?_⟩,
    fun s o rx c h => ⟨fun revision count => ⟨fun hlong => ?_, fun hn hy => ?_, fun hn hs y hy hr => ?_, fun hn hy hs => ?_⟩,
      fun revision index e => ⟨fun hstray => ?_, fun y hy hr hi => ⟨fun hin => ?_, fun hin reason hbad => ?_,
        fun hin v hv => ⟨fun hid => ?_, fun hid hpast => ?_, fun hid hnew hpool => ?_⟩, fun hin v hv hid hnew hpool => ?_⟩⟩,
      fun revision count => ⟨fun hstray => ?_, fun y hy hr => ⟨fun hn hall hs => ?_, fun hnot => ?_, fun cause hs => ?_⟩⟩⟩⟩
  · exact congrArg Host.Outcome.next (heard_schedule_grouped h hg _)
  · exact congrArg Host.Outcome.next (heard_schedule_grouped h hg _)
  · exact congrArg Host.Outcome.next (heard_schedule_grouped h hg _)
  · exact congrArg Host.Outcome.next (heard_schedule_whole h hg hc _)
  · exact congrArg Host.Outcome.next (heard_schedule_whole h hg hc _)
  · exact congrArg Host.Outcome.next (heard_schedule_whole h hg hc _)
  -- SNAPSHOT_BEGIN
  · rw [exec_snapshotBegin h, takeSnapshotBegin_long hlong]
  · obtain ⟨y, hy, hr⟩ := hy
    rw [exec_snapshotBegin h, takeSnapshotBegin_duplicate hn (by rwa [State.heard_ch]) hr]
  · rw [exec_snapshotBegin h, takeSnapshotBegin_again hn (by rwa [State.heard_ch]) (by rwa [State.heard_ch]) hr, State.heard_poolFree,
      State.heard_ch]
  · rw [exec_snapshotBegin h, takeSnapshotBegin_new hn (by rwa [State.heard_ch]) (by rwa [State.heard_ch]), State.heard_ch, State.heard_time]
  -- SNAPSHOT_EVENT
  · rw [exec_snapshotEvent h, takeSnapshotEvent_stray (by simpa using hstray)]
  · rw [exec_snapshotEvent h, takeSnapshotEvent_known (by rwa [State.heard_ch]) hr hi, if_pos hin]
  · rw [exec_snapshotEvent h, takeSnapshotEvent_known (by rwa [State.heard_ch]) hr hi, if_neg hin, snapshotInsert_malformed (by simpa using hbad), ← hr]
    rfl
  · rw [exec_snapshotEvent h, takeSnapshotEvent_known (by rwa [State.heard_ch]) hr hi, if_neg hin, snapshotInsert_wellFormed (by simpa using hv),
      if_pos (findEvent_isSome.2 hid), ← hr]
    rfl
  · rw [exec_snapshotEvent_fresh h hy hr hi hin hv hid, if_pos (show inPast (s.scheduleEdge c) v = true from inPast_iff.2 hpast)]
  · rw [exec_snapshotEvent_fresh h hy hr hi hin hv hid, if_neg (show ¬inPast (s.scheduleEdge c) v = true from not_inPast hnew), if_pos hpool]
  · rw [exec_snapshotEvent_fresh h hy hr hi hin hv hid, if_neg (show ¬inPast (s.scheduleEdge c) v = true from not_inPast hnew),
      if_neg (Nat.not_lt.2 hpool), State.putShadow, State.modSchedule_poolFree, State.heard_poolFree, State.modSchedule_pool]
  -- SNAPSHOT_END
  · rw [exec_snapshotEnd h, takeSnapshotEnd_stray (by simpa using hstray)]
  · rw [exec_snapshotEnd h, takeSnapshotEnd_known (by rwa [State.heard_ch]) hr, if_pos ⟨hn, hall⟩, swapLists_eq (by simp [hs]),
      State.heard_ch, State.heard_time, State.heard_poolFree, hs, hr]
  · rw [exec_snapshotEnd h, takeSnapshotEnd_known (by rwa [State.heard_ch]) hr, if_neg hnot]
  · rw [failSnapshot_eq (by rwa [State.heard_ch]) (by rwa [State.heard_ch]), State.heard_ch, State.heard_time, State.heard_poolFree]
    rfl

end Sys2Proof.Machine

/-! PROOFS. Delay windows, RETIME and the retime that applies (R48, R50, R51). -/

namespace Sys2Proof.Machine

-- Each elaboration thread takes a large stack, and the text is compiled as one file under a memory limit: one thread at a time.
set_option Elab.async false

variable {s t u : State} {o : Origin} {rx : ControlRx} {c : Chan}

theorem State.modAlign_congr {f g : Align → Align} (h : f (s.ch c).align = g (s.ch c).align) : s.modAlign c f = s.modAlign c g :=
  State.modCh_congr (congrArg (fun y => { s.ch c with align := y }) h)

theorem State.modAlign_modAlign (s : State) (c : Chan) (f g : Align → Align) :
    (s.modAlign c f).modAlign c g = s.modAlign c fun y => g (f y) := State.modCh_modCh ..

/-! ## The measured delay (R48) -/

/-- A number brought into 1 to 15, as the spec spells it. -/
theorem clampInt_delay (n : Int) : (clampInt 1 15 n).toNat = if n < 1 then 1 else if 15 < n then 15 else n.toNat := by
  unfold clampInt
  split_ifs <;> omega

theorem clampNat_delay (v : Nat) : clampNat 1 15 v = if v < 1 then 1 else if 15 < v then 15 else v := by
  unfold clampNat
  split_ifs <;> omega

theorem takeSample_counts (h : (s.ch c).align.measurement.count < 255) (l : Int) :
    s.takeSample c l = s.modAlign c fun x =>
      { x with
        measurement :=
          { (s.ch c).align.measurement with
            count := (s.ch c).align.measurement.count + 1, greatest := some (maxLateness (s.ch c).align.measurement.greatest l) } } :=
  State.modAlign_congr (by dsimp only; rw [if_pos h])

theorem takeSample_waits (h : 255 ≤ (s.ch c).align.measurement.count) (l : Int) :
    s.takeSample c l = s.modAlign c fun x => { x with measurement := { (s.ch c).align.measurement with waiting := some l } } :=
  State.modAlign_congr (by dsimp only; rw [if_neg (Nat.not_lt.2 h)])

/-- R48: the sample that waits ends the window. -/
theorem endDelayWindow_waiting {l : Int} (h : (s.ch c).align.measurement.waiting = some l) :
    s.endDelayWindow c =
      (s.modAlign c fun x =>
        { x with
          measurement :=
            { count := 0, greatest := none
              measured := (clampInt 1 15 (maxLateness (s.ch c).align.measurement.greatest l + 1 + (s.ch c).settings.delayMargin)).toNat, waiting := none } }).bump
        (.chan c .delayWindows) := by
  unfold State.endDelayWindow
  dsimp only
  rw [h]
  rfl

/-! ## RETIME (R50) -/

theorem commandRetime_out (h : s.inService c = false) (value : Option Nat) : s.commandRetime c value = (s, .outOfService, false, []) := if_pos (by simp [h])

/-- The value that RETIME names, brought into 1 to 15, or the measured delay. -/
def State.retimeValue (s : State) (c : Chan) (value : Option Nat) : Nat :=
  match value with
  | none => (s.ch c).align.measurement.measured
  | some v => clampNat 1 15 v

/-- Whether RETIME names a value out of range. -/
def retimeClamped (value : Option Nat) : Bool := value.any fun v => v < 1 || 15 < v

theorem commandRetime_in (h : s.inService c = true) (value : Option Nat) :
    s.commandRetime c value =
      if s.retimeValue c value = s.delay c then (s.modAlign c fun x => { x with retime := none }, .accepted, retimeClamped value, [.num 1 0])
      else
        (s.modAlign c fun x => { x with retime := some { value := s.retimeValue c value, target := s.retimeTarget c (s.delay c) (s.retimeValue c value) } },
          .accepted, retimeClamped value,
          [.num 1 1, .num 1 (s.retimeValue c value)] ++ labelAtoms (positionLabel s.time.rate (s.retimeTarget c (s.delay c) (s.retimeValue c value)))) := by
  cases value with
  | none => exact if_neg (by simp [h])
  | some v =>
    have hclamped : (clampNat 1 15 v != v) = retimeClamped (some v) := by
      rw [retimeClamped, Option.any_some, Bool.eq_iff_iff]
      simp only [clampNat, bne_iff_ne, ne_eq, Bool.or_eq_true, decide_eq_true_eq]
      omega
    rw [← hclamped]
    exact if_neg (by simp [h])

/-- RETIME for a channel, answered. -/
theorem exec_retime (h : Named s .console rx c) (value : Option Nat) :
    exec (.retime rx value) s =
      let x := (s.heard rx).commandRetime c value
      .next (x.1.reply .console rx.port
        { request := rx.request, kind := 0x30, channel := rx.channel, result := x.2.1, clamped := x.2.2.1, contents := x.2.2.2 }) := by
  obtain ⟨hh, hg, hc⟩ := h
  refine congrArg Host.Outcome.next ((heard_passOn (r := .retime value) hh trivial rfl 0).trans ?_)
  change (s.heard rx).takeRetime _ rx.group value = _
  have hchan : chanOf (asked .console rx (.retime value)).channel = some c := (congrArg chanOf hc).trans (chanOf_val c)
  unfold State.takeRetime
  rw [hg, hchan]
  rfl

theorem retimeTarget_eq (s : State) (c : Chan) (d new : Nat) :
    s.retimeTarget c d new =
      match ((s.ch c).schedule.live.getD []).find? fun e => s.time.h < e.start + (if new < d then new else d) with
      | some e => s.wrap (e.start + (if new < d then new else d) : Nat)
      | none => s.wrap (s.time.h + 1 : Nat) := rfl

theorem heard_retimeTarget (s : State) (rx : ControlRx) (c : Chan) (d new : Nat) : (s.heard rx).retimeTarget c d new = s.retimeTarget c d new := by
  unfold State.retimeTarget State.wrap State.cycle
  rw [State.heard_ch, State.heard_time]

/-- RETIME for a channel in service. -/
theorem exec_retime_in (h : Named s .console rx c) (hs : s.inService c = true) (value : Option Nat) :
    let new := s.retimeValue c value
    let target := s.retimeTarget c (s.delay c) new
    let sent (t : State) (contents : List Atom) : State :=
      t.reply .console rx.port
        { request := rx.request, kind := 0x30, channel := rx.channel, result := .accepted, clamped := retimeClamped value, contents := contents }
    exec (.retime rx value) s =
      .next
        (if new = s.delay c then sent ((s.heard rx).modAlign c fun x => { x with retime := none }) [.num 1 0]
        else
          sent ((s.heard rx).modAlign c fun x => { x with retime := some { value := new, target := target } })
            ([.num 1 1, .num 1 new] ++ labelAtoms (positionLabel s.time.rate target))) := by
  have hvalue : (s.heard rx).retimeValue c value = s.retimeValue c value := by
    unfold State.retimeValue
    rw [State.heard_ch]
  have hdelay : (s.heard rx).delay c = s.delay c := by
    unfold State.delay
    rw [State.heard_ch]
  rw [exec_retime h, commandRetime_in (by rw [State.heard_inService, hs]), hvalue, hdelay, heard_retimeTarget, State.heard_time]
  dsimp only
  split <;> rfl

/-- Settles O26. -/
theorem delayWindowsAndRetimes : Obligations.DelayWindowsAndRetimes := by
  unfold Obligations.DelayWindowsAndRetimes
  refine ⟨fun s c l => ⟨fun hcount => ?_, fun hcount => ⟨?_, ?_⟩⟩, fun s c => ⟨fun h => ?_, fun l h => ?_⟩, fun s rx c value h => ⟨fun hs => ?_, fun hs hd => ?_,
    fun hs hd => ?_⟩, fun s c r => ⟨fun hw => ?_, fun hw hr => ⟨?_, ?_, ?_⟩⟩⟩
  · rw [takeSample_counts hcount]
    rfl
  · rw [takeSample_waits hcount]
  · rw [takeSample_waits hcount]
    refine congrArg Host.Outcome.next ((endDelayWindow_waiting (l := l) ?_).trans ?_)
    · rw [State.ch_modAlign_same]
    · rw [State.modAlign_modAlign, clampInt_delay, State.ch_modAlign_same]
      rfl
  · refine congrArg Host.Outcome.next ?_
    unfold State.endDelayWindow
    dsimp only
    rw [h]
  · refine congrArg Host.Outcome.next ((endDelayWindow_waiting h).trans ?_)
    rw [clampInt_delay]
    rfl
  · have hout : (s.heard rx).inService c = false := by rw [State.heard_inService, hs]
    rw [exec_retime h, commandRetime_out hout]
    rfl
  · have hd : s.retimeValue c value = s.delay c := by rw [← hd]; cases value <;> [rfl; exact clampNat_delay _]
    rw [exec_retime_in h hs]
    exact congrArg Host.Outcome.next (if_pos hd)
  · cases value with
    | none =>
      rw [exec_retime_in h hs]
      exact congrArg Host.Outcome.next (if_neg hd)
    | some v =>
      have hvalue : s.retimeValue c (some v) = if v < 1 then 1 else if 15 < v then 15 else v := clampNat_delay v
      rw [exec_retime_in h hs, hvalue]
      exact congrArg Host.Outcome.next (if_neg hd)
  · exact congrArg Host.Outcome.next (if_neg (by simp [hw]))
  · refine congrArg Host.Outcome.next ((if_pos hw).trans ?_)
    unfold State.applyRetime
    rw [State.ch_modWork_same]
    dsimp only
    rw [hr]
    rfl
  · simp
  · simp [State.dueStamp, State.delay, State.wrap, State.cycle]

end Sys2Proof.Machine

/-! PROOFS. Detector runs, settling, and a judgement taken whole (R62 to R67, Table 4-2). -/

namespace Sys2Proof.Machine

-- Each elaboration thread takes a large stack, and the text is compiled as one file under a memory limit: one thread at a time.
set_option Elab.async false

variable {s t u : State} {c : Chan} {cfg : DetectorSettings} {x : DetectorState}

/-! ## Runs of frames (R64, R65) -/

theorem foldl_replicate_succ {α β : Type} (f : β → α → β) (b : β) (a : α) (n : Nat) :
    (List.replicate (n + 1) a).foldl f b = f ((List.replicate n a).foldl f b) a := by
  rw [List.replicate_succ', List.foldl_append]
  rfl

theorem countFrame_clear_bad (h : x.phase = .clear) :
    countFrame cfg x .bad =
      if cfg.assertCount ≤ x.bad + 1 then ({ x with phase := .asserted, latched := true, bad := 0, good := 0 }, some .rise)
      else ({ x with bad := x.bad + 1 }, none) := by
  unfold countFrame
  rw [h]

theorem countFrame_asserted_good (h : x.phase = .asserted) :
    countFrame cfg x .good =
      if cfg.clearCount ≤ x.good + 1 then ({ x with phase := .clear, latched := false, bad := 0, good := 0 }, some .fall)
      else ({ x with good := x.good + 1 }, none) := by
  unfold countFrame
  rw [h]

/-- R64: a run of bad frames short of the assert count is counted. -/
theorem badRun_short (h : x.phase = .clear) (h0 : x.bad = 0) (n : Nat) (hn : n < cfg.assertCount) :
    (List.replicate n FrameClass.bad).foldl (fun y k => (countFrame cfg y k).1) x = { x with bad := n } := by
  induction n with
  | zero =>
    change x = { x with bad := 0 }
    rw [← h0]
  | succ n ih =>
    have hphase : ({ x with bad := n } : DetectorState).phase = .clear := h
    rw [foldl_replicate_succ, ih (by omega), countFrame_clear_bad hphase, if_neg (by dsimp only; omega)]

/-- R65: a run of good frames short of the clear count is counted. -/
theorem goodRun_short (h : x.phase = .asserted) (h0 : x.good = 0) (n : Nat) (hn : n < cfg.clearCount) :
    (List.replicate n FrameClass.good).foldl (fun y k => (countFrame cfg y k).1) x = { x with good := n } := by
  induction n with
  | zero =>
    change x = { x with good := 0 }
    rw [← h0]
  | succ n ih =>
    have hphase : ({ x with good := n } : DetectorState).phase = .asserted := h
    rw [foldl_replicate_succ, ih (by omega), countFrame_asserted_good hphase, if_neg (by dsimp only; omega)]

theorem badRun_whole (h : x.phase = .clear) (h0 : x.bad = 0) (hc : 1 ≤ cfg.assertCount) :
    (List.replicate cfg.assertCount FrameClass.bad).foldl (fun y k => (countFrame cfg y k).1) x =
      { x with phase := .asserted, latched := true, bad := 0, good := 0 } := by
  obtain ⟨n, hn⟩ := Nat.exists_eq_add_of_le' hc
  have hphase : ({ x with bad := n } : DetectorState).phase = .clear := h
  rw [hn, foldl_replicate_succ, badRun_short h h0 n (by omega), countFrame_clear_bad hphase, if_pos (by dsimp only; omega)]

theorem goodRun_whole (h : x.phase = .asserted) (h0 : x.good = 0) (hc : 1 ≤ cfg.clearCount) :
    (List.replicate cfg.clearCount FrameClass.good).foldl (fun y k => (countFrame cfg y k).1) x =
      { x with phase := .clear, latched := false, bad := 0, good := 0 } := by
  obtain ⟨n, hn⟩ := Nat.exists_eq_add_of_le' hc
  have hphase : ({ x with good := n } : DetectorState).phase = .asserted := h
  rw [hn, foldl_replicate_succ, goodRun_short h h0 n (by omega), countFrame_asserted_good hphase, if_pos (by dsimp only; omega)]

/-! ## Table 4-2 -/

theorem classIf_iff {p : Prop} {b : Bool} (h : b = true ↔ p) : (p → classIf b = .bad) ∧ (¬p → classIf b = .good) :=
  ⟨fun hp => if_pos (h.2 hp), fun hp => if_neg fun hb => hp (h.1 hb)⟩

/-- R63: every pair of the set is silent in a frame that has none of them, or holds each at the threshold or below. -/
theorem allSilent_iff (y : Summary) (set : BitVec 8) (threshold : Nat) :
    allSilent y set threshold = true ↔
      ∀ i, i < 8 → set.getLsbD i = true → y.peaks.length ≤ i ∨ ∃ peak, y.peaks[i]? = some peak ∧ peak ≤ threshold := by
  have hpair : ∀ i, pairSilent y threshold i = true ↔ y.peaks.length ≤ i ∨ ∃ peak, y.peaks[i]? = some peak ∧ peak ≤ threshold := fun i => by
    unfold pairSilent
    cases hi : y.peaks[i]? with
    | none => simp [List.getElem?_eq_none_iff.1 hi]
    | some peak =>
      have : i < y.peaks.length := (List.getElem?_eq_some_iff.1 hi).1
      simp only [decide_eq_true_eq, Option.some.injEq, exists_eq_left', iff_or_self]
      omega
  have hlist : ∀ p : Nat → Bool, [0, 1, 2, 3, 4, 5, 6, 7].all p = true ↔ ∀ i, i < 8 → p i = true := fun p => by
    have : [0, 1, 2, 3, 4, 5, 6, 7] = List.range 8 := rfl
    rw [this, List.all_eq_true]
    simp only [List.mem_range]
  unfold allSilent
  rw [hlist]
  refine forall_congr' fun i => imp_congr_right fun _ => ?_
  rw [Bool.or_eq_true, hpair, Bool.not_eq_true']
  cases set.getLsbD i <;> simp

/-! ## A judgement taken whole (R62) -/

/-- What one detector's judgement leaves of a channel, its runs apart. -/
theorem judgeDetector_ch (s : State) (c : Chan) (j : Judgement) (det : Detector) :
    let x := s.ch c
    let y := ((s.judgeDetector c j det).1).ch c
    (y.settings = x.settings ∧ y.monitor.reference = x.monitor.reference ∧ y.monitor.verdict = x.monitor.verdict) ∧
      ∀ d, y.detState d = if d = det then (detectorStep det (x.detCfg det) x.settings.pairSet x.monitor.reference j (x.detState det)).1 else x.detState d := by
  have hdetectors : ∀ (t : State) (v : DetectorState),
      (t.ch c).monitor.detectors = vmod (s.ch c).monitor.detectors (detectorIndex det) (fun _ => v) →
        ∀ d, (t.ch c).detState d = if d = det then v else (s.ch c).detState d := fun t v ht d => by
    unfold Channel.detState
    rw [ht, vmod_get]
    by_cases h : d = det
    · simp [h]
    · rw [if_neg (fun e => h (detectorIndex_inj e)), if_neg h]
  unfold State.judgeDetector
  dsimp only
  split
  · exact ⟨⟨by simp, by simp, by simp⟩, hdetectors _ _ (by simp)⟩
  · split
    · exact ⟨⟨by simp, by simp, by simp⟩, hdetectors _ _ (by simp)⟩
    · exact ⟨⟨by simp, by simp, by simp⟩, hdetectors _ _ (by simp)⟩

/-- One detector of several that take a judgement in turn, with the edges latched so far. -/
def judgeStep (c : Chan) (j : Judgement) (p : State × List (Detector × EdgeKind)) (det : Detector) : State × List (Detector × EdgeKind) :=
  match p.1.judgeDetector c j det with
  | (u, some e) => (u, p.2 ++ [e])
  | (u, none) => (u, p.2)

theorem judgeDetectors_eq (s : State) (c : Chan) (j : Judgement) : s.judgeDetectors c j = Detector.all.foldl (judgeStep c j) (s, []) := rfl

theorem judgeStep_fst (c : Chan) (j : Judgement) (p : State × List (Detector × EdgeKind)) (det : Detector) :
    (judgeStep c j p det).1 = (p.1.judgeDetector c j det).1 := by
  unfold judgeStep
  split <;> rename_i h <;> rw [h]

/-- Detectors that take a judgement in turn each take it once. -/
theorem foldl_judgeStep (l : List Detector) (hl : l.Nodup) (p : State × List (Detector × EdgeKind)) (c : Chan) (j : Judgement) :
    let x := p.1.ch c
    let y := ((l.foldl (judgeStep c j) p).1).ch c
    (y.settings = x.settings ∧ y.monitor.reference = x.monitor.reference ∧ y.monitor.verdict = x.monitor.verdict) ∧
      ∀ d, y.detState d = if d ∈ l then (detectorStep d (x.detCfg d) x.settings.pairSet x.monitor.reference j (x.detState d)).1 else x.detState d := by
  induction l generalizing p with
  | nil => exact ⟨⟨rfl, rfl, rfl⟩, fun d => by simp⟩
  | cons det l ih =>
    obtain ⟨hdet, hl⟩ := List.nodup_cons.1 hl
    obtain ⟨⟨h1, h2, h3⟩, h4⟩ := ih hl (judgeStep c j p det)
    obtain ⟨⟨k1, k2, k3⟩, k4⟩ := judgeDetector_ch p.1 c j det
    rw [← judgeStep_fst] at k1 k2 k3 k4
    refine ⟨⟨h1.trans k1, h2.trans k2, h3.trans k3⟩, fun d => ?_⟩
    have hcfg : ((judgeStep c j p det).1.ch c).detCfg d = (p.1.ch c).detCfg d := by
      unfold Channel.detCfg
      rw [k1]
    rw [List.foldl_cons, h4, hcfg, k1, k2, k4]
    by_cases h : d = det
    · subst h
      simp [hdet]
    · simp [h]

/-- R62: what the detectors leave of a judgement. -/
theorem judgeDetectors_ch (s : State) (c : Chan) (j : Judgement) :
    let x := s.ch c
    let y := ((s.judgeDetectors c j).1).ch c
    (y.settings = x.settings ∧ y.monitor.reference = x.monitor.reference ∧ y.monitor.verdict = x.monitor.verdict) ∧
      ∀ d, y.detState d = (detectorStep d (x.detCfg d) x.settings.pairSet x.monitor.reference j (x.detState d)).1 := by
  obtain ⟨h, hd⟩ := foldl_judgeStep Detector.all Detector.nodup_all (s, []) c j
  rw [judgeDetectors_eq]
  exact ⟨h, fun d => (hd d).trans (if_pos (Detector.mem_all d))⟩

/-- The reference signature after a judgement (R62). -/
def referenceAfter (reference : Option (BitVec 32)) : Judgement → Option (BitVec 32)
  | .complete _ _ signature => signature
  | .missing _ => reference

/-- R70: what decides the verdict. -/
theorem evaluate_congr {x y : Channel} (hs : x.settings = y.settings) (hd : x.monitor.detectors = y.monitor.detectors) : x.evaluate = y.evaluate := by
  unfold Channel.evaluate Channel.pairFailing
  have hcfg : x.detCfg = y.detCfg := funext fun d => by unfold Channel.detCfg; rw [hs]
  have hstate : x.detState = y.detState := funext fun d => by unfold Channel.detState; rw [hd]
  have hstands : x.stands = y.stands := funext fun d => by unfold Channel.stands; rw [hcfg, hstate]
  have hcounted : x.counted = y.counted := funext fun d => by unfold Channel.counted; rw [hcfg]
  have hfailing : x.failing = y.failing := funext fun d => by unfold Channel.failing Channel.heldBack; rw [hcfg, hstands, hs]
  have hsuspecting : x.suspecting = y.suspecting := funext fun d => by unfold Channel.suspecting; rw [hcounted, hstands, hstate]
  rw [hfailing, hsuspecting, hstands, hcounted, hcfg, hs]

theorem SameButCues.monitor {x y : Channel} (h : SameButCues x y) : y.monitor = x.monitor := by
  have : ({ y with control := x.control, cue := x.cue, output := x.output } : Channel).monitor = x.monitor := congrArg (fun z : Channel => z.monitor) h
  exact this

theorem SameButCues.settings {x y : Channel} (h : SameButCues x y) : y.settings = x.settings := by
  have : ({ y with control := x.control, cue := x.cue, output := x.output } : Channel).settings = x.settings := congrArg (fun z : Channel => z.settings) h
  exact this

/-- R71: the notice of a verdict leaves the monitor of its channel. -/
theorem deliver_monitor (s : State) {n : Option VerdictNotice} (hn : ∀ x, n = some x → x.chan = c) :
    ((s.deliver n).ch c).monitor = (s.ch c).monitor ∧ ((s.deliver n).ch c).settings = (s.ch c).settings := by
  cases n with
  | none => exact ⟨rfl, rfl⟩
  | some x =>
    obtain rfl := hn x rfl
    have h := (CueLocal.takeVerdict x (CueLocal.refl _ s)).channel
    exact ⟨h.monitor, h.settings⟩

/-- R70: the verdict held after an evaluation is the one evaluated. -/
theorem holdVerdict_ch (s : State) (c : Chan) (cause : EvalCause) :
    ((s.holdVerdict c cause).1).ch c = { s.ch c with monitor := { (s.ch c).monitor with verdict := (s.ch c).evaluate } } := by
  unfold State.holdVerdict
  dsimp only
  split
  · rename_i h
    rw [h]
  · simp

/-- The reference signature replaced by a complete frame's (R62). -/
def State.keepSignature (s : State) (c : Chan) (j : Judgement) : State :=
  match j with
  | .complete _ _ signature => s.modMonitor c fun m => { m with reference := signature }
  | .missing _ => s

theorem keepSignature_ch (s : State) (c : Chan) (j : Judgement) :
    (s.keepSignature c j).ch c = { s.ch c with monitor := { (s.ch c).monitor with reference := referenceAfter (s.ch c).monitor.reference j } } := by
  cases j with
  | complete q x signature => exact State.ch_modMonitor_same ..
  | missing q => rfl

theorem judge_eq (s : State) (c : Chan) (j : Judgement) :
    s.judge c j =
      (((s.judgeDetectors c j).2).foldl (fun t e => t.reportEdge c e)
        ((((s.judgeDetectors c j).1).keepSignature c j).holdVerdict c .judgement).1).deliver
          ((((s.judgeDetectors c j).1).keepSignature c j).holdVerdict c .judgement).2 := by
  cases j <;> (unfold State.judge State.keepSignature; dsimp only)

/-- R62: what a judgement leaves of the monitor: the detectors stepped, the reference signature replaced, and the verdict evaluated. -/
theorem judge_ch (s : State) (c : Chan) (j : Judgement) :
    let x := s.ch c
    ∃ d : Channel, d.settings = x.settings ∧ d.monitor.reference = referenceAfter x.monitor.reference j ∧
      (∀ det, d.detState det = (detectorStep det (x.detCfg det) x.settings.pairSet x.monitor.reference j (x.detState det)).1) ∧
      ((s.judge c j).ch c).monitor = { d.monitor with verdict := d.evaluate } ∧ ((s.judge c j).ch c).settings = d.settings := by
  obtain ⟨⟨hs, hr, -⟩, hd⟩ := judgeDetectors_ch s c j
  obtain ⟨h1, h2⟩ := deliver_monitor (c := c)
    (((s.judgeDetectors c j).2).foldl (fun t e => t.reportEdge c e) ((((s.judgeDetectors c j).1).keepSignature c j).holdVerdict c .judgement).1)
    (n := ((((s.judgeDetectors c j).1).keepSignature c j).holdVerdict c .judgement).2) fun x => holdVerdict_chan
  rw [foldl_reportEdge_ch, holdVerdict_ch, keepSignature_ch] at h1 h2
  rw [judge_eq]
  generalize ((s.judgeDetectors c j).1).ch c = d at hs hr hd h1 h2
  exact ⟨{ d with monitor := { d.monitor with reference := referenceAfter d.monitor.reference j } }, hs, congrArg (fun r => referenceAfter r j) hr, hd, h1, h2⟩

/-- Settles O29. -/
theorem detectorRunsAndSettling : Obligations.DetectorRunsAndSettling := by
  unfold Obligations.DetectorRunsAndSettling
  refine ⟨fun cfg x ha hc => ⟨fun h h0 => ⟨badRun_short h h0, badRun_whole h h0 ha, ?_⟩, fun h h0 => ⟨goodRun_short h h0, goodRun_whole h h0 hc, ?_⟩, fun h => ?_,
    fun h => ?_, ?_⟩, ⟨fun s c det => ⟨fun ⟨he, hp, h0⟩ => ?_, fun h => ?_⟩, fun det cfg set reference j x => ⟨fun he hp => ?_, fun he hp => ?_, fun he => ?_⟩⟩,
    fun cfg set reference q x signature threshold => ⟨rfl, fun det hd => ?_, rfl, fun h => ?_, fun y hy => ?_, fun ht => ⟨?_, ?_⟩⟩,
    fun s c j => ⟨fun det => ?_, ?_, ?_, ?_, fun c' hc => ?_⟩⟩
  · have hphase : ({ x with bad := cfg.assertCount - 1 } : DetectorState).phase = .clear := h
    rw [countFrame_clear_bad hphase, if_pos (by dsimp only; omega)]
  · have hphase : ({ x with good := cfg.clearCount - 1 } : DetectorState).phase = .asserted := h
    rw [countFrame_asserted_good hphase, if_pos (by dsimp only; omega)]
  · unfold countFrame; rw [h]
  · unfold countFrame; rw [h]
  · unfold countFrame
    cases x.phase <;> rfl
  · refine congrArg Host.Outcome.next (if_pos ?_)
    have he : ((s.ch c).detCfg det).enabled = true := he
    simp [State.settleDue, he, hp, h0]
  · exact congrArg Host.Outcome.next (if_neg (by simp [State.settleDue, h]))
  · unfold detectorStep
    rw [if_neg (by simp [he]), if_pos hp]
    rfl
  · unfold detectorStep
    rw [if_neg (by simp [he]), if_neg hp]
  · exact if_pos (by simp [he])
  · exact if_neg hd
  · rw [h]; rfl
  · rw [hy]
    exact classIf_iff (by simp)
  · exact classIf_iff (by simp [ht])
  · refine classIf_iff ?_
    rw [ht]
    exact allSilent_iff x set threshold
  · obtain ⟨d, -, -, hd, hm, -⟩ := judge_ch s c j
    rw [← hd det]
    unfold Channel.detState
    rw [hm]
  · obtain ⟨d, -, hr, -, hm, -⟩ := judge_ch s c j
    rw [hm]
    exact hr.trans (by cases j <;> rfl)
  · obtain ⟨d, -, -, -, hm, hs⟩ := judge_ch s c j
    rw [hm]
    exact evaluate_congr hs.symm (by rw [hm])
  · obtain ⟨d, hs, -, -, -, hk⟩ := judge_ch s c j
    exact hk.trans hs
  · exact ((Elsewhere.refl c s).judge j).others c' hc

end Sys2Proof.Machine

/-! PROOFS. Keepalives and their expiry, and the site state they give (R80, R81, R84, R85, R91). -/

namespace Sys2Proof.Machine

-- Each elaboration thread takes a large stack, and the text is compiled as one file under a memory limit: one thread at a time.
set_option Elab.async false

variable {s t u : State} {o : Origin} {rx : ControlRx} {c : Chan}

/-! ## The site state (R85, R87) -/

/-- Table 5-2 while the automation is ALIVE. -/
theorem siteTable_whenAlive (a b : Bool) : siteTable a b .alive = if a = true ∧ b = true then .normal else if a = true ∨ b = true then .degraded else .isolated := by
  cases a <;> cases b <;> rfl

/-- Table 5-2 while the automation is LOST. -/
theorem siteTable_whenLost (a b : Bool) : siteTable a b .lost = if a = true ∨ b = true then .degraded else .lost := by
  cases a <;> cases b <;> rfl

theorem markLost_site (s : State) (cause : LossCause) (how : SiteCause) :
    (s.markLost cause how).site = { s.site with state := .lost, loss := some { cause := cause, position := s.time.h, left := s.site.state } } := by
  unfold State.markLost State.reportSite
  rw [State.raise_site]
  rfl

/-- What the loss notices keep of the site's record and of the unit's counters (R87). -/
theorem lossNotices_keep (s : State) :
    (s.eachChannel fun c t => t.siteLossNotice c).site = s.site ∧
      ∀ k, (s.eachChannel fun c t => t.siteLossNotice c).counter (.whole k) = s.counter (.whole k) := by
  refine State.eachChannel_keeps (P := fun t => t.site = s.site ∧ ∀ k, t.counter (.whole k) = s.counter (.whole k)) (fun c t ⟨h1, h2⟩ => ?_) ⟨rfl, fun _ => rfl⟩
  have h := (CueLocal.refl c t).siteLossNotice
  exact ⟨h.site.trans h1, fun k => (h.counters _ rfl).trans (h2 k)⟩

theorem enterLost_site (s : State) (cause : LossCause) (how : SiteCause) :
    (s.enterLost cause how).site = { s.site with state := .lost, loss := some { cause := cause, position := s.time.h, left := s.site.state } } := by
  rw [State.enterLost_eq, (lossNotices_keep _).1, markLost_site]

theorem enterLost_counter (s : State) (cause : LossCause) (how : SiteCause) {k : UnitCtr} (hk : k ≠ .siteLosses) :
    (s.enterLost cause how).counter (.whole k) = s.counter (.whole k) := by
  rw [State.enterLost_eq, (lossNotices_keep _).2]
  unfold State.markLost State.reportSite
  rw [State.counter_raise _ _ _ (by simp), State.bumpUnit, State.counter_bump, if_neg (by simpa using hk), State.counter_modSite]

/-- What an evaluation of the site keeps: all of its record but the state and the loss entry, and the unit's counters but SITE_LOSSES. -/
theorem setSite_keeps (s : State) (cause : SiteCause) :
    (∃ loss, (s.setSite cause).site = { s.site with state := siteTable s.site.viewA s.site.viewB s.site.automation, loss := loss }) ∧
      ∀ k, k ≠ .siteLosses → (s.setSite cause).counter (.whole k) = s.counter (.whole k) := by
  unfold State.setSite
  dsimp only
  split
  · rename_i h
    exact ⟨⟨s.site.loss, by rw [h]⟩, fun _ _ => rfl⟩
  · split
    · rename_i h
      exact ⟨⟨_, by rw [enterLost_site, h]⟩, fun k hk => enterLost_counter s _ _ hk⟩
    · unfold State.reportSite
      exact ⟨⟨s.site.loss, by rw [State.raise_site]; rfl⟩, fun k _ => by rw [State.counter_raise _ _ _ (by simp), State.counter_modSite]⟩

/-- R84: a change of the automation evaluates the site, but in STARTING and LOST. -/
theorem evaluateSite_automation (s : State) (cause : SiteCause) :
    s.evaluateSite cause false = if s.site.state = .starting ∨ s.site.state = .lost then s else s.setSite cause := by
  unfold State.evaluateSite
  cases h : s.site.state <;> simp

theorem setSite_change (hn : siteTable s.site.viewA s.site.viewB s.site.automation ≠ s.site.state)
    (hl : siteTable s.site.viewA s.site.viewB s.site.automation ≠ .lost) (cause : SiteCause) :
    s.setSite cause =
      (s.modSite fun x => { x with state := siteTable s.site.viewA s.site.viewB s.site.automation }).raise
        (.site s.site.state (siteTable s.site.viewA s.site.viewB s.site.automation) s.time.h cause s.site.viewA s.site.viewB s.site.automation) := by
  unfold State.setSite
  dsimp only
  rw [if_neg hn, if_neg hl]
  rfl

theorem setSite_same (hn : siteTable s.site.viewA s.site.viewB s.site.automation = s.site.state) (cause : SiteCause) : s.setSite cause = s := if_pos hn

/-! ## A KEEPALIVE (R80, R81) -/

theorem compareKeepalive_none (h : s.site.lastKeepalive = none) (n : Nat) : s.compareKeepalive n = s := by
  unfold State.compareKeepalive
  rw [h]

theorem compareKeepalive_some {k : LastKeepalive} (h : s.site.lastKeepalive = some k) (n : Nat) :
    s.compareKeepalive n =
      if n = k.sequence then s.bump (.whole .keepaliveDuplicates)
      else if n = (k.sequence + 1) % 65536 then s
      else s.bump (.whole .keepaliveGaps) := by
  unfold State.compareKeepalive
  rw [h]
  rfl

theorem compareKeepalive_site (s : State) (n : Nat) : (s.compareKeepalive n).site = s.site ∧ (s.compareKeepalive n).time = s.time := by
  cases h : s.site.lastKeepalive with
  | none => rw [compareKeepalive_none h]; exact ⟨rfl, rfl⟩
  | some k => rw [compareKeepalive_some h]; split_ifs <;> exact ⟨rfl, rfl⟩

/-- The site's record with the timer restarted and the automation ALIVE (R80, R81). -/
def Site.restarted (x : Site) : Site := { x with elapsed := 0, timerRunning := true, automation := .alive }

/-- The site as a KEEPALIVE finds it, its state evaluated when the automation was not ALIVE (R81, R85). -/
def State.keptAlive (s : State) : State :=
  if s.site.automation = .alive then s.modSite Site.restarted else (s.modSite Site.restarted).evaluateSite .automation false

theorem takeKeepalive_eq (s : State) (side : Side) (n : Nat) :
    s.takeKeepalive side n =
      ((s.keptAlive.bump (.whole (keepaliveCounter side))).compareKeepalive n).modSite fun x =>
        { x with lastKeepalive := some { sequence := n, side := side, position := s.keptAlive.time.h } } := by
  rw [← State.bump_time s.keptAlive (.whole (keepaliveCounter side)), ← (compareKeepalive_site (s.keptAlive.bump (.whole (keepaliveCounter side))) n).2]
  rfl

/-- A KEEPALIVE of the main automation on a contribution port. -/
theorem exec_keepalive (h : Heard s .mainSite rx) (hg : rx.group = false) {side : Side} (hp : rx.port = .contribution side) (n : Nat) :
    exec (.keepalive rx n) s = .next ((s.heard rx).takeKeepalive side n) := by
  refine congrArg Host.Outcome.next ((receive_heard h (.keepalive n) 0).trans ?_)
  change (s.heard rx).unlessGrouped rx ((s.heard rx).routeKeepalive .mainSite rx.port n) = _
  rw [State.unlessGrouped, if_neg (by simp [hg]), hp]
  rfl

/-- The automation's evaluation of the site, once it is ALIVE. -/
theorem evaluateSite_alive (ha : s.site.automation = .alive) :
    let old := s.site.state
    let new : SiteState :=
      if old = .starting ∨ old = .lost then old
      else if s.site.viewA = true ∧ s.site.viewB = true then .normal
      else if s.site.viewA = true ∨ s.site.viewB = true then .degraded
      else .isolated
    s.evaluateSite .automation false =
      if new = old then s.modSite fun x => { x with state := new }
      else (s.modSite fun x => { x with state := new }).raise (.site old new s.time.h .automation s.site.viewA s.site.viewB .alive) := by
  intro old new
  rw [evaluateSite_automation]
  by_cases hkeep : s.site.state = .starting ∨ s.site.state = .lost
  · have hnew : new = old := if_pos hkeep
    rw [if_pos hkeep, if_pos hnew, hnew]
    rfl
  · have hnew : new = siteTable s.site.viewA s.site.viewB s.site.automation := by
      rw [ha, siteTable_whenAlive]
      exact if_neg hkeep
    have hlost : siteTable s.site.viewA s.site.viewB s.site.automation ≠ .lost := by
      rw [ha, siteTable_whenAlive]
      split_ifs <;> decide
    rw [if_neg hkeep]
    by_cases hsame : new = old
    · rw [if_pos hsame, setSite_same (hnew.symm.trans hsame), hsame]
      rfl
    · rw [if_neg hsame, setSite_change (fun e => hsame (hnew.trans e)) hlost, hnew, ha]

theorem keptAlive_site (s : State) : s.keptAlive.site.automation = .alive ∧ s.keptAlive.site.timerRunning = true ∧ s.keptAlive.site.elapsed = 0 := by
  unfold State.keptAlive
  split
  · exact ⟨rfl, rfl, rfl⟩
  · rw [evaluateSite_automation]
    split
    · exact ⟨rfl, rfl, rfl⟩
    · obtain ⟨⟨loss, hsite⟩, -⟩ := setSite_keeps (s.modSite Site.restarted) .automation
      rw [hsite]
      exact ⟨rfl, rfl, rfl⟩

/-- A carrier of the main automation comes on a contribution port (R22). -/
theorem heard_mainSite (h : Heard s .mainSite rx) : ∃ side, rx.port = .contribution side := by
  obtain ⟨-, -, -, -, -, ho⟩ := h
  unfold fromOrigin at ho
  split at ho
  · exact ⟨_, ‹_›⟩
  · rename_i heq _; exact absurd heq (by decide)
  · exact absurd ho (by decide)

/-- R80: a KEEPALIVE counted, compared with the last record, and recorded. -/
theorem recordKeepalive_eq (w : State) (x : Site) (side : Side) (n : Nat) (k : LastKeepalive) :
    let a := w.bump (.whole (match side with | .a => .keepalivesA | .b => .keepalivesB))
    let b := match x.lastKeepalive with
      | none => a
      | some k =>
        if n = k.sequence then a.bump (.whole .keepaliveDuplicates)
        else if n = (k.sequence + 1) % 65536 then a
        else a.bump (.whole .keepaliveGaps)
    ((({ w with site := x } : State).bump (.whole (keepaliveCounter side))).compareKeepalive n).modSite (fun y => { y with lastKeepalive := some k }) =
      { b with site := { x with lastKeepalive := some k } } := by
  have hside : keepaliveCounter side = match side with | .a => .keepalivesA | .b => .keepalivesB := by cases side <;> rfl
  have hlast : ((({ w with site := x } : State).bump (.whole (keepaliveCounter side)))).site.lastKeepalive = x.lastKeepalive := rfl
  rw [← hside]
  cases hx : x.lastKeepalive with
  | none =>
    rw [compareKeepalive_none (hlast.trans hx)]
    rfl
  | some k =>
    rw [compareKeepalive_some (hlast.trans hx)]
    dsimp only
    split_ifs <;> rfl

/-- Settles O31. -/
theorem keepalivesAndTheirExpiry : Obligations.KeepalivesAndTheirExpiry := by
  unfold Obligations.KeepalivesAndTheirExpiry
  refine ⟨fun s o rx n h hg => ?_, fun s rx side n h hg hp ha => ?_, fun s rx n h hg => ?_, fun s rx side n h hg hp ha => ?_, fun s rx n h hg => ?_,
    fun s => ⟨fun hw => ?_, fun hw => ?_⟩⟩
  · exact congrArg Host.Outcome.next ((receive_heard h (.keepalive n) 0).trans (if_pos hg))
  · have halive : (s.heard rx).keptAlive = { s.heard rx with site := s.site.restarted } := by
      rw [State.keptAlive, State.heard_site, if_pos ha, State.modSite, State.heard_site]
    rw [exec_keepalive h hg hp, takeKeepalive_eq, halive, recordKeepalive_eq]
    simp only [State.heard_time, Site.restarted, ha] <;> rfl
  · refine congrArg Host.Outcome.next ((receive_heard h (.keepalive n) 0).trans ?_)
    change (s.heard rx).unlessGrouped rx ((s.heard rx).routeKeepalive .console rx.port n) = _
    rw [State.unlessGrouped, if_neg (by simp [hg])]
    rfl
  · intro old new restarted told
    have hrestarted : ((s.heard rx).modSite Site.restarted).modSite (fun x => { x with state := new }) = restarted := by
      unfold State.modSite
      rw [State.heard_site]
      rfl
    have htold : (s.heard rx).keptAlive = told := by
      have hne : ¬(s.heard rx).site.automation = .alive := by rwa [State.heard_site]
      rw [State.keptAlive, if_neg hne, evaluateSite_alive rfl, State.modSite_site, State.modSite_time, State.heard_site, State.heard_time]
      change (if new = old then ((s.heard rx).modSite Site.restarted).modSite (fun x => { x with state := new })
        else (((s.heard rx).modSite Site.restarted).modSite (fun x => { x with state := new })).raise
          (.site old new s.time.h .automation s.site.viewA s.site.viewB .alive)) = told
      rw [hrestarted]
    have hsite : told.site = restarted.site := by
      by_cases hsame : new = old
      · exact congrArg State.site (if_pos hsame)
      · exact (congrArg State.site (if_neg hsame)).trans (State.raise_site ..)
    have htime : told.time = s.time := by
      by_cases hsame : new = old
      · exact (congrArg State.time (if_pos hsame)).trans (State.heard_time ..)
      · exact (congrArg State.time (if_neg hsame)).trans ((State.raise_time ..).trans (State.heard_time ..))
    rw [exec_keepalive h hg hp, takeKeepalive_eq, htold, htime]
    refine congrArg Host.Outcome.next ((recordKeepalive_eq told told.site side n _).trans ?_)
    rw [hsite] <;> rfl
  · obtain ⟨side, hp⟩ : ∃ side, rx.port = .contribution side := heard_mainSite h
    rw [exec_keepalive h hg hp, takeKeepalive_eq]
    refine ⟨_, rfl, ?_⟩
    rw [State.modSite_site, (compareKeepalive_site _ n).1, State.bump_site]
    exact keptAlive_site (s.heard rx)
  · exact congrArg Host.Outcome.next (if_neg (by simp [hw]))
  · refine ⟨_, congrArg Host.Outcome.next (if_pos hw), ?_⟩
    unfold State.expireKeepalive
    rw [evaluateSite_automation]
    split
    · rename_i hkeep
      refine ⟨rfl, rfl, ?_, (if_pos hkeep).symm⟩
      rw [State.bumpUnit, State.counter_bump, if_pos rfl]
      rfl
    · rename_i hkeep
      obtain ⟨⟨loss, hsite⟩, hcounter⟩ := setSite_keeps ((({ s with work := { s.work with keepalive := false } } : State).modSite fun x =>
        { x with timerRunning := false, automation := .lost }).bumpUnit .keepaliveExpiries) .automation
      rw [hsite, hcounter _ (by decide)]
      refine ⟨rfl, rfl, ?_, ?_⟩
      · rw [State.bumpUnit, State.counter_bump, if_pos rfl]
        rfl
      · exact (siteTable_whenLost _ _).trans (if_neg hkeep).symm

end Sys2Proof.Machine

/-! PROOFS. What a join leaves of a channel that stands in FILL or STANDBY: the state it lands in, and its takeover records (R129, R145). -/

namespace Sys2Proof.Machine

-- Each elaboration thread takes a large stack, and the text is compiled as one file under a memory limit: one thread at a time.
set_option Elab.async false

variable {s t u : State} {c : Chan}

/-- What a record holds from its opening on (R145). -/
def TakeoverRecord.opening (r : TakeoverRecord) : Nat × List TakeoverCause × List Detector × Option Origin × Nat :=
  (r.sequence, r.causes, r.asserted, r.origin, r.decision)

/-- Two states between which a join of channel `c`, in FILL or STANDBY, has been computed: the channel stays, or goes from STANDBY to FILL, its records keep
what they were opened with, and nothing else of the channel record changes. -/
structure LandKeeps (c : Chan) (s t : State) : Prop where
  control : ∃ ring state, (t.ch c).control = { (s.ch c).control with ring := ring, state := state } ∧
    (∀ r ∈ (s.ch c).control.ring, ∃ r' ∈ ring, r'.opening = r.opening) ∧
    (state = (s.ch c).control.state ∨ (s.ch c).control.state = .standby ∧ state = .fill)
  output : ∃ delivered, (t.ch c).output = { (s.ch c).output with delivered := delivered } ∧
    ((s.ch c).output.delivered = (s.ch c).control.state → delivered = (t.ch c).control.state)
  counters : ∀ k, k ≠ .cueFailures → cueCounter c (.chan c k) = false → t.counter (.chan c k) = s.counter (.chan c k)

theorem LandKeeps.refl (c : Chan) (s : State) : LandKeeps c s s :=
  ⟨⟨_, _, rfl, fun r hr => ⟨r, hr, rfl⟩, .inl rfl⟩, ⟨_, rfl, id⟩, fun _ _ _ => rfl⟩

theorem LandKeeps.trans (h : LandKeeps c s t) (k : LandKeeps c t u) : LandKeeps c s u := by
  obtain ⟨⟨ring, state, hc, hr, hs⟩, ⟨delivered, ho, hd⟩, hk⟩ := h
  obtain ⟨⟨ring', state', hc', hr', hs'⟩, ⟨delivered', ho', hd'⟩, hk'⟩ := k
  rw [hc] at hc' hr' hs' hd
  rw [ho] at ho' hd'
  refine ⟨⟨ring', state', hc', fun r hr0 => ?_, ?_⟩, ⟨delivered', ho', fun e => hd' ?_⟩, fun key h1 h2 => (hk' key h1 h2).trans (hk key h1 h2)⟩
  · obtain ⟨r1, hr1, he1⟩ := hr r hr0
    obtain ⟨r2, hr2, he2⟩ := hr' r1 hr1
    exact ⟨r2, hr2, he2.trans he1⟩
  · dsimp only at hs'
    rcases hs with rfl | ⟨h1, rfl⟩
    · exact hs'
    · rcases hs' with rfl | ⟨h2, -⟩
      · exact .inr ⟨h1, rfl⟩
      · exact absurd h2 (by decide)
  · rw [hc]
    exact hd e

theorem LandKeeps.state (h : LandKeeps c s t) (hs : s.chState c = .fill ∨ s.chState c = .standby) : t.chState c = .fill ∨ t.chState c = .standby := by
  obtain ⟨⟨ring, state, hc, -, hstate⟩, -, -⟩ := h
  unfold State.chState at *
  rw [hc]
  rcases hstate with rfl | ⟨-, rfl⟩
  · exact hs
  · exact .inl rfl

theorem LandKeeps.of_cueOnly (h : CueOnly c s t) : LandKeeps c s t :=
  ⟨⟨_, _, h.control, fun r hr => ⟨r, hr, rfl⟩, .inl rfl⟩, ⟨_, h.output, fun e => by rw [h.control]; exact e⟩, fun _ _ hk => h.counters _ hk⟩

theorem LandKeeps.cueFailed (s : State) (c : Chan) : LandKeeps c s (s.cueFailed c) := by
  refine ⟨⟨_, _, congrArg Channel.control (cueFailed_ch s c c), fun r hr => ⟨r, hr, rfl⟩, .inl rfl⟩,
    ⟨_, congrArg Channel.output (cueFailed_ch s c c), fun e => by rw [cueFailed_ch]; exact e⟩, fun k hk _ => ?_⟩
  unfold State.cueFailed
  rw [State.counter_raise _ _ _ (by simp), State.counter_bumpCh, if_neg (by simpa using hk)]

theorem LandKeeps.modRecord (s : State) (c : Chan) (f : TakeoverRecord → TakeoverRecord) (hf : ∀ r, (f r).opening = r.opening) :
    LandKeeps c s (s.modRecord c f) := by
  rw [State.modRecord_eq]
  refine ⟨⟨_, _, by rw [State.ch_modControl_same], fun r hr => ⟨_, List.mem_map_of_mem hr, ?_⟩, .inl rfl⟩, ⟨_, by rw [State.ch_modControl_same], fun e => ?_⟩,
    fun _ _ _ => rfl⟩
  · split
    · exact hf r
    · rfl
  · rw [State.ch_modControl_same]
    exact e

/-- A channel in STANDBY that goes to FILL. -/
theorem LandKeeps.toFill (h : s.chState c = .standby) : LandKeeps c s (s.setState c .fill) := by
  have hch : (s.setState c .fill).ch c =
      { s.ch c with control := { (s.ch c).control with state := .fill }, output := { (s.ch c).output with delivered := .fill } } := by simp [State.setState]
  exact ⟨⟨_, .fill, by rw [hch], fun r hr => ⟨r, hr, rfl⟩, .inr ⟨h, rfl⟩⟩, ⟨.fill, by rw [hch], fun _ => by rw [hch]⟩, fun _ _ _ => State.counter_setState ..⟩

theorem opening_keepOnStandby (o : RecordOutcome) (r : TakeoverRecord) : (keepOnStandby o r).opening = r.opening := by
  unfold keepOnStandby
  split <;> rfl

theorem LandKeeps.exhausted (h : s.chState c = .fill ∨ s.chState c = .standby) : LandKeeps c s (s.exhausted c) := by
  unfold State.exhausted
  rcases h with h | h <;> rw [h]
  · exact (LandKeeps.modRecord s c _ (opening_keepOnStandby _)).trans (.cueFailed _ _)
  · exact ((LandKeeps.toFill h).trans (.of_cueOnly (CueOnly.refl c _).stopPlaying)).trans (.cueFailed _ _)

theorem LandKeeps.noSchedule (h : s.chState c = .fill ∨ s.chState c = .standby) : LandKeeps c s (s.noSchedule c) := by
  unfold State.noSchedule
  rcases h with h | h <;> rw [h]
  · exact LandKeeps.modRecord s c _ (opening_keepOnStandby _)
  · exact (LandKeeps.toFill h).trans (.of_cueOnly (CueOnly.refl c _).stopPlaying)

theorem LandKeeps.writeLink (s : State) (c : Chan) (j : JoinChoice) : LandKeeps c s (s.writeLink c j) := by
  unfold State.writeLink
  split
  · refine LandKeeps.trans ?_ (.of_cueOnly ((CueOnly.refl c _).modCue _))
    split
    · exact .modRecord s c _ fun _ => rfl
    · exact .refl c s
  · exact .refl c s

theorem LandKeeps.runJoin (fuel : Nat) (h : s.chState c = .fill ∨ s.chState c = .standby) (used limit : Nat) :
    LandKeeps c s (State.runJoin fuel s c used limit) := by
  induction fuel generalizing s used with
  | zero => exact .refl c s
  | succ fuel ih =>
    have linked := LandKeeps.writeLink s c (s.chooseJoin c)
    have hlinked := linked.state h
    unfold State.runJoin
    dsimp only
    split
    · exact linked.trans (LandKeeps.trans (.of_cueOnly ((CueOnly.refl c _).modCue _)) (.noSchedule (by simpa [State.chState] using hlinked)))
    · split
      · exact linked.trans (.of_cueOnly ((CueOnly.refl c _).sendCue _ _ _ _ _ _ _))
      · have bumped := linked.trans (.of_cueOnly ((CueOnly.refl c _).bumpCh .noServerFailures (by simp [cueCounter])))
        split
        · exact bumped.trans (ih (bumped.state h) _)
        · exact bumped.trans (.exhausted (bumped.state h))

/-- A join with fresh attempts, computed in FILL or STANDBY. -/
theorem LandKeeps.requestJoin (h : s.chState c = .fill ∨ s.chState c = .standby) : LandKeeps c s (s.requestJoin c) := by
  have cancelled : LandKeeps c s (s.requestCancel c) := .of_cueOnly (CueOnly.refl c s).requestCancel
  exact cancelled.trans (.runJoin _ (cancelled.state h) _ _)

/-- A join computed in FILL leaves the channel there, with its cause, pins and flags. -/
theorem LandKeeps.fill (h : LandKeeps c s t) (hs : (s.ch c).control.state = .fill) :
    ∃ ring, (t.ch c).control = { (s.ch c).control with ring := ring } ∧ ∀ r ∈ (s.ch c).control.ring, ∃ r' ∈ ring, r'.opening = r.opening := by
  obtain ⟨⟨ring, state, hc, hr, hstate⟩, -, -⟩ := h
  rcases hstate with rfl | ⟨hstandby, -⟩
  · exact ⟨ring, hc, hr⟩
  · rw [hs] at hstandby
    exact absurd hstandby (by decide)

/-! ## The cues that a join leaves -/

theorem writeLink_cue (s : State) (c : Chan) (j : JoinChoice) : ((s.writeLink c j).ch c).cue = { (s.ch c).cue with recordLink := false } := by
  by_cases h : (s.ch c).cue.recordLink = true
  · rw [State.writeLink_set h]
    simp [State.takeLink]
  · rw [State.writeLink_clear (by simpa using h)]
    have : (s.ch c).cue.recordLink = false := by simpa using h
    rw [← this]

theorem exhausted_lands (h : s.chState c = .fill ∨ s.chState c = .standby) : (s.exhausted c).chState c = .fill := by
  rcases h with h | h
  · exact exhausted_fill h
  · unfold State.exhausted State.chState at *
    rw [h]
    dsimp only
    rw [cueFailed_ch, (CueOnly.refl c _).stopPlaying.control]
    simp [State.setState]

/-- What a join computed in FILL or STANDBY with no cue pending leaves: the JOIN sent, or the channel in FILL with nothing pending, and nothing playing that was
in STANDBY. -/
def Landing (c : Chan) (s t : State) : Prop :=
  (t.chState c = s.chState c ∧ (t.ch c).cue.playing = (s.ch c).cue.playing ∧
      ∃ x, (t.ch c).cue.pendingCue = some x ∧ x.kind = .join ∧ x.status = .sent) ∨
    (t.chState c = .fill ∧ (t.ch c).cue.playing = (if s.chState c = .standby then none else (s.ch c).cue.playing) ∧ (t.ch c).cue.pendingCue = none)

/-- The landing of a join that begins from what another state holds alike. -/
theorem Landing.of_eq (h : Landing c t u) (hs : t.chState c = s.chState c) (hp : (t.ch c).cue.playing = (s.ch c).cue.playing) : Landing c s u := by
  unfold Landing at *
  rwa [hs, hp] at h

theorem writeLink_chState (s : State) (c : Chan) (j : JoinChoice) : (s.writeLink c j).chState c = s.chState c := by
  by_cases h : (s.ch c).cue.recordLink = true
  · rw [State.writeLink_set h]
    simp [State.takeLink, State.chState]
  · rw [State.writeLink_clear (by simpa using h)]

theorem runJoin_lands (fuel : Nat) (h : s.chState c = .fill ∨ s.chState c = .standby) (hp : (s.ch c).cue.pendingCue = none) {used limit : Nat}
    (hfuel : limit < used + fuel) (hused : used < limit ∨ used = 0) : Landing c s (State.runJoin fuel s c used limit) := by
  induction fuel generalizing s used with
  | zero => omega
  | succ fuel ih =>
    have hcue := writeLink_cue s c (s.chooseJoin c)
    have hsame := writeLink_chState s c (s.chooseJoin c)
    have hcounted := (CueOnly.refl c (s.writeLink c (s.chooseJoin c))).bumpCh .noServerFailures (by simp [cueCounter])
    have hbumped : ((s.writeLink c (s.chooseJoin c)).bumpCh c .noServerFailures).chState c = s.chState c :=
      (congrArg Control.state hcounted.control).trans hsame
    have hbumpedCue : (((s.writeLink c (s.chooseJoin c)).bumpCh c .noServerFailures).ch c).cue = { (s.ch c).cue with recordLink := false } := hcue
    unfold State.runJoin
    dsimp only
    split
    · have hwaiting : ((s.writeLink c (s.chooseJoin c)).modCue c fun y => { y with wait := some (used, limit) }).chState c = s.chState c := by
        rw [← hsame]
        simp [State.chState]
      refine .inr ⟨?_, ?_, ?_⟩
      · exact noSchedule_state (by rw [hwaiting]; exact .inr h)
      · rw [noSchedule_cue, State.ch_modCue_same, hcue]
        exact if_congr (by rw [hwaiting]) rfl rfl
      · rw [noSchedule_cue, State.ch_modCue_same, hcue]
        exact hp
    · split
      · refine .inl ⟨?_, ?_, ?_⟩
        · exact (congrArg Control.state ((CueOnly.refl c _).sendCue _ _ _ _ _ _ _).control).trans hsame
        · rw [State.sendCue_cue, hcue]
        · rw [State.sendCue_cue]
          exact ⟨_, rfl, rfl, rfl⟩
      · split
        · exact (ih (hbumped.symm ▸ h) (by rw [hbumpedCue]; exact hp) (by omega) (.inl ‹_›)).of_eq hbumped (by rw [hbumpedCue])
        · refine .inr ⟨exhausted_lands (hbumped.symm ▸ h), ?_, ?_⟩
          · rw [exhausted_cue, hbumped, hbumpedCue]
          · rw [exhausted_cue, hbumpedCue]
            exact hp

theorem requestJoin_lands (h : s.chState c = .fill ∨ s.chState c = .standby) : Landing c s (s.requestJoin c) := by
  have hcancelled := (CueOnly.refl c s).requestCancel
  have hcue := State.requestCancel_cue s c
  have hstate : (s.requestCancel c).chState c = s.chState c := congrArg Control.state hcancelled.control
  exact (runJoin_lands _ (hstate.symm ▸ h) (congrArg CueContext.pendingCue hcue) (by omega) (.inr rfl)).of_eq hstate ((congrArg CueContext.playing hcue).trans rfl)

end Sys2Proof.Machine

/-! PROOFS. The verdict (R68 to R71), and what its notice does at the Channel Controller (R125 to R127, R131 to R134). -/

namespace Sys2Proof.Machine

-- Each elaboration thread takes a large stack, and the text is compiled as one file under a memory limit: one thread at a time.
set_option Elab.async false

variable {s t u : State} {c : Chan} {n : VerdictNotice}

/-! ## The verdict (R68 to R70) -/

section
variable {x : Channel} {det : Detector}

theorem stands_iff : x.stands det = true ↔ (x.detCfg det).enabled = true ∧ (x.detState det).latched = true := by
  simp [Channel.stands, standsAsserted]

theorem counted_iff : x.counted det = true ↔ (x.detCfg det).enabled = true ∧ (x.detCfg det).policy ≠ .ignore := by
  simp [Channel.counted]

theorem failing_iff :
    x.failing det = true ↔ x.stands det = true ∧ (x.detCfg det).policy = .takeover ∧ ¬(x.settings.chain = true ∧ (det = .black ∨ det = .silence)) := by
  unfold Channel.failing Channel.heldBack
  cases x.settings.chain <;> simp [and_assoc]

theorem suspecting_iff : x.suspecting det = true ↔ x.counted det = true ∧ (x.stands det = true ∨ 0 < (x.detState det).bad) := by
  simp [Channel.suspecting]

theorem pairFailing_iff :
    x.pairFailing = true ↔ x.counted .black = true ∧ x.counted .silence = true ∧ x.stands .black = true ∧ x.stands .silence = true ∧
      ((x.detCfg .black).policy = .takeover ∨ (x.detCfg .silence).policy = .takeover) := by
  simp [Channel.pairFailing, and_assoc]

theorem any_detector {p : Detector → Bool} : Detector.all.any p = true ↔ ∃ det, p det = true := by
  rw [List.any_eq_true]
  exact ⟨fun ⟨det, _, h⟩ => ⟨det, h⟩, fun ⟨det, h⟩ => ⟨det, Detector.mem_all det, h⟩⟩

theorem evaluate_failed : x.evaluate = .failed ↔ (∃ det, x.failing det = true) ∨ (x.settings.chain = true ∧ x.pairFailing = true) := by
  rw [← any_detector, ← Bool.and_eq_true, ← Bool.or_eq_true]
  unfold Channel.evaluate
  split
  · exact iff_of_true rfl ‹_›
  · refine iff_of_false ?_ ‹_›
    split <;> decide

/-- R68: a detector that makes the verdict FAILED makes it at least SUSPECT. -/
theorem suspecting_of_failed (h : x.evaluate = .failed) : ∃ det, x.suspecting det = true := by
  rcases evaluate_failed.1 h with ⟨det, hf⟩ | ⟨-, hp⟩
  · obtain ⟨hs, hpolicy, -⟩ := failing_iff.1 hf
    exact ⟨det, suspecting_iff.2 ⟨counted_iff.2 ⟨(stands_iff.1 hs).1, by rw [hpolicy]; decide⟩, .inl hs⟩⟩
  · obtain ⟨hc, -, hs, -, -⟩ := pairFailing_iff.1 hp
    exact ⟨.black, suspecting_iff.2 ⟨hc, .inl hs⟩⟩

theorem evaluate_healthy_iff : x.evaluate = .healthy ↔ ∀ det, x.counted det = true → (x.detState det).latched = false ∧ (x.detState det).bad = 0 := by
  have hclear : (∀ det, x.counted det = true → (x.detState det).latched = false ∧ (x.detState det).bad = 0) ↔ ¬∃ det, x.suspecting det = true := by
    rw [not_exists]
    refine forall_congr' fun det => ?_
    rw [suspecting_iff, not_and, not_or, stands_iff, not_and, Bool.not_eq_true, Nat.not_lt, Nat.le_zero]
    exact ⟨fun h hc => ⟨fun _ => (h hc).1, (h hc).2⟩, fun h hc => ⟨(h hc).1 (counted_iff.1 hc).1, (h hc).2⟩⟩
  rw [hclear, ← any_detector]
  by_cases hf : x.evaluate = .failed
  · exact iff_of_false (by rw [hf]; decide) (not_not.2 (any_detector.2 (suspecting_of_failed hf)))
  · have hne : ¬(Detector.all.any x.failing || (x.settings.chain && x.pairFailing)) = true := fun h => hf (if_pos h)
    unfold Channel.evaluate
    rw [if_neg hne]
    split <;> rename_i h
    · exact iff_of_false (by decide) (not_not.2 h)
    · exact iff_of_true rfl h

end

/-! ## A change of the verdict (R71) -/

theorem evaluate_change (s : State) (c : Chan) (cause : EvalCause) :
    s.evaluate c cause =
      if (s.ch c).evaluate = (s.ch c).monitor.verdict then s
      else ((s.modMonitor c fun y => { y with verdict := (s.ch c).evaluate }).bump (.chan c .verdictChanges)).takeVerdict
        { chan := c, old := (s.ch c).monitor.verdict, new := (s.ch c).evaluate, position := s.time.h, cause := cause, asserted := (s.ch c).assertedList } := by
  unfold State.evaluate State.holdVerdict
  dsimp only
  split <;> rfl

/-! ## Takeovers by a verdict (R125 to R127) -/

/-- R126: what a takeover of a channel in MAIN sets at once, before its join. -/
def Control.takenOver (x : Control) (cause : TakeoverCause) (record : TakeoverRecord) : Control :=
  { x with
    current := some x.nextSequence, nextSequence := (x.nextSequence + 1) % 65536
    ring := (if 8 ≤ x.ring.length then x.ring.drop 1 else x.ring) ++ [record], overflow := x.overflow || decide (8 ≤ x.ring.length)
    cause := some cause, sticky := true, returnAck := false, suspended := false, awaitingRecue := false, state := takeoverState cause }

/-- R126: a takeover of a channel in MAIN that goes to FILL. -/
theorem takeover_fill (hm : (s.ch c).control.state = .main) {cause : TakeoverCause} (hc : takeoverState cause = .fill) (asserted : List Detector)
    (origin : Option Origin) :
    let t := s.takeover c cause asserted origin
    let record : TakeoverRecord :=
      { sequence := (s.ch c).control.nextSequence, causes := [cause], asserted := asserted, origin := origin, decision := s.time.h
        replication := (s.ch c).schedule.state, event := none, switchPosition := none, outcome := .pending, returnPosition := none }
    (∃ ring, (t.ch c).control = { (s.ch c).control.takenOver cause record with ring := ring } ∧ ∃ r ∈ ring, r.opening = record.opening) ∧
      (t.ch c).output.delivered = .fill ∧ t.counter (.chan c .takeovers) = satAdd (s.counter (.chan c .takeovers)) 1 := by
  intro t record
  have ht : t = s.takeover c cause asserted origin := rfl
  rw [State.takeover_main hm] at ht
  dsimp only at ht
  revert ht
  generalize hv : State.modCue _ c (fun y => { y with recordLink := true }) = v
  intro ht
  have hvcontrol : (v.ch c).control = (s.ch c).control.takenOver cause record := by
    rw [← hv]
    simp only [State.ch_modCue_same, State.ch_raise, State.ch_bump, State.ch_modOutput_same, State.ch_modControl_same, Control.takenOver]
    split <;> rfl
  have hvoutput : (v.ch c).output.delivered = .fill := by
    rw [← hv]
    simp [hc]
  have hvcounter : v.counter (.chan c .takeovers) = satAdd (s.counter (.chan c .takeovers)) 1 := by
    rw [← hv, State.counter_modCue, State.counter_raise _ _ _ (by simp), State.counter_bump, if_pos rfl, State.counter_modOutput, State.counter_modControl]
    split <;> simp [State.counter_bump]
  have hvstate : (v.ch c).control.state = .fill := by rw [hvcontrol]; exact hc
  have hkeep := LandKeeps.requestJoin (s := v) (c := c) (.inl hvstate)
  obtain ⟨ring, hcontrol, hring⟩ := hkeep.fill hvstate
  obtain ⟨delivered, houtput, hdelivered⟩ := hkeep.output
  have htstate : ((v.requestJoin c).ch c).control.state = .fill := by rw [hcontrol]; exact hvstate
  rw [ht]
  refine ⟨⟨ring, by rw [hcontrol, hvcontrol], hring record ?_⟩, ?_, (hkeep.counters _ (by decide) rfl).trans hvcounter⟩
  · rw [hvcontrol]
    exact List.mem_append_right _ (List.mem_singleton_self _)
  · rw [houtput]
    exact (hdelivered (hvoutput.trans hvstate.symm)).trans htstate

/-- R127: a FAILED notice in CUEING. -/
theorem cueingFailed_eq (s : State) (c : Chan) (asserted : List Detector) :
    s.cueingFailed c asserted =
      (s.modControl c fun y =>
        { y with
          state := .fill, cause := some .detector
          ring := y.ring.map fun r => if y.current = some r.sequence then { r with causes := r.causes ++ [.detector], asserted := asserted } else r }).modOutput c
        fun z => { z with delivered := .fill } := by
  unfold State.cueingFailed State.setState
  dsimp only
  rw [State.modRecord_eq, State.modControl_modControl, State.modControl_modControl]

/-! ## The return guard and a return called off (R131, R134) -/

theorem guardAllowed_iff :
    s.guardAllowed c = true ↔ (s.ch c).control.cause = some .detector ∧ (s.ch c).settings.autoReturn = true ∧ (s.ch c).control.pin = .none ∧
      (s.ch c).control.suspended = false ∧ s.site.state ≠ .lost := by
  simp [State.guardAllowed, and_assoc]

theorem startGuard_standby (h : (s.ch c).control.state = .standby) :
    s.startGuard c =
      (s.modControl c fun y => { y with state := .returnGuard, returnOrigin := some .standby, guard := some 0 }).modOutput c fun z =>
        { z with delivered := .returnGuard } := by
  unfold State.startGuard State.chState State.setState
  rw [h]
  dsimp only
  rw [State.modControl_modControl]

theorem startGuard_fill (h : (s.ch c).control.state = .fill) :
    s.startGuard c =
      ((s.requestCancel c).modControl c fun y => { y with state := .returnGuard, returnOrigin := some .fill, guard := some 0 }).modOutput c fun z =>
        { z with delivered := .returnGuard } := by
  unfold State.startGuard State.chState State.setState
  rw [h]
  dsimp only
  rw [State.modControl_modControl]

/-- R134: a return whose origin is not FILL, called off: the channel is back in STANDBY. -/
theorem callOffReturn_resumes (h : (s.ch c).control.returnOrigin ≠ some .fill) :
    s.callOffReturn c = ((s.guardCancelled c).calledOff c .standby).followOnCheck c := by
  rw [callOffReturn_eq]
  unfold State.callOff
  dsimp only
  rw [guardCancelled_ch, ← calledOff_eq]
  split
  · rename_i hf _; exact absurd hf h
  · rename_i hf _; exact absurd hf h
  · rfl

theorem calledOff_ch (s : State) (c : Chan) (y : ChannelState) :
    (s.calledOff c y).ch c =
      { s.ch c with
        control := { (s.ch c).control with state := y, guard := none, returnPosition := none, returnOrigin := none }
        output := { (s.ch c).output with delivered := y } } := by
  simp [State.calledOff]

theorem guardCancelled_counter (s : State) (c : Chan) :
    (s.guardCancelled c).counter (.chan c .guardCancels) =
      if (s.ch c).control.state = .returnGuard then satAdd (s.counter (.chan c .guardCancels)) 1 else s.counter (.chan c .guardCancels) := by
  unfold State.guardCancelled
  split
  · exact (State.counter_bump ..).trans (if_pos rfl)
  · rfl

theorem calledOff_counter (s : State) (c : Chan) (y : ChannelState) (key : CounterKey) : (s.calledOff c y).counter key = s.counter key := rfl

/-- R134: what a return called off leaves. -/
theorem callOffReturn_leaves (s : State) (c : Chan) :
    let t := s.callOffReturn c
    let y := (t.ch c).control
    t.counter (.chan c .guardCancels) = (s.guardCancelled c).counter (.chan c .guardCancels) ∧ y.guard = none ∧ y.returnPosition = none ∧ y.returnOrigin = none ∧
      (t.ch c).output.delivered = y.state ∧
      ((s.ch c).control.returnOrigin ≠ some .fill → y.state = .standby ∧ (t.ch c).cue.playing = (s.ch c).cue.playing) ∧
      ((s.ch c).control.returnOrigin = some .fill → y.state = .fill ∧ (t.ch c).cue.playing = none) := by
  by_cases hf : (s.ch c).control.returnOrigin = some .fill
  · have hstop := (CueOnly.refl c ((s.guardCancelled c).calledOff c .fill)).stopPlaying
    have hcontrol := hstop.control
    have houtput := hstop.output
    have hcounters := fun k h => hstop.counters (.chan c k) h
    have hplaying := State.stopPlaying_cue ((s.guardCancelled c).calledOff c .fill) c
    rw [calledOff_ch, guardCancelled_ch] at hcontrol houtput hplaying
    dsimp only at hcontrol houtput hplaying
    rw [callOffReturn_fill hf]
    generalize ((s.guardCancelled c).calledOff c .fill).stopPlaying c = v at *
    have hstate : v.chState c = .fill := by rw [State.chState, hcontrol]
    have hkeep := LandKeeps.requestJoin (.inl hstate)
    obtain ⟨ring, hjoined, -⟩ := hkeep.fill hstate
    obtain ⟨delivered, hsent, hdelivered⟩ := hkeep.output
    have hnothing : ((v.requestJoin c).ch c).cue.playing = none := by
      rcases requestJoin_lands (.inl hstate) with ⟨-, h, -⟩ | ⟨-, h, -⟩
      · rw [h, hplaying]
      · rw [h, hplaying, ite_self]
    dsimp only
    rw [hkeep.counters _ (by decide) rfl, hcounters _ rfl, calledOff_counter]
    refine ⟨rfl, ?_, ?_, ?_, ?_, fun h => absurd hf h, fun _ => ⟨?_, hnothing⟩⟩
    · rw [hjoined, hcontrol]
    · rw [hjoined, hcontrol]
    · rw [hjoined, hcontrol]
    · rw [hsent]
      exact hdelivered (by rw [houtput, hcontrol])
    · rw [hjoined, hcontrol]
  · have hcue := (CueOnly.refl c ((s.guardCancelled c).calledOff c .standby)).followOnCheck
    rw [callOffReturn_resumes hf]
    dsimp only
    rw [hcue.control, hcue.output, hcue.counters _ rfl, followOnCheck_playing, calledOff_ch, calledOff_counter, guardCancelled_ch]
    exact ⟨rfl, rfl, rfl, rfl, rfl, fun _ => ⟨rfl, rfl⟩, fun h => absurd h hf⟩

/-! ## What a notice does in each state -/

theorem takeVerdict_main (hs : (s.ch n.chan).control.state = .main) (hn : n.new = .failed) :
    s.takeVerdict n =
      if (s.ch n.chan).control.mode = .protected_ ∧ (s.ch n.chan).control.pin = .none then s.takeover n.chan .detector n.asserted none else s := by
  unfold State.takeVerdict
  dsimp only
  rw [hs, hn]

theorem takeVerdict_cueing (hs : (s.ch n.chan).control.state = .cueing) (hn : n.new = .failed) :
    s.takeVerdict n = if (s.ch n.chan).control.mode = .protected_ then s.cueingFailed n.chan n.asserted else s := by
  unfold State.takeVerdict
  dsimp only
  rw [hs, hn]

theorem takeVerdict_healthy (hs : (s.ch n.chan).control.state = .standby ∨ (s.ch n.chan).control.state = .fill) (hn : n.new = .healthy) :
    s.takeVerdict n = if s.guardAllowed n.chan then s.startGuard n.chan else s := by
  unfold State.takeVerdict
  dsimp only
  rcases hs with hs | hs <;> rw [hs, hn]

theorem takeVerdict_suspect (hs : (s.ch n.chan).control.state = .returnGuard) (hn : n.new = .suspect) :
    s.takeVerdict n = (s.modControl n.chan fun z => { z with guard := some 0 }).bump (.chan n.chan .guardRestarts) := by
  unfold State.takeVerdict
  dsimp only
  rw [hs, hn]
  rfl

theorem takeVerdict_calledOff
    (h : (s.ch n.chan).control.state = .returnGuard ∨ (s.ch n.chan).control.state = .returning ∧ (s.ch n.chan).control.pin = .none) (hn : n.new = .failed) :
    s.takeVerdict n = s.callOffReturn n.chan := by
  unfold State.takeVerdict
  dsimp only
  rcases h with hs | ⟨hs, hp⟩ <;> rw [hs, hn]
  exact if_pos hp

/-- A notice that no rule of the Channel Controller takes. -/
theorem takeVerdict_idle
    (takes : ¬((s.ch n.chan).control.state = .main ∧ n.new = .failed ∧ (s.ch n.chan).control.mode = .protected_ ∧ (s.ch n.chan).control.pin = .none))
    (fails : ¬((s.ch n.chan).control.state = .cueing ∧ n.new = .failed ∧ (s.ch n.chan).control.mode = .protected_))
    (guards : ¬(((s.ch n.chan).control.state = .standby ∨ (s.ch n.chan).control.state = .fill) ∧ n.new = .healthy ∧ s.guardAllowed n.chan = true))
    (restarts : ¬((s.ch n.chan).control.state = .returnGuard ∧ n.new = .suspect))
    (callsOff : ¬(n.new = .failed ∧
      ((s.ch n.chan).control.state = .returnGuard ∨ (s.ch n.chan).control.state = .returning ∧ (s.ch n.chan).control.pin = .none))) :
    s.takeVerdict n = s := by
  unfold State.takeVerdict
  dsimp only
  split <;> rename_i hs hn
  · exact if_neg fun h => takes ⟨hs, hn, h⟩
  · exact if_neg fun h => fails ⟨hs, hn, h⟩
  · exact if_neg fun h => guards ⟨.inl hs, hn, h⟩
  · exact if_neg fun h => guards ⟨.inr hs, hn, h⟩
  · exact absurd ⟨hs, hn⟩ restarts
  · exact absurd ⟨hn, .inl hs⟩ callsOff
  · exact if_neg fun h => callsOff ⟨hn, .inr ⟨hs, h⟩⟩
  · rfl

/-- R131: what the start of a return guard leaves. -/
theorem startGuard_leaves (hs : (s.ch c).control.state = .standby ∨ (s.ch c).control.state = .fill) :
    let t := s.startGuard c
    let x := (s.ch c).control
    (t.ch c).control = { x with state := .returnGuard, guard := some 0, returnOrigin := some (if x.state = .standby then .standby else .fill) } ∧
      (t.ch c).cue = (if x.state = .standby then (s.ch c).cue else { (s.ch c).cue with pendingCue := none, wait := none }) ∧
      (t.ch c).output = { (s.ch c).output with delivered := .returnGuard } := by
  rcases hs with hs | hs <;> dsimp only <;> rw [hs]
  · rw [startGuard_standby hs]
    simp
  · have hcancelled := (CueOnly.refl c s).requestCancel
    have hcontrol := hcancelled.control
    have houtput := hcancelled.output
    have hcue := State.requestCancel_cue s c
    rw [startGuard_fill hs]
    generalize s.requestCancel c = v at *
    rw [State.ch_modOutput_same, State.ch_modControl_same, hcontrol, houtput, hcue]
    exact ⟨rfl, rfl, rfl⟩

/-! ## Main theorem -/

/-- Settles O30: `Channel.evaluate` read as an equivalence for FAILED and for HEALTHY, the evaluation as one case split, and the notice by the state of the
channel, one lemma for each state that takes it. -/
theorem verdictRules : Obligations.VerdictRules := by
  unfold Obligations.VerdictRules
  refine ⟨fun x => ⟨?_, ?_⟩, evaluate_change, fun s n => ⟨.takeVerdict n (.refl _ _), ?_, ?_, ?_, ?_, ?_, ?_⟩⟩
  · refine evaluate_failed.trans (or_congr (exists_congr fun det => ?_) (and_congr_right' ?_))
    · rw [failing_iff, stands_iff]
      rfl
    · rw [pairFailing_iff, counted_iff, counted_iff, stands_iff, stands_iff]
      rfl
  · refine evaluate_healthy_iff.trans (forall_congr' fun det => ?_)
    rw [counted_iff]
    rfl
  · rintro ⟨hs, hn, hp⟩
    obtain ⟨⟨ring, hcontrol, r, hr, hopening⟩, hdelivered, hcounter⟩ := takeover_fill hs (cause := .detector) rfl n.asserted none
    have htaken : s.takeVerdict n = s.takeover n.chan .detector n.asserted none := (takeVerdict_main hs hn).trans (if_pos hp)
    dsimp only
    rw [htaken, hcontrol]
    simp only [TakeoverRecord.opening, Prod.mk.injEq] at hopening
    obtain ⟨h1, h2, h3, h4, h5⟩ := hopening
    exact ⟨rfl, rfl, rfl, rfl, rfl, rfl, rfl, hdelivered, hcounter, r, hr, h1, h2, h3, h4, h5⟩
  · rintro ⟨hs, hn, hm⟩
    dsimp only
    rw [takeVerdict_cueing hs hn, if_pos hm, cueingFailed_eq]
    exact ⟨by rw [State.ch_modOutput_same, State.ch_modControl_same], by rw [State.ch_modOutput_same, State.ch_modControl_same],
      by rw [State.ch_modOutput_same, State.ch_modControl_same], rfl, rfl⟩
  · rintro ⟨hs, hn, hg⟩
    dsimp only
    rw [takeVerdict_healthy hs hn, if_pos (guardAllowed_iff.2 hg)]
    exact startGuard_leaves hs
  · rintro ⟨hs, hn⟩
    exact takeVerdict_suspect hs hn
  · rintro ⟨hn, hs⟩
    obtain ⟨hcancels, hguard, hposition, horigin, hdelivered, hstandby, hfill⟩ := callOffReturn_leaves s n.chan
    dsimp only
    rw [takeVerdict_calledOff hs hn]
    refine ⟨fun h => ?_, fun h => ?_, hguard, hposition, horigin, hdelivered, fun h => hstandby (by rw [h]; decide), hfill⟩
    · exact hcancels.trans ((guardCancelled_counter s n.chan).trans (if_pos h))
    · exact hcancels.trans ((guardCancelled_counter s n.chan).trans (if_neg (by rw [h]; decide)))
  · exact fun takes fails guards restarts callsOff =>
      takeVerdict_idle takes fails (fun ⟨hs, hn, hg⟩ => guards ⟨hs, hn, guardAllowed_iff.1 hg⟩) restarts callsOff

end Sys2Proof.Machine

/-! PROOFS. DECLARE_SITE_LOST and RESTORE_SITE, and what they do to every channel (R86 to R90, R134). -/

namespace Sys2Proof.Machine

-- Each elaboration thread takes a large stack, and the text is compiled as one file under a memory limit: one thread at a time.
set_option Elab.async false

variable {s t u : State} {c : Chan} {rx : ControlRx}

/-! ## The notice of a site loss, taken for one channel (R87) -/

/-- The owner of a channel set to LOCAL (R87). -/
def State.disowned (s : State) (c : Chan) : State := s.modControl c fun y => { y with owner := .localSite }

theorem disowned_ch (s : State) (c : Chan) : (s.disowned c).ch c = { s.ch c with control := { (s.ch c).control with owner := .localSite } } := State.ch_modControl_same ..

theorem siteLossNotice_eq (s : State) (c : Chan) :
    s.siteLossNotice c =
      if (s.ch c).control.state = .returnGuard ∨ (s.ch c).control.state = .returning then (s.disowned c).callOff c true
      else if (s.ch c).control.state = .main ∧ (s.ch c).control.mode = .protected_ ∧ (s.ch c).control.pin ≠ .main then
        (s.disowned c).takeover c .site [] none
      else s.disowned c := by
  unfold State.siteLossNotice State.disowned
  dsimp only
  rw [State.ch_modControl_same]
  dsimp only
  cases (s.ch c).control.state <;> simp

/-- A channel that the loss leaves all but its owner. -/
theorem siteLossNotice_stays
    (h : (s.ch c).control.state ∈ [.outOfService, .cueing, .fill, .standby] ∨
      (s.ch c).control.state = .main ∧ ¬((s.ch c).control.mode = .protected_ ∧ (s.ch c).control.pin ≠ .main)) : s.siteLossNotice c = s.disowned c := by
  rw [siteLossNotice_eq]
  rcases h with h | ⟨hm, hp⟩
  · rw [if_neg, if_neg]
    · rintro ⟨hm, -⟩
      simp [hm] at h
    · rintro (hs | hs) <;> simp [hs] at h
  · rw [if_neg (by rw [hm]; decide), if_neg fun ⟨_, h⟩ => hp h]

theorem siteLossNotice_takesOver (hm : (s.ch c).control.state = .main) (hp : (s.ch c).control.mode = .protected_) (hpin : (s.ch c).control.pin ≠ .main) :
    s.siteLossNotice c = (s.disowned c).takeover c .site [] none := by
  rw [siteLossNotice_eq, if_neg (by rw [hm]; decide), if_pos ⟨hm, hp, hpin⟩]

theorem siteLossNotice_callsOff (h : (s.ch c).control.state = .returnGuard ∨ (s.ch c).control.state = .returning) :
    s.siteLossNotice c = (s.disowned c).callOff c true := by
  rw [siteLossNotice_eq, if_pos h]

/-- R134: a return called off by the loss of the site. -/
theorem callOff_site (s : State) (c : Chan) :
    s.callOff c true =
      if (s.ch c).control.returnOrigin = some .fill then (s.calledOff c .standby).requestJoin c else (s.calledOff c .standby).followOnCheck c := by
  unfold State.callOff
  dsimp only
  rw [← calledOff_eq]
  cases (s.ch c).control.returnOrigin with
  | none => rfl
  | some y => cases y <;> rfl

/-- The channel record of a return that the loss of the site has called off. -/
def Control.resumed (x : Control) : Control :=
  { x with owner := .localSite, guard := none, returnPosition := none, returnOrigin := none, state := .standby }

/-- A return that the loss of the site has called off, before the Cue Engine goes on with it. -/
def State.resumed (s : State) (c : Chan) : State := (s.disowned c).calledOff c .standby

theorem resumed_ch (s : State) (c : Chan) :
    (s.resumed c).ch c = { s.ch c with control := (s.ch c).control.resumed, output := { (s.ch c).output with delivered := .standby } } := by
  unfold State.resumed
  rw [calledOff_ch, disowned_ch]
  rfl

theorem resumed_standby (s : State) (c : Chan) : (s.resumed c).chState c = .standby := by
  unfold State.chState
  rw [resumed_ch]
  rfl

theorem siteLossNotice_returns (h : (s.ch c).control.state = .returnGuard ∨ (s.ch c).control.state = .returning) :
    s.siteLossNotice c = if (s.ch c).control.returnOrigin = some .fill then (s.resumed c).requestJoin c else (s.resumed c).followOnCheck c := by
  rw [siteLossNotice_callsOff h, callOff_site, disowned_ch]
  rfl

/-- The follow-on that a check finds due, with the server in reach: the CUE sent, and its cue pending (R161, R155). -/
theorem followOnCheck_sends {x : Cue} {e : Event} {p : Port} (hpath : onStandbyPath (s.chState c) = true) (hwait : (s.ch c).cue.pendingCue = none)
    (hplay : (s.ch c).cue.playing = some x) (hnext : s.nextEvent c x = some e) (hissue : s.issueReached c e = true)
    (hreach : s.reach (s.ch c).settings.server = some p) :
    s.followOnCheck c = s.sendCue c p .followOn e 0 (e.start + s.delay c) 0 (s.ch c).settings.cueAttempts := by
  have htarget : s.followOnTarget c = some e := by
    unfold State.followOnTarget
    rw [hpath, hwait, hplay]
    dsimp only
    rw [hnext]
    exact if_pos hissue
  unfold State.followOnCheck
  dsimp only
  unfold State.runFollowOn
  rw [htarget]
  dsimp only
  rw [hreach]

theorem followOnCheck_idle (h : (s.ch c).cue.pendingCue ≠ none ∨ (s.ch c).cue.playing = none) : s.followOnCheck c = s := by
  rcases h with h | h
  · exact followOnCheck_pending h
  · have htarget : s.followOnTarget c = none := by
      unfold State.followOnTarget
      rw [h]
      cases onStandbyPath (s.chState c) <;> cases (s.ch c).cue.pendingCue <;> rfl
    unfold State.followOnCheck
    dsimp only
    unfold State.runFollowOn
    rw [htarget]

/-! ## What the loss leaves of a channel -/

/-- The follow-on cue that a loss sends for the event `e`. -/
def State.lossFollowOn (s : State) (c : Chan) (e : Event) : Cue :=
  { number := some (s.ch c).cue.nextNumber, kind := .followOn, server := (s.ch c).settings.server
    player := (s.ch c).settings.player, event := e, offset := 0, materialPosition := e.material.inPoint.map fun i => i + 0
    playLength := e.duration, switchPosition := s.wrap (e.start + s.delay c : Nat), used := 0
    limit := (s.ch c).settings.cueAttempts, status := .sent }

/-- What the loss of the site leaves of a channel of `s`, by its state (R87, R134): `y` is the channel after the notice. -/
structure LossLeaves (s : State) (c : Chan) (y : Channel) : Prop where
  owner : y.control.owner = .localSite
  frame : { y with control := (s.ch c).control, cue := (s.ch c).cue, output := (s.ch c).output } = s.ch c
  stays : (s.ch c).control.state ∈ [.outOfService, .cueing, .fill, .standby] → y = { s.ch c with control := { (s.ch c).control with owner := .localSite } }
  resumes : (s.ch c).control.state = .returnGuard ∨ (s.ch c).control.state = .returning → (s.ch c).control.returnOrigin = some .standby →
    y.control = (s.ch c).control.resumed ∧ y.cue.playing = (s.ch c).cue.playing ∧
      ((s.ch c).cue.pendingCue ≠ none ∨ (s.ch c).cue.playing = none → y.cue = (s.ch c).cue) ∧
      ∀ p e, (s.ch c).cue.pendingCue = none → (s.ch c).cue.playing = some p →
        (((s.ch c).schedule.live.getD []).find? fun e => p.playingEnd ≤ e.start && s.time.h < e.start + s.delay c) = some e →
        s.signed ((e.start + s.delay c : Nat) - ((s.ch c).settings.lead : Int)) s.time.h ≤ 0 →
        s.settings.servers[(s.ch c).settings.server.val].mapped = true →
        s.linkUp (.standby s.settings.servers[(s.ch c).settings.server.val].port) = true →
        y.cue = { (s.ch c).cue with nextNumber := ((s.ch c).cue.nextNumber + 1) % 256, pendingCue := some (s.lossFollowOn c e) }
  rejoins : (s.ch c).control.state = .returnGuard ∨ (s.ch c).control.state = .returning → (s.ch c).control.returnOrigin = some .fill →
    { y.control with ring := (s.ch c).control.ring, state := .standby } = (s.ch c).control.resumed ∧
      (y.control.state = .standby ∧ y.cue.playing = (s.ch c).cue.playing ∧ (∃ x, y.cue.pendingCue = some x ∧ x.kind = .join ∧ x.status = .sent) ∨
        y.control.state = .fill ∧ y.cue.playing = none ∧ y.cue.pendingCue = none)
  takesOver : (s.ch c).control.state = .main → (s.ch c).control.mode = .protected_ → (s.ch c).control.pin ≠ .main →
    y.control.state = .fill ∧ y.control.cause = some .site ∧ y.control.sticky = true ∧ y.control.current = some (s.ch c).control.nextSequence
  keeps : (s.ch c).control.state = .main → ¬((s.ch c).control.mode = .protected_ ∧ (s.ch c).control.pin ≠ .main) →
    y = { s.ch c with control := { (s.ch c).control with owner := .localSite } }

/-- The follow-on check of a return that has been called off, in STANDBY with no cue pending. -/
theorem resumed_followOn {p : Cue} {e : Event} (hwait : (s.ch c).cue.pendingCue = none) (hplay : (s.ch c).cue.playing = some p)
    (hnext : (((s.ch c).schedule.live.getD []).find? fun e => p.playingEnd ≤ e.start && s.time.h < e.start + s.delay c) = some e)
    (hissue : s.signed ((e.start + s.delay c : Nat) - ((s.ch c).settings.lead : Int)) s.time.h ≤ 0)
    (hmapped : s.settings.servers[(s.ch c).settings.server.val].mapped = true)
    (hlink : s.linkUp (.standby s.settings.servers[(s.ch c).settings.server.val].port) = true) :
    (((s.resumed c).followOnCheck c).ch c).cue =
      { (s.ch c).cue with nextNumber := ((s.ch c).cue.nextNumber + 1) % 256, pendingCue := some (s.lossFollowOn c e) } := by
  have hch := resumed_ch s c
  have hdelay : (s.resumed c).delay c = s.delay c := by
    unfold State.delay
    rw [hch]
  have hstate := resumed_standby s c
  rw [followOnCheck_sends (x := p) (e := e) (p := .standby s.settings.servers[(s.ch c).settings.server.val].port) (by rw [hstate]; rfl) (by rw [hch]; exact hwait)
    (by rw [hch]; exact hplay), State.sendCue_cue]
  · have hcue : (s.resumed c).makeCue c .followOn e 0 (e.start + s.delay c) 0 (s.ch c).settings.cueAttempts (some (s.ch c).cue.nextNumber) .sent =
        s.lossFollowOn c e := by
      unfold State.makeCue
      rw [hch]
      rfl
    rw [hdelay, hch, hcue]
  · unfold State.nextEvent State.live
    rw [hch, hdelay]
    exact hnext
  · unfold State.issueReached
    dsimp only
    rw [hstate, hdelay, hch, Bool.and_eq_true]
    exact ⟨decide_eq_true (by exact_mod_cast hissue), rfl⟩
  · unfold State.reach
    dsimp only
    rw [hch]
    exact if_pos (by rw [Bool.and_eq_true]; exact ⟨hmapped, hlink⟩)

theorem siteLossNotice_owner (s : State) (c : Chan) : ((s.siteLossNotice c).ch c).control.owner = .localSite := by
  by_cases h : (s.ch c).control.state = .returnGuard ∨ (s.ch c).control.state = .returning
  · rw [siteLossNotice_returns h]
    split
    · obtain ⟨⟨ring, state, hjoined, -, -⟩, -, -⟩ := LandKeeps.requestJoin (.inr (resumed_standby s c))
      rw [hjoined, resumed_ch]
      rfl
    · rw [(CueOnly.refl c (s.resumed c)).followOnCheck.control, resumed_ch]
      rfl
  · rw [siteLossNotice_eq, if_neg h]
    split
    · rename_i hm
      obtain ⟨⟨ring, htaken, -⟩, -, -⟩ := takeover_fill (s := s.disowned c) (by rw [disowned_ch]; exact hm.1) (cause := .site) rfl [] none
      rw [htaken, disowned_ch]
      rfl
    · rw [disowned_ch]

theorem siteLossNotice_leaves (s : State) (c : Chan) : LossLeaves s c ((s.siteLossNotice c).ch c) := by
  have returns : (s.ch c).control.state = .returnGuard ∨ (s.ch c).control.state = .returning → (s.ch c).control.returnOrigin ≠ some .fill →
      s.siteLossNotice c = (s.resumed c).followOnCheck c := fun h ho => by rw [siteLossNotice_returns h, if_neg ho]
  have hcheck := (CueOnly.refl c (s.resumed c)).followOnCheck
  have hcontrol : (((s.resumed c).followOnCheck c).ch c).control = (s.ch c).control.resumed := by rw [hcheck.control, resumed_ch]
  have hstate := resumed_standby s c
  refine
    { owner := siteLossNotice_owner s c
      frame := (CueLocal.refl c s).siteLossNotice.channel
      stays := fun h => by rw [siteLossNotice_stays (.inl h), disowned_ch]
      resumes := fun h ho => ?_
      rejoins := fun h ho => ?_
      takesOver := fun h1 h2 h3 => ?_
      keeps := fun h1 h2 => by rw [siteLossNotice_stays (.inr ⟨h1, h2⟩), disowned_ch] }
  · rw [returns h (by rw [ho]; decide)]
    refine ⟨hcontrol, ?_, fun hidle => ?_, fun p e h1 h2 h3 h4 h5 h6 => resumed_followOn h1 h2 h3 h4 h5 h6⟩
    · rw [followOnCheck_playing, resumed_ch]
    · rw [followOnCheck_idle (by rw [resumed_ch]; exact hidle), resumed_ch]
  · have hkeep := LandKeeps.requestJoin (.inr hstate)
    obtain ⟨⟨ring, state, hjoined, -, -⟩, -, -⟩ := hkeep
    rw [siteLossNotice_returns h, if_pos ho]
    refine ⟨?_, ?_⟩
    · rw [hjoined, resumed_ch]
      rfl
    · rcases requestJoin_lands (.inr hstate) with ⟨h1, h2, h3⟩ | ⟨h1, h2, h3⟩
      · exact .inl ⟨h1.trans hstate, by rw [h2, resumed_ch], h3⟩
      · exact .inr ⟨h1, by rw [h2, if_pos hstate], h3⟩
  · obtain ⟨⟨ring, htaken, -⟩, -, -⟩ := takeover_fill (s := s.disowned c) (by rw [disowned_ch]; exact h1) (cause := .site) rfl [] none
    rw [siteLossNotice_takesOver h1 h2 h3, htaken, disowned_ch]
    exact ⟨rfl, rfl, rfl, rfl⟩

/-! ## The loss delivered to every channel (R87) -/

/-- Two states between which notices have been delivered to channels: what the notices of the others leave a channel to see. -/
structure Noticed (s t : State) : Prop where
  time : t.time = s.time
  settings : t.settings = s.settings
  poolFree : t.poolFree = s.poolFree
  slates : t.slates = s.slates
  pending : t.pending = s.pending
  linkUp : ∀ p, t.linkUp p = s.linkUp p

theorem Noticed.refl (s : State) : Noticed s s := ⟨rfl, rfl, rfl, rfl, rfl, fun _ => rfl⟩

theorem Noticed.trans (h : Noticed s t) (k : Noticed t u) : Noticed s u :=
  ⟨k.time.trans h.time, k.settings.trans h.settings, k.poolFree.trans h.poolFree, k.slates.trans h.slates, k.pending.trans h.pending,
    fun p => (k.linkUp p).trans (h.linkUp p)⟩

theorem Noticed.of_elsewhere (h : Elsewhere c s t) : Noticed s t :=
  ⟨h.time, h.settings, h.poolFree, h.slates, h.pending, fun p => by unfold State.linkUp; rw [h.ports]⟩

theorem Noticed.heard (s : State) (rx : ControlRx) : Noticed s (s.heard rx) :=
  ⟨State.heard_time .., State.heard_settings .., State.heard_poolFree .., State.heard_slates .., State.heard_pending .., State.heard_linkUp s rx⟩

theorem Noticed.raise (s : State) (r : Report) : Noticed s (s.raise r) := .of_elsewhere ((CueLocal.refl 0 s).raise r).toElsewhere

theorem Noticed.answered (s : State) (o : Origin) (rx : ControlRx) (kind : Nat) (r : Result) (contents : List Atom) :
    Noticed s (s.answered o rx kind r contents) :=
  ⟨State.reply_time .., State.reply_settings .., State.reply_poolFree .., State.reply_slates .., State.reply_pending ..,
    fun p => by unfold State.linkUp; rw [show (s.answered o rx kind r contents).ports = s.ports from State.reply_ports ..]⟩

theorem Noticed.markLost (s : State) (cause : LossCause) (how : SiteCause) : Noticed s (s.markLost cause how) :=
  Noticed.trans (t := (s.modSite fun x => { x with state := .lost, loss := some { cause := cause, position := s.time.h, left := s.site.state } }).bumpUnit .siteLosses)
    ⟨rfl, rfl, rfl, rfl, rfl, fun _ => rfl⟩ (.raise _ _)

/-- What a notice leaves of a channel that it finds as the channel stood before any notice. -/
theorem LossLeaves.of_noticed {y : Channel} (h : LossLeaves t c y) (hn : Noticed s t) (hch : t.ch c = s.ch c) : LossLeaves s c y := by
  have hdelay : t.delay c = s.delay c := by
    unfold State.delay
    rw [hch]
  have hwrap : t.wrap = s.wrap := by
    funext x
    unfold State.wrap State.cycle
    rw [hn.time]
  have hsigned : t.signed = s.signed := by
    funext x y
    unfold State.signed State.cycle
    rw [hn.time]
  have hcue : t.lossFollowOn c = s.lossFollowOn c := by
    funext e
    unfold State.lossFollowOn
    rw [hch, hdelay, hwrap]
  obtain ⟨h1, h2, h3, h4, h5, h6, h7⟩ := h
  rw [hch] at h2 h3 h5 h6 h7
  simp only [hch, hdelay, hsigned, hcue, hn.time, hn.settings, hn.linkUp] at h4
  exact ⟨h1, h2, h3, h4, h5, h6, h7⟩

theorem lossNotices_noticed (s : State) : Noticed s (s.eachChannel fun c t => t.siteLossNotice c) :=
  State.eachChannel_keeps (P := Noticed s) (fun c t h => h.trans (.of_elsewhere (CueLocal.refl c t).siteLossNotice.toElsewhere)) (.refl s)

theorem lossNotices_leave (s : State) (c : Chan) : LossLeaves s c ((s.eachChannel fun c t => t.siteLossNotice c).ch c) :=
  State.eachChannel_ch (P := Noticed s) (Q := LossLeaves s) (fun c t h => h.trans (.of_elsewhere (CueLocal.refl c t).siteLossNotice.toElsewhere))
    (fun c c' t _ hne => (CueLocal.refl c t).siteLossNotice.others c' hne) (fun c t h hch => (siteLossNotice_leaves t c).of_noticed h hch) (.refl s) c

theorem enterLost_leaves (s : State) (cause : LossCause) (how : SiteCause) (c : Chan) : LossLeaves s c ((s.enterLost cause how).ch c) := by
  rw [State.enterLost_eq]
  exact (lossNotices_leave (s.markLost cause how) c).of_noticed (.markLost ..) (State.markLost_ch ..)

theorem enterLost_noticed (s : State) (cause : LossCause) (how : SiteCause) : Noticed s (s.enterLost cause how) := by
  rw [State.enterLost_eq]
  exact (Noticed.markLost s cause how).trans (lossNotices_noticed _)

theorem enterLost_losses (s : State) (cause : LossCause) (how : SiteCause) :
    (s.enterLost cause how).counter (.whole .siteLosses) = satAdd (s.counter (.whole .siteLosses)) 1 := by
  rw [State.enterLost_eq, (lossNotices_keep _).2]
  unfold State.markLost State.reportSite
  rw [State.counter_raise _ _ _ (by simp), State.bumpUnit, State.counter_bump, if_pos rfl, State.counter_modSite]

/-! ## The commands (R86, R89) -/

theorem exec_declareSiteLost (h : Whole s .console rx) :
    exec (.declareSiteLost rx) s =
      .next (if s.site.state = .lost then (s.heard rx).answered .console rx 0x39 .accepted (optAtoms lossAtoms s.site.loss)
        else ((s.heard rx).enterLost .declared .declared).answered .console rx 0x39 .accepted [.num 1 0]) := by
  change Host.Outcome.next (s.catchUp.receiveControl rx .declareSiteLost 0) = _
  rw [heard_passOn (r := .declareSiteLost) h.1 trivial rfl, State.passOn, unitRequest_whole h]
  unfold State.takeDeclareLost State.commandDeclareLost
  rw [State.heard_site]
  cases hs : s.site.state <;> simp <;> rfl

theorem exec_restoreSite (h : Whole s .console rx) :
    exec (.restoreSite rx) s =
      .next ((s.heard rx).commandRestore.1.answered .console rx 0x3A (s.heard rx).commandRestore.2 []) := by
  change Host.Outcome.next (s.catchUp.receiveControl rx .restoreSite 0) = _
  rw [heard_passOn (r := .restoreSite) h.1 trivial rfl, State.passOn, unitRequest_whole h]
  rfl

/-! ## The end of a loss (R89, R90) -/

/-- The site restored, counted and reported, before any channel has the notice (R89). -/
def State.markRestored (s : State) : State :=
  ((s.modSite fun x => { x with state := siteTable x.viewA x.viewB x.automation, loss := none }).bumpUnit .siteRestores).reportSite .lost .restored

theorem commandRestore_ready (hl : s.site.state = .lost) (h : (s.site.viewA = true ∨ s.site.viewB = true) ∧ s.site.automation = .alive) :
    s.commandRestore = (s.markRestored.eachChannel fun c t => t.siteRestoreNotice c, .accepted) := by
  unfold State.commandRestore
  rw [hl]
  exact if_pos (by simpa using h)

theorem commandRestore_unready (hl : s.site.state = .lost) (h : ¬((s.site.viewA = true ∨ s.site.viewB = true) ∧ s.site.automation = .alive)) :
    s.commandRestore = (s.bump (.whole .restoreRefusals), .notReady) := by
  unfold State.commandRestore
  rw [hl]
  exact if_neg (by simpa using h)

theorem commandRestore_notLost (hl : s.site.state ≠ .lost) : s.commandRestore = (s, .notLost) := by
  unfold State.commandRestore
  split
  · rename_i h
    exact absurd h hl
  · rfl

theorem markRestored_site (ha : s.site.automation = .alive) (h : s.site.viewA = true ∨ s.site.viewB = true) :
    s.markRestored.site = { s.site with state := if s.site.viewA = true ∧ s.site.viewB = true then .normal else .degraded, loss := none } := by
  unfold State.markRestored State.reportSite
  rw [State.raise_site]
  change { s.site with state := siteTable s.site.viewA s.site.viewB s.site.automation, loss := none } = _
  rw [ha, siteTable_whenAlive, if_pos (c := s.site.viewA = true ∨ s.site.viewB = true) h]

theorem markRestored_ch (s : State) (c : Chan) : s.markRestored.ch c = s.ch c := State.ch_raise ..

theorem markRestored_counter (s : State) : s.markRestored.counter (.whole .siteRestores) = satAdd (s.counter (.whole .siteRestores)) 1 := by
  unfold State.markRestored State.reportSite
  rw [State.counter_raise _ _ _ (by simp), State.bumpUnit, State.counter_bump, if_pos rfl, State.counter_modSite]

/-- What the notice of a restore leaves of a channel of `s` (R90): `y` is the channel after it. -/
structure RestoreLeaves (s : State) (c : Chan) (y : Channel) : Prop where
  frame : { y with control := (s.ch c).control, cue := (s.ch c).cue, output := (s.ch c).output } = s.ch c
  guards : (s.ch c).monitor.verdict = .healthy → (s.ch c).control.cause = some .detector → (s.ch c).settings.autoReturn = true →
    (s.ch c).control.pin = .none → (s.ch c).control.suspended = false → (s.ch c).control.state = .standby ∨ (s.ch c).control.state = .fill →
    y.control.state = .returnGuard ∧ y.control.guard = some 0
  keeps : (s.ch c).monitor.verdict ≠ .healthy → y = s.ch c

theorem siteRestoreNotice_leaves (hs : s.site.state ≠ .lost) (c : Chan) : RestoreLeaves s c ((s.siteRestoreNotice c).ch c) := by
  refine ⟨(CueLocal.refl c s).siteRestoreNotice.channel, fun hv h1 h2 h3 h4 hstate => ?_, fun hv => ?_⟩ <;> unfold State.siteRestoreNotice
  · rw [if_pos ⟨hv, guardAllowed_iff.2 ⟨h1, h2, h3, h4, hs⟩⟩, (startGuard_leaves hstate).1]
    exact ⟨rfl, rfl⟩
  · rw [if_neg fun h => hv h.1]

theorem restoreNotices_leave (hs : s.site.state ≠ .lost) (c : Chan) :
    RestoreLeaves s c ((s.eachChannel fun c t => t.siteRestoreNotice c).ch c) :=
  State.eachChannel_ch (P := fun t => t.site = s.site) (Q := RestoreLeaves s) (fun c t h => (CueLocal.refl c t).siteRestoreNotice.site.trans h)
    (fun c c' t _ hne => (CueLocal.refl c t).siteRestoreNotice.others c' hne)
    (fun c t h hch => by
      obtain ⟨h1, h2, h3⟩ := siteRestoreNotice_leaves (s := t) (by rw [h]; exact hs) c
      rw [hch] at h1 h2 h3
      exact ⟨h1, h2, h3⟩) rfl c

theorem restoreNotices_keep (s : State) :
    (s.eachChannel fun c t => t.siteRestoreNotice c).site = s.site ∧
      ∀ k, (s.eachChannel fun c t => t.siteRestoreNotice c).counter (.whole k) = s.counter (.whole k) := by
  refine State.eachChannel_keeps (P := fun t => t.site = s.site ∧ ∀ k, t.counter (.whole k) = s.counter (.whole k)) (fun c t ⟨h1, h2⟩ => ?_) ⟨rfl, fun _ => rfl⟩
  have h := (CueLocal.refl c t).siteRestoreNotice
  exact ⟨h.site.trans h1, fun k => (h.counters _ rfl).trans (h2 k)⟩

/-! ## Main theorem -/

theorem answered_counter_whole (s : State) (o : Origin) (rx : ControlRx) (kind : Nat) (r : Result) (contents : List Atom) (k : UnitCtr) :
    (s.answered o rx kind r contents).counter (.whole k) = s.counter (.whole k) := by
  unfold State.answered State.reply
  split <;> [rw [State.counter_send, State.counter_bump]; rw [State.counter_bump]] <;> exact if_neg (by simp)

theorem answered_site (s : State) (o : Origin) (rx : ControlRx) (kind : Nat) (r : Result) (contents : List Atom) :
    (s.answered o rx kind r contents).site = s.site := State.reply_site ..

theorem heard_counter_whole (s : State) (rx : ControlRx) (k : UnitCtr) : (s.heard rx).counter (.whole k) = s.counter (.whole k) := by
  have counted : (s.bump (.port rx.port .carriersIn)).counter (.whole k) = s.counter (.whole k) := by rw [State.counter_bump, if_neg (by simp)]
  rw [← counted]
  unfold State.heard
  rcases rx.port with (_ | _) | n | side <;> rfl

/-- Settles O32: the notice of the loss and that of the restore, each taken for one channel and then carried over every channel. -/
theorem siteLostAndRestored : Obligations.SiteLostAndRestored := by
  unfold Obligations.SiteLostAndRestored
  refine ⟨fun s rx h => ⟨fun hl => ?_, fun hl => ?_⟩, fun s rx h => ⟨fun hl => ?_, fun hl hr => ?_, fun hl hr => ?_⟩⟩
  · rw [exec_declareSiteLost h, if_pos hl]
    cases s.site.loss <;> rfl
  · rw [exec_declareSiteLost h, if_neg hl]
    have hn := ((Noticed.heard s rx).trans (enterLost_noticed (s.heard rx) .declared .declared)).trans
      (.answered _ .console rx 0x39 .accepted [.num 1 0])
    refine ⟨_, rfl, ?_, ?_, hn.time, hn.settings, hn.poolFree, hn.slates, hn.pending, fun c => ?_⟩
    · rw [answered_site, enterLost_site, State.heard_site, State.heard_time]
    · rw [answered_counter_whole, enterLost_losses, heard_counter_whole]
      rfl
    · rw [answered_ch]
      obtain ⟨h1, h2, h3, h4, h5, h6, h7⟩ := (enterLost_leaves (s.heard rx) .declared .declared c).of_noticed (.heard s rx) (State.heard_ch ..)
      exact ⟨h1, h2, h3, h4, h5, h6, h7⟩
  · rw [exec_restoreSite h, commandRestore_notLost (by rw [State.heard_site]; exact hl)]
  · rw [exec_restoreSite h, commandRestore_unready (by rw [State.heard_site]; exact hl) (by rw [State.heard_site]; exact hr)]
  · rw [exec_restoreSite h, commandRestore_ready (by rw [State.heard_site]; exact hl) (by rw [State.heard_site]; exact hr)]
    have hsite := markRestored_site (s := s.heard rx) (by rw [State.heard_site]; exact hr.2) (by rw [State.heard_site]; exact hr.1)
    rw [State.heard_site] at hsite
    have hstate : (s.heard rx).markRestored.site.state ≠ .lost := by
      rw [hsite]
      dsimp only
      split <;> decide
    refine ⟨_, rfl, ?_, ?_, fun c => ?_⟩
    · rw [answered_site, (restoreNotices_keep _).1, hsite]
    · rw [answered_counter_whole, (restoreNotices_keep _).2, markRestored_counter, heard_counter_whole]
      rfl
    · obtain ⟨h1, h2, h3⟩ := restoreNotices_leave hstate c
      rw [markRestored_ch, State.heard_ch] at h1 h2 h3
      rw [answered_ch]
      dsimp only
      exact ⟨h1, h2, h3⟩

end Sys2Proof.Machine

/-! PROOFS. The links of the ports and the states of the contribution paths, with the site state that they give (R24, R25, R83 to R85). -/

namespace Sys2Proof.Machine

-- Each elaboration thread takes a large stack, and the text is compiled as one file under a memory limit: one thread at a time.
set_option Elab.async false

variable {s t u : State}

/-! ## Links (R24) -/

theorem exec_linkChange (h : s.settled = true) (p : Port) (up : Bool) : exec (.linkChange p up) s = .next (s.changeLink p up) := by
  rw [← State.catchUp_settled h]
  refine (congrArg Host.Outcome.next ?_ : _)
  rw [State.catchUp_settled h, State.catchUp_settled h]

theorem changeLink_same {p : Port} {up : Bool} (h : s.linkUp p = up) : s.changeLink p up = s := if_pos h

theorem changeLink_change {p : Port} {up : Bool} (h : s.linkUp p ≠ up) :
    s.changeLink p up =
      ({ s with ports := { s.ports with links := vmod s.ports.links (portIndex p) fun _ => up } } : State).bump (.port p .linkChanges) := if_neg h

/-! ## Paths (R25, R83) -/

/-- A path whose change is due, taken: the path's own state and its count (R25). -/
def State.pathTaken (s : State) (side : Side) (up : Bool) : State :=
  ((s.clearPathDue side).modPath side fun x => { x with up := up }).bump (.path side (if up then .ups else .downs))

theorem pathTaken_time (s : State) (side : Side) (up : Bool) : (s.pathTaken side up).time = s.time := by
  cases side <;> rfl

/-- The Site Supervisor's record with a path view delivered (R83). -/
def Site.viewing (x : Site) (side : Side) (up : Bool) : Site :=
  { x with
    viewA := match side with
      | .a => up
      | .b => x.viewA
    viewB := match side with
      | .a => x.viewB
      | .b => up }

theorem exec_path (s : State) (side : Side) (up : Bool) :
    exec (if up then .pathUp side else .pathDown side) s =
      .next (if s.pathDue side = true ∧ (s.path side).up = !up then
        ({ s.pathTaken side up with site := s.site.viewing side up } : State).evaluateSite .path up else s) := by
  cases up <;> cases side <;> rfl

/-- R84: a path view evaluates the site, but in LOST, and in STARTING only when it is UP. -/
theorem evaluateSite_path (s : State) (up : Bool) :
    s.evaluateSite .path up = if s.site.state = .lost ∨ (s.site.state = .starting ∧ up = false) then s else s.setSite .path := by
  unfold State.evaluateSite
  cases s.site.state <;> cases up <;> rfl

theorem enterLost_owner (s : State) (cause : LossCause) (how : SiteCause) (c : Chan) : ((s.enterLost cause how).ch c).control.owner = .localSite :=
  (enterLost_leaves s cause how c).owner

theorem setSite_lost (hn : s.site.state ≠ .lost) (hl : siteTable s.site.viewA s.site.viewB s.site.automation = .lost) (cause : SiteCause) :
    s.setSite cause = s.enterLost .conditions cause := by
  unfold State.setSite
  dsimp only
  rw [if_neg (by rw [hl]; exact Ne.symm hn), if_pos hl]

/-- A path that is due to change: the site evaluated with the view that it gives (R83 to R85). -/
theorem exec_path_due {side : Side} {up : Bool} (hdue : s.pathDue side = true) (hup : (s.path side).up = !up) :
    let view := s.site.viewing side up
    let new := siteTable view.viewA view.viewB s.site.automation
    let t := s.pathTaken side up
    let i := if up then Instr.pathUp side else Instr.pathDown side
    let quiet := s.site.state = .lost ∨ (s.site.state = .starting ∧ up = false) ∨ new = s.site.state
    (quiet → exec i s = .next { t with site := view }) ∧
    (¬quiet → new ≠ .lost →
      exec i s =
        .next (({ t with site := { view with state := new } } : State).raise
          (.site s.site.state new s.time.h .path view.viewA view.viewB s.site.automation))) ∧
    (¬quiet → new = .lost →
      ∃ u, exec i s = .next u ∧ u.site = { view with state := .lost, loss := some { cause := .conditions, position := s.time.h, left := s.site.state } } ∧
        ∀ c, (u.ch c).control.owner = .localSite) := by
  intro view new t i quiet
  have hexec : exec i s = .next (if s.site.state = .lost ∨ (s.site.state = .starting ∧ up = false) then { t with site := view }
      else ({ t with site := view } : State).setSite .path) := by
    rw [exec_path, if_pos ⟨hdue, hup⟩]
    exact congrArg Host.Outcome.next (evaluateSite_path _ up)
  have htime : ({ t with site := view } : State).time = s.time := pathTaken_time s side up
  rw [hexec]
  refine ⟨fun h => ?_, fun hq hn => ?_, fun hq hn => ?_⟩
  · split
    · rfl
    · rename_i hnot
      have hsame : new = s.site.state := h.elim (fun h => absurd (.inl h) hnot) fun h => h.elim (fun h => absurd (.inr h) hnot) id
      rw [setSite_same hsame]
  · have hnot : ¬(s.site.state = .lost ∨ s.site.state = .starting ∧ up = false) := fun h => hq (h.elim .inl fun h => .inr (.inl h))
    rw [if_neg hnot, setSite_change (s := { t with site := view }) (fun h => hq (.inr (.inr h))) hn, htime]
    rfl
  · have hnot : ¬(s.site.state = .lost ∨ s.site.state = .starting ∧ up = false) := fun h => hq (h.elim .inl fun h => .inr (.inl h))
    rw [if_neg hnot, setSite_lost (s := { t with site := view }) (fun h => hq (.inl h)) hn]
    exact ⟨_, rfl, (enterLost_site ..).trans (by rw [htime]; rfl), enterLost_owner _ _ _⟩

/-! ## Main theorem -/

/-- Settles O19: a link as one case split; a path through the evaluation of the site with the view that its change gives. -/
theorem linksAndPaths : Obligations.LinksAndPaths := by
  unfold Obligations.LinksAndPaths
  refine ⟨fun s p up h => ⟨fun hsame => ?_, fun hchange => ?_⟩, fun s side up => ⟨fun hnot => ?_, fun hdue hup => ?_⟩⟩
  · rw [exec_linkChange h, changeLink_same hsame]
  · rw [exec_linkChange h, changeLink_change hchange]
    refine ⟨_, rfl, vmod_get_same .., fun q hq => vmod_get_ne _ _ _ _ fun h => hq (portIndex_inj h), ?_, fun key hkey => ?_, rfl⟩
    · exact (State.counter_bump ..).trans (if_pos rfl)
    · exact (State.counter_bump ..).trans (if_neg hkey)
  · rw [exec_path, if_neg]
    rintro ⟨hdue, hup⟩
    rcases hnot with h | h
    · rw [h] at hdue
      exact absurd hdue (by decide)
    · rw [h] at hup
      revert hup
      cases up <;> decide
  · cases side <;> exact exec_path_due hdue hup

end Sys2Proof.Machine

/-! PROOFS. The end of a return guard, and the arrival of a channel in MAIN (R132, R133). -/

namespace Sys2Proof.Machine

-- Each elaboration thread takes a large stack, and the text is compiled as one file under a memory limit: one thread at a time.
set_option Elab.async false

variable {s t u : State} {c : Chan}

/-- R133: the return position of a guard that expires. -/
def State.guardReturnAt (s : State) (c : Chan) : Nat :=
  if (s.ch c).control.returnOrigin = some .fill ∨ (s.ch c).settings.returnMode = .immediate ∨ (s.ch c).schedule.state = .empty then
    s.wrap (s.time.h + 1 : Nat)
  else match ((s.ch c).schedule.live.getD []).find? fun e => s.time.h < e.start + s.delay c with
    | some e => s.wrap (e.start + s.delay c : Nat)
    | none => s.wrap (s.time.h + 1 : Nat)

theorem computeReturn_guard (s : State) (c : Chan) : s.computeReturn c false = s.guardReturnAt c := by
  by_cases h : (s.ch c).control.returnOrigin = some .fill
  · rw [computeReturn_fill h]
    exact (if_pos (.inl h)).symm
  · rw [computeReturn_paced h]
    unfold State.returnAt State.guardReturnAt
    simp only [h, false_or] <;> rfl

/-- The controller's step of a boundary taken (R132, R133). -/
def State.controlTaken (s : State) (c : Chan) : State := s.modWork c fun w => { w with control := false }

theorem controlTaken_guardReturnAt (s : State) (c : Chan) : (s.controlTaken c).guardReturnAt c = s.guardReturnAt c := by
  unfold State.guardReturnAt State.controlTaken State.delay State.wrap State.cycle
  simp

/-- A channel that enters RETURNING with the return origin it holds, before the Cue Engine is told (R133). -/
def State.returning (s : State) (c : Chan) (r : Nat) : State :=
  (s.modOutput c fun z => { z with delivered := .returning }).modControl c fun z => { z with state := .returning, guard := none, returnPosition := some r }

theorem entering_held (s : State) (c : Chan) (r : Nat) : s.entering c (s.ch c).control.returnOrigin r = s.returning c r := by
  unfold State.entering State.returning
  exact State.modControl_congr (by rw [State.ch_modOutput_same])

theorem expireGuard_eq (s : State) (c : Chan) :
    s.expireGuard c = ((s.bump (.chan c .guardExpiries)).returning c (s.guardReturnAt c)).tellReturn c (s.guardReturnAt c) := by
  unfold State.expireGuard
  rw [enterReturning_eq, computeReturn_guard, entering_held]
  rfl

theorem tellReturn_kept {r : Nat} (h : ∀ y, ¬((s.ch c).cue.pendingCue = some y ∧ y.kind = .followOn ∧ 0 ≤ s.signed y.switchPosition r)) :
    s.tellReturn c r = s := by
  unfold State.tellReturn
  split
  · rename_i y hy
    exact if_neg fun hk => h y ⟨hy, hk⟩
  · rfl

theorem tellReturn_cancels {r : Nat} {y : Cue} (hy : (s.ch c).cue.pendingCue = some y) (hk : y.kind = .followOn) (hr : 0 ≤ s.signed y.switchPosition r) :
    s.tellReturn c r = s.cancelPending c := by
  unfold State.tellReturn
  rw [hy]
  exact if_pos ⟨hk, hr⟩

/-! ## The arrival (R133) -/

/-- The current record closed at an arrival (R133). -/
def TakeoverRecord.arrived (r : TakeoverRecord) (h : Nat) : TakeoverRecord :=
  { r with returnPosition := some h, outcome := if r.outcome = .pending ∨ r.outcome = .noSchedule then .fillOnly else r.outcome }

theorem arrivalOutcome_eq (o : RecordOutcome) : arrivalOutcome o = if o = .pending ∨ o = .noSchedule then .fillOnly else o := by
  cases o <;> rfl

theorem arrive_control (s : State) (c : Chan) :
    ((s.arrive c).ch c).control =
      { (s.ch c).control with
        state := .main, cause := none, returnOrigin := none, returnPosition := none, returnAck := true, current := none
        ring := (s.ch c).control.ring.map fun r => if (s.ch c).control.current = some r.sequence then r.arrived s.time.h else r } := by
  unfold State.arrive State.closeRecord
  dsimp only
  rw [State.modRecord_eq, State.ch_modControl_same, State.ch_raise, State.bumpCh, State.ch_bump, State.ch_modControl_same, State.ch_modControl_same,
    (CueOnly.refl c (s.setState c .main)).endCues.control]
  unfold TakeoverRecord.arrived
  simp only [arrivalOutcome_eq]
  simp [State.setState]

theorem arrive_cue (s : State) (c : Chan) :
    ((s.arrive c).ch c).cue = { (s.ch c).cue with pendingCue := none, playing := none, wait := none, recordLink := false } := by
  unfold State.arrive State.closeRecord
  dsimp only
  rw [State.modRecord_eq, State.ch_modControl_same, State.ch_raise, State.bumpCh, State.ch_bump, State.ch_modControl_same, State.ch_modControl_same]
  dsimp only
  rw [State.endCues_cue]
  simp [State.setState]

theorem arrive_output (s : State) (c : Chan) : ((s.arrive c).ch c).output.delivered = .main := by
  unfold State.arrive State.closeRecord
  dsimp only
  rw [State.modRecord_eq, State.ch_modControl_same, State.ch_raise, State.bumpCh, State.ch_bump, State.ch_modControl_same, State.ch_modControl_same]
  dsimp only
  rw [(CueOnly.refl c (s.setState c .main)).endCues.output]
  simp [State.setState]

theorem arrive_counter (s : State) (c : Chan) : (s.arrive c).counter (.chan c .returns) = satAdd (s.counter (.chan c .returns)) 1 := by
  unfold State.arrive State.closeRecord
  dsimp only
  rw [State.modRecord_eq, State.counter_modControl, State.counter_raise _ _ _ (by simp), State.bumpCh, State.counter_bump, if_pos rfl, State.counter_modControl,
    State.counter_modControl, (CueOnly.refl c (s.setState c .main)).endCues.counters (.chan c .returns) rfl, State.counter_setState]

/-! ## Main theorem -/

/-- Settles O51. -/
theorem guardExpiryAndArrival : Obligations.GuardExpiryAndArrival := by
  unfold Obligations.GuardExpiryAndArrival
  intro s c x t returnAt
  refine ⟨fun h => ⟨?_, ?_⟩, fun hdue hs => ?_, fun hdue hs => ?_⟩
  · exact congrArg Host.Outcome.next (if_neg (by simp [h]))
  · exact congrArg Host.Outcome.next (if_neg (by simp [h]))
  · refine ⟨(s.controlTaken c).expireGuard c, congrArg Host.Outcome.next (if_pos ⟨hdue, hs⟩), ?_⟩
    have hr : (s.controlTaken c).guardReturnAt c = returnAt := controlTaken_guardReturnAt s c
    have hexpired := expireGuard_eq (s.controlTaken c) c
    rw [hr] at hexpired
    have hlocal : CueLocal c (s.controlTaken c) ((s.controlTaken c).expireGuard c) := .expireGuard (.refl c _)
    let v := ((s.controlTaken c).bump (.chan c .guardExpiries)).returning c returnAt
    have hcue : (v.ch c).cue = (s.ch c).cue := by simp [v, State.returning, State.controlTaken]
    have hcontrol : (v.ch c).control = { x with state := .returning, guard := none, returnPosition := some returnAt } := by
      simp [v, State.returning, State.controlTaken, x]
    have hcount : v.counter (.chan c .guardExpiries) = satAdd (s.counter (.chan c .guardExpiries)) 1 :=
      (State.counter_bump (s.controlTaken c) (.chan c .guardExpiries) _).trans (if_pos rfl)
    have htold := (CueOnly.refl c v).tellReturn returnAt
    refine ⟨?_, ?_, hlocal, fun ⟨y, hy, hk, hpos⟩ => ?_, fun hnone => ?_⟩
    · rw [hexpired, htold.control, hcontrol]
    · rw [hexpired, htold.counters _ rfl, hcount]
      rfl
    · have hcancels : v.tellReturn c returnAt = v.cancelPending c := tellReturn_cancels (by rw [hcue]; exact hy) hk hpos
      rw [hexpired, hcancels, State.cancelPending_cue, hcue]
      exact ⟨rfl, rfl⟩
    · have hkept : v.tellReturn c returnAt = v := tellReturn_kept fun y ⟨hy, hk⟩ => hnone y ⟨by rw [← hcue]; exact hy, hk⟩
      rw [hexpired, hkept]
      exact ⟨rfl, hcue⟩
  · refine ⟨(s.controlTaken c).arrive c, congrArg Host.Outcome.next (if_pos ⟨hdue, hs⟩), ?_, ?_, arrive_output _ c, ?_, .arrive (.refl c _)⟩
    · rw [arrive_control]
      simp [State.controlTaken, TakeoverRecord.arrived, x]
    · rw [arrive_cue]
      simp [State.controlTaken]
    · exact arrive_counter _ c

end Sys2Proof.Machine

/-! PROOFS. Follow-ons: the check that sends one, its switch, its failures, and the end of the schedule (R130, R161 to R164). -/

namespace Sys2Proof.Machine

-- Each elaboration thread takes a large stack, and the text is compiled as one file under a memory limit: one thread at a time.
set_option Elab.async false

variable {s t u : State} {c : Chan} {x p : Cue} {e : Event}

/-! ## The cue step of a boundary (R159 to R164) -/

/-- The cue step of a boundary taken. -/
def State.cueTaken (s : State) (c : Chan) : State := s.modWork c fun w => { w with cue := false }

theorem cueTaken_ch (s : State) (c : Chan) : (s.cueTaken c).ch c = { s.ch c with work := { (s.ch c).work with cue := false } } := State.ch_modWork_same ..

theorem endCueStep_eq (s : State) (c : Chan) (f : State → State) : s.endCueStep c f = (f (s.cueTaken c)).finishChannel c := rfl

/-- The step that a pending cue calls for at its switch position. -/
theorem cueStep_pending (hp : (s.ch c).cue.pendingCue = some x) (hr : s.signed x.switchPosition s.time.h ≤ 0) :
    s.cueStep c = some (match x.kind with
      | .join => if x.status = .ready then .joinSwitch x else .joinExpiry x
      | .followOn => if x.status = .ready then .followOnSwitch x else .followOnFailure x) := by
  unfold State.cueStep
  rw [hp]
  dsimp only
  rw [if_pos (show s.reached x.switchPosition = true from decide_eq_true hr)]
  cases x.kind <;> cases x.status <;> rfl

section
variable (hwait : (s.ch c).cue.pendingCue = none) (hplay : (s.ch c).cue.playing = some p) (hpath : onStandbyPath (s.chState c) = true)
include hwait hplay hpath

/-- The follow-on check that a playing cue with none pending calls for on the standby path (R161). -/
theorem cueStep_next (hnext : s.nextEvent c p = some e) : s.cueStep c = if s.issueReached c e then some .followOnCheck else none := by
  unfold State.cueStep
  rw [hwait]
  dsimp only
  rw [hpath, hplay]
  dsimp only
  rw [hnext]

/-- The end of the schedule that a playing cue with none pending calls for on the standby path (R164). -/
theorem cueStep_ends (hnext : s.nextEvent c p = none) :
    s.cueStep c = if s.signed (p.playingEnd + s.delay c : Nat) s.time.h ≤ 0 then some .endOfSchedule else none := by
  unfold State.cueStep
  rw [hwait]
  dsimp only
  rw [hpath, hplay]
  dsimp only
  rw [hnext]

end

theorem onStandbyPath_iff : ∀ x, onStandbyPath x = true ↔ x = .standby ∨ x = .returnGuard ∨ x = .returning := by
  intro x
  cases x <;> simp [onStandbyPath]

/-- R161: whether the issue position of an event has been reached, and in RETURNING it switches before the return position. -/
theorem issueReached_iff :
    s.issueReached c e = true ↔ s.signed ((e.start + s.delay c : Nat) - ((s.ch c).settings.lead : Int)) s.time.h ≤ 0 ∧
      ((s.ch c).control.state = .returning → ∀ q, (s.ch c).control.returnPosition = some q → s.signed (e.start + s.delay c : Nat) q < 0) := by
  unfold State.issueReached State.chState
  push_cast
  rw [Bool.and_eq_true, decide_eq_true_iff]
  refine and_congr_right' ?_
  cases (s.ch c).control.state <;> cases (s.ch c).control.returnPosition <;> simp

/-! ## The rows of a cue step -/

section
variable (hw : (s.ch c).work.cue = true)
include hw

theorem doJoinSwitch_of (h : s.cueStep c = some (.joinSwitch x)) : s.doJoinSwitch c = ((s.cueTaken c).switchCue c x).finishChannel c := by
  unfold State.doJoinSwitch
  rw [hw, h]
  exact endCueStep_eq s c _

theorem doJoinExpiry_of (h : s.cueStep c = some (.joinExpiry x)) :
    s.doJoinExpiry c = (((s.cueTaken c).bump (.chan c .cueExpiries)).failJoin c x).finishChannel c := by
  unfold State.doJoinExpiry
  rw [hw, h]
  exact endCueStep_eq s c _

theorem doFollowOnSwitch_of (h : s.cueStep c = some (.followOnSwitch x)) : s.doFollowOnSwitch c = ((s.cueTaken c).switchCue c x).finishChannel c := by
  unfold State.doFollowOnSwitch
  rw [hw, h]
  exact endCueStep_eq s c _

theorem doFollowOnFailure_of (h : s.cueStep c = some (.followOnFailure x)) :
    s.doFollowOnFailure c = (((((s.cueTaken c).cancelPending c).stopPlaying c).bump (.chan c .followOnFailures)).followOnFailed c).finishChannel c := by
  unfold State.doFollowOnFailure
  rw [hw, h]
  exact endCueStep_eq s c _

theorem doFollowOnCheck_of (h : s.cueStep c = some .followOnCheck) : s.doFollowOnCheck c = ((s.cueTaken c).followOnCheck c).finishChannel c := by
  unfold State.doFollowOnCheck
  rw [hw, h]
  exact endCueStep_eq s c _

theorem doEndOfSchedule_of (h : s.cueStep c = some .endOfSchedule) :
    s.doEndOfSchedule c = ((((s.cueTaken c).stopPlaying c).bump (.chan c .followOnFailures)).followOnFailed c).finishChannel c := by
  unfold State.doEndOfSchedule
  rw [hw, h]
  exact endCueStep_eq s c _

end

/-- A cue step that is not due. -/
theorem cueStep_notDue (hw : (s.ch c).work.cue = false) :
    s.doJoinSwitch c = s ∧ s.doJoinExpiry c = s ∧ s.doFollowOnSwitch c = s ∧ s.doFollowOnFailure c = s ∧ s.doFollowOnCheck c = s ∧ s.doEndOfSchedule c = s := by
  unfold State.doJoinSwitch State.doJoinExpiry State.doFollowOnSwitch State.doFollowOnFailure State.doFollowOnCheck State.doEndOfSchedule
  rw [hw]
  exact ⟨rfl, rfl, rfl, rfl, rfl, rfl⟩

theorem doFollowOnCheck_none (h : s.cueStep c = none) : s.doFollowOnCheck c = s := by
  unfold State.doFollowOnCheck
  rw [h]
  cases (s.ch c).work.cue <;> rfl

/-! ## A follow-on that failed (R130) -/

/-- What a follow-on failure leaves of a channel whose cues have been ended. -/
theorem followOnFailed_leaves (hplay : (s.ch c).cue.playing = none) (hwait : (s.ch c).cue.pendingCue = none) :
    let u := (s.bump (.chan c .followOnFailures)).followOnFailed c
    (u.ch c).cue.playing = none ∧ u.counter (.chan c .followOnFailures) = satAdd (s.counter (.chan c .followOnFailures)) 1 ∧
      ((s.ch c).control.state = .standby → (u.ch c).control.state = .fill ∧ (u.ch c).output.delivered = .fill) ∧
      ((s.ch c).control.state = .returnGuard ∨ (s.ch c).control.state = .returning →
        (u.ch c).control = { (s.ch c).control with returnOrigin := some .fill } ∧ (u.ch c).cue.pendingCue = none) := by
  intro u
  have hcount : (s.bump (.chan c .followOnFailures)).counter (.chan c .followOnFailures) = satAdd (s.counter (.chan c .followOnFailures)) 1 :=
    (State.counter_bump ..).trans (if_pos rfl)
  have hu : u = (s.bump (.chan c .followOnFailures)).followOnFailed c := rfl
  unfold State.followOnFailed State.chState at hu
  rw [State.ch_bump] at hu
  rw [hu]
  split
  · rename_i hs
    let v := (s.bump (.chan c .followOnFailures)).setState c .fill
    have hstate : v.chState c = .fill := by simp [v, State.chState, State.setState]
    have hdelivered : (v.ch c).output.delivered = .fill := by simp [v, State.setState]
    have hvplay : (v.ch c).cue.playing = none := by simp [v, State.setState, hplay]
    have hkeep := LandKeeps.requestJoin (.inl hstate)
    obtain ⟨ring, hcontrol, -⟩ := hkeep.fill hstate
    obtain ⟨delivered, houtput, hsent⟩ := hkeep.output
    have hfill : ((v.requestJoin c).ch c).control.state = .fill := by rw [hcontrol]; exact hstate
    refine ⟨?_, ?_, fun _ => ⟨hfill, ?_⟩, fun h => absurd hs (by rcases h with h | h <;> rw [h] <;> decide)⟩
    · rcases requestJoin_lands (.inl hstate) with ⟨-, h, -⟩ | ⟨-, h, -⟩
      · exact h.trans hvplay
      · exact h.trans (by rw [hvplay, ite_self])
    · exact (hkeep.counters _ (by decide) rfl).trans ((State.counter_setState ..).trans hcount)
    · rw [houtput]
      exact (hsent (hdelivered.trans hstate.symm)).trans hfill
  · rename_i hs
    refine ⟨?_, hcount, fun h => absurd (hs.symm.trans h) (by decide), fun _ => ⟨?_, ?_⟩⟩ <;> simp [hplay, hwait]
  · rename_i hs
    refine ⟨?_, hcount, fun h => absurd (hs.symm.trans h) (by decide), fun _ => ⟨?_, ?_⟩⟩ <;> simp [hplay, hwait]
  · rename_i h1 h2 h3
    exact ⟨hplay, hcount, fun h => absurd h h1, fun h => h.elim (fun h => absurd h h2) fun h => absurd h h3⟩

end Sys2Proof.Machine

/-! PROOFS. Each row of the follow-ons (R161 to R164), and a follow-on with its server out of reach (R155, R162). -/

namespace Sys2Proof.Machine

-- Each elaboration thread takes a large stack, and the text is compiled as one file under a memory limit: one thread at a time.
set_option Elab.async false

variable {s t u : State} {c : Chan} {x p : Cue} {e : Event}

/-! ## Switches (R159, R163) -/

theorem stopReplaced_only (s : State) (c : Chan) (x : Cue) : CueOnly c s (s.stopReplaced c x) := by
  unfold State.stopReplaced
  split
  · split
    · exact .refl c s
    · exact (CueOnly.refl c s).stopPlaying
  · exact .refl c s

theorem switchTaken_followOn (s : State) (c : Chan) (q : Nat) : s.switchTaken c .followOn q = s := by
  unfold State.switchTaken
  cases s.chState c <;> rfl

/-- A pending cue made the playing cue and counted, before the Channel Controller is told (R159, R163). -/
def State.nowPlaying (s : State) (c : Chan) (x : Cue) : State :=
  ((s.stopReplaced c x).modCue c fun y => { y with pendingCue := none, playing := some x }).bump (.chan c .switches)

theorem switchCue_nowPlaying (s : State) (c : Chan) (x : Cue) :
    s.switchCue c x = ((s.nowPlaying c x).switchTaken c x.kind x.switchPosition).followOnCheck c := rfl

theorem nowPlaying_control (s : State) (c : Chan) (x : Cue) : ((s.nowPlaying c x).ch c).control = (s.ch c).control := by
  unfold State.nowPlaying
  rw [State.ch_bump, State.ch_modCue_same]
  exact (stopReplaced_only s c x).control

theorem nowPlaying_output (s : State) (c : Chan) (x : Cue) : ((s.nowPlaying c x).ch c).output = (s.ch c).output := by
  unfold State.nowPlaying
  rw [State.ch_bump, State.ch_modCue_same]
  exact (stopReplaced_only s c x).output

theorem nowPlaying_cue (s : State) (c : Chan) (x : Cue) :
    ((s.nowPlaying c x).ch c).cue.playing = some x ∧ ((s.nowPlaying c x).ch c).cue.pendingCue = none := by
  unfold State.nowPlaying
  rw [State.ch_bump, State.ch_modCue_same]
  exact ⟨rfl, rfl⟩

theorem nowPlaying_switches (s : State) (c : Chan) (x : Cue) :
    (s.nowPlaying c x).counter (.chan c .switches) = satAdd (s.counter (.chan c .switches)) 1 := by
  unfold State.nowPlaying
  rw [State.counter_bump, if_pos rfl, State.counter_modCue, (stopReplaced_only s c x).counters _ rfl]

theorem switchCue_followOn (hk : x.kind = .followOn) : s.switchCue c x = (s.nowPlaying c x).followOnCheck c := by
  rw [switchCue_nowPlaying, hk, switchTaken_followOn]

/-! ## A check that sends (R161) -/

theorem nextEvent_eq (s : State) (c : Chan) (p : Cue) :
    s.nextEvent c p = ((s.ch c).schedule.live.getD []).find? fun e => p.playingEnd ≤ e.start && s.time.h < e.start + s.delay c := rfl

theorem reach_some {server : Fin 8} (hm : s.settings.servers[server.val].mapped = true) (hl : s.linkUp (.standby s.settings.servers[server.val].port) = true) :
    s.reach server = some (.standby s.settings.servers[server.val].port) := by
  unfold State.reach
  exact if_pos (by rw [Bool.and_eq_true]; exact ⟨hm, hl⟩)

theorem cueTaken_delay (s : State) (c : Chan) : (s.cueTaken c).delay c = s.delay c := by
  unfold State.delay
  rw [cueTaken_ch]

theorem cueTaken_nextEvent (s : State) (c : Chan) (p : Cue) : (s.cueTaken c).nextEvent c p = s.nextEvent c p := by
  rw [nextEvent_eq, nextEvent_eq, cueTaken_delay, cueTaken_ch]
  rfl

theorem cueTaken_issueReached (s : State) (c : Chan) (e : Event) : (s.cueTaken c).issueReached c e = s.issueReached c e := by
  unfold State.issueReached State.chState
  rw [cueTaken_delay, cueTaken_ch]
  rfl

/-! ## A server out of reach (R155, R162) -/

/-- The follow-on that stays pending as FAILED once its attempts have been used up with the server out of reach (R162). -/
def State.unreached (s : State) (c : Chan) (e : Event) (used limit : Nat) : Cue :=
  { number := none, kind := .followOn, server := (s.ch c).settings.server, player := (s.ch c).settings.player, event := e, offset := 0
    materialPosition := e.material.inPoint.map fun i => i + 0, playLength := e.duration, switchPosition := s.wrap (e.start + s.delay c : Nat), used := used
    limit := limit, status := .failed }

theorem Counters.add_add (x : Counters) (key : CounterKey) (m n : Nat) : (x.add key m).add key n = x.add key (m + n) := by
  unfold Counters.add
  cases key <;> simp [satAdd_satAdd]

theorem bumpBy_bump (s : State) (key : CounterKey) (n : Nat) : (s.bump key).bumpBy key n = s.bumpBy key (1 + n) := by
  unfold State.bump State.bumpBy
  rw [Counters.add_add]

/-- R162: each attempt with the server out of reach fails at once. -/
theorem runFollowOn_unreached (htarget : s.followOnTarget c = some e) (hreach : s.reach (s.ch c).settings.server = none) (fuel : Nat) {used limit : Nat}
    (hused : used < limit) (hlimit : limit ≤ 7) (hfuel : limit - used ≤ fuel) :
    let tries := if 2 ≤ forwardDistance s.cycle s.time.h (s.wrap (e.start + s.delay c : Nat)) then limit - used else 1
    State.runFollowOn fuel s c used limit =
      (s.bumpBy (.chan c .noServerFailures) tries).modCue c fun y => { y with pendingCue := some (s.unreached c e (used + tries) limit) } := by
  intro tries
  induction fuel generalizing s used with
  | zero => omega
  | succ fuel ih =>
    unfold State.runFollowOn
    rw [htarget]
    dsimp only
    rw [hreach]
    dsimp only
    split
    · rename_i h
      have htries : tries = 1 + (limit - (used + 1)) := (if_pos h.2).trans (by omega)
      have hrest : (if 2 ≤ forwardDistance (s.bumpCh c .noServerFailures).cycle (s.bumpCh c .noServerFailures).time.h
          ((s.bumpCh c .noServerFailures).wrap (e.start + (s.bumpCh c .noServerFailures).delay c : Nat)) then limit - (used + 1) else 1) = limit - (used + 1) :=
        if_pos h.2
      rw [ih (s := s.bumpCh c .noServerFailures) htarget hreach h.1 (by omega), hrest, htries, State.bumpCh, bumpBy_bump, ← Nat.add_assoc]
      rfl
    · rename_i h
      have htries : tries = 1 := by
        by_cases h2 : 2 ≤ forwardDistance s.cycle s.time.h (s.wrap (e.start + s.delay c : Nat))
        · exact (if_pos h2).trans (by
            have hlast : ¬used + 1 < limit := fun h1 => h ⟨h1, h2⟩
            omega)
        · exact if_neg h2
      have hfailed : failedAttempts used = used + 1 := by
        unfold failedAttempts
        omega
      rw [htries, hfailed]
      rfl

/-- The CUE of a follow-on sent (R155, R161). -/
theorem cueTaken_sends {port : Port} (hpath : onStandbyPath (s.chState c) = true) (hwait : (s.ch c).cue.pendingCue = none) (hplay : (s.ch c).cue.playing = some p)
    (hnext : s.nextEvent c p = some e) (hissue : s.issueReached c e = true) (hreach : s.reach (s.ch c).settings.server = some port) :
    (s.cueTaken c).followOnCheck c =
      ((((s.cueTaken c).modCue c fun y =>
        { y with nextNumber := ((s.ch c).cue.nextNumber + 1) % 256, pendingCue := some (s.lossFollowOn c e) }).bump (.chan c .cuesSent)).send port
        (.cue (s.ch c).settings.player (s.ch c).cue.nextNumber .followOn { e with start := s.wrap (e.start : Int) } 0 (s.wrap (e.start + s.delay c : Nat)))) := by
  have hch := cueTaken_ch s c
  have hdelay := cueTaken_delay s c
  have hcue : (s.cueTaken c).makeCue c .followOn e 0 (e.start + s.delay c) 0 (s.ch c).settings.cueAttempts (some (s.ch c).cue.nextNumber) .sent =
      s.lossFollowOn c e := by
    unfold State.makeCue
    rw [hch]
    rfl
  have hstate : (s.cueTaken c).chState c = s.chState c := by
    unfold State.chState
    rw [hch]
  rw [followOnCheck_sends (x := p) (e := e) (p := port) (by rw [hstate]; exact hpath) (by rw [hch]; exact hwait) (by rw [hch]; exact hplay)
    ((cueTaken_nextEvent s c p).trans hnext) ((cueTaken_issueReached s c e).trans hissue) (by rw [hch]; exact hreach), hdelay]
  unfold State.sendCue
  dsimp only
  rw [hch]
  dsimp only
  rw [hcue]
  rfl

/-! ## Failures (R130, R163, R164) -/

/-- What a follow-on failure leaves of a channel, where `t` is the part whose cue step has been taken. -/
def FollowOnFailed (s : State) (c : Chan) (u : State) : Prop :=
  (u.ch c).cue.playing = none ∧ u.counter (.chan c .followOnFailures) = satAdd (s.counter (.chan c .followOnFailures)) 1 ∧
    ((s.ch c).control.state = .standby → (u.ch c).control.state = .fill ∧ (u.ch c).output.delivered = .fill) ∧
    ((s.ch c).control.state = .returnGuard ∨ (s.ch c).control.state = .returning →
      (u.ch c).control = { (s.ch c).control with returnOrigin := some .fill } ∧ (u.ch c).cue.pendingCue = none) ∧
    CueLocal c (s.cueTaken c) u

/-- A follow-on failure taken once the channel's cues have been ended. -/
theorem followOnFailed_of {v : State} (h : CueOnly c (s.cueTaken c) v) (hplay : (v.ch c).cue.playing = none) (hwait : (v.ch c).cue.pendingCue = none)
    (hlocal : CueLocal c (s.cueTaken c) v) : FollowOnFailed s c ((v.bump (.chan c .followOnFailures)).followOnFailed c) := by
  obtain ⟨h1, h2, h3, h4⟩ := followOnFailed_leaves hplay hwait
  have hcontrol : (v.ch c).control = (s.ch c).control := by
    rw [h.control, cueTaken_ch]
  rw [hcontrol] at h3 h4
  rw [h.counters _ rfl] at h2
  exact ⟨h1, h2, h3, h4, (hlocal.bumpCh .followOnFailures).followOnFailed⟩

theorem doFollowOnFailure_failed (s : State) (c : Chan) :
    FollowOnFailed s c (((((s.cueTaken c).cancelPending c).stopPlaying c).bump (.chan c .followOnFailures)).followOnFailed c) := by
  have hcue := State.stopPlaying_cue ((s.cueTaken c).cancelPending c) c
  rw [State.cancelPending_cue] at hcue
  exact followOnFailed_of (CueOnly.refl c _).cancelPending.stopPlaying (by rw [hcue]) (by rw [hcue]) (CueLocal.refl c _).cancelPending.stopPlaying

theorem doEndOfSchedule_failed (hwait : (s.ch c).cue.pendingCue = none) :
    FollowOnFailed s c ((((s.cueTaken c).stopPlaying c).bump (.chan c .followOnFailures)).followOnFailed c) := by
  have hcue := State.stopPlaying_cue (s.cueTaken c) c
  rw [cueTaken_ch] at hcue
  exact followOnFailed_of (CueOnly.refl c _).stopPlaying (by rw [hcue]) (by rw [hcue]; exact hwait) (CueLocal.refl c _).stopPlaying

/-! ## Main theorem -/

/-- Settles O50: the step that the cues call for, read once by case; what a failure leaves; and, with the server out of reach, induction on the attempts left. -/
theorem followOns : Obligations.FollowOns := by
  unfold Obligations.FollowOns
  refine ⟨fun s c => ⟨fun hw => ?_, fun hw => ⟨fun x hp hk hr => ⟨fun hready => ?_, fun hnot => ?_⟩, fun p hwait hplay hstate =>
    ⟨fun hnone hend => ?_, fun e hsome hissue => ⟨fun hreturning hnot => ?_, fun hbefore hmapped hlink => ?_⟩⟩⟩⟩,
    fun s c p e used limit hused hlimit hwait hplay hstate hnext hissue hreach => ?_⟩
  · obtain ⟨-, -, h3, h4, h5, h6⟩ := cueStep_notDue hw
    exact ⟨congrArg Host.Outcome.next h5, congrArg Host.Outcome.next h3, congrArg Host.Outcome.next h4, congrArg Host.Outcome.next h6⟩
  · have hstep : s.cueStep c = some (.followOnSwitch x) := by
      rw [cueStep_pending hp hr, hk]
      exact congrArg some (if_pos hready)
    have hcheck := (CueOnly.refl c ((s.cueTaken c).nowPlaying c x)).followOnCheck
    have heq := switchCue_followOn (s := s.cueTaken c) (c := c) hk
    refine ⟨(s.cueTaken c).switchCue c x, congrArg Host.Outcome.next (doFollowOnSwitch_of hw hstep), ?_, ?_, ?_, (CueLocal.refl c _).switchCue x⟩
    · rw [heq, followOnCheck_playing]
      exact (nowPlaying_cue ..).1
    · rw [heq, hcheck.control, nowPlaying_control, cueTaken_ch]
    · rw [heq, hcheck.counters _ rfl, nowPlaying_switches]
      rfl
  · have hstep : s.cueStep c = some (.followOnFailure x) := by
      rw [cueStep_pending hp hr, hk]
      exact congrArg some (if_neg hnot)
    exact ⟨_, congrArg Host.Outcome.next (doFollowOnFailure_of hw hstep), doFollowOnFailure_failed s c⟩
  · have hstep : s.cueStep c = some .endOfSchedule := by
      rw [cueStep_ends hwait hplay ((onStandbyPath_iff _).2 hstate) hnone, if_pos hend]
    exact ⟨_, congrArg Host.Outcome.next (doEndOfSchedule_of hw hstep), doEndOfSchedule_failed hwait⟩
  · have hstep : s.cueStep c = none := by
      rw [cueStep_next hwait hplay ((onStandbyPath_iff _).2 hstate) hsome]
      exact if_neg fun h => hnot ((issueReached_iff.1 h).2 hreturning)
    exact congrArg Host.Outcome.next (doFollowOnCheck_none hstep)
  · have hpath := (onStandbyPath_iff (s.chState c)).2 hstate
    have hreached : s.issueReached c e = true := issueReached_iff.2 ⟨hissue, fun h => hbefore.resolve_left (not_not.2 h)⟩
    have hstep : s.cueStep c = some .followOnCheck := by
      rw [cueStep_next hwait hplay hpath hsome]
      exact if_pos hreached
    have hsent := cueTaken_sends hpath hwait hplay hsome hreached (reach_some hmapped hlink)
    exact congrArg Host.Outcome.next ((doFollowOnCheck_of hw hstep).trans (congrArg (fun z => State.finishChannel z c) hsent))
  · have hpath : onStandbyPath (s.chState c) = true := (onStandbyPath_iff _).2 (hstate.imp_right .inl)
    have hreached : s.issueReached c e = true :=
      issueReached_iff.2 ⟨hissue, fun h => absurd h (by rcases hstate with h | h <;> rw [h] <;> decide)⟩
    have htarget : s.followOnTarget c = some e := by
      unfold State.followOnTarget
      rw [hpath, hwait, hplay]
      dsimp only
      rw [nextEvent_eq, hnext]
      exact if_pos hreached
    exact runFollowOn_unreached htarget hreach (limit + 1) hused hlimit (by omega)

end Sys2Proof.Machine

/-! PROOFS. READY and REFUSED of a server, judged against the cues of a channel (R156 to R158, R162). -/

namespace Sys2Proof.Machine

-- Each elaboration thread takes a large stack, and the text is compiled as one file under a memory limit: one thread at a time.
set_option Elab.async false

variable {s t u : State} {c : Chan} {x p : Cue} {rx : ControlRx} {server : Fin 8} {player number : Nat}

/-- A control carrier of a standby server is counted at its port and taken by its kind (R22, R188). -/
theorem receive_fromServer (h : FromServer s rx server) (r : Request) (time : Nat) :
    s.catchUp.receiveControl rx r time = (s.bump (.port rx.port .carriersIn)).routeServer server r := by
  obtain ⟨hs, hl, hstamp, hchannel, hsender, hmapped, hport⟩ := h
  rw [State.catchUp_settled hs]
  obtain ⟨port, stamp, channel, sender, request, group⟩ := rx
  dsimp only at hstamp hchannel hsender hport
  subst hport hsender
  have hrange : ∀ q k, (s.bump (.port q k)).controlInRange stamp channel = true := by
    intro q k
    have : stamp < (s.bump (.port q k)).cycle := hstamp
    simp [State.controlInRange, this, hchannel]
  have hfrom : ∀ q k, (s.bump (.port q k)).senderOf (.standby s.settings.servers[server.val].port) (0x10 + server.val) = some (.server server) := by
    intro q k
    have hlt := server.isLt
    unfold State.senderOf
    dsimp only
    rw [if_neg (by omega), dif_pos (by omega)]
    simp [hmapped]
  have hloading : ∀ q k, (s.bump (.port q k)).loading = false := fun _ _ => hl
  simp [State.receiveControl, State.countCarrier, State.markTraffic, hrange, hfrom, hloading]

/-! ## The channels that an answer concerns (R156) -/

/-- Whether an answer of a server for a player concerns a channel (R156). -/
def State.answers (s : State) (server : Fin 8) (player : Nat) (c : Chan) : Prop :=
  s.inService c = true ∧ (sentTo (s.ch c).cue.pendingCue server.val player = true ∨ sentTo (s.ch c).cue.playing server.val player = true)

theorem answering_none (h : ∀ c, ¬s.answers server player c) : s.answering server.val player = [] := by
  unfold State.answering
  rw [List.filter_eq_nil_iff]
  exact fun c _ hc => h c (by simpa [State.answers] using hc)

theorem answering_one (hc : s.answers server player c) (h : ∀ c', s.answers server player c' → c' = c) : s.answering server.val player = [c] := by
  have hfilter : s.answering server.val player = Chan.all.filter (· == c) := by
    refine List.filter_congr fun c' _ => ?_
    rw [Bool.eq_iff_iff, beq_iff_eq]
    refine ⟨fun h' => h c' (by simpa [State.answers] using h'), fun h' => ?_⟩
    rw [h']
    simpa [State.answers] using hc
  rw [hfilter, List.filter_beq, List.count_eq_one_of_mem Chan.nodup_all (Chan.mem_all c)]
  rfl

section
variable (h : FromServer s rx server) (hplayer : player < 4)
include h hplayer

theorem exec_ready_none (hnone : ∀ c, ¬s.answers server player c) :
    exec (.ready rx player number) s = .next ((s.bump (.port rx.port .carriersIn)).bump (.whole .cueAnswersUnmatched)) := by
  refine congrArg Host.Outcome.next ((receive_fromServer h _ 0).trans ((if_pos hplayer).trans ?_))
  unfold State.takeReady
  rw [answering_none (s := s.bump _) hnone]
  rfl

theorem exec_refused_none (reason : Nat) (hnone : ∀ c, ¬s.answers server player c) :
    exec (.refused rx player number reason) s = .next ((s.bump (.port rx.port .carriersIn)).bump (.whole .cueAnswersUnmatched)) := by
  refine congrArg Host.Outcome.next ((receive_fromServer h _ 0).trans ((if_pos hplayer).trans ?_))
  unfold State.takeRefused
  rw [answering_none (s := s.bump _) hnone]
  rfl

variable (hc : s.answers server player c) (hone : ∀ c', s.answers server player c' → c' = c)
include hc hone

theorem exec_ready_one : exec (.ready rx player number) s = .next ((s.bump (.port rx.port .carriersIn)).judgeReady c server player number) := by
  refine congrArg Host.Outcome.next ((receive_fromServer h _ 0).trans ((if_pos hplayer).trans ?_))
  unfold State.takeReady
  rw [answering_one (s := s.bump _) hc hone]
  rfl

theorem exec_refused_one (reason : Nat) :
    exec (.refused rx player number reason) s = .next ((s.bump (.port rx.port .carriersIn)).judgeRefused c number) := by
  refine congrArg Host.Outcome.next ((receive_fromServer h _ 0).trans ((if_pos hplayer).trans ?_))
  unfold State.takeRefused
  rw [answering_one (s := s.bump _) hc hone]
  rfl

end

/-! ## READY and REFUSED for one channel (R157, R162) -/

theorem numbered_iff {x : Option Cue} : numbered x number = true ↔ ∃ y, x = some y ∧ y.number = some number := by
  cases x <;> simp [numbered]

/-- R157: a READY that no cue of the channel waits for. -/
def State.strayReady (s : State) (c : Chan) (server : Fin 8) (player number : Nat) : State :=
  (s.sendCancel c server player number).bump (.chan c .strayReadies)

section
variable (hp : (s.ch c).cue.pendingCue = some x) (hn : x.number = some number)
include hp hn

theorem judgeReady_numbered (server : Fin 8) (player : Nat) :
    s.judgeReady c server player number =
      (match some x.status with
      | some .sent => s.modCue c fun y => { y with pendingCue := y.pendingCue.map fun x => { x with status := .ready } }
      | some .ready => s.bumpCh c .readyDuplicates
      | _ => (s.sendCancel c server player number).bumpCh c .strayReadies) := by
  unfold State.judgeReady
  dsimp only
  rw [if_pos (numbered_iff.2 ⟨x, hp, hn⟩), hp]
  rfl

theorem judgeReady_sent (hx : x.status = .sent) :
    s.judgeReady c server player number = s.modCue c fun y => { y with pendingCue := some { x with status := .ready } } := by
  rw [judgeReady_numbered hp hn, hx]
  exact State.modCue_congr (by rw [hp]; rfl)

theorem judgeReady_ready (hx : x.status = .ready) : s.judgeReady c server player number = s.bump (.chan c .readyDuplicates) := by
  rw [judgeReady_numbered hp hn, hx]
  rfl

theorem judgeReady_failed (hx : x.status = .failed) : s.judgeReady c server player number = s.strayReady c server player number := by
  rw [judgeReady_numbered hp hn, hx]
  rfl

omit hn in
theorem judgeRefused_failed (hx : x.status = .failed) : s.judgeRefused c number = s.bump (.chan c .strayRefusals) := by
  unfold State.judgeRefused
  rw [hp]
  exact if_neg fun h => h.2 hx

theorem judgeRefused_pending (hx : x.status ≠ .failed) :
    s.judgeRefused c number =
      if x.kind = .join then (s.bump (.chan c .cueRefusals)).failJoin c x else (s.bump (.chan c .cueRefusals)).failFollowOn c x := by
  unfold State.judgeRefused
  rw [hp]
  dsimp only
  rw [if_pos ⟨hn, hx⟩]
  cases x.kind <;> rfl

end

section
variable (hnot : ∀ x, (s.ch c).cue.pendingCue = some x → x.number ≠ some number)
include hnot

theorem judgeReady_unnumbered (server : Fin 8) (player : Nat) :
    s.judgeReady c server player number =
      if numbered (s.ch c).cue.playing number then s.bump (.chan c .readyDuplicates) else s.strayReady c server player number := by
  have hwait : ¬numbered (s.ch c).cue.pendingCue number = true := fun h => by
    obtain ⟨y, hy, hn⟩ := numbered_iff.1 h
    exact hnot y hy hn
  exact if_neg hwait

theorem judgeReady_playing (server : Fin 8) (player : Nat) (h : ∃ x, (s.ch c).cue.playing = some x ∧ x.number = some number) :
    s.judgeReady c server player number = s.bump (.chan c .readyDuplicates) := by
  rw [judgeReady_unnumbered hnot, if_pos (numbered_iff.2 h)]

theorem judgeReady_stray (server : Fin 8) (player : Nat) (h : ∀ x, (s.ch c).cue.playing = some x → x.number ≠ some number) :
    s.judgeReady c server player number = s.strayReady c server player number := by
  have hplay : ¬numbered (s.ch c).cue.playing number = true := fun hp => by
    obtain ⟨y, hy, hn⟩ := numbered_iff.1 hp
    exact h y hy hn
  rw [judgeReady_unnumbered hnot, if_neg hplay]

theorem judgeRefused_unnumbered : s.judgeRefused c number = s.bump (.chan c .strayRefusals) := by
  unfold State.judgeRefused
  split
  · rename_i x hx
    exact if_neg fun h => hnot x hx h.1
  · rfl

end

/-- R162: a refused FOLLOW_ON that is not computed again stays pending as FAILED. -/
theorem failFollowOn_stays (hp : (s.ch c).cue.pendingCue = some x) (h : ¬(x.used + 1 < x.limit ∧ 2 ≤ forwardDistance s.cycle s.time.h x.switchPosition)) :
    s.failFollowOn c x = (s.cancelPending c).modCue c fun y => { y with pendingCue := some { x with used := min (x.used + 1) 7, status := .failed } } := by
  unfold State.failFollowOn State.cancelPending
  rw [if_neg h, hp]
  dsimp only
  rw [State.modCue_modCue]
  rfl

theorem failFollowOn_again (h : x.used + 1 < x.limit ∧ 2 ≤ forwardDistance s.cycle s.time.h x.switchPosition) :
    s.failFollowOn c x = (s.cancelPending c).runFollowOn (x.limit + 1) c (x.used + 1) x.limit := if_pos h

/-! ## Main theorem -/

/-- Settles O48: the channel that an answer concerns, then the answer judged by the cue that holds its number. -/
theorem serverAnswers : Obligations.ServerAnswers := by
  unfold Obligations.ServerAnswers
  refine fun s rx server player number reason h hplayer => ⟨fun hnone => ⟨exec_ready_none h hplayer hnone, exec_refused_none h hplayer reason hnone⟩, fun c hc hone => ?_⟩
  rw [exec_ready_one h hplayer hc hone, exec_refused_one h hplayer hc hone reason]
  refine ⟨fun x hp hn => ⟨fun hx => ?_, fun hx => ?_, fun hx => ⟨?_, ?_⟩, fun hx hk => ?_, fun hx hk => ⟨fun hagain => ?_, fun hstays => ?_⟩⟩,
    fun hnot => ⟨fun hplay => ?_, fun hplay => ?_, ?_⟩⟩
  · rw [judgeReady_sent (s := s.bump _) hp hn hx]
  · rw [judgeReady_ready (s := s.bump _) hp hn hx]
  · rw [judgeReady_failed (s := s.bump _) hp hn hx]
    rfl
  · rw [judgeRefused_failed (s := s.bump _) hp hx]
  · rw [judgeRefused_pending (s := s.bump _) hp hn hx, if_pos hk]
    rfl
  · rw [judgeRefused_pending (s := s.bump _) hp hn hx, if_neg (by rw [hk]; decide), failFollowOn_again (s := (s.bump _).bump _) hagain]
  · rw [judgeRefused_pending (s := s.bump _) hp hn hx, if_neg (by rw [hk]; decide), failFollowOn_stays (s := (s.bump _).bump _) hp hstays]
  · rw [judgeReady_playing (s := s.bump _) hnot server player hplay]
  · rw [judgeReady_stray (s := s.bump _) hnot server player hplay]
    rfl
  · rw [judgeRefused_unnumbered (s := s.bump _) hnot]

end Sys2Proof.Machine

/-! PROOFS. A join at its switch position (R128, R147, R158 to R160, R170). -/

namespace Sys2Proof.Machine

-- Each elaboration thread takes a large stack, and the text is compiled as one file under a memory limit: one thread at a time.
set_option Elab.async false

variable {s t u : State} {c : Chan} {x p : Cue}

/-! ## The playing cue replaced (R170) -/

/-- STOP sent for a playing cue that another replaces, or counted as unsent (R170). -/
def State.stopSent (s : State) (c : Chan) (p : Cue) : State :=
  match p.number, s.reach p.server with
  | none, _ => s
  | some n, some port => (s.bump (.chan c .stopsSent)).send port (.stop p.player.val n)
  | some _, none => s.bump (.chan c .cueControlsUnsent)

/-- What is sent when a cue replaces the playing one: nothing for the same server and player (R159, R170). -/
def State.replacing (s : State) (c : Chan) (x : Cue) : State :=
  match (s.ch c).cue.playing with
  | none => s
  | some p => if p.server = x.server ∧ p.player = x.player then s else s.stopSent c p

theorem stopPlaying_stopSent (hp : (s.ch c).cue.playing = some p) : s.stopPlaying c = (s.stopSent c p).modCue c fun y => { y with playing := none } := by
  unfold State.stopPlaying State.stopSent State.sendStop
  rw [hp]
  dsimp only
  cases p.number with
  | none => cases s.reach p.server <;> rfl
  | some n => cases s.reach p.server <;> rfl

theorem stopReplaced_modCue (s : State) (c : Chan) (x : Cue) (f : CueContext → CueContext) (hf : ∀ y : CueContext, f { y with playing := none } = f y) :
    (s.stopReplaced c x).modCue c f = (s.replacing c x).modCue c f := by
  unfold State.stopReplaced State.replacing
  cases hp : (s.ch c).cue.playing with
  | none => rfl
  | some p =>
    dsimp only
    split
    · rfl
    · rw [stopPlaying_stopSent hp, State.modCue_modCue]
      exact State.modCue_congr (hf _)

theorem nowPlaying_eq (s : State) (c : Chan) (x : Cue) :
    s.nowPlaying c x = ((s.replacing c x).modCue c fun z => { z with pendingCue := none, playing := some x }).bump (.chan c .switches) := by
  unfold State.nowPlaying
  rw [stopReplaced_modCue]
  exact fun _ => rfl

/-! ## The Channel Controller told of a join's switch (R128) -/

/-- R128: the current record as a join's switch leaves it. -/
def TakeoverRecord.switchedAt (r : TakeoverRecord) (q : Nat) : TakeoverRecord :=
  if r.outcome = .onStandby then r else { r with outcome := .onStandby, switchPosition := some q }

theorem TakeoverRecord.switchedAt_sequence (r : TakeoverRecord) (q : Nat) : (r.switchedAt q).sequence = r.sequence := by
  unfold TakeoverRecord.switchedAt
  split <;> rfl

/-- A channel that its join has taken to STANDBY (R128). -/
def State.onStandby (s : State) (c : Chan) (q : Nat) : State :=
  (s.modControl c fun z =>
    { z with state := .standby, ring := z.ring.map fun r => if z.current = some r.sequence then r.switchedAt q else r }).modOutput c fun z =>
      { z with delivered := .standby }

theorem onStandby_eq (s : State) (c : Chan) (q : Nat) : (s.modRecord c fun r => r.switchedAt q).setState c .standby = s.onStandby c q := by
  rw [State.modRecord_eq]
  unfold State.setState State.onStandby
  rw [State.modControl_modControl]

theorem currentSequence_eq (s : State) (c : Chan) :
    s.currentSequence c = ((s.ch c).control.ring.find? fun r => (s.ch c).control.current = some r.sequence).map TakeoverRecord.sequence := by
  unfold State.currentSequence
  rw [State.currentRecord_eq]

theorem onStandby_currentSequence (s : State) (c : Chan) (q : Nat) : (s.onStandby c q).currentSequence c = s.currentSequence c := by
  have hring : ((s.onStandby c q).ch c).control =
      { (s.ch c).control with
        state := .standby
        ring := (s.ch c).control.ring.map fun r => if (s.ch c).control.current = some r.sequence then r.switchedAt q else r } := by
    simp [State.onStandby]
  rw [currentSequence_eq, currentSequence_eq, hring]
  dsimp only
  rw [find?_mapIf _ _ _ fun r => r.switchedAt_sequence q, Option.map_map]
  exact congrFun (congrArg Option.map (funext fun r => r.switchedAt_sequence q)) _

theorem switchTaken_enters (h : (s.ch c).control.state = .cueing ∨ (s.ch c).control.state = .fill) (q : Nat) :
    s.switchTaken c .join q = (s.onStandby c q).raise (.switched c (s.currentSequence c) .join q .standby) := by
  have hstate : (s.onStandby c q).chState c = .standby := by simp [State.onStandby, State.chState]
  have hentered := onStandby_eq s c q
  unfold State.switchTaken
  unfold TakeoverRecord.switchedAt at hentered
  rw [show s.chState c = (s.ch c).control.state from rfl]
  rcases h with h | h <;> rw [h] <;> dsimp only <;> rw [hentered, hstate, onStandby_currentSequence]

theorem switchTaken_stays (h : (s.ch c).control.state = .standby ∨ (s.ch c).control.state = .returnGuard ∨ (s.ch c).control.state = .returning) (q : Nat) :
    s.switchTaken c .join q = s.raise (.switched c (s.currentSequence c) .join q (s.ch c).control.state) := by
  unfold State.switchTaken State.chState
  rcases h with h | h | h <;> rw [h]

/-- R128: a record of a channel record `y` as the switch of a join at `q` leaves it. -/
def Control.onStandby (y : Control) (q : Nat) (r : TakeoverRecord) : TakeoverRecord :=
  if y.current = some r.sequence ∧ r.outcome ≠ .onStandby then { r with outcome := .onStandby, switchPosition := some q } else r

theorem Control.onStandby_eq (y : Control) (q : Nat) (r : TakeoverRecord) :
    y.onStandby q r = if y.current = some r.sequence then r.switchedAt q else r := by
  unfold Control.onStandby TakeoverRecord.switchedAt
  by_cases hc : y.current = some r.sequence <;> by_cases ho : r.outcome = .onStandby <;> simp [hc, ho]

/-- The switch of a join, taken by the Channel Controller in a state other than MAIN (R128). -/
theorem switchTaken_join {y : Control} (hy : (s.ch c).control = y) (hmain : y.state ≠ .main) (hout : y.state ≠ .outOfService) (q : Nat) :
    s.switchTaken c .join q =
      (if y.state = .cueing ∨ y.state = .fill then
        (s.modControl c fun z => { z with state := .standby, ring := z.ring.map (y.onStandby q) }).modOutput c fun z => { z with delivered := .standby }
      else s).raise
        (.switched c ((y.ring.find? fun r => y.current = some r.sequence).map TakeoverRecord.sequence) .join q
          (if y.state = .cueing ∨ y.state = .fill then .standby else y.state)) := by
  have hsequence := currentSequence_eq s c
  rw [hy] at hsequence
  by_cases hentered : y.state = .cueing ∨ y.state = .fill
  · have honStandby : s.onStandby c q =
        (s.modControl c fun z => { z with state := .standby, ring := z.ring.map (y.onStandby q) }).modOutput c fun z => { z with delivered := .standby } := by
      unfold State.onStandby
      refine congrArg (fun v => State.modOutput v c _) (State.modControl_congr ?_)
      rw [hy]
      exact congrArg (fun ring => { y with state := .standby, ring := ring }) (List.map_congr_left fun r _ => (y.onStandby_eq q r).symm)
    rw [switchTaken_enters (by rw [hy]; exact hentered), if_pos hentered, if_pos hentered, hsequence, honStandby]
  · have hstays : y.state = .standby ∨ y.state = .returnGuard ∨ y.state = .returning := by
      revert hentered hmain hout
      cases y.state <;> simp
    rw [switchTaken_stays (by rw [hy]; exact hstays), if_neg hentered, if_neg hentered, hsequence, hy]

/-! ## The cues after a switch (R161) -/

theorem runFollowOn_kind (fuel : Nat) (used limit : Nat) (h : ∀ y, (s.ch c).cue.pendingCue = some y → y.kind = .followOn) :
    ∀ y, ((State.runFollowOn fuel s c used limit).ch c).cue.pendingCue = some y → y.kind = .followOn := by
  induction fuel generalizing s used with
  | zero => exact h
  | succ fuel ih =>
    unfold State.runFollowOn
    split
    · exact h
    · dsimp only
      split
      · rw [State.sendCue_cue]
        intro y hy
        cases hy
        rfl
      · split
        · exact ih (s := s.bumpCh c .noServerFailures) _ h
        · rw [State.ch_modCue_same]
          intro y hy
          cases hy
          rfl

theorem followOnCheck_kind (h : (s.ch c).cue.pendingCue = none) : ∀ y, ((s.followOnCheck c).ch c).cue.pendingCue = some y → y.kind = .followOn :=
  runFollowOn_kind _ _ _ fun y hy => by
    rw [h] at hy
    cases hy

/-! ## The rows of a join (R158 to R160) -/

section
variable (hw : (s.ch c).work.cue = true) (hp : (s.ch c).cue.pendingCue = some x) (hk : x.kind = .join) (hr : s.signed x.switchPosition s.time.h ≤ 0)
include hw hp hk hr

theorem exec_joinSwitch (hready : x.status = .ready) : exec (.joinSwitch c) s = .next (((s.cueTaken c).switchCue c x).finishChannel c) := by
  have hstep : s.cueStep c = some (.joinSwitch x) := by
    rw [cueStep_pending hp hr, hk]
    exact congrArg some (if_pos hready)
  exact congrArg Host.Outcome.next (doJoinSwitch_of hw hstep)

theorem exec_joinExpiry (hnot : x.status ≠ .ready) :
    exec (.joinExpiry c) s = .next ((((s.cueTaken c).bump (.chan c .cueExpiries)).failJoin c x).finishChannel c) := by
  have hstep : s.cueStep c = some (.joinExpiry x) := by
    rw [cueStep_pending hp hr, hk]
    exact congrArg some (if_neg hnot)
  exact congrArg Host.Outcome.next (doJoinExpiry_of hw hstep)

end

/-- The switch of a join: the playing cue replaced and counted, the Channel Controller told, and the follow-on check made (R128, R159). -/
theorem switchCue_join (hk : x.kind = .join) (hmain : (s.ch c).control.state ≠ .main) (hout : (s.ch c).control.state ≠ .outOfService) :
    let y := (s.ch c).control
    let entered := y.state = .cueing ∨ y.state = .fill
    let playing := s.nowPlaying c x
    s.switchCue c x =
      ((if entered then
        (playing.modControl c fun z => { z with state := .standby, ring := z.ring.map (y.onStandby x.switchPosition) }).modOutput c fun z =>
          { z with delivered := .standby }
      else playing).raise
        (.switched c ((y.ring.find? fun r => y.current = some r.sequence).map TakeoverRecord.sequence) .join x.switchPosition
          (if entered then .standby else y.state))).followOnCheck c := by
  dsimp only
  rw [switchCue_nowPlaying, hk, switchTaken_join (nowPlaying_control s c x) hmain hout]

/-- What the switch of a join leaves of a channel in CUEING or FILL (R128, R159). -/
theorem switchCue_enters (hk : x.kind = .join) (h : (s.ch c).control.state = .cueing ∨ (s.ch c).control.state = .fill) :
    let u := s.switchCue c x
    (u.ch c).control.state = .standby ∧ (u.ch c).output.delivered = .standby ∧ (u.ch c).cue.playing = some x ∧
      (∀ y, (u.ch c).cue.pendingCue = some y → y.kind = .followOn) ∧ u.counter (.chan c .switches) = satAdd (s.counter (.chan c .switches)) 1 := by
  have hmain : (s.ch c).control.state ≠ .main := by rcases h with h | h <;> rw [h] <;> decide
  have hout : (s.ch c).control.state ≠ .outOfService := by rcases h with h | h <;> rw [h] <;> decide
  obtain ⟨hplaying, hpending⟩ := nowPlaying_cue s c x
  have hswitches := nowPlaying_switches s c x
  dsimp only
  rw [switchCue_join hk hmain hout, if_pos h]
  generalize s.nowPlaying c x = v at *
  generalize hv : State.raise _ _ = w
  have hcheck := (CueOnly.refl c w).followOnCheck
  have hw : w.ch c = { v.ch c with
      control := { (v.ch c).control with state := .standby, ring := (v.ch c).control.ring.map ((s.ch c).control.onStandby x.switchPosition) }
      output := { (v.ch c).output with delivered := .standby } } := by
    rw [← hv, State.ch_raise, State.ch_modOutput_same, State.ch_modControl_same]
  have hcount : w.counter (.chan c .switches) = v.counter (.chan c .switches) := by
    rw [← hv, State.counter_raise _ _ _ (by simp), State.counter_modOutput, State.counter_modControl]
  rw [hcheck.control, hcheck.output, followOnCheck_playing, hcheck.counters _ rfl, hw, hcount]
  exact ⟨rfl, rfl, hplaying, followOnCheck_kind (by rw [hw]; exact hpending), hswitches⟩

end Sys2Proof.Machine

/-! PROOFS. What a schedule notice and a realignment do to the cues of a channel (R165 to R169). -/

namespace Sys2Proof.Machine

-- Each elaboration thread takes a large stack, and the text is compiled as one file under a memory limit: one thread at a time.
set_option Elab.async false

variable {s t u : State} {c : Chan} {x p : Cue} {n : Notice} {e : Event}

/-! ## Notices against cues (R165 to R167) -/

/-- Whether a notice names the event of an id; every notice but an amendment names every event. -/
def Notice.names (n : Notice) (id : Nat) : Prop :=
  match n with
  | .amendment _ items => ∃ i ∈ items, i.id = id
  | _ => True

/-- Whether a notice concerns a position of the closed range from `lo` to `hi`. -/
def Notice.shares (n : Notice) (lo hi : Int) : Prop :=
  match n with
  | .amendment _ items => ∃ i ∈ items, ∃ a b, (i.before = some (a, b) ∨ i.after = some (a, b)) ∧ ∃ q : Int, lo ≤ q ∧ q ≤ hi ∧ (a : Int) ≤ q ∧ q < (b : Int)
  | _ => True

theorem rangeTouches_iff {lo hi : Int} {r : Option (Nat × Nat)} :
    rangeTouches lo hi r = true ↔ ∃ a b, r = some (a, b) ∧ ∃ q : Int, lo ≤ q ∧ q ≤ hi ∧ (a : Int) ≤ q ∧ q < (b : Int) := by
  cases r with
  | none => simp [rangeTouches]
  | some r =>
    obtain ⟨a, b⟩ := r
    simp only [rangeTouches, Bool.and_eq_true, decide_eq_true_eq, Option.some.injEq, Prod.mk.injEq]
    constructor
    · rintro ⟨⟨⟨h1, h2⟩, h3⟩, h4⟩
      exact ⟨a, b, ⟨rfl, rfl⟩, max lo a, by omega, by omega, by omega, by omega⟩
    · rintro ⟨a', b', ⟨rfl, rfl⟩, q, h1, h2, h3, h4⟩
      exact ⟨⟨⟨by omega, by omega⟩, by omega⟩, by omega⟩

theorem Item.touches_iff {i : Item} {lo hi : Int} :
    i.touches lo hi = true ↔
      ∃ a b, (i.before = some (a, b) ∨ i.after = some (a, b)) ∧ ∃ q : Int, lo ≤ q ∧ q ≤ hi ∧ (a : Int) ≤ q ∧ q < (b : Int) := by
  unfold Item.touches
  rw [Bool.or_eq_true, rangeTouches_iff, rangeTouches_iff]
  constructor
  · rintro (⟨a, b, h, hq⟩ | ⟨a, b, h, hq⟩)
    · exact ⟨a, b, .inl h, hq⟩
    · exact ⟨a, b, .inr h, hq⟩
  · rintro ⟨a, b, h | h, hq⟩
    · exact .inl ⟨a, b, h, hq⟩
    · exact .inr ⟨a, b, h, hq⟩

/-- Whether a notice touches a pending cue (R165, R166). -/
def State.noticeTouches (s : State) (c : Chan) (n : Notice) (x : Cue) : Prop :=
  match x.kind with
  | .join =>
    n.names x.event.id ∨
      n.shares ((s.time.h : Int) + (s.ch c).settings.lead - s.delay c) ((s.time.h : Int) + forwardDistance s.cycle s.time.h x.switchPosition - s.delay c)
  | .followOn =>
    n.names x.event.id ∨ ∃ p, (s.ch c).cue.playing = some p ∧
      (n.names p.event.id ∨ n.shares ((p.event.start : Int) + p.event.duration) (x.event.start : Int))

theorem joinTouched_iff (s : State) (c : Chan) (x : Cue) (n : Notice) :
    s.joinTouched c x n = true ↔ n.names x.event.id ∨
      n.shares ((s.time.h : Int) + (s.ch c).settings.lead - s.delay c) ((s.time.h : Int) + forwardDistance s.cycle s.time.h x.switchPosition - s.delay c) := by
  cases n with
  | amendment id items =>
    simp only [State.joinTouched, Notice.names, Notice.shares, List.any_eq_true, Bool.or_eq_true, beq_iff_eq, Item.touches_iff, and_or_left, exists_or]
  | swap => simp [State.joinTouched, Notice.names]
  | cleared => simp [State.joinTouched, Notice.names]

theorem followOnTouched_iff (x : Cue) (playing : Option Cue) (n : Notice) :
    followOnTouched x playing n = true ↔ n.names x.event.id ∨ ∃ p, playing = some p ∧
      (n.names p.event.id ∨ n.shares ((p.event.start : Int) + p.event.duration) (x.event.start : Int)) := by
  cases n with
  | amendment id items =>
    cases playing with
    | none => simp [followOnTouched, Notice.names]
    | some p =>
      simp only [followOnTouched, Notice.names, Notice.shares, List.any_eq_true, Bool.or_eq_true, beq_iff_eq, Item.touches_iff, and_or_left, exists_or,
        Option.some.injEq, exists_eq_left', Cue.playingEnd, Event.finish, Nat.cast_add, or_assoc]
  | swap => simp [followOnTouched, Notice.names]
  | cleared => simp [followOnTouched, Notice.names]

theorem touchedPending_of (hp : (s.ch c).cue.pendingCue = some x) (h : s.noticeTouches c n x) : s.touchedPending c n = some x := by
  unfold State.touchedPending
  unfold State.noticeTouches at h
  rw [hp]
  dsimp only
  cases hk : x.kind <;> rw [hk] at h <;> dsimp only at h ⊢
  · rw [if_pos ((joinTouched_iff ..).2 h)]
  · rw [if_pos ((followOnTouched_iff ..).2 h)]

theorem touchedPending_none (h : ∀ x, (s.ch c).cue.pendingCue = some x → ¬s.noticeTouches c n x) : s.touchedPending c n = none := by
  unfold State.touchedPending
  cases hp : (s.ch c).cue.pendingCue with
  | none => rfl
  | some x =>
    have hx := h x hp
    unfold State.noticeTouches at hx
    dsimp only
    cases hk : x.kind <;> rw [hk] at hx <;> dsimp only at hx ⊢
    · rw [if_neg (mt (joinTouched_iff ..).1 hx)]
    · rw [if_neg (mt (followOnTouched_iff ..).1 hx)]

theorem playingTouched_iff (p : Cue) (n : Notice) : playingTouched p n = true ↔ n.names p.event.id := by
  cases n <;> simp [playingTouched, Notice.names]

end Sys2Proof.Machine

/-! PROOFS. What a schedule notice and a realignment do to the cues of a channel, case by case (R165 to R169). -/

namespace Sys2Proof.Machine

-- Each elaboration thread takes a large stack, and the text is compiled as one file under a memory limit: one thread at a time.
set_option Elab.async false

variable {s t u : State} {c : Chan} {x p : Cue} {n : Notice} {e : Event}

/-! ## A notice that touches the pending cue (R165, R166) -/

/-- The pending cue cancelled and counted for its recomputation (R165, R166, R169). -/
def State.recomputed (s : State) (c : Chan) : State := (s.cancelPending c).bump (.chan c .recomputes)

theorem recomputed_cue (s : State) (c : Chan) : ((s.recomputed c).ch c).cue = { (s.ch c).cue with pendingCue := none } := by
  unfold State.recomputed
  rw [State.ch_bump, State.cancelPending_cue]

theorem recomputed_live (s : State) (c : Chan) : (s.recomputed c).live c = s.live c := by
  unfold State.recomputed State.live
  rw [State.ch_bump, (CueOnly.refl c s).cancelPending.schedule]

theorem recomputeCue_eq (s : State) (c : Chan) (x : Cue) :
    s.recomputeCue c x = if x.kind = .join then s.join c x.used x.limit else s.runFollowOn (x.limit + 1) c x.used x.limit := by
  unfold State.recomputeCue State.recheckFollowOn
  cases x.kind <;> rfl

/-- The playing cue that takes its event as it now stands (R167). -/
def State.playingNow (s : State) (c : Chan) (e : Event) : State := s.modCue c fun y => { y with playing := y.playing.map fun q => { q with event := e } }

/-- Whether a notice is looked at against the playing cue (R167). -/
def State.noticeLooks (s : State) (c : Chan) (n : Notice) (p : Cue) : Prop := (s.ch c).cue.playing = some p ∧ n.names p.event.id

/-- The playing cue, if a notice is looked at against it (R167). -/
def State.noticePlaying (s : State) (c : Chan) (n : Notice) : Option Cue :=
  match (s.ch c).cue.playing with
  | some p => if playingTouched p n then some p else none
  | none => none

theorem noticePlaying_none (h : ∀ p, ¬s.noticeLooks c n p) : s.noticePlaying c n = none := by
  unfold State.noticePlaying
  cases hp : (s.ch c).cue.playing with
  | none => rfl
  | some p => exact if_neg fun ht => h p ⟨hp, (playingTouched_iff p n).1 ht⟩

theorem noticePlaying_some (h : s.noticeLooks c n p) : s.noticePlaying c n = some p := by
  unfold State.noticePlaying
  rw [h.1]
  exact if_pos ((playingTouched_iff p n).2 h.2)

theorem recomputed_noticePlaying (s : State) (c : Chan) (n : Notice) : (s.recomputed c).noticePlaying c n = s.noticePlaying c n := by
  unfold State.noticePlaying
  rw [recomputed_cue]

/-- The schedule wait that a notice has looked at again (R168). -/
def State.noticeWait (s : State) (c : Chan) (n : Notice) : Option (Nat × Nat) :=
  if recheckNotice n && s.chState c == .fill then (s.ch c).cue.wait else none

/-- A notice taken with the pending cue it touches, the channel's cues and its live list read from the part `v` in which that cue has been cancelled. -/
def State.afterTouched (s v : State) (c : Chan) (n : Notice) (touched : Option Cue) : State :=
  match v.noticePlaying c n with
  | some p =>
    match (v.live c).find? fun e => e.id == p.event.id with
    | none => ((v.cancelPending c).join c 0 (s.ch c).settings.cueAttempts).recheckTouched c touched
    | some e =>
      match touched with
      | some x => (v.playingNow c e).recomputeCue c x
      | none => v.playingNow c e
  | none =>
    match touched, s.noticeWait c n with
    | some x, _ => v.recomputeCue c x
    | none, some (used, most) => (v.clearWait c).join c used most
    | none, none => v

theorem takeNotice_eq (s : State) (c : Chan) (n : Notice) :
    s.takeNotice c n = s.afterTouched (if (s.touchedPending c n).isSome then s.recomputed c else s) c n (s.touchedPending c n) := rfl

section
variable (hp : (s.ch c).cue.pendingCue = some x) (h : s.noticeTouches c n x)
include hp h

theorem takeNotice_touched : s.takeNotice c n = s.afterTouched (s.recomputed c) c n (some x) := by
  rw [takeNotice_eq, touchedPending_of hp h]
  rfl

theorem touched_unlooked (hlook : ∀ p, ¬s.noticeLooks c n p) : s.takeNotice c n = (s.recomputed c).recomputeCue c x := by
  rw [takeNotice_touched hp h]
  unfold State.afterTouched
  rw [recomputed_noticePlaying, noticePlaying_none hlook]

theorem touched_kept (hlook : s.noticeLooks c n p) (hfind : ((s.live c).find? fun e => e.id == p.event.id) = some e) :
    s.takeNotice c n = ((s.recomputed c).playingNow c e).recomputeCue c x := by
  rw [takeNotice_touched hp h]
  unfold State.afterTouched
  rw [recomputed_noticePlaying, noticePlaying_some hlook]
  dsimp only
  rw [recomputed_live, hfind]

theorem touched_gone (hlook : s.noticeLooks c n p) (hgone : ((s.live c).find? fun e => e.id == p.event.id) = none) :
    s.takeNotice c n =
      (if x.kind = .join then (s.recomputed c).join c 0 (s.ch c).settings.cueAttempts
      else ((s.recomputed c).join c 0 (s.ch c).settings.cueAttempts).runFollowOn (x.limit + 1) c x.used x.limit) := by
  rw [takeNotice_touched hp h]
  unfold State.afterTouched
  rw [recomputed_noticePlaying, noticePlaying_some hlook]
  dsimp only
  rw [recomputed_live, hgone]
  dsimp only
  rw [cancelPending_of_none (by rw [recomputed_cue])]
  unfold State.recheckTouched State.recheckFollowOn
  dsimp only
  cases x.kind <;> rfl

end

/-! ## A notice that touches no pending cue (R167, R168) -/

section
variable (h : ∀ x, (s.ch c).cue.pendingCue = some x → ¬s.noticeTouches c n x)
include h

theorem takeNotice_untouched : s.takeNotice c n = s.afterTouched s c n none := by
  rw [takeNotice_eq, touchedPending_none h]
  rfl

theorem untouched_kept (hlook : s.noticeLooks c n p) (hfind : ((s.live c).find? fun e => e.id == p.event.id) = some e) :
    s.takeNotice c n = s.playingNow c e := by
  rw [takeNotice_untouched h]
  unfold State.afterTouched
  rw [noticePlaying_some hlook]
  dsimp only
  rw [hfind]

theorem untouched_gone (hlook : s.noticeLooks c n p) (hgone : ((s.live c).find? fun e => e.id == p.event.id) = none) :
    s.takeNotice c n = (s.cancelPending c).join c 0 (s.ch c).settings.cueAttempts := by
  rw [takeNotice_untouched h]
  unfold State.afterTouched
  rw [noticePlaying_some hlook]
  dsimp only
  rw [hgone]
  rfl

variable (hlook : ∀ p, ¬s.noticeLooks c n p)
include hlook

theorem untouched_waiting {used limit : Nat} (hs : (s.ch c).control.state = .fill) (hw : (s.ch c).cue.wait = some (used, limit)) (hn : n ≠ .cleared) :
    s.takeNotice c n = (s.clearWait c).join c used limit := by
  have hwait : s.noticeWait c n = some (used, limit) := by
    unfold State.noticeWait State.chState
    rw [hs, hw]
    cases n with
    | amendment => rfl
    | swap => rfl
    | cleared => exact absurd rfl hn
  rw [takeNotice_untouched h]
  unfold State.afterTouched
  rw [noticePlaying_none hlook, hwait]

theorem untouched_idle (hnot : (s.ch c).control.state ≠ .fill ∨ (s.ch c).cue.wait = none ∨ n = .cleared) : s.takeNotice c n = s := by
  have hwait : s.noticeWait c n = none := by
    unfold State.noticeWait State.chState
    rcases hnot with hs | hw | rfl
    · rw [if_neg (by simp [hs])]
    · rw [hw, ite_self]
    · exact if_neg (by simp [recheckNotice])
  rw [takeNotice_untouched h]
  unfold State.afterTouched
  rw [noticePlaying_none hlook, hwait]

end

/-! ## A realignment (R169) -/

theorem realignCues_seeking (h : (s.ch c).control.state = .cueing ∨ (s.ch c).control.state = .fill) :
    s.realignCues c = (match (s.ch c).cue.pendingCue with
      | some p => (s.recomputed c).join c p.used p.limit
      | none => s) := by
  unfold State.realignCues State.chState
  dsimp only
  rcases h with h | h <;> rw [h] <;> rfl

theorem realignCues_playing (h : (s.ch c).control.state = .standby ∨ (s.ch c).control.state = .returnGuard) {carried : Nat × Nat}
    (hc : (match (s.ch c).cue.pendingCue with
      | some p => if p.kind = .join then (p.used, p.limit) else (0, (s.ch c).settings.cueAttempts)
      | none => (0, (s.ch c).settings.cueAttempts)) = carried) :
    s.realignCues c =
      if (s.ch c).cue.pendingCue.isSome || (s.ch c).cue.playing.isSome then (s.recomputed c).join c carried.1 carried.2 else s := by
  unfold State.realignCues State.chState
  rw [← hc]
  dsimp only
  rcases h with h | h <;> rw [h] <;> rfl

theorem realignCues_returning (h : (s.ch c).control.state = .returning) : s.realignCues c = s.cancelPending c := by
  unfold State.realignCues State.chState
  dsimp only
  rw [h]

theorem realignCues_idle (h : (s.ch c).control.state = .main ∨ (s.ch c).control.state = .outOfService) : s.realignCues c = s := by
  unfold State.realignCues State.chState
  dsimp only
  rcases h with h | h <;> rw [h]

/-! ## Main theorem -/

theorem find_gone {l : List Event} {id : Nat} (h : ∀ e ∈ l, e.id ≠ id) : (l.find? fun e => e.id == id) = none :=
  List.find?_eq_none.2 fun e he => by simpa using h e he

/-- Settles O49: the two rows of a join, a notice by the cues that it touches, and a realignment by the state of the channel. -/
theorem joinsAtTheirSwitchPosition : Obligations.JoinsAtTheirSwitchPosition := by
  unfold Obligations.JoinsAtTheirSwitchPosition
  refine ⟨fun s c x => ⟨fun hw => ?_, fun hw hp hk hr => ⟨fun hready hentered => ?_, fun hready hmain hout => ?_, fun hnot => ?_⟩⟩,
    fun s c n => ⟨fun x hp h => ⟨fun hlook => ?_, fun p e hlook hfind => ?_, fun p hlook hgone => ?_⟩,
      fun h => ⟨fun p e hlook hfind => ?_, fun p hlook hgone => ?_, fun hlook => ⟨fun used limit hs hwait hn => ?_, fun hnot => ?_⟩⟩⟩,
    fun s c => ⟨fun hs => ⟨fun x hp => ?_, fun hp => ?_⟩, fun hs => ⟨fun x hp hk => ?_, fun hcues => ?_, fun hp hplay => ?_⟩, fun hs => ?_, fun hs => ?_⟩⟩
  · obtain ⟨h1, h2, -⟩ := cueStep_notDue hw
    exact ⟨congrArg Host.Outcome.next h1, congrArg Host.Outcome.next h2⟩
  · obtain ⟨h1, h2, h3, h4, h5⟩ := switchCue_enters (s := s.cueTaken c) hk (by rw [cueTaken_ch]; exact hentered)
    exact ⟨_, exec_joinSwitch hw hp hk hr hready, h1, h2, h3, h4, h5, (CueLocal.refl c _).switchCue x⟩
  · have hswitch := switchCue_join (s := s.cueTaken c) hk (by rw [cueTaken_ch]; exact hmain) (by rw [cueTaken_ch]; exact hout)
    rw [nowPlaying_eq] at hswitch
    unfold State.replacing at hswitch
    rw [cueTaken_ch] at hswitch
    exact (exec_joinSwitch hw hp hk hr hready).trans (congrArg (fun z => Host.Outcome.next (State.finishChannel z c)) hswitch)
  · exact exec_joinExpiry hw hp hk hr hnot
  · exact (touched_unlooked hp h hlook).trans (recomputeCue_eq _ c x)
  · exact (touched_kept hp h hlook hfind).trans (recomputeCue_eq _ c x)
  · exact touched_gone hp h hlook (find_gone hgone)
  · exact untouched_kept h hlook hfind
  · exact untouched_gone h hlook (find_gone hgone)
  · exact untouched_waiting h hlook hs hwait hn
  · exact untouched_idle h hlook hnot
  · rw [realignCues_seeking hs, hp]
    rfl
  · rw [realignCues_seeking hs, hp]
  · rw [realignCues_playing hs (carried := (x.used, x.limit)) (by rw [hp]; exact if_pos hk), hp]
    rfl
  · have hcarried : (match (s.ch c).cue.pendingCue with
        | some p => if p.kind = .join then (p.used, p.limit) else (0, (s.ch c).settings.cueAttempts)
        | none => (0, (s.ch c).settings.cueAttempts)) = (0, (s.ch c).settings.cueAttempts) := by
      rcases hcues with ⟨x, hp, hk⟩ | ⟨hp, -⟩
      · rw [hp]
        exact if_neg (by rw [hk]; decide)
      · rw [hp]
    have hany : ((s.ch c).cue.pendingCue.isSome || (s.ch c).cue.playing.isSome) = true := by
      rw [Bool.or_eq_true]
      rcases hcues with ⟨x, hp, -⟩ | ⟨-, hplay⟩
      · exact .inl (by rw [hp]; rfl)
      · exact .inr (Option.isSome_iff_ne_none.2 hplay)
    rw [realignCues_playing hs hcarried, if_pos hany]
    rfl
  · rw [realignCues_playing hs rfl, if_neg (by rw [hp, hplay]; decide)]
  · exact realignCues_returning hs
  · exact realignCues_idle hs

end Sys2Proof.Machine

/-! PROOFS. What the Schedule Store does at a boundary stays with its channel and the pool (R111 to R114). -/

namespace Sys2Proof.Machine

-- Each elaboration thread takes a large stack, and the text is compiled as one file under a memory limit: one thread at a time.
set_option Elab.async false

variable {s t u : State} {c : Chan}

/-- Two states that agree as `Beside` says, but for the records of the event pool that are free. -/
structure Around (c : Chan) (s t : State) : Prop where
  time : t.time = s.time
  ports : t.ports = s.ports
  site : t.site = s.site
  settings : t.settings = s.settings
  mgmt : t.mgmt.quiet = s.mgmt.quiet
  work : t.work = s.work
  pending : t.pending = s.pending
  outbox : s.outbox <+: t.outbox
  others : ∀ c' : Chan, c' ≠ c → t.ch c' = s.ch c'
  counters : ∀ key, foreign c key = true → t.counter key = s.counter key

theorem Beside.around (h : Beside c s t) : Around c s t :=
  ⟨h.time, h.ports, h.site, h.settings, h.mgmt, h.work, h.pending, h.outbox, h.others, h.counters⟩

theorem Around.refl (c : Chan) (s : State) : Around c s s := (Beside.refl c s).around

theorem Around.trans (h : Around c s t) (k : Around c t u) : Around c s u :=
  ⟨k.time.trans h.time, k.ports.trans h.ports, k.site.trans h.site, k.settings.trans h.settings, k.mgmt.trans h.mgmt, k.work.trans h.work,
   k.pending.trans h.pending, h.outbox.trans k.outbox, fun c' hc => (k.others c' hc).trans (h.others c' hc),
   fun key hk => (k.counters key hk).trans (h.counters key hk)⟩

theorem Around.beside (h : Around c s t) (k : Beside c t u) : Around c s u := h.trans k.around
theorem Around.elsewhere (h : Around c s t) (k : Elsewhere c t u) : Around c s u := h.beside k.beside

/-- Records taken from the pool or given back to it. -/
theorem Around.pool (c : Chan) (s : State) (n : Nat) : Around c s { s with poolFree := n } :=
  ⟨rfl, rfl, rfl, rfl, rfl, rfl, rfl, List.prefix_refl _, fun _ _ => rfl, fun _ _ => rfl⟩

theorem Elsewhere.setReplication (h : Elsewhere c s t) (new : Replication) (cause : ReplicationCause) : Elsewhere c s (t.setReplication c new cause) := by
  unfold State.setReplication
  dsimp only
  split
  · exact h
  · exact ((h.modSchedule _).bumpCh _).raise _

theorem Elsewhere.resync (h : Elsewhere c s t) : Elsewhere c s (t.resync c) := by
  unfold State.resync State.sendMain
  exact (((h.send _ _).send _ _).bumpCh _).modSchedule _

theorem Elsewhere.fallBehind (h : Elsewhere c s t) (new : Replication) (cause : ReplicationCause) : Elsewhere c s (t.fallBehind c new cause) :=
  (h.setReplication new cause).resync

theorem Around.freeShadow (s : State) (c : Chan) : Around c s (s.freeShadow c) := by
  unfold State.freeShadow
  exact (Around.pool c s _).elsewhere ((Elsewhere.refl c _).modSchedule _)

theorem Around.clearLists (s : State) (c : Chan) (cause : ReplicationCause) : Around c s (s.clearLists c cause) := by
  unfold State.clearLists
  exact ((Around.freeShadow s c).trans (.pool c _ _)).elsewhere
    ((((Elsewhere.refl c _).modSchedule _).fallBehind .empty cause).cueLocal ((CueLocal.refl c _).takeNotice .cleared))

theorem Around.countScheduleTimers (s : State) (c : Chan) : Around c s (s.countScheduleTimers c) := by
  unfold State.countScheduleTimers
  exact (Around.refl c s).elsewhere (((Elsewhere.refl c s).modSchedule _).modWork _)

theorem Around.retire (s : State) (c : Chan) : Around c s (s.retire c) := by
  unfold State.retire
  exact (Around.pool c s _).elsewhere (((Elsewhere.refl c _).modSchedule _).bumpBy _ _)

/-- Two states between which every channel may have been through a block's part of a boundary. -/
structure Through (s t : State) : Prop where
  time : t.time = s.time
  ports : t.ports = s.ports
  site : t.site = s.site
  settings : t.settings = s.settings
  mgmt : t.mgmt.quiet = s.mgmt.quiet
  work : t.work = s.work
  pending : t.pending = s.pending
  outbox : s.outbox <+: t.outbox
  counters : ∀ key, (∀ c, foreign c key = true) → t.counter key = s.counter key

theorem Through.refl (s : State) : Through s s := ⟨rfl, rfl, rfl, rfl, rfl, rfl, rfl, List.prefix_refl _, fun _ _ => rfl⟩

theorem Through.trans (h : Through s t) (k : Through t u) : Through s u :=
  ⟨k.time.trans h.time, k.ports.trans h.ports, k.site.trans h.site, k.settings.trans h.settings, k.mgmt.trans h.mgmt, k.work.trans h.work,
   k.pending.trans h.pending, h.outbox.trans k.outbox, fun key hk => (k.counters key hk).trans (h.counters key hk)⟩

theorem Around.through (h : Around c s t) : Through s t :=
  ⟨h.time, h.ports, h.site, h.settings, h.mgmt, h.work, h.pending, h.outbox, fun key hk => h.counters key (hk c)⟩

theorem Through.eachChannel {f : Chan → State → State} (hf : ∀ c t, Around c t (f c t)) (s : State) : Through s (s.eachChannel f) :=
  State.eachChannel_keeps (P := Through s) (fun c t h => h.trans (hf c t).through) (.refl s)

theorem Through.takeScheduleBoundary (s : State) (cycleEnd : Bool) : Through s (s.takeScheduleBoundary cycleEnd) := by
  unfold State.takeScheduleBoundary State.clearAllLists
  dsimp only
  refine Through.trans ?_ (.eachChannel (fun c t => Around.retire t c) _)
  split
  · exact .eachChannel (fun c t => Around.clearLists t c .cycleEnd) s
  · exact .eachChannel (fun c t => Around.countScheduleTimers t c) s

theorem Through.takeChannels (s : State) (realigned : Bool) : Through s (s.eachChannel fun c t => t.takeChannelBoundary c realigned) :=
  .eachChannel (fun c t => ((Beside.refl c t).takeChannelBoundary realigned).around) s

/-- A part as the Schedule Store finds it at a boundary: the unit's work begun afresh, the paths and the keepalive timer counted. -/
def State.counted (s : State) : State :=
  ({ s with work := { UnitWork.none with slates := s.slates.map Slate.state } } : State).takePathsBoundary.countKeepalive

/-- A part once every channel has been through a boundary. -/
def State.channelsTaken (s : State) (prev : Nat) (realigned : Bool) : State :=
  (s.counted.takeScheduleBoundary (cycleEndMark s.counted.time.rate prev s.counted.time.h)).eachChannel fun c t => t.takeChannelBoundary c realigned

theorem counted_time (s : State) : s.counted.time = s.time := by
  unfold State.counted State.countKeepalive
  split <;> rfl

theorem takeBoundary_eq (s : State) (prev : Nat) (realigned : Bool) :
    s.takeBoundary prev realigned =
      { s.channelsTaken prev realigned with
        work := { (s.channelsTaken prev realigned).work with warmEnd := (s.channelsTaken prev realigned).mgmt.restarting.isSome, report := true } } := by
  unfold State.takeBoundary State.channelsTaken State.counted
  dsimp only

theorem Through.channelsTaken (s : State) (prev : Nat) (realigned : Bool) : Through s.counted (s.channelsTaken prev realigned) :=
  (Through.takeScheduleBoundary s.counted _).trans (.takeChannels _ realigned)

theorem counted_slates (s : State) : s.counted.work.slates = s.slates.map Slate.state := by
  unfold State.counted State.countKeepalive
  split <;> rfl

theorem takeBoundary_slates (s : State) (prev : Nat) (realigned : Bool) : (s.takeBoundary prev realigned).work.slates = s.slates.map Slate.state := by
  rw [takeBoundary_eq, ← counted_slates s, ← (Through.channelsTaken s prev realigned).work]

end Sys2Proof.Machine

/-! PROOFS. The frame assembled for a channel at a boundary, with its ramp and its overrun (R174 to R186). -/

namespace Sys2Proof.Machine

-- Each elaboration thread takes a large stack, and the text is compiled as one file under a memory limit: one thread at a time.
set_option Elab.async false

variable {s t u : State} {c : Chan}

/-! ## The frame chosen (R174 to R176) -/

/-- A frame's tag, summary and pieces. -/
abbrev FrameParts := SourceTag × Summary × List (List Byte) × List (List Byte)

/-- A chosen frame as its parts. -/
def Chosen.parts (x : Chosen) : FrameParts := (x.tag, x.summary, x.video, x.audio)

/-- R176: the fill slate as the source of a frame. -/
def slateSource (slate : SlateState) : FrameParts :=
  match slate with
  | .filled p => (.slate, { vc := p.video.length, ac := 0, luma := p.luma, peaks := [] }, p.video, [])
  | _ => (.slateEmpty, { vc := 0, ac := 0, luma := 0, peaks := [] }, [], [])

/-- R175: the offer of a path as the source of a frame, with the fill slate where it offers none. -/
def offerSource (main : Prop) [Decidable main] (offer : Offer) (held : Option Frame) (fill : FrameParts) : FrameParts :=
  match offer, held with
  | .fresh, some f => (if main then .main else .standby, f.summary, f.video, f.audio)
  | .held, some f => (if main then .mainHeld else .standbyHeld, f.summary, f.video, f.audio)
  | _, _ => fill

/-- R174: the source of a channel's frame by the delivered state, with `fill` for the fill slate. -/
def Channel.source (x : Channel) (fill : FrameParts) : FrameParts :=
  let main := x.output.delivered = .main ∨ x.output.delivered = .cueing
  if x.output.delivered = .fill then fill
  else offerSource main (if main then x.align.mainOffer else x.align.standbyOffer) (if main then x.align.mainHeld else x.align.standbyHeld) fill

theorem slateChoice_parts (slate : SlateState) : (slateChoice slate).parts = slateSource slate := by
  cases slate <;> rfl

theorem offerChoice_parts (path : SourcePath) (o : Offer) (held : Option Frame) (slate : SlateState) :
    (match offerChoice path o held with
      | some x => x
      | none => slateChoice slate).parts = offerSource (path = .main) o held (slateSource slate) := by
  rw [← slateChoice_parts]
  cases path <;> cases o <;> cases held <;> rfl

theorem chooseFrame_parts (h : (s.ch c).output.delivered ≠ .outOfService) :
    (s.chooseFrame c).parts = (s.ch c).source (slateSource s.work.slates[(s.ch c).settings.fillSlate.val]) := by
  have main := offerChoice_parts .main (s.ch c).align.mainOffer (s.ch c).align.mainHeld s.work.slates[(s.ch c).settings.fillSlate.val]
  have standby := offerChoice_parts .standby (s.ch c).align.standbyOffer (s.ch c).align.standbyHeld s.work.slates[(s.ch c).settings.fillSlate.val]
  unfold State.chooseFrame onAir Channel.source
  cases hd : (s.ch c).output.delivered
  case outOfService => exact absurd hd h
  case fill => exact slateChoice_parts _
  case main | cueing =>
    refine main.trans ?_
    simp
  all_goals
    refine standby.trans ?_
    simp

/-! ## The assembly (R174 to R182) -/

theorem assemble_out (h : (s.ch c).output.delivered = .outOfService) : s.assemble c = s := if_pos h

/-- The ramp that a frame is sent under, before the frame is spent (R181). -/
def State.framesRamp (s : State) (c : Chan) : Ramp × Bool :=
  rampCompare (s.ch c).settings.rampEnable (s.ch c).output.lastCategory (categoryOf (s.chooseFrame c).tag) (s.ch c).output.ramp

/-- The frame that an assembly puts in the output buffer (R174, R178, R182). -/
def State.outFrame (s : State) (c : Chan) : OutFrame :=
  let y := (s.chooseFrame c).scaled (rampGain (s.framesRamp c).1)
  { stream := (s.ch c).settings.streamId, tag := y.tag, stamp := s.time.h, summary := y.summary, video := y.video, audio := y.audio }

/-- What an assembly leaves of a channel in service. -/
theorem assemble_ch (h : (s.ch c).output.delivered ≠ .outOfService) :
    (s.assemble c).ch c =
      { s.ch c with
        output :=
          { (s.ch c).output with
            lastCategory := some (categoryOf (s.chooseFrame c).tag), lastTag := some (s.chooseFrame c).tag, ramp := rampSpend (s.framesRamp c).1
            waiting := some (s.outFrame c) }
        work := { (s.ch c).work with ramp := rampDue (s.ch c).settings.rampStep (rampSpend (s.framesRamp c).1) } } := by
  unfold State.assemble State.bufferFrame State.outFrame State.framesRamp
  rw [if_neg h]
  dsimp only
  split <;> split <;> simp

theorem emittedCounter_ne (tag : SourceTag) : emittedCounter tag ≠ .rampsStarted ∧ emittedCounter tag ≠ .outputOverruns := by
  cases tag <;> decide

/-- What an assembly counts: a ramp that starts, the frame by its tag, and a frame that it replaces. -/
def State.assemblyCounted (s : State) (c : Chan) : State :=
  let started := if (s.framesRamp c).2 then s.bump (.chan c .rampsStarted) else s
  let emitted := started.bump (.chan c (emittedCounter (s.chooseFrame c).tag))
  if (s.ch c).output.waiting.isSome then emitted.bump (.chan c .outputOverruns) else emitted

theorem assemble_counter (h : (s.ch c).output.delivered ≠ .outOfService) (key : CounterKey) : (s.assemble c).counter key = (s.assemblyCounted c).counter key := by
  unfold State.assemble State.bufferFrame State.assemblyCounted State.framesRamp
  rw [if_neg h]
  dsimp only
  cases hw : (s.ch c).output.waiting.isSome <;> split <;> simp [hw, State.counter_bumpCh, State.counter_bump]

theorem assemblyCounted_emitted (s : State) (c : Chan) :
    (s.assemblyCounted c).counter (.chan c (emittedCounter (s.chooseFrame c).tag)) =
      satAdd (s.counter (.chan c (emittedCounter (s.chooseFrame c).tag))) 1 := by
  obtain ⟨h1, h2⟩ := emittedCounter_ne (s.chooseFrame c).tag
  unfold State.assemblyCounted
  dsimp only
  split <;> split <;> simp [State.counter_bump, h1, h2]

theorem assemblyCounted_overruns (s : State) (c : Chan) :
    (s.assemblyCounted c).counter (.chan c .outputOverruns) =
      if (s.ch c).output.waiting.isSome then satAdd (s.counter (.chan c .outputOverruns)) 1 else s.counter (.chan c .outputOverruns) := by
  obtain ⟨-, h2⟩ := emittedCounter_ne (s.chooseFrame c).tag
  unfold State.assemblyCounted
  dsimp only
  split <;> split <;> simp [State.counter_bump, h2.symm]

theorem assemblyCounted_ramps (s : State) (c : Chan) :
    (s.assemblyCounted c).counter (.chan c .rampsStarted) =
      if (s.framesRamp c).2 then satAdd (s.counter (.chan c .rampsStarted)) 1 else s.counter (.chan c .rampsStarted) := by
  obtain ⟨h1, -⟩ := emittedCounter_ne (s.chooseFrame c).tag
  unfold State.assemblyCounted
  dsimp only
  split <;> split <;> simp [State.counter_bump, h1.symm]

/-! ## The ramp of a frame (R181 to R184) -/

/-- Whether a frame of a source starts a ramp (R181). -/
def Channel.startsRamp (x : Channel) (tag : SourceTag) : Prop := x.output.lastCategory ≠ some (categoryOf tag) ∧ x.settings.rampEnable = true

theorem framesRamp_starts (h : (s.ch c).startsRamp (s.chooseFrame c).tag) : s.framesRamp c = (.running 1 0, true) := if_pos h

theorem framesRamp_same (h : ¬(s.ch c).startsRamp (s.chooseFrame c).tag) : s.framesRamp c = ((s.ch c).output.ramp, false) := if_neg h

/-- A frame of a running ramp: its audio and its peaks scaled by twice the step, in sixteenths (R183, R184). -/
theorem scaled_running (x : Chosen) {step : Nat} (spent : Nat) (h : step ≤ 7) :
    x.scaled (rampGain (.running step spent)) =
      { x with summary := { x.summary with peaks := x.summary.peaks.map fun p => p * (2 * step) / 16 }, audio := x.audio.map (scalePayload (2 * step)) } :=
  if_neg (by simp only [rampGain]; omega)

theorem scaled_idle (x : Chosen) : x.scaled (rampGain .idle) = x := if_pos rfl

/-! ## Main theorem -/

/-- Settles O52: the source read from the frame that is chosen, and the assembly by the ramp it is sent under. -/
theorem framesAreAssembled : Obligations.FramesAreAssembled := by
  unfold Obligations.FramesAreAssembled
  refine ⟨takeBoundary_slates, fun s c => ?_⟩
  intro x out slate source
  refine ⟨assemble_out, fun h => ?_⟩
  have hsource : source = (s.chooseFrame c).parts := (chooseFrame_parts h).symm
  rw [hsource]
  intro t starts
  have hch : t.ch c = _ := assemble_ch h
  have hcounter : ∀ key, t.counter key = (s.assemblyCounted c).counter key := assemble_counter h
  have hout : (t.ch c).output.waiting = some (s.outFrame c) := by rw [hch]
  have hramp : (t.ch c).output.ramp = rampSpend (s.framesRamp c).1 := by rw [hch]
  have hdue : (t.ch c).work.ramp = rampDue x.settings.rampStep (rampSpend (s.framesRamp c).1) := by rw [hch]
  have hstarts : ∀ h : starts, s.framesRamp c = (.running 1 0, true) := framesRamp_starts
  have hsame : ∀ h : ¬starts, s.framesRamp c = (out.ramp, false) := framesRamp_same
  refine ⟨by rw [hch]; rfl, by rw [hch]; rfl, (hcounter _).trans (assemblyCounted_emitted s c), fun hw => ?_, fun hw => ?_, fun hs => ⟨?_, ?_⟩, fun hs => ?_,
    fun step spent hs hrun hstep => ⟨?_, ?_, ?_⟩, fun hs => ⟨?_, ?_⟩, fun hs hidle => ⟨?_, ?_⟩⟩
  · rw [hcounter, assemblyCounted_overruns, if_pos (Option.isSome_iff_ne_none.2 hw)]
    rfl
  · rw [hcounter, assemblyCounted_overruns, if_neg (by rw [show (s.ch c).output.waiting = none from hw]; decide)]
  · rw [hcounter, assemblyCounted_ramps, hstarts hs]
    rfl
  · rw [hdue, hstarts hs]
    rfl
  · rw [hcounter, assemblyCounted_ramps, hsame hs]
    rfl
  · rw [hramp, hsame hs, hrun]
    rfl
  · rw [hdue, hsame hs, hrun]
    rfl
  · rw [hout, State.outFrame, hsame hs, hrun, scaled_running _ _ hstep]
    rfl
  · rw [hramp, hstarts hs]
    rfl
  · rw [hout, State.outFrame, hstarts hs, scaled_running _ _ (by decide)]
    rfl
  · rw [hramp, hsame hs, hidle]
    rfl
  · rw [hout, State.outFrame, hsame hs, hidle, scaled_idle]
    rfl

end Sys2Proof.Machine

/-! PROOFS. The scaling of audio, sample by sample (R183, R208). -/

namespace Sys2Proof.Machine

-- Each elaboration thread takes a large stack, and the text is compiled as one file under a memory limit: one thread at a time.
set_option Elab.async false

/-! ## Samples (R183, R208) -/

theorem sampleOf_eq (a b d : Byte) :
    sampleOf a b d = ((a.toNat * 65536 + b.toNat * 256 + d.toNat : Nat) : Int) - (if 128 ≤ a.toNat then 16777216 else 0) := by
  have ha := a.isLt
  have hb := b.isLt
  have hd := d.isLt
  unfold sampleOf bigEndian
  simp only [List.foldl_cons, List.foldl_nil]
  push_cast
  split_ifs <;> omega

theorem sampleBytes_eq (x : Int) :
    sampleBytes x = [BitVec.ofNat 8 ((x % 16777216).toNat / 65536), BitVec.ofNat 8 ((x % 16777216).toNat / 256), BitVec.ofNat 8 (x % 16777216).toNat] := by
  simp [sampleBytes, toBytes]

theorem sampleBytes_length (x : Int) : (sampleBytes x).length = 3 := by
  rw [sampleBytes_eq]
  rfl

/-- A sample in range reads back as it was (R208). -/
theorem sampleOf_sampleBytes {x : Int} (h1 : -8388608 ≤ x) (h2 : x < 8388608) {a b d : Byte} (h : sampleBytes x = [a, b, d]) : sampleOf a b d = x := by
  rw [sampleBytes_eq] at h
  simp only [List.cons.injEq, and_true] at h
  obtain ⟨rfl, rfl, rfl⟩ := h
  rw [sampleOf_eq]
  simp only [BitVec.toNat_ofNat]
  split <;> omega

/-- R183: a sample scaled by `g` sixteenths, rounded toward zero. -/
theorem scaleSample_bounds (g : Nat) (x : Int) :
    16 * (scaleSample g x).natAbs ≤ x.natAbs * g ∧ x.natAbs * g < 16 * (scaleSample g x).natAbs + 16 := by
  have hab : (scaleSample g x).natAbs = x.natAbs * g / 16 := by
    unfold scaleSample
    rw [Int.natAbs_tdiv, Int.natAbs_mul]
    rfl
  rw [hab]
  omega

theorem scaleSample_nonneg (g : Nat) {x : Int} (h : 0 ≤ x) : 0 ≤ scaleSample g x := Int.tdiv_nonneg (by positivity) (by decide)

theorem scaleSample_nonpos (g : Nat) {x : Int} (h : x ≤ 0) : scaleSample g x ≤ 0 := by
  have hneg : scaleSample g x = -scaleSample g (-x) := by
    unfold scaleSample
    rw [Int.neg_mul, Int.neg_tdiv, neg_neg]
  have := scaleSample_nonneg g (x := -x) (by omega)
  omega

/-! ## Payloads (R183) -/

theorem scalePayload_sample (g : Nat) (a b d : Byte) (rest : List Byte) :
    scalePayload g (a :: b :: d :: rest) = sampleBytes (scaleSample g (sampleOf a b d)) ++ scalePayload g rest := rfl

theorem scalePayload_part (g : Nat) {l : List Byte} (h : l.length < 3) : scalePayload g l = l := by
  match l, h with
  | [], _ => rfl
  | [_], _ => rfl
  | [_, _], _ => rfl
  | _ :: _ :: _ :: _, h => exact absurd h (by simp)

theorem length_lt_of_notSample {l : List Byte} (h : ∀ a b d rest, l = a :: b :: d :: rest → False) : l.length < 3 := by
  match l, h with
  | [], _ => decide
  | [_], _ => simp
  | [_, _], _ => simp
  | a :: b :: d :: rest, h => exact absurd rfl (h a b d rest)

theorem scalePayload_length (g : Nat) (l : List Byte) : (scalePayload g l).length = l.length := by
  induction l using scalePayload.induct with
  | case1 a b d rest ih =>
    rw [scalePayload_sample, List.length_append, sampleBytes_length, ih]
    simp only [List.length_cons]
    omega
  | case2 l h => rw [scalePayload_part g (length_lt_of_notSample h)]

/-- The samples of a payload that begins with a whole one. -/
theorem samples_cons (a b d : Byte) (rest : List Byte) : (a :: b :: d :: rest).length / 3 = rest.length / 3 + 1 := by
  simp only [List.length_cons]
  omega

/-- What stands after the first sample of a scaled payload. -/
theorem drop_scaled (g : Nat) (a b d : Byte) (rest : List Byte) (n : Nat) :
    (scalePayload g (a :: b :: d :: rest)).drop (3 * (n + 1)) = (scalePayload g rest).drop (3 * n) := by
  rw [scalePayload_sample, List.drop_append, sampleBytes_length, List.drop_eq_nil_of_le (by rw [sampleBytes_length]; omega), List.nil_append,
    show 3 * (n + 1) - 3 = 3 * n by omega]

theorem drop_samples (a b d : Byte) (rest : List Byte) (n : Nat) : (a :: b :: d :: rest).drop (3 * (n + 1)) = rest.drop (3 * n) := rfl

/-- A part-sample at the end of a payload is left (R183). -/
theorem scalePayload_end (g : Nat) (l : List Byte) : (scalePayload g l).drop (3 * (l.length / 3)) = l.drop (3 * (l.length / 3)) := by
  induction l using scalePayload.induct with
  | case1 a b d rest ih => rw [samples_cons, drop_scaled, drop_samples, ih]
  | case2 l h => rw [scalePayload_part g (length_lt_of_notSample h)]

/-- Every whole sample of a payload is scaled in its place (R183). -/
theorem scalePayload_whole (g : Nat) (l : List Byte) {i : Nat} {a b d : Byte} (hi : i < l.length / 3) (h : (l.drop (3 * i)).take 3 = [a, b, d]) :
    ((scalePayload g l).drop (3 * i)).take 3 = sampleBytes (scaleSample g (sampleOf a b d)) := by
  induction l using scalePayload.induct generalizing i with
  | case1 a' b' d' rest ih =>
    cases i with
    | zero =>
      have hhead : [a', b', d'] = [a, b, d] := h
      simp only [List.cons.injEq, and_true] at hhead
      obtain ⟨rfl, rfl, rfl⟩ := hhead
      rw [scalePayload_sample, Nat.mul_zero, List.drop_zero, List.take_left' (sampleBytes_length _)]
    | succ i =>
      rw [samples_cons] at hi
      rw [drop_scaled]
      exact ih (by omega) h
  | case2 l hpart =>
    have := length_lt_of_notSample hpart
    omega

end Sys2Proof.Machine

/-! PROOFS. Frames on the output ports, and the advance of a ramp (R180, R182). -/

namespace Sys2Proof.Machine

-- Each elaboration thread takes a large stack, and the text is compiled as one file under a memory limit: one thread at a time.
set_option Elab.async false

variable {s t u : State} {c : Chan} {f : OutFrame}

/-! ## The frame to send (R180) -/

/-- The channels up to one stand before it. -/
theorem Chan.all_split : ∀ c : Chan, ∃ before after, Chan.all = before ++ c :: after ∧ ∀ a ∈ before, a.val < c.val := by
  intro c
  exact ⟨Chan.all.take c.val, Chan.all.drop (c.val + 1), by revert c; decide, by revert c; decide⟩

theorem nextToSend_lowest (hf : (s.ch c).output.waiting = some f) (h : ∀ c' : Chan, c'.val < c.val → (s.ch c').output.waiting = none) :
    s.nextToSend = some c := by
  obtain ⟨before, after, hall, hbefore⟩ := Chan.all_split c
  unfold State.nextToSend
  rw [List.find?_eq_some_iff_append]
  exact ⟨by rw [hf]; rfl, before, after, hall, fun a ha => by rw [h a (hbefore a ha)]; rfl⟩

theorem nextToSend_none (h : ∀ c, (s.ch c).output.waiting = none) : s.nextToSend = none :=
  List.find?_eq_none.2 fun c _ => by rw [h c]; decide

theorem exec_frameSend (h : s.assembled = true) : exec .frameSend s = .next s.sendFrame := by
  have hdone : s.finishBoundary = s := if_pos h
  exact congrArg (fun z => Host.Outcome.next (State.sendFrame z)) hdone

/-- Two states that agree on all but the channels and on each channel are one. -/
theorem State.eq_of_ch (h : { t with chans := s.chans } = s) (hc : ∀ c, t.ch c = s.ch c) : t = s := by
  have hchans : t.chans = s.chans := Vector.ext fun i hi => hc ⟨i, hi⟩
  rw [← hchans] at h
  exact h

theorem endSending_rest (s : State) : { s.endSending with chans := s.chans } = s :=
  State.eachChannel_keeps (P := fun t => { t with chans := s.chans } = s) (fun _ _ h => h) rfl

theorem endSending_free (h : ∀ c, (s.ch c).output.sending = none) : s.endSending = s :=
  State.eq_of_ch (endSending_rest s) fun c => by rw [endSending_ch, ← h c]

/-! ## A frame given to the ports (R180) -/

theorem emit_linkUp (s : State) (side : Side) (f : OutFrame) (p : Port) : (s.emit side f).linkUp p = s.linkUp p := by
  unfold State.emit
  dsimp only
  split <;> rfl

theorem emit_counter (s : State) (side : Side) (f : OutFrame) (key : CounterKey) :
    (s.emit side f).counter key =
      (s.bumpBy (.port (.output side) (if s.linkUp (.output side) then .carriersOut else .outputDropped)) f.carriers).counter key := by
  unfold State.emit
  dsimp only
  split <;> rfl

theorem emit_outbox (s : State) (side : Side) (f : OutFrame) :
    (s.emit side f).outbox =
      s.outbox ++ if s.linkUp (.output side) then [{ port := .output side, stamp := f.stamp, unitNumber := s.settings.unitNumber, what := .frame f }] else [] := by
  unfold State.emit
  dsimp only
  split
  · rfl
  · exact (List.append_nil _).symm

theorem emit_settings (s : State) (side : Side) (f : OutFrame) : (s.emit side f).settings = s.settings := by
  unfold State.emit
  dsimp only
  split <;> rfl

/-- A frame given to both output ports. -/
def State.emitBoth (s : State) (f : OutFrame) : State := (s.emit .a f).emit .b f

theorem emitBoth_outbox (s : State) (f : OutFrame) :
    (s.emitBoth f).outbox =
      s.outbox ++ ([Side.a, Side.b].filter fun side => s.linkUp (.output side)).map fun side =>
        { port := .output side, stamp := f.stamp, unitNumber := s.settings.unitNumber, what := .frame f } := by
  unfold State.emitBoth
  rw [emit_outbox, emit_outbox, emit_linkUp, emit_settings]
  cases ha : s.linkUp (.output .a) <;> cases hb : s.linkUp (.output .b) <;> simp [ha, hb]

theorem emitBoth_counter (s : State) (f : OutFrame) (side : Side) :
    (s.emitBoth f).counter (.port (.output side) .carriersOut) =
        (if s.linkUp (.output side) then satAdd (s.counter (.port (.output side) .carriersOut)) f.carriers
         else s.counter (.port (.output side) .carriersOut)) ∧
      (s.emitBoth f).counter (.port (.output side) .outputDropped) =
        (if s.linkUp (.output side) then s.counter (.port (.output side) .outputDropped)
         else satAdd (s.counter (.port (.output side) .outputDropped)) f.carriers) := by
  unfold State.emitBoth
  simp only [emit_counter, State.counter_bumpBy, emit_linkUp]
  cases side <;> cases ha : s.linkUp (.output .a) <;> cases hb : s.linkUp (.output .b) <;> simp

theorem emitBoth_ch (s : State) (f : OutFrame) (c : Chan) : (s.emitBoth f).ch c = s.ch c := (emit_ch ..).trans (emit_ch ..)

/-- Two states that agree on all but the channels. -/
theorem rest_of_chans (h : { t with chans := s.chans } = s) :
    t.counters = s.counters ∧ t.ports = s.ports ∧ t.settings = s.settings ∧ t.outbox = s.outbox :=
  ⟨(congrArg State.counters h :), (congrArg State.ports h :), (congrArg State.settings h :), (congrArg State.outbox h :)⟩

/-- A channel's frame on its way, before it is given to the ports (R180). -/
def State.onItsWay (s : State) (c : Chan) (f : OutFrame) : State := s.endSending.modOutput c fun y => { y with sending := some f, waiting := none }

theorem onItsWay_linkUp (s : State) (c : Chan) (f : OutFrame) (p : Port) : (s.onItsWay c f).linkUp p = s.linkUp p := by
  unfold State.onItsWay State.linkUp
  rw [State.modOutput_ports, (rest_of_chans (endSending_rest s)).2.1]

theorem onItsWay_counter (s : State) (c : Chan) (f : OutFrame) (key : CounterKey) : (s.onItsWay c f).counter key = s.counter key := by
  unfold State.onItsWay
  rw [State.counter_modOutput]
  unfold State.counter
  rw [(rest_of_chans (endSending_rest s)).1]

theorem onItsWay_outbox (s : State) (c : Chan) (f : OutFrame) :
    ((s.onItsWay c f).outbox ++ ([Side.a, Side.b].filter fun side => (s.onItsWay c f).linkUp (.output side)).map fun side =>
        ({ port := .output side, stamp := f.stamp, unitNumber := (s.onItsWay c f).settings.unitNumber, what := .frame f } : Sent)) =
      s.outbox ++ ([Side.a, Side.b].filter fun side => s.linkUp (.output side)).map fun side =>
        { port := .output side, stamp := f.stamp, unitNumber := s.settings.unitNumber, what := .frame f } := by
  simp only [onItsWay_linkUp]
  obtain ⟨-, -, hsettings, houtbox⟩ := rest_of_chans (endSending_rest s)
  unfold State.onItsWay
  rw [State.modOutput_outbox, State.modOutput_settings, hsettings, houtbox]

/-- The frame of the lowest channel that waits, sent on both ports (R180). -/
theorem sendFrame_lowest (hf : (s.ch c).output.waiting = some f) (h : ∀ c' : Chan, c'.val < c.val → (s.ch c').output.waiting = none) :
    s.sendFrame = (s.onItsWay c f).emitBoth f :=
  sendFrame_of_some (by rw [nextToSend_endSending]; exact nextToSend_lowest hf h) (by rw [endSending_ch]; exact hf)

/-- What the sending of a channel's frame leaves of the channels. -/
theorem sending_ch (s : State) (c : Chan) (f : OutFrame) (c' : Chan) :
    ((s.onItsWay c f).emitBoth f).ch c' =
      if c' = c then { s.ch c with output := { (s.ch c).output with sending := some f, waiting := none } }
      else { s.ch c' with output := { (s.ch c').output with sending := none } } := by
  rw [emitBoth_ch]
  unfold State.onItsWay
  by_cases h : c' = c
  · subst h
    rw [State.ch_modOutput_same, endSending_ch, if_pos rfl]
  · rw [State.ch_modOutput_ne _ _ _ _ h, endSending_ch, if_neg h]

/-! ## The ramp (R182) -/

theorem doRampAdvance_due {step spent : Nat} (h : (s.ch c).work.ramp = true) (hr : (s.ch c).output.ramp = .running step spent) :
    s.doRampAdvance c =
      (s.modWork c fun w => { w with ramp := false }).modOutput c fun y => { y with ramp := if step < 7 then .running (step + 1) 0 else .idle } := by
  have hnext : rampNext (.running step spent) = if step < 7 then .running (step + 1) 0 else .idle := if_congr (by omega) rfl rfl
  unfold State.doRampAdvance State.advanceRamp
  rw [if_pos h, ← hnext]
  refine State.modOutput_congr ?_
  rw [State.ch_modWork_same]
  dsimp only
  rw [hr]

/-! ## Main theorem -/

/-- Settles O53: the lowest channel that waits, its frame given to each port by its link, the ramp, and the samples of a payload by induction. -/
theorem framesAreSentAndRampsAdvance : Obligations.FramesAreSentAndRampsAdvance := by
  unfold Obligations.FramesAreSentAndRampsAdvance
  refine ⟨fun s ha hp hfree hwait => ?_, fun s ha => ⟨fun h => ?_, fun c f hf hlow => ?_⟩, fun s ha hnone => ?_,
    fun s c => ⟨fun h => congrArg Host.Outcome.next (if_neg (by simp [h])), fun step spent h hr => congrArg Host.Outcome.next (doRampAdvance_due h hr)⟩,
    fun g payload => ⟨scalePayload_length g payload, scalePayload_end g payload, fun i a b d hi h => ⟨scalePayload_whole g payload hi h, sampleOf_eq a b d⟩⟩,
    fun g x _ h1 h2 => ⟨(scaleSample_bounds g x).1, (scaleSample_bounds g x).2, scaleSample_nonneg g, scaleSample_nonpos g,
      fun a b d h => sampleOf_sampleBytes h1 h2 h⟩⟩
  · have hdone : s.finishBoundary = s := if_pos ha
    have hdue : s.sendDue = true := by
      obtain ⟨c, hc⟩ := hwait
      unfold State.sendDue State.portsFree State.nextToSend
      rw [Bool.and_eq_true, List.all_eq_true, List.find?_isSome]
      exact ⟨fun c _ => by rw [hfree c]; rfl, c, Chan.mem_all c, Option.isSome_iff_ne_none.2 hc⟩
    have hstep : step s = .next s.catchUp := by
      unfold step
      rw [hp]
    have hcatch : s.catchUp = s.sendFrame := by
      unfold State.catchUp
      rw [hdone]
      exact if_pos hdue
    rw [hstep, hcatch, exec_frameSend ha]
  · rw [exec_frameSend ha, sendFrame_of_none (by rw [nextToSend_endSending]; exact nextToSend_none fun c => (h c).1), endSending_free fun c => (h c).2]
  · have hch := sending_ch s c f
    refine ⟨_, (exec_frameSend ha).trans (congrArg Host.Outcome.next (sendFrame_lowest hf hlow)), ?_, ?_, fun c' hc => ?_, ?_, fun side => ?_, ?_⟩
    · rw [hch, if_pos rfl]
    · rw [hch, if_pos rfl]
    · rw [hch, if_neg hc]
    · rw [hch, if_pos rfl]
    · have hcounter := emitBoth_counter (s.onItsWay c f) f side
      rw [onItsWay_linkUp, onItsWay_counter, onItsWay_counter] at hcounter
      exact hcounter
    · exact (emitBoth_outbox (s.onItsWay c f) f).trans (onItsWay_outbox s c f)
  · exact ⟨s.endSending, (exec_frameSend ha).trans (congrArg Host.Outcome.next (sendFrame_of_none (by rw [nextToSend_endSending]; exact nextToSend_none hnone))),
      endSending_ch s, endSending_rest s⟩

end Sys2Proof.Machine

/-! PROOFS. The checks of a received Ethernet frame, in their order (R20, R21, R207). -/

namespace Sys2Proof.Machine

-- Each elaboration thread takes a large stack, and the text is compiled as one file under a memory limit: one thread at a time.
set_option Elab.async false

variable {s t u : State} {p : Port} {f : EthFrame} {time : Nat}

/-- A port on which carriers arrive. -/
def Inbound (p : Port) : Prop := ∀ side, p ≠ .output side

theorem inbound_cases (h : Inbound p) : (∃ side, p = .contribution side) ∨ ∃ n, p = .standby n := by
  cases p with
  | contribution side => exact .inl ⟨side, rfl⟩
  | standby n => exact .inr ⟨n, rfl⟩
  | output side => exact absurd rfl (h side)

/-- What is done of a carriage frame once its header check and version hold (R21). -/
def State.takeHeader (s : State) (p : Port) (h : List Byte) (time : Nat) : State :=
  if h.length < 18 + field h 14 2 then s.discardCarrier p .badField
  else
    match mediaKindOf (field h 1 1) with
    | some k => s.receiveMedia p (parseMedia k h)
    | none =>
      if field h 1 1 = 4 ∧ field h 10 2 = 0 ∧ field h 12 2 = 1 then
        s.receiveRaw { port := p, stamp := field h 4 6, channel := field h 2 1, payload := (h.drop 18).take (field h 14 2), time := time }
      else s.discardCarrier p .badField

/-- The checks of a frame at a port on which carriers arrive, the first that fails first (R20, R21). -/
theorem receiveFrame_inbound (hp : Inbound p) (f : EthFrame) (time : Nat) :
    s.receiveFrame p f time =
      if f.checkOk = false then s.bump (.port p .fcsErrors)
      else if f.etherType ≠ carriageType then s.bump (.port p .notCarriage)
      else if headerSum f.payload ≠ field f.payload 16 2 then s.discardCarrier p .badCheck
      else if field f.payload 0 1 ≠ 1 then s.discardCarrier p .badVersion
      else s.takeHeader p f.payload time := by
  have hflip : (!f.checkOk) = true ↔ f.checkOk = false := by cases f.checkOk <;> decide
  rcases inbound_cases hp with ⟨side, rfl⟩ | ⟨n, rfl⟩ <;> exact if_congr hflip rfl rfl

theorem discardCarrier_running (h : s.loading = false) (p : Port) (k : PortCtr) : s.discardCarrier p k = (s.bump (.port p .carriersIn)).bump (.port p k) := by
  unfold State.discardCarrier
  dsimp only
  exact if_neg (by rw [show (s.countCarrier p).loading = s.loading from rfl, h]; decide)

/-- A media carrier that fails a range check at a port with so many channels (R21). -/
theorem receiveMedia_badField (hl : s.loading = false) {m : Media}
    (h : (∃ side, p = .contribution side) ∧ s.mediaInRange m 16 = false ∨ (∃ n, p = .standby n) ∧ s.mediaInRange m 32 = false) :
    s.receiveMedia p m = (s.bump (.port p .carriersIn)).bump (.port p .badField) := by
  rcases h with ⟨⟨side, rfl⟩, hm⟩ | ⟨⟨n, rfl⟩, hm⟩
  · have hm' : (s.countCarrier (.contribution side)).mediaInRange m 16 = false := hm
    unfold State.receiveMedia State.receiveMainMedia
    dsimp only
    rw [if_neg (by rw [show (s.countCarrier (.contribution side)).loading = s.loading from rfl, hl]; decide), hm']
    rfl
  · have hm' : (s.countCarrier (.standby n)).mediaInRange m 32 = false := hm
    unfold State.receiveMedia State.receiveStandbyMedia
    dsimp only
    rw [if_neg (by rw [show (s.countCarrier (.standby n)).loading = s.loading from rfl, hl]; decide), hm']
    rfl

/-- A control carrier that fails a range check (R21). -/
theorem receiveRaw_badField (hp : Inbound p) (hl : s.loading = false) {raw : RawControl} (hport : raw.port = p)
    (h : 1408 < raw.payload.length ∨ s.controlInRange raw.stamp raw.channel = false) :
    s.receiveRaw raw = (s.bump (.port p .carriersIn)).bump (.port p .badField) := by
  subst hport
  have hrange : raw.payload.length ≤ 1408 → (s.countCarrier raw.port).controlInRange raw.stamp raw.channel = false := fun hle => h.resolve_left (by omega)
  have hloading : (s.countCarrier raw.port).loading = false := hl
  unfold State.receiveRaw State.receiveControl rawEnvelope
  dsimp only
  by_cases hlen : 1408 < raw.payload.length
  · rcases inbound_cases hp with ⟨side, hside⟩ | ⟨n, hn⟩
    · rw [hside]
      exact if_pos ⟨hlen, hl⟩
    · rw [hn]
      exact if_pos ⟨hlen, hl⟩
  · have hbad := hrange (by omega)
    rcases inbound_cases hp with ⟨side, hside⟩ | ⟨n, hn⟩
    · rw [hside] at hloading hbad ⊢
      dsimp only
      rw [if_neg (fun h => hlen h.1), hloading, hbad]
      rfl
    · rw [hn] at hloading hbad ⊢
      dsimp only
      rw [if_neg (fun h => hlen h.1), hloading, hbad]
      rfl

/-! ## Ranges (R21) -/

theorem mediaInRange_iff {m : Media} {channels : Nat} :
    s.mediaInRange m channels = true ↔
      (m.stamp < s.cycle ∧ m.payload.length ≤ 1408 ∧ 1 ≤ m.fragCount ∧ m.fragIndex < m.fragCount) ∧ m.channel < channels ∧
        (m.kind = .video → m.fragCount ≤ 1024) ∧ (m.kind = .audio → m.fragCount ≤ 64) ∧ (m.kind = .summary → m.fragIndex = 0 ∧ m.fragCount = 1) := by
  unfold State.mediaInRange State.headerInRange
  cases m.kind <;> simp [and_assoc]

theorem controlInRange_iff {stamp channel : Nat} : s.controlInRange stamp channel = true ↔ stamp < s.cycle ∧ (channel < 16 ∨ channel = 255) := by
  simp [State.controlInRange]

theorem mediaKindOf_none {k : Nat} (h : mediaKindOf k = none) : k = 0 ∨ 4 ≤ k := by
  match k, h with
  | 0, _ => exact .inl rfl
  | k + 4, _ => exact .inr (by omega)

theorem mediaKindOf_some {k : Nat} {kind : MediaKind} (h : mediaKindOf k = some kind) :
    k = 1 ∧ kind = .video ∨ k = 2 ∧ kind = .audio ∨ k = 3 ∧ kind = .summary := by
  unfold mediaKindOf at h
  split at h <;> simp at h <;> simp [← h]

/-- A header whose length, kind or ranges do not hold at a port (R21 checks 3). -/
def BadHeader (s : State) (p : Port) (h : List Byte) : Prop :=
  let kind := field h 1 1
  let channel := field h 2 1
  let index := field h 10 2
  let count := field h 12 2
  kind = 0 ∨ 4 < kind ∨ h.length < 18 + field h 14 2 ∨ 1408 < field h 14 2 ∨ s.cycle ≤ field h 4 6 ∨ count ≤ index ∨
    (kind = 1 ∧ 1024 < count) ∨ (kind = 2 ∧ 64 < count) ∨ (3 ≤ kind ∧ (index ≠ 0 ∨ count ≠ 1)) ∨
    (kind ≤ 3 ∧ (∃ side, p = .contribution side) ∧ 16 ≤ channel) ∨ (kind ≤ 3 ∧ (∃ n, p = .standby n) ∧ 32 ≤ channel) ∨
    (kind = 4 ∧ 16 ≤ channel ∧ channel ≠ 255)

/-- R21: a header that fails the third check. -/
theorem takeHeader_bad (hp : Inbound p) (hl : s.loading = false) {h : List Byte} (hbad : BadHeader s p h) (time : Nat) :
    s.takeHeader p h time = (s.bump (.port p .carriersIn)).bump (.port p .badField) := by
  unfold State.takeHeader
  by_cases hlen : h.length < 18 + field h 14 2
  · rw [if_pos hlen, discardCarrier_running hl]
  rw [if_neg hlen]
  have hpayload : ((h.drop 18).take (field h 14 2)).length = field h 14 2 := by
    rw [List.length_take, List.length_drop]
    omega
  cases hk : mediaKindOf (field h 1 1) with
  | some kind =>
    dsimp only
    refine receiveMedia_badField hl ?_
    have hkind := mediaKindOf_some hk
    have hout : ∀ channels, (∃ side, p = .contribution side) ∧ channels = 16 ∨ (∃ n, p = .standby n) ∧ channels = 32 →
        s.mediaInRange (parseMedia kind h) channels = false := fun channels hc => by
      rw [← Bool.not_eq_true, mediaInRange_iff]
      unfold parseMedia
      dsimp only
      rw [hpayload]
      rintro ⟨⟨h1, h2, h3, h4⟩, h5, hvideo, haudio, hsummary⟩
      have hv : ¬(field h 1 1 = 1 ∧ 1024 < field h 12 2) := by
        rintro ⟨h6, h7⟩
        rcases hkind with ⟨hk, rfl⟩ | ⟨hk, rfl⟩ | ⟨hk, rfl⟩
        · have := hvideo rfl
          omega
        · omega
        · omega
      have ha : ¬(field h 1 1 = 2 ∧ 64 < field h 12 2) := by
        rintro ⟨h6, h7⟩
        rcases hkind with ⟨hk, rfl⟩ | ⟨hk, rfl⟩ | ⟨hk, rfl⟩
        · omega
        · have := haudio rfl
          omega
        · omega
      have hs : ¬(3 ≤ field h 1 1 ∧ (field h 10 2 ≠ 0 ∨ field h 12 2 ≠ 1)) := by
        rintro ⟨h6, h7⟩
        rcases hkind with ⟨hk, rfl⟩ | ⟨hk, rfl⟩ | ⟨hk, rfl⟩
        · omega
        · omega
        · have := hsummary rfl
          omega
      have hcontribution : ¬((∃ side, p = .contribution side) ∧ 16 ≤ field h 2 1) := by
        rintro ⟨⟨side, rfl⟩, h6⟩
        rcases hc with ⟨-, rfl⟩ | ⟨⟨n, hn⟩, -⟩
        · omega
        · cases hn
      have hstandby : ¬((∃ n, p = .standby n) ∧ 32 ≤ field h 2 1) := by
        rintro ⟨⟨n, rfl⟩, h6⟩
        rcases hc with ⟨⟨side, hside⟩, -⟩ | ⟨-, rfl⟩
        · cases hside
        · omega
      have hcontrol : field h 1 1 ≤ 3 := by omega
      rcases hbad with hz | hz | hz | hz | hz | hz | hz | hz | hz | ⟨-, hz⟩ | ⟨-, hz⟩ | ⟨hz, -⟩
      · omega
      · omega
      · omega
      · omega
      · omega
      · omega
      · exact hv hz
      · exact ha hz
      · exact hs hz
      · exact hcontribution hz
      · exact hstandby hz
      · omega
    rcases inbound_cases hp with hside | hn
    · exact .inl ⟨hside, hout 16 (.inl ⟨hside, rfl⟩)⟩
    · exact .inr ⟨hn, hout 32 (.inr ⟨hn, rfl⟩)⟩
  | none =>
    have hkind := mediaKindOf_none hk
    dsimp only
    split
    · rename_i hfour
      refine receiveRaw_badField hp hl rfl ?_
      dsimp only
      rw [hpayload, ← Bool.not_eq_true, controlInRange_iff]
      rw [← not_le, ← not_and_or]
      rintro ⟨h1, h2, h3⟩
      rcases hbad with hz | hz | hz | hz | hz | hz | hz | hz | hz | hz | hz | hz <;> omega
    · exact discardCarrier_running hl _ _

/-! ## Main theorem -/

/-- Settles O20: the checks written as one chain, each failure the branch it takes. -/
theorem framesThatAreDropped : Obligations.FramesThatAreDropped := by
  unfold Obligations.FramesThatAreDropped
  intro s p f time hrun counted drop discard carriage checked
  have hexec : exec (.ethernetFrame p f time) s = .next (s.receiveFrame p f time) :=
    congrArg (fun z => Host.Outcome.next (State.receiveFrame z p f time)) (State.catchUp_settled hrun.1)
  refine ⟨fun ⟨side, hside⟩ => ?_, fun hp => ?_⟩
  · subst hside
    exact hexec
  · have hframe : exec (.ethernetFrame p f time) s = .next _ := hexec.trans (congrArg Host.Outcome.next (receiveFrame_inbound hp f time))
    have htype : carriageType = 0x88B5 := rfl
    rw [htype] at hframe
    have hdiscard : ∀ k, s.discardCarrier p k = counted.bump (.port p k) := discardCarrier_running hrun.2 p
    refine ⟨fun h => ?_, fun h h' => ?_, fun ⟨h, h'⟩ hbad => ?_, fun ⟨⟨h, h'⟩, hsum⟩ hbad => ?_, fun ⟨⟨h, h'⟩, hsum⟩ hversion hbad => ?_⟩
    · rw [if_pos h] at hframe
      exact hframe
    · rw [if_neg (by simp [h]), if_pos h'] at hframe
      exact hframe
    · rw [if_neg (by simp [h]), if_neg (not_not.2 h'), if_pos hbad, hdiscard] at hframe
      exact hframe
    · rw [if_neg (by simp [h]), if_neg (not_not.2 h'), if_neg (not_not.2 hsum), if_pos hbad, hdiscard] at hframe
      exact hframe
    · rw [if_neg (by simp [h]), if_neg (not_not.2 h'), if_neg (not_not.2 hsum), if_neg (not_not.2 hversion), takeHeader_bad hp hrun.2 hbad] at hframe
      exact hframe

end Sys2Proof.Machine

/-! PROOFS. Numbers as bytes, and the header of a carrier (Table 11-1, Table 11-2). -/

namespace Sys2Proof.Machine

-- Each elaboration thread takes a large stack, and the text is compiled as one file under a memory limit: one thread at a time.
set_option Elab.async false

/-! ## Numbers as bytes (Chapter 11) -/

theorem toBytes_length (w n : Nat) : (toBytes w n).length = w := by
  induction w with
  | zero => rfl
  | succ w ih => rw [toBytes, List.length_cons, ih]

theorem foldl_toBytes (w n a : Nat) : (toBytes w n).foldl (fun n b => n * 256 + b.toNat) a = a * 256 ^ w + n % 256 ^ w := by
  induction w generalizing a with
  | zero => simp [toBytes, Nat.mod_one]
  | succ w ih =>
    have hmod : n % 256 ^ (w + 1) = n % 256 ^ w + 256 ^ w * (n / 256 ^ w % 256) := Nat.mod_pow_succ
    rw [toBytes, List.foldl_cons, ih, BitVec.toNat_ofNat, hmod, Nat.pow_succ]
    ring

/-- A number written big-endian reads back modulo its width. -/
theorem bigEndian_toBytes (w n : Nat) : bigEndian (toBytes w n) = n % 256 ^ w := by
  unfold bigEndian
  rw [foldl_toBytes, Nat.zero_mul, Nat.zero_add]

theorem bigEndian_of_lt {w n : Nat} (h : n < 256 ^ w) : bigEndian (toBytes w n) = n := by
  rw [bigEndian_toBytes, Nat.mod_eq_of_lt h]

/-! ## Fields (Table 11-1) -/

/-- The field with which a run of bytes begins. -/
theorem field_here (w n : Nat) (rest : List Byte) : field (toBytes w n ++ rest) 0 w = n % 256 ^ w := by
  unfold field
  rw [List.drop_zero, List.take_left' (toBytes_length w n), bigEndian_toBytes]

/-- A field past the one with which a run of bytes begins. -/
theorem field_past {w o : Nat} (n : Nat) (rest : List Byte) (v : Nat) (h : w ≤ o) : field (toBytes w n ++ rest) o v = field rest (o - w) v := by
  unfold field
  rw [List.drop_append, List.drop_eq_nil_of_le (by rw [toBytes_length]; exact h), toBytes_length, List.nil_append]

theorem drop_past {w o : Nat} (n : Nat) (rest : List Byte) (h : w ≤ o) : (toBytes w n ++ rest).drop o = rest.drop (o - w) := by
  rw [List.drop_append, List.drop_eq_nil_of_le (by rw [toBytes_length]; exact h), toBytes_length, List.nil_append]

/-! ## The header of a carrier (Table 11-1) -/

/-- The bytes of a carrier's header up to its check. -/
def headBytes (kind channel flags stamp fragIndex fragCount length : Nat) : List Byte :=
  toBytes 1 1 ++ (toBytes 1 kind ++ (toBytes 1 channel ++ (toBytes 1 flags ++ (toBytes 6 stamp ++ (toBytes 2 fragIndex ++ (toBytes 2 fragCount ++
    toBytes 2 length))))))

theorem headBytes_length (kind channel flags stamp fragIndex fragCount length : Nat) :
    (headBytes kind channel flags stamp fragIndex fragCount length).length = 16 := by
  simp [headBytes, toBytes_length]

section
variable (kind channel flags stamp fragIndex fragCount : Nat) (payload padding : List Byte)

theorem carrierBytes_head :
    carrierBytes kind channel flags stamp fragIndex fragCount payload =
      headBytes kind channel flags stamp fragIndex fragCount payload.length ++
        (toBytes 2 (wordSum (headBytes kind channel flags stamp fragIndex fragCount payload.length) % 65536) ++ payload) := by
  simp [carrierBytes, headBytes]

/-- A carrier and its padding, field by field. -/
theorem carrierBytes_eq :
    carrierBytes kind channel flags stamp fragIndex fragCount payload ++ padding =
      toBytes 1 1 ++ (toBytes 1 kind ++ (toBytes 1 channel ++ (toBytes 1 flags ++ (toBytes 6 stamp ++ (toBytes 2 fragIndex ++ (toBytes 2 fragCount ++
        (toBytes 2 payload.length ++ (toBytes 2 (wordSum (headBytes kind channel flags stamp fragIndex fragCount payload.length) % 65536) ++
          (payload ++ padding))))))))) := by
  rw [carrierBytes_head]
  simp [headBytes]

theorem carrierBytes_length : (carrierBytes kind channel flags stamp fragIndex fragCount payload).length = 18 + payload.length := by
  rw [carrierBytes_head]
  simp only [List.length_append, headBytes_length, toBytes_length]
  omega

theorem carrier_version : field (carrierBytes kind channel flags stamp fragIndex fragCount payload ++ padding) 0 1 = 1 := by
  rw [carrierBytes_eq, field_here]
  rfl

theorem carrier_kind : field (carrierBytes kind channel flags stamp fragIndex fragCount payload ++ padding) 1 1 = kind % 256 := by
  rw [carrierBytes_eq, field_past _ _ _ (by decide), field_here]
  rfl

theorem carrier_channel : field (carrierBytes kind channel flags stamp fragIndex fragCount payload ++ padding) 2 1 = channel % 256 := by
  rw [carrierBytes_eq, field_past _ _ _ (by decide), field_past _ _ _ (by decide), field_here]
  rfl

theorem carrier_stamp : field (carrierBytes kind channel flags stamp fragIndex fragCount payload ++ padding) 4 6 = stamp % 256 ^ 6 := by
  rw [carrierBytes_eq]
  simp only [field_past, field_here, Nat.reduceSub, Nat.reduceLeDiff]

theorem carrier_fragIndex : field (carrierBytes kind channel flags stamp fragIndex fragCount payload ++ padding) 10 2 = fragIndex % 65536 := by
  rw [carrierBytes_eq]
  simp only [field_past, field_here, Nat.reduceSub, Nat.reduceLeDiff, Nat.reducePow]

theorem carrier_fragCount : field (carrierBytes kind channel flags stamp fragIndex fragCount payload ++ padding) 12 2 = fragCount % 65536 := by
  rw [carrierBytes_eq]
  simp only [field_past, field_here, Nat.reduceSub, Nat.reduceLeDiff, Nat.reducePow]

theorem carrier_payloadLength : field (carrierBytes kind channel flags stamp fragIndex fragCount payload ++ padding) 14 2 = payload.length % 65536 := by
  rw [carrierBytes_eq]
  simp only [field_past, field_here, Nat.reduceSub, Nat.reduceLeDiff, Nat.reducePow]

theorem carrier_payload : (carrierBytes kind channel flags stamp fragIndex fragCount payload ++ padding).drop 18 = payload ++ padding := by
  rw [carrierBytes_eq]
  simp only [drop_past, Nat.reduceSub, Nat.reduceLeDiff, List.drop_zero]

/-- The eight words of a header summed (R21). -/
theorem headerSum_of_length {head : List Byte} (h : head.length = 16) (rest : List Byte) : headerSum (head ++ rest) = wordSum head % 65536 := by
  match head, h with
  | [a, b, c, d, e, f, g, h, i, j, k, l, m, n, o, p], _ =>
    simp [headerSum, field, bigEndian, wordSum, Nat.add_assoc]

/-- The header check of a carrier sums (R21, R178). -/
theorem carrier_check :
    headerSum (carrierBytes kind channel flags stamp fragIndex fragCount payload ++ padding) =
      field (carrierBytes kind channel flags stamp fragIndex fragCount payload ++ padding) 16 2 := by
  have hfield : field (carrierBytes kind channel flags stamp fragIndex fragCount payload ++ padding) 16 2 =
      wordSum (headBytes kind channel flags stamp fragIndex fragCount payload.length) % 65536 := by
    rw [carrierBytes_eq]
    simp only [field_past, field_here, Nat.reduceSub, Nat.reduceLeDiff, Nat.reducePow, Nat.mod_mod]
  rw [hfield, carrierBytes_head, List.append_assoc, headerSum_of_length (headBytes_length ..)]

end

end Sys2Proof.Machine

/-! PROOFS. Every carrier that the part sends, and a SUMMARY read back (R178, R207, R208). -/

namespace Sys2Proof.Machine

-- Each elaboration thread takes a large stack, and the text is compiled as one file under a memory limit: one thread at a time.
set_option Elab.async false

/-- What Table 11-1 asks of the header of a carrier. -/
structure WellHeaded (bytes : List Byte) (stamp : Nat) : Prop where
  length : 18 ≤ bytes.length
  check : headerSum bytes = field bytes 16 2
  version : field bytes 0 1 = 1
  stamp : field bytes 4 6 = stamp % 256 ^ 6
  payload : field bytes 14 2 = (bytes.length - 18) % 65536

theorem carrierBytes_wellHeaded (kind channel flags stamp fragIndex fragCount : Nat) (payload : List Byte) :
    WellHeaded (carrierBytes kind channel flags stamp fragIndex fragCount payload) stamp := by
  have hcheck := carrier_check kind channel flags stamp fragIndex fragCount payload []
  have hversion := carrier_version kind channel flags stamp fragIndex fragCount payload []
  have hstamp := carrier_stamp kind channel flags stamp fragIndex fragCount payload []
  have hlength := carrier_payloadLength kind channel flags stamp fragIndex fragCount payload []
  rw [List.append_nil] at hcheck hversion hstamp hlength
  refine ⟨?_, hcheck, hversion, hstamp, ?_⟩
  · rw [carrierBytes_length]
    omega
  · rw [hlength, carrierBytes_length, Nat.add_sub_cancel_left]

theorem controlBytes_wellHeaded (stamp channel code request : Nat) (body : List Byte) : WellHeaded (controlBytes stamp channel code request body) stamp :=
  carrierBytes_wellHeaded ..

theorem pieceCarriers_wellHeaded {f : OutFrame} {kind : Nat} {pieces : List (List Byte)} {bytes : List Byte} (h : bytes ∈ pieceCarriers f kind pieces) :
    WellHeaded bytes f.stamp := by
  unfold pieceCarriers at h
  obtain ⟨i, hi, rfl⟩ := List.mem_mapIdx.1 h
  exact carrierBytes_wellHeaded ..

theorem frame_wellHeaded {f : OutFrame} {bytes : List Byte} (h : bytes ∈ f.wire) : WellHeaded bytes f.stamp := by
  unfold OutFrame.wire at h
  rw [List.mem_cons, List.mem_append] at h
  rcases h with rfl | h | h
  · exact carrierBytes_wellHeaded ..
  · exact pieceCarriers_wellHeaded h
  · exact pieceCarriers_wellHeaded h

/-- The stamp that a thing sent carries: a frame its own, anything else the stamp of its sending. -/
def Outgoing.stampAt (stamp : Nat) : Outgoing → Nat
  | .frame f => f.stamp
  | _ => stamp

theorem carriersAt_wellHeaded (x : Outgoing) (stamp : Nat) {bytes : List Byte} (h : bytes ∈ x.carriersAt stamp) : WellHeaded bytes (x.stampAt stamp) := by
  cases x with
  | frame f => exact frame_wellHeaded h
  | reply | report | cue | cancel | stop | resync | amendRefused =>
    obtain rfl := List.mem_singleton.1 h
    exact controlBytes_wellHeaded ..

/-! ## SUMMARY (Table 11-2) -/

theorem flatMap_toBytes_length (w : Nat) (l : List Nat) : (l.flatMap (toBytes w)).length = w * l.length := by
  induction l with
  | nil => rfl
  | cons n l ih =>
    rw [List.flatMap_cons, List.length_append, toBytes_length, ih, List.length_cons]
    ring

theorem flatMap_toBytes_get (w : Nat) (l : List Nat) {i : Nat} (hi : i < l.length) : ((l.flatMap (toBytes w)).drop (w * i)).take w = toBytes w l[i] := by
  induction l generalizing i with
  | nil => simp at hi
  | cons n l ih =>
    cases i with
    | zero => rw [Nat.mul_zero, List.drop_zero, List.flatMap_cons, List.take_left' (toBytes_length w n), List.getElem_cons_zero]
    | succ i =>
      rw [List.flatMap_cons, drop_past _ _ (by rw [Nat.mul_succ]; omega), show w * (i + 1) - w = w * i by rw [Nat.mul_succ]; omega, List.getElem_cons_succ]
      exact ih (by simpa using hi)

theorem summary_bytes (x : Summary) :
    x.bytes = toBytes 2 x.vc ++ (toBytes 1 x.ac ++ (toBytes 2 x.luma ++ (toBytes 1 x.peaks.length ++ x.peaks.flatMap (toBytes 2)))) := by
  simp [Summary.bytes]

/-- The peaks of a SUMMARY payload read back. -/
theorem summary_peaks {x : Summary} (hp : ∀ p ∈ x.peaks, p ≤ 32767) :
    ((List.range x.peaks.length).map fun i => bigEndian ((x.bytes.drop (6 + 2 * i)).take 2)) = x.peaks := by
  refine List.ext_getElem (by simp) fun i h1 h2 => ?_
  rw [List.getElem_map, List.getElem_range, summary_bytes]
  rw [drop_past _ _ (by omega), drop_past _ _ (by omega), drop_past _ _ (by omega), drop_past _ _ (by omega),
    show 6 + 2 * i - 2 - 1 - 2 - 1 = 2 * i by omega, flatMap_toBytes_get 2 _ h2, bigEndian_of_lt]
  exact Nat.lt_of_le_of_lt (hp _ (List.getElem_mem h2)) (by decide)

theorem parseSummary_bytes {x : Summary} (h1 : 1 ≤ x.vc) (h2 : x.vc ≤ 1024) (h3 : x.ac ≤ 64) (h4 : x.luma ≤ 1023) (h5 : x.peaks.length ≤ 8)
    (h6 : ∀ p ∈ x.peaks, p ≤ 32767) : parseSummary x.bytes = some x := by
  have hvc : bigEndian (x.bytes.take 2) = x.vc := by
    rw [summary_bytes, List.take_left' (toBytes_length ..), bigEndian_of_lt (by omega)]
  have hac : bigEndian ((x.bytes.drop 2).take 1) = x.ac := by
    rw [summary_bytes, drop_past _ _ (by decide), List.drop_zero, List.take_left' (toBytes_length ..), bigEndian_of_lt (by omega)]
  have hluma : bigEndian ((x.bytes.drop 3).take 2) = x.luma := by
    rw [summary_bytes, drop_past _ _ (by decide), drop_past _ _ (by decide), List.drop_zero, List.take_left' (toBytes_length ..), bigEndian_of_lt (by omega)]
  have hpairs : bigEndian ((x.bytes.drop 5).take 1) = x.peaks.length := by
    rw [summary_bytes, drop_past _ _ (by decide), drop_past _ _ (by decide), drop_past _ _ (by decide), List.drop_zero, List.take_left' (toBytes_length ..),
      bigEndian_of_lt (by omega)]
  have hlength : x.bytes.length = 6 + 2 * x.peaks.length := by
    rw [summary_bytes]
    simp only [List.length_append, toBytes_length, flatMap_toBytes_length]
    omega
  unfold parseSummary
  dsimp only
  rw [hvc, hac, hluma, hpairs, summary_peaks h6, if_pos]
  exact ⟨by omega, hlength, h1, h2, h3, h4, h5, List.all_eq_true.2 fun p hp => decide_eq_true (h6 p hp)⟩

/-- Settles O23: the header of Table 11-1 field by field, for whatever the part sends, and a SUMMARY payload field by field. -/
theorem sentCarriersAreWellFormed : Obligations.SentCarriersAreWellFormed := by
  unfold Obligations.SentCarriersAreWellFormed
  refine ⟨fun x stamp bytes h => ?_, fun x h1 h2 h3 h4 h5 h6 => parseSummary_bytes h1 h2 h3 h4 h5 h6⟩
  obtain ⟨hlength, hcheck, hversion, hstamp, hpayload⟩ := carriersAt_wellHeaded x stamp h
  refine ⟨hlength, hcheck, hversion, hstamp.trans ?_, hpayload⟩
  cases x <;> rfl

end Sys2Proof.Machine

/-! PROOFS. Carriers in Ethernet frames, and a control carrier's envelope read back (R20 to R22, R209, Tables 11-1 and 11-3). -/

namespace Sys2Proof.Machine

-- Each elaboration thread takes a large stack, and the text is compiled as one file under a memory limit: one thread at a time.
set_option Elab.async false

variable {s : State} {p : Port}

theorem fits_iff {w n : Nat} : fits w n = true ↔ n < 256 ^ w := decide_eq_true_iff

/-- A run of bytes that is one field. -/
theorem field_only (w n : Nat) : field (toBytes w n) 0 w = n % 256 ^ w := by
  have h := field_here w n []
  rwa [List.append_nil] at h

/-- A field of the width with which it was written. -/
theorem field_here_fits {w n : Nat} (h : n < 256 ^ w) (rest : List Byte) : field (toBytes w n ++ rest) 0 w = n := by
  rw [field_here, Nat.mod_eq_of_lt h]

theorem field_only_fits {w n : Nat} (h : n < 256 ^ w) : field (toBytes w n) 0 w = n := by
  rw [field_only, Nat.mod_eq_of_lt h]

/-! ## A carrier in a frame (R20, R21, R207) -/

section
variable {kind channel flags stamp fragIndex fragCount : Nat} {payload padding : List Byte}

/-- R21: a carrier's own frame passes the first two checks. -/
theorem receiveFrame_carrier (hp : Inbound p) (time : Nat) :
    s.receiveFrame p (carriageFrame (carrierBytes kind channel flags stamp fragIndex fragCount payload) padding) time =
      s.takeHeader p (carrierBytes kind channel flags stamp fragIndex fragCount payload ++ padding) time := by
  rw [receiveFrame_inbound hp]
  unfold carriageFrame
  dsimp only
  rw [if_neg (by decide), if_neg (by decide), carrier_check, if_neg (by simp), carrier_version, if_neg (by simp)]

theorem carrier_length_ok (h : payload.length < 65536) :
    ¬(carrierBytes kind channel flags stamp fragIndex fragCount payload ++ padding).length <
      18 + field (carrierBytes kind channel flags stamp fragIndex fragCount payload ++ padding) 14 2 := by
  rw [List.length_append, carrierBytes_length, carrier_payloadLength, Nat.mod_eq_of_lt h]
  omega

theorem carrier_payload_taken (h : payload.length < 65536) :
    ((carrierBytes kind channel flags stamp fragIndex fragCount payload ++ padding).drop 18).take
        (field (carrierBytes kind channel flags stamp fragIndex fragCount payload ++ padding) 14 2) = payload := by
  rw [carrier_payload, carrier_payloadLength, Nat.mod_eq_of_lt h, List.take_left]

end

/-! ## Media carriers (R20, Table 11-1) -/

/-- The header code of a kind of media. -/
def mediaCode : MediaKind → Nat
  | .video => 1
  | .audio => 2
  | .summary => 3

theorem mediaKindOf_mediaCode (k : MediaKind) : mediaKindOf (mediaCode k % 256) = some k := by
  cases k <;> rfl

/-- R207: a well-formed media carrier is read from its bytes as it was. -/
theorem receiveFrame_media (hp : Inbound p) {m : Media} (hm : m.wf = true) (flags : Nat) (padding : List Byte) (time : Nat) :
    s.receiveFrame p (carriageFrame (carrierBytes (mediaCode m.kind) m.channel flags m.stamp m.fragIndex m.fragCount m.payload) padding) time =
      s.receiveMedia p m := by
  have hfits : m.channel < 256 ∧ m.stamp < 256 ^ 6 ∧ m.fragIndex < 65536 ∧ m.fragCount < 65536 ∧ m.payload.length < 65536 := by
    simpa [Media.wf, fits, and_assoc] using hm
  obtain ⟨hchannel, hstamp, hindex, hcount, hpayload⟩ := hfits
  rw [receiveFrame_carrier hp]
  unfold State.takeHeader
  rw [if_neg (carrier_length_ok hpayload), carrier_kind, mediaKindOf_mediaCode]
  dsimp only
  unfold parseMedia
  rw [carrier_payload_taken hpayload, carrier_channel, carrier_stamp, carrier_fragIndex, carrier_fragCount, Nat.mod_eq_of_lt hchannel,
    Nat.mod_eq_of_lt hstamp, Nat.mod_eq_of_lt hindex, Nat.mod_eq_of_lt hcount]

/-- Settles O22. -/
theorem mediaFramesDoWhatTheySpell : Obligations.MediaFramesDoWhatTheySpell := by
  unfold Obligations.MediaFramesDoWhatTheySpell
  intro s m padding flags time hm code frame
  have hcode : code = mediaCode m.kind := by cases h : m.kind <;> simp only [code, h] <;> rfl
  have hframe : ∀ p, Inbound p → s.catchUp.receiveFrame p frame time = s.catchUp.receiveMedia p m := fun p hp => by
    have h := receiveFrame_media (s := s.catchUp) hp hm flags padding time
    rw [← hcode] at h
    exact h
  exact ⟨fun side => ⟨_, rfl, congrArg Host.Outcome.next (hframe _ (fun _ => by simp))⟩,
    fun n => ⟨_, rfl, congrArg Host.Outcome.next (hframe _ (fun _ => by simp))⟩⟩

/-! ## The envelope of a control carrier (R209, Table 11-3) -/

section
variable {rx : ControlRx} {code named : Nat} {body : List Byte}

/-- Table 11-3: the fields of an envelope one after another. -/
theorem controlEnvelope_eq :
    controlEnvelope rx code named ++ body =
      toBytes 1 rx.sender ++ (toBytes 1 code ++ (toBytes 2 rx.request ++ (toBytes 1 (flagNat rx.group) ++ (toBytes 1 0 ++ (toBytes 2 named ++ body))))) := by
  simp [controlEnvelope]

theorem controlPayload_eq (rx : ControlRx) (code : Nat) (body : List Byte) : controlPayload rx code body = controlEnvelope rx code body.length ++ body := by
  simp [controlPayload, controlEnvelope]

theorem envelope_length (rx : ControlRx) (code named : Nat) : (controlEnvelope rx code named).length = 8 := by
  simp [controlEnvelope, toBytes_length]

theorem envelope_sender : field (controlEnvelope rx code named ++ body) 0 1 = rx.sender % 256 := by
  rw [controlEnvelope_eq, field_here, Nat.pow_one]

theorem envelope_code : field (controlEnvelope rx code named ++ body) 1 1 = code % 256 := by
  rw [controlEnvelope_eq]
  simp only [field_past, field_here, Nat.reduceSub, Nat.reduceLeDiff, Nat.reducePow]

theorem envelope_request : field (controlEnvelope rx code named ++ body) 2 2 = rx.request % 65536 := by
  rw [controlEnvelope_eq]
  simp only [field_past, field_here, Nat.reduceSub, Nat.reduceLeDiff, Nat.reducePow]

theorem envelope_group : field (controlEnvelope rx code named ++ body) 4 1 = flagNat rx.group % 256 := by
  rw [controlEnvelope_eq]
  simp only [field_past, field_here, Nat.reduceSub, Nat.reduceLeDiff, Nat.reducePow]

theorem envelope_named : field (controlEnvelope rx code named ++ body) 6 2 = named % 65536 := by
  rw [controlEnvelope_eq]
  simp only [field_past, field_here, Nat.reduceSub, Nat.reduceLeDiff, Nat.reducePow]

theorem envelope_body : (controlEnvelope rx code named ++ body).drop 8 = body := List.drop_left' (envelope_length rx code named)

/-- The envelope is read back as it was written. -/
theorem rawEnvelope_envelope {raw : RawControl} (hport : raw.port = rx.port) (hstamp : raw.stamp = rx.stamp) (hchannel : raw.channel = rx.channel)
    (hpayload : raw.payload = controlEnvelope rx code named ++ body) (hsender : rx.sender < 256) (hrequest : rx.request < 65536) : rawEnvelope raw = rx := by
  have hlength : ¬(controlEnvelope rx code named ++ body).length < 4 := by
    rw [List.length_append, envelope_length]
    omega
  have hgroup : (BitVec.ofNat 8 (flagNat rx.group % 256)).getLsbD 0 = rx.group := by cases rx.group <;> decide
  unfold rawEnvelope
  rw [hpayload, if_neg hlength, envelope_sender, envelope_request, envelope_group, hgroup, Nat.mod_eq_of_lt hsender, Nat.mod_eq_of_lt hrequest, hport, hstamp,
    hchannel]

/-- A request that has been read: not of an unknown kind, and not of one that only the part sends. -/
def Read (r : Request) : Prop := (∀ k, r ≠ .unknown k) ∧ ∀ k, r ≠ .outbound k

/-- R209: how a payload is judged once its body has been read. -/
theorem parsePayload_eq (payload : List Byte) {r : Request} (hr : parseBody (field payload 1 1) (payload.drop 8) = r) (hread : Read r) :
    parsePayload payload =
      if payload.length < 8 ∨ field payload 6 2 ≠ payload.length - 8 then .malformed (field payload 1 1) else r := by
  unfold parsePayload
  dsimp only
  rw [hr]
  cases r with
  | unknown k => exact absurd rfl (hread.1 k)
  | outbound k => exact absurd rfl (hread.2 k)
  | _ => rfl

theorem parsePayload_unknown {payload : List Byte} {k : Nat} (hr : parseBody (field payload 1 1) (payload.drop 8) = .unknown k) :
    parsePayload payload = .unknown k := by
  unfold parsePayload
  dsimp only
  rw [hr]

theorem parsePayload_outbound {payload : List Byte} {k : Nat} (hr : parseBody (field payload 1 1) (payload.drop 8) = .outbound k) :
    parsePayload payload = .outbound k := by
  unfold parsePayload
  dsimp only
  rw [hr]

/-- R209: a payload whose envelope names a body length. -/
theorem parsePayload_envelope (hcode : code < 256) (hnamed : named < 65536) (hread : Read (parseBody code body)) :
    parsePayload (controlEnvelope rx code named ++ body) = if named = body.length then parseBody code body else .malformed code := by
  have hfield : field (controlEnvelope rx code named ++ body) 1 1 = code := by rw [envelope_code, Nat.mod_eq_of_lt hcode]
  rw [parsePayload_eq (r := parseBody code body) _ (by rw [hfield, envelope_body]) hread, hfield, envelope_named, Nat.mod_eq_of_lt hnamed, List.length_append,
    envelope_length, Nat.add_sub_cancel_left]
  by_cases h : named = body.length
  · rw [if_pos h, if_neg (by omega)]
  · rw [if_neg h, if_pos (by omega)]

/-- A control carrier as bytes, short enough for a carrier, read as its envelope and its request. -/
theorem receiveRaw_envelope (hp : Inbound rx.port) {raw : RawControl} (hport : raw.port = rx.port) (hlength : raw.payload.length ≤ 1408) :
    s.receiveRaw raw = s.receiveControl (rawEnvelope raw) (parsePayload raw.payload) raw.time := by
  unfold State.receiveRaw
  rw [hport]
  rcases inbound_cases hp with ⟨side, hside⟩ | ⟨n, hn⟩
  · rw [hside]
    exact if_neg (by omega)
  · rw [hn]
    exact if_neg (by omega)

/-- R20: an Ethernet frame with a control carrier. -/
theorem receiveFrame_control (hp : Inbound p) (flags : Nat) {stamp channel : Nat} (hstamp : stamp < 256 ^ 6) (hchannel : channel < 256) {payload : List Byte}
    (hpayload : payload.length < 65536) (padding : List Byte) (time : Nat) :
    s.receiveFrame p (carriageFrame (carrierBytes 4 channel flags stamp 0 1 payload) padding) time =
      s.receiveRaw { port := p, stamp := stamp, channel := channel, payload := payload, time := time } := by
  rw [receiveFrame_carrier hp]
  unfold State.takeHeader
  rw [if_neg (carrier_length_ok hpayload), carrier_kind, show mediaKindOf (4 % 256) = none from rfl]
  dsimp only
  rw [carrier_fragIndex, carrier_fragCount, if_pos (by decide), carrier_payload_taken hpayload, carrier_stamp, carrier_channel, Nat.mod_eq_of_lt hstamp,
    Nat.mod_eq_of_lt hchannel]

end

end Sys2Proof.Machine

/-! PROOFS. The bodies of control carriers read back (R209, R210, Tables 11-5 to 11-8). -/

namespace Sys2Proof.Machine

-- Each elaboration thread takes a large stack, and the text is compiled as one file under a memory limit: one thread at a time.
set_option Elab.async false

/-! ## Events (Table 11-6) -/

/-- A material name as carried. -/
def nameBytes : Option (List Byte) → List Byte
  | some l => toBytes 1 l.length ++ l
  | none => []

/-- An optional number as carried, its presence told elsewhere. -/
def numberBytes (width : Nat) : Option Nat → List Byte
  | some n => toBytes width n
  | none => []

/-- The presence bits of an event. -/
def presenceOf (e : EventCarried) : Nat := flagNat e.name.isSome + 2 * flagNat e.inPoint.isSome + 4 * flagNat e.source.isSome

theorem presence_bits (a b c : Bool) :
    let x := BitVec.ofNat 8 ((flagNat a + 2 * flagNat b + 4 * flagNat c) % 256 ^ 1)
    x.getLsbD 0 = a ∧ x.getLsbD 1 = b ∧ x.getLsbD 2 = c := by
  cases a <;> cases b <;> cases c <;> decide

theorem eventBytes_eq (e : EventCarried) :
    eventBytes e =
      toBytes 4 e.id ++ (toBytes 2 e.label.day ++ (toBytes 1 e.label.hh ++ (toBytes 1 e.label.mm ++ (toBytes 1 e.label.ss ++ (toBytes 1 e.label.ff ++
        (toBytes 4 e.duration ++ (toBytes 1 e.kind ++ (toBytes 1 (presenceOf e) ++ (toBytes 1 0 ++
          (nameBytes e.name ++ (numberBytes 4 e.inPoint ++ numberBytes 2 e.source))))))))))) := by
  obtain ⟨id, label, duration, kind, name, inPoint, source⟩ := e
  cases name <;> cases inPoint <;> cases source <;> simp [eventBytes, nameBytes, numberBytes, presenceOf]

theorem takeName_nameBytes {name : Option (List Byte)} (h : (name.getD []).length < 256) (rest : List Byte) :
    takeName name.isSome (nameBytes name ++ rest) = some (name, rest) := by
  cases name with
  | none => rfl
  | some l =>
    have hl : l.length < 256 := h
    have hbyte : (BitVec.ofNat 8 (l.length / 256 ^ 0)).toNat = l.length := by
      rw [BitVec.toNat_ofNat, Nat.pow_zero, Nat.div_one]
      exact Nat.mod_eq_of_lt hl
    have hfits : (BitVec.ofNat 8 (l.length / 256 ^ 0)).toNat ≤ (l ++ rest).length := by
      rw [hbyte, List.length_append]
      omega
    have htaken : takeName true (BitVec.ofNat 8 (l.length / 256 ^ 0) :: (l ++ rest)) = some (some ((l ++ rest).take l.length), (l ++ rest).drop l.length) := by
      rw [show takeName true (BitVec.ofNat 8 (l.length / 256 ^ 0) :: (l ++ rest)) = _ from if_pos hfits, hbyte]
    rw [List.take_left, List.drop_left] at htaken
    exact htaken

theorem takeField_numberBytes {w : Nat} {x : Option Nat} (h : optFits w x = true) (rest : List Byte) :
    takeField x.isSome w (numberBytes w x ++ rest) = some (x, rest) := by
  cases x with
  | none => rfl
  | some n =>
    unfold numberBytes takeField
    dsimp only
    rw [Option.isSome_some, if_pos rfl, if_pos (by rw [List.length_append, toBytes_length]; omega), field_here_fits (fits_iff.1 h),
      drop_past _ _ le_rfl, Nat.sub_self, List.drop_zero]

/-- Table 11-6: a well-formed event is read from its bytes as it was. -/
theorem parseEvent_eventBytes {e : EventCarried} (h : e.wf = true) : parseEvent (eventBytes e) = some e := by
  have hfits : (e.id < 256 ^ 4 ∧ (e.label.day < 256 ^ 2 ∧ e.label.hh < 256 ^ 1 ∧ e.label.mm < 256 ^ 1 ∧ e.label.ss < 256 ^ 1 ∧ e.label.ff < 256 ^ 1) ∧
      e.duration < 256 ^ 4 ∧ e.kind < 256 ^ 1) ∧ (e.name.getD []).length < 256 ^ 1 ∧ optFits 4 e.inPoint = true ∧ optFits 2 e.source = true := by
    simpa [EventCarried.wf, Label.wf, fits, and_assoc] using h
  obtain ⟨⟨hid, ⟨hday, hhh, hmm, hss, hff⟩, hduration, hkind⟩, hname, hin, hsource⟩ := hfits
  obtain ⟨hbit0, hbit1, hbit2⟩ := presence_bits e.name.isSome e.inPoint.isSome e.source.isSome
  have hpresence : field (eventBytes e) 15 1 = presenceOf e % 256 ^ 1 := by
    rw [eventBytes_eq]
    simp only [field_past, field_here, Nat.reduceSub, Nat.reduceLeDiff]
  have hrest : (eventBytes e).drop 17 = nameBytes e.name ++ (numberBytes 4 e.inPoint ++ numberBytes 2 e.source) := by
    rw [eventBytes_eq]
    simp only [drop_past, Nat.reduceSub, Nat.reduceLeDiff, List.drop_zero]
  have hlength : ¬(eventBytes e).length < 17 := by
    rw [eventBytes_eq]
    simp only [List.length_append, toBytes_length]
    omega
  have hlast : takeField e.source.isSome 2 (numberBytes 2 e.source) = some (e.source, []) := by
    have := takeField_numberBytes hsource []
    rwa [List.append_nil] at this
  unfold parseEvent
  rw [if_neg hlength, hpresence, hrest]
  dsimp only
  unfold presenceOf
  rw [hbit0, hbit1, hbit2, takeName_nameBytes hname]
  dsimp only
  rw [takeField_numberBytes hin]
  dsimp only
  rw [hlast]
  dsimp only
  rw [eventBytes_eq]
  simp only [field_past, field_here_fits, hid, hday, hhh, hmm, hss, hff, hduration, hkind, Nat.reduceSub, Nat.reduceLeDiff]

theorem eventBytes_length {e : EventCarried} (h : e.wf = true) : (eventBytes e).length ≤ 279 := by
  have hname : (e.name.getD []).length < 256 := by
    simp only [EventCarried.wf, Bool.and_eq_true] at h
    exact fits_iff.1 h.1.1.2
  have hn : (nameBytes e.name).length ≤ 256 := by
    cases hc : e.name with
    | none => simp [nameBytes]
    | some l =>
      rw [hc] at hname
      simp only [nameBytes, List.length_append, toBytes_length]
      simp only [Option.getD_some] at hname
      omega
  have hx : ∀ w x, (numberBytes w x).length ≤ w := fun w x => by cases x <;> simp [numberBytes, toBytes_length]
  have h4 := hx 4 e.inPoint
  have h2 := hx 2 e.source
  rw [eventBytes_eq]
  simp only [List.length_append, toBytes_length]
  omega

/-- A body that ends with an event. -/
theorem withEvent_eventBytes {e : EventCarried} (h : e.wf = true) {front : List Byte} {n : Nat} (hn : front.length = n) (code : Nat)
    (f : EventCarried → Request) : withEvent n (front ++ eventBytes e) code f = f e := by
  unfold withEvent
  rw [List.drop_left' hn, parseEvent_eventBytes h]
  dsimp only
  rw [if_pos (by rw [List.length_append]; omega)]

/-! ## Lists and numbers (Table 11-5, section 11.3) -/

theorem parseValues_flatMap {values : List Nat} (h : values.all (fits 4) = true) : parseValues values.length (values.flatMap (toBytes 4)) = values := by
  induction values with
  | nil => rfl
  | cons v rest ih =>
    rw [List.all_cons, Bool.and_eq_true] at h
    rw [List.flatMap_cons, List.length_cons, parseValues, field_here_fits (fits_iff.1 h.1), drop_past _ _ le_rfl, Nat.sub_self, List.drop_zero, ih h.2]

theorem parsePairs_flatMap {levels : List (Nat × Nat)} (h : (levels.all fun p => fits 1 p.1 && fits 1 p.2) = true) :
    parsePairs levels.length (levels.flatMap fun p => toBytes 1 p.1 ++ toBytes 1 p.2) = levels := by
  induction levels with
  | nil => rfl
  | cons v rest ih =>
    rw [List.all_cons, Bool.and_eq_true, Bool.and_eq_true] at h
    rw [List.flatMap_cons, List.append_assoc, List.length_cons, parsePairs, field_here_fits (fits_iff.1 h.1.1), field_past _ _ _ le_rfl, Nat.sub_self,
      field_here_fits (fits_iff.1 h.1.2), drop_past _ _ (by decide), drop_past _ _ (by decide), List.drop_zero, ih h.2]

theorem flatMap_length_const {α β : Type} (f : α → List β) {n : Nat} (h : ∀ x, (f x).length = n) (l : List α) : (l.flatMap f).length = n * l.length := by
  rw [List.length_flatMap, List.map_congr_left (fun x _ => h x), List.map_const', List.sum_replicate, smul_eq_mul, Nat.mul_comm]

/-- Table 11-5: a signed number is read back as it was. -/
theorem signedField_int {n : Int} (h : fitsSigned n = true) {front : List Byte} {k : Nat} (hk : front.length = k) :
    signedField (front ++ (Atom.int n).bytes) k = n := by
  have hrange : -2147483648 ≤ n ∧ n < 2147483648 := by simpa [fitsSigned] using h
  have hlt : (n % 4294967296).toNat < 256 ^ 4 := by omega
  have hfield : field (front ++ (Atom.int n).bytes) k 4 = (n % 4294967296).toNat := by
    have hdrop : field (front ++ (Atom.int n).bytes) k 4 = field (toBytes 4 (n % 4294967296).toNat) 0 4 := by
      unfold field
      rw [List.drop_left' hk, List.drop_zero]
      rfl
    rw [hdrop, field_only_fits hlt]
  unfold signedField
  rw [hfield]
  dsimp only
  split <;> omega

/-- Table 11-5: a set of channels is read back as it was. -/
theorem parseChannels_toBytes (mask : BitVec 16) : parseChannels (toBytes 2 mask.toNat) = channelSet mask := by
  unfold parseChannels channelSet
  rw [field_only_fits mask.isLt, BitVec.ofNat_toNat, BitVec.setWidth_eq]

end Sys2Proof.Machine

/-! PROOFS. Control carriers do what their bytes spell (R20 to R22, R207 to R210). -/

namespace Sys2Proof.Machine

-- Each elaboration thread takes a large stack, and the text is compiled as one file under a memory limit: one thread at a time.
set_option Elab.async false

variable {s : State} {rx : ControlRx} {time : Nat}

/-! ## The instant of a command -/

/-- Only a WRITE reads the instant at which it is taken. -/
theorem receiveControl_time (s : State) (rx : ControlRx) {r : Request} (h : ∀ values, r ≠ .write values) (time time' : Nat) :
    s.receiveControl rx r time = s.receiveControl rx r time' := by
  have hpass : ∀ (u : State) (a : Asked) (g : Bool), u.passOn a g time r = u.passOn a g time' r := fun u a g => by
    cases r with
    | write values => exact absurd rfl (h values)
    | _ => rfl
  have hroute : ∀ (u : State) (o : Origin), u.routeOrigin o rx r time = u.routeOrigin o rx r time' := fun u o => by
    unfold State.routeOrigin
    dsimp only
    rw [hpass]
  unfold State.receiveControl
  simp only [hroute]

/-! ## Bodies -/

/-- A control code and a body that spell a request, short enough for a carrier. -/
structure Spells (code : Nat) (body : List Byte) (r : Request) : Prop where
  code_lt : code < 256
  length_le : body.length ≤ 1400
  read : parseBody code body = r
  known : Read r

/-- A body without fields. -/
theorem spells_nil {code : Nat} {r : Request} (hcode : code < 256) (hr : parseBody code [] = r) (hknown : Read r) : Spells code [] r :=
  ⟨hcode, by simp, hr, hknown⟩

/-- A body of an exact length. -/
theorem spells_exactly {n code : Nat} {body : List Byte} {r r' : Request} (hcode : code < 256) (hn : n ≤ 1400)
    (hparse : parseBody code body = exactly n body code r) (hlength : body.length = n) (hr : r = r') (hknown : Read r') : Spells code body r' :=
  ⟨hcode, hlength ▸ hn, hparse.trans ((if_pos hlength).trans hr), hknown⟩

/-- What a control carrier's command does and what its bytes spell are one request. -/
structure Spelt (i : Instr) (rx : ControlRx) (code : Nat) (body : List Byte) (time : Nat) : Prop where
  sender : rx.wf = true
  spells : Spells code body (parseBody code body)
  does : ∀ s : State, exec i s = .next (s.catchUp.receiveControl rx (parseBody code body) time)

/-- A command that is no WRITE, by the request that it carries. -/
theorem spelt_of {i : Instr} {rx : ControlRx} {code : Nat} {body : List Byte} {r : Request} (hrx : rx.wf = true) (h : Spells code body r)
    (hr : ∀ values, r ≠ .write values) (hi : ∀ s : State, exec i s = .next (s.catchUp.receiveControl rx r 0)) (time : Nat) : Spelt i rx code body time := by
  obtain ⟨hcode, hlength, rfl, hknown⟩ := h
  exact ⟨hrx, ⟨hcode, hlength, rfl, hknown⟩, fun s => by rw [hi s, receiveControl_time _ _ hr 0 time]⟩

/-! ### Schedule carriers (Table 11-7) -/

section
variable {revision id n : Nat} {e : EventCarried}

theorem spells_insert (hr : fits 2 revision = true) (he : e.wf = true) :
    Spells 0x10 (toBytes 2 revision ++ eventBytes e) (.schedule (.amendment revision (.insert e))) := by
  refine ⟨by decide, ?_, ?_, by simp [Read]⟩
  · have := eventBytes_length he
    rw [List.length_append, toBytes_length]
    omega
  · show withEvent 2 _ 0x10 _ = _
    rw [withEvent_eventBytes he (toBytes_length 2 revision), field_here_fits (fits_iff.1 hr)]

theorem spells_replace (hr : fits 2 revision = true) (hid : fits 4 id = true) (he : e.wf = true) :
    Spells 0x11 (toBytes 2 revision ++ toBytes 4 id ++ eventBytes e) (.schedule (.amendment revision (.replace id e))) := by
  refine ⟨by decide, ?_, ?_, by simp [Read]⟩
  · have := eventBytes_length he
    simp only [List.length_append, toBytes_length]
    omega
  · show withEvent 6 _ 0x11 _ = _
    rw [withEvent_eventBytes he (by rw [List.length_append, toBytes_length, toBytes_length]), List.append_assoc, field_here_fits (fits_iff.1 hr),
      field_past _ _ _ le_rfl, field_here_fits (fits_iff.1 hid)]

theorem spells_snapshotEvent (hr : fits 2 revision = true) (hn : fits 2 n = true) (he : e.wf = true) :
    Spells 0x19 (toBytes 2 revision ++ toBytes 2 n ++ eventBytes e) (.schedule (.snapshotEvent revision n e)) := by
  refine ⟨by decide, ?_, ?_, by simp [Read]⟩
  · have := eventBytes_length he
    simp only [List.length_append, toBytes_length]
    omega
  · show withEvent 4 _ 0x19 _ = _
    rw [withEvent_eventBytes he (by rw [List.length_append, toBytes_length, toBytes_length]), List.append_assoc, field_here_fits (fits_iff.1 hr),
      field_past _ _ _ le_rfl, field_here_fits (fits_iff.1 hn)]

theorem spells_delete (hr : fits 2 revision = true) (hid : fits 4 id = true) :
    Spells 0x12 (toBytes 2 revision ++ toBytes 4 id) (.schedule (.amendment revision (.delete id))) := by
  refine spells_exactly (n := 6) (r := .schedule (.amendment (field _ 0 2) (.delete (field _ 2 4))))
    (by decide) (by decide) rfl (by simp [toBytes_length]) ?_ (by simp [Read])
  rw [field_here_fits (fits_iff.1 hr), field_past _ _ _ le_rfl, field_only_fits (fits_iff.1 hid)]

theorem spells_trim (hr : fits 2 revision = true) (hid : fits 4 id = true) (hn : fits 4 n = true) :
    Spells 0x13 (toBytes 2 revision ++ toBytes 4 id ++ toBytes 4 n) (.schedule (.amendment revision (.trim id n))) := by
  refine spells_exactly (n := 10) (r := .schedule (.amendment (field _ 0 2) (.trim (field _ 2 4) (field _ 6 4))))
    (by decide) (by decide) rfl (by simp [toBytes_length]) ?_ (by simp [Read])
  rw [List.append_assoc, field_here_fits (fits_iff.1 hr), field_past _ _ _ le_rfl, field_here_fits (fits_iff.1 hid), field_past _ _ _ (by decide),
    field_past _ _ _ le_rfl, field_only_fits (fits_iff.1 hn)]

theorem spells_shiftFrom (hr : fits 2 revision = true) (hid : fits 4 id = true) {delta : Int} (hdelta : fitsSigned delta = true) :
    Spells 0x14 (toBytes 2 revision ++ toBytes 4 id ++ (Atom.int delta).bytes) (.schedule (.amendment revision (.shiftFrom id delta))) := by
  refine spells_exactly (n := 10) (r := .schedule (.amendment (field _ 0 2) (.shiftFrom (field _ 2 4) (signedField _ 6))))
    (by decide) (by decide) rfl (by simp [Atom.bytes, toBytes_length]) ?_ (by simp [Read])
  rw [signedField_int hdelta (by rw [List.length_append, toBytes_length, toBytes_length]), List.append_assoc, field_here_fits (fits_iff.1 hr),
    field_past _ _ _ le_rfl, field_here_fits (fits_iff.1 hid)]

theorem spells_snapshotBegin (hr : fits 2 revision = true) (hn : fits 2 n = true) :
    Spells 0x18 (toBytes 2 revision ++ toBytes 2 n) (.schedule (.snapshotBegin revision n)) := by
  refine spells_exactly (n := 4) (r := .schedule (.snapshotBegin (field _ 0 2) (field _ 2 2)))
    (by decide) (by decide) rfl (by simp [toBytes_length]) ?_ (by simp [Read])
  rw [field_here_fits (fits_iff.1 hr), field_past _ _ _ le_rfl, field_only_fits (fits_iff.1 hn)]

theorem spells_snapshotEnd (hr : fits 2 revision = true) (hn : fits 2 n = true) :
    Spells 0x1A (toBytes 2 revision ++ toBytes 2 n) (.schedule (.snapshotEnd revision n)) := by
  refine spells_exactly (n := 4) (r := .schedule (.snapshotEnd (field _ 0 2) (field _ 2 2)))
    (by decide) (by decide) rfl (by simp [toBytes_length]) ?_ (by simp [Read])
  rw [field_here_fits (fits_iff.1 hr), field_past _ _ _ le_rfl, field_only_fits (fits_iff.1 hn)]

end

/-! ### Other bodies (Table 11-8, sections 11.3 and 11.4) -/

section
variable {a b c d : Nat}

theorem spells_keepalive (ha : fits 2 a = true) : Spells 0x01 (toBytes 2 a) (.keepalive a) := by
  refine spells_exactly (n := 2) (r := .keepalive (field _ 0 2)) (by decide) (by decide) rfl (toBytes_length 2 a) ?_ (by simp [Read])
  rw [field_only_fits (fits_iff.1 ha)]

theorem spells_setService (ha : fits 1 a = true) : Spells 0x20 (toBytes 1 a) (.channel (.setService a)) := by
  refine spells_exactly (n := 1) (r := .channel (.setService (field _ 0 1))) (by decide) (by decide) rfl (toBytes_length 1 a) ?_ (by simp [Read])
  rw [field_only_fits (fits_iff.1 ha)]

theorem spells_pin (ha : fits 1 a = true) : Spells 0x24 (toBytes 1 a) (.channel (.pin a)) := by
  refine spells_exactly (n := 1) (r := .channel (.pin (field _ 0 1))) (by decide) (by decide) rfl (toBytes_length 1 a) ?_ (by simp [Read])
  rw [field_only_fits (fits_iff.1 ha)]

theorem spells_retime (ha : fits 1 a = true) : Spells 0x30 (toBytes 1 1 ++ toBytes 1 a) (.retime (some a)) := by
  refine ⟨by decide, by simp [toBytes_length], ?_, by simp [Read]⟩
  have hbyte : (BitVec.ofNat 8 (a / 256 ^ 0)).toNat = a := by
    rw [BitVec.toNat_ofNat, Nat.pow_zero, Nat.div_one]
    exact Nat.mod_eq_of_lt (fits_iff.1 ha)
  exact congrArg (fun n => Request.retime (some n)) hbyte

theorem spells_captureSlate (ha : fits 1 a = true) (hb : fits 1 b = true) : Spells 0x31 (toBytes 1 a ++ toBytes 1 b) (.captureSlate a b) := by
  refine spells_exactly (n := 2) (r := .captureSlate (field _ 0 1) (field _ 1 1))
    (by decide) (by decide) rfl (by simp [toBytes_length]) ?_ (by simp [Read])
  rw [field_here_fits (fits_iff.1 ha), field_past _ _ _ le_rfl, field_only_fits (fits_iff.1 hb)]

theorem spells_setWindow (ha : fits 1 a = true) (hb : fits 1 b = true) (hc : fits 2 c = true) (hd : fits 1 d = true) :
    Spells 0x41 (toBytes 1 a ++ toBytes 1 b ++ toBytes 2 c ++ toBytes 1 d) (.setWindow a b c d) := by
  refine spells_exactly (n := 5) (r := .setWindow (field _ 0 1) (field _ 1 1) (field _ 2 2) (field _ 4 1))
    (by decide) (by decide) rfl (by simp [toBytes_length]) ?_ (by simp [Read])
  rw [List.append_assoc, List.append_assoc]
  simp only [field_here_fits (fits_iff.1 ha), field_past, field_here_fits (fits_iff.1 hb), field_here_fits (fits_iff.1 hc), field_only_fits (fits_iff.1 hd),
    Nat.reduceSub, Nat.reduceLeDiff]

theorem spells_read (ha : fits 1 a = true) : Spells 0x42 (toBytes 1 a) (.read a) := by
  refine spells_exactly (n := 1) (r := .read (field _ 0 1)) (by decide) (by decide) rfl (toBytes_length 1 a) ?_ (by simp [Read])
  rw [field_only_fits (fits_iff.1 ha)]

theorem spells_write {values : List Nat} (hn : values.length ≤ 16) (hv : values.all (fits 4) = true) :
    Spells 0x43 (toBytes 1 values.length ++ values.flatMap (toBytes 4)) (.write values) := by
  have hlength : (toBytes 1 values.length ++ values.flatMap (toBytes 4)).length = 1 + 4 * values.length := by
    rw [List.length_append, toBytes_length, flatMap_length_const _ (toBytes_length 4)]
  have hcount : field (toBytes 1 values.length ++ values.flatMap (toBytes 4)) 0 1 = values.length := field_here_fits (by omega) _
  have hparse : ∀ b, parseBody 0x43 b =
      if field b 0 1 ≤ 16 ∧ b.length = 1 + 4 * field b 0 1 then .write (parseValues (field b 0 1) (b.drop 1)) else .malformed 0x43 := fun _ => rfl
  refine ⟨by decide, by omega, ?_, by simp [Read]⟩
  rw [hparse, hcount, if_pos ⟨hn, hlength⟩, drop_past _ _ le_rfl, Nat.sub_self, List.drop_zero, parseValues_flatMap hv]

theorem spells_subscribe {levels : List (Nat × Nat)} (ha : fits 1 a = true) (hn : fits 1 levels.length = true)
    (hv : (levels.all fun p => fits 1 p.1 && fits 1 p.2) = true) :
    Spells 0x45 (toBytes 1 a ++ toBytes 1 levels.length ++ levels.flatMap fun p => toBytes 1 p.1 ++ toBytes 1 p.2) (.subscribe a levels) := by
  have hcount := fits_iff.1 hn
  rw [List.append_assoc]
  have hlength : (toBytes 1 a ++ (toBytes 1 levels.length ++ levels.flatMap fun p => toBytes 1 p.1 ++ toBytes 1 p.2)).length = 2 + 2 * levels.length := by
    rw [List.length_append, List.length_append, toBytes_length, toBytes_length,
      flatMap_length_const (n := 2) _ (fun p => by rw [List.length_append, toBytes_length, toBytes_length])]
    omega
  have hfield : field (toBytes 1 a ++ (toBytes 1 levels.length ++ levels.flatMap fun p => toBytes 1 p.1 ++ toBytes 1 p.2)) 1 1 = levels.length := by
    rw [field_past _ _ _ le_rfl, Nat.sub_self, field_here_fits hcount]
  have hparse : ∀ b, parseBody 0x45 b =
      if b.length = 2 + 2 * field b 1 1 then .subscribe (field b 0 1) (parsePairs (field b 1 1) (b.drop 2)) else .malformed 0x45 := fun _ => rfl
  refine ⟨by decide, by omega, ?_, by simp [Read]⟩
  rw [hparse, hfield, if_pos hlength, field_here_fits (fits_iff.1 ha), drop_past _ _ (by decide), drop_past _ _ (by decide), List.drop_zero, parsePairs_flatMap hv]

theorem spells_ready (ha : fits 1 a = true) (hb : fits 1 b = true) : Spells 0x50 (toBytes 1 a ++ toBytes 1 b) (.ready a b) := by
  refine spells_exactly (n := 2) (r := .ready (field _ 0 1) (field _ 1 1))
    (by decide) (by decide) rfl (by simp [toBytes_length]) ?_ (by simp [Read])
  rw [field_here_fits (fits_iff.1 ha), field_past _ _ _ le_rfl, field_only_fits (fits_iff.1 hb)]

theorem spells_refused (ha : fits 1 a = true) (hb : fits 1 b = true) :
    Spells 0x51 (toBytes 1 a ++ toBytes 1 b ++ toBytes 1 c) (.refused a b) := by
  refine spells_exactly (n := 3) (r := .refused (field _ 0 1) (field _ 1 1))
    (by decide) (by decide) rfl (by simp [toBytes_length]) ?_ (by simp [Read])
  rw [List.append_assoc, field_here_fits (fits_iff.1 ha), field_past _ _ _ le_rfl, field_here_fits (fits_iff.1 hb)]

end

/-! ## Every command -/

section
variable {i : Instr} {code : Nat} {body : List Byte}

/-- R209, R210: every well-formed control command is spelt by its bytes. -/
theorem spelt (h : controlForm i = some (rx, code, body)) (hw : i.wf = true) (ht : sentAt i time) : Spelt i rx code body time := by
  cases i with
  | keepalive rx a =>
    cases h
    obtain ⟨hrx, ha⟩ := Bool.and_eq_true_iff.1 hw
    exact spelt_of hrx (spells_keepalive ha) (by simp) (fun _ => rfl) _
  | insert rx a e =>
    cases h
    simp only [Instr.wf, Bool.and_eq_true] at hw
    obtain ⟨⟨hrx, ha⟩, he⟩ := hw
    exact spelt_of hrx (spells_insert ha he) (by simp) (fun _ => rfl) _
  | replace rx a id e =>
    cases h
    simp only [Instr.wf, Bool.and_eq_true] at hw
    obtain ⟨⟨⟨hrx, ha⟩, hid⟩, he⟩ := hw
    exact spelt_of hrx (spells_replace ha hid he) (by simp) (fun _ => rfl) _
  | delete rx a id =>
    cases h
    simp only [Instr.wf, Bool.and_eq_true] at hw
    obtain ⟨⟨hrx, ha⟩, hid⟩ := hw
    exact spelt_of hrx (spells_delete ha hid) (by simp) (fun _ => rfl) _
  | trim rx a id n =>
    cases h
    simp only [Instr.wf, Bool.and_eq_true] at hw
    obtain ⟨⟨⟨hrx, ha⟩, hid⟩, hn⟩ := hw
    exact spelt_of hrx (spells_trim ha hid hn) (by simp) (fun _ => rfl) _
  | shiftFrom rx a id delta =>
    cases h
    simp only [Instr.wf, Bool.and_eq_true] at hw
    obtain ⟨⟨⟨hrx, ha⟩, hid⟩, hn⟩ := hw
    exact spelt_of hrx (spells_shiftFrom ha hid hn) (by simp) (fun _ => rfl) _
  | snapshotBegin rx a n =>
    cases h
    simp only [Instr.wf, Bool.and_eq_true] at hw
    obtain ⟨⟨hrx, ha⟩, hn⟩ := hw
    exact spelt_of hrx (spells_snapshotBegin ha hn) (by simp) (fun _ => rfl) _
  | snapshotEvent rx a n e =>
    cases h
    simp only [Instr.wf, Bool.and_eq_true] at hw
    obtain ⟨⟨⟨hrx, ha⟩, hn⟩, he⟩ := hw
    exact spelt_of hrx (spells_snapshotEvent ha hn he) (by simp) (fun _ => rfl) _
  | snapshotEnd rx a n =>
    cases h
    simp only [Instr.wf, Bool.and_eq_true] at hw
    obtain ⟨⟨hrx, ha⟩, hn⟩ := hw
    exact spelt_of hrx (spells_snapshotEnd ha hn) (by simp) (fun _ => rfl) _
  | setService rx a =>
    cases h
    obtain ⟨hrx, ha⟩ := Bool.and_eq_true_iff.1 hw
    exact spelt_of hrx (spells_setService ha) (by simp) (fun _ => rfl) _
  | setServiceOut rx =>
    cases h
    exact spelt_of hw (spells_setService (a := 2) rfl) (by simp) (fun _ => rfl) _
  | pinMain rx =>
    cases h
    exact spelt_of hw (spells_pin (a := 0) rfl) (by simp) (fun _ => rfl) _
  | pinStandby rx =>
    cases h
    exact spelt_of hw (spells_pin (a := 1) rfl) (by simp) (fun _ => rfl) _
  | retime rx value =>
    cases value with
    | none =>
      cases h
      obtain ⟨hrx, -⟩ := Bool.and_eq_true_iff.1 hw
      exact spelt_of hrx ⟨by decide, by decide, by rfl, by simp [Read]⟩ (by simp) (fun _ => rfl) _
    | some a =>
      cases h
      obtain ⟨hrx, ha⟩ := Bool.and_eq_true_iff.1 hw
      exact spelt_of hrx (spells_retime ha) (by simp) (fun _ => rfl) _
  | captureSlate rx a b =>
    cases h
    simp only [Instr.wf, Bool.and_eq_true] at hw
    obtain ⟨⟨hrx, ha⟩, hb⟩ := hw
    exact spelt_of hrx (spells_captureSlate ha hb) (by simp) (fun _ => rfl) _
  | setWindow rx a b c d =>
    cases h
    simp only [Instr.wf, Bool.and_eq_true] at hw
    obtain ⟨⟨⟨⟨hrx, ha⟩, hb⟩, hc⟩, hd⟩ := hw
    exact spelt_of hrx (spells_setWindow ha hb hc hd) (by simp) (fun _ => rfl) _
  | read rx a =>
    cases h
    obtain ⟨hrx, ha⟩ := Bool.and_eq_true_iff.1 hw
    exact spelt_of hrx (spells_read ha) (by simp) (fun _ => rfl) _
  | write rx values at_ =>
    cases h
    have hat : at_ = time := ht
    simp only [Instr.wf, Bool.and_eq_true, decide_eq_true_eq] at hw
    obtain ⟨⟨hrx, hn⟩, hv⟩ := hw
    have hs := spells_write hn hv
    refine ⟨hrx, ⟨hs.code_lt, hs.length_le, rfl, by rw [hs.read]; exact hs.known⟩, fun s => ?_⟩
    rw [hs.read, ← hat]
    rfl
  | subscribe rx a levels =>
    cases h
    simp only [Instr.wf, Bool.and_eq_true] at hw
    obtain ⟨⟨⟨hrx, ha⟩, hn⟩, hv⟩ := hw
    exact spelt_of hrx (spells_subscribe ha hn (by simpa using hv)) (by simp) (fun _ => rfl) _
  | ready rx a b =>
    cases h
    simp only [Instr.wf, Bool.and_eq_true] at hw
    obtain ⟨⟨hrx, ha⟩, hb⟩ := hw
    exact spelt_of hrx (spells_ready ha hb) (by simp) (fun _ => rfl) _
  | refused rx a b reason =>
    cases h
    simp only [Instr.wf, Bool.and_eq_true] at hw
    obtain ⟨⟨⟨hrx, ha⟩, hb⟩, -⟩ := hw
    exact spelt_of hrx (spells_refused ha hb) (by simp) (fun _ => rfl) _
  | take rx | returnToMain rx | hold rx | unpin rx | seize rx | release rx | ackTakeover rx | recue rx | clearRecords rx | realign rx | declareSiteLost rx
  | restoreSite rx | clearError rx | clearCounters rx | saveConfig rx | warmRestart rx =>
    cases h
    exact spelt_of hw (spells_nil (by decide) (by rfl) (by simp [Read])) (by simp) (fun _ => rfl) _
  | _ => cases h

/-- R207: bytes that spell a request, in an Ethernet frame and alone, do what it does. -/
theorem spelt_bytes (hp : Inbound rx.port) (hw : rx.wf = true) {r : Request} (hspells : Spells code body r) (s : State) (padding : List Byte) (flags time : Nat) :
    s.receiveRaw { port := rx.port, stamp := rx.stamp, channel := rx.channel, payload := controlPayload rx code body, time := time } =
        s.receiveControl rx r time ∧
      s.receiveFrame rx.port (carriageFrame (carrierBytes 4 rx.channel flags rx.stamp 0 1 (controlPayload rx code body)) padding) time =
        s.receiveControl rx r time := by
  have hfits : rx.stamp < 256 ^ 6 ∧ rx.channel < 256 ∧ rx.sender < 256 ∧ rx.request < 65536 := by
    simpa [ControlRx.wf, fits, and_assoc] using hw
  obtain ⟨hstamp, hchannel, hsender, hrequest⟩ := hfits
  obtain ⟨hcode, hlength, rfl, hknown⟩ := hspells
  have hpayload : (controlPayload rx code body).length = 8 + body.length := by
    rw [controlPayload_eq, List.length_append, envelope_length]
  have hraw : s.receiveRaw { port := rx.port, stamp := rx.stamp, channel := rx.channel, payload := controlPayload rx code body, time := time } =
      s.receiveControl rx (parseBody code body) time := by
    rw [receiveRaw_envelope hp rfl (by dsimp only; omega), rawEnvelope_envelope rfl rfl rfl (controlPayload_eq rx code body) hsender hrequest]
    dsimp only
    rw [controlPayload_eq, parsePayload_envelope hcode (by omega) hknown, if_pos rfl]
  exact ⟨hraw, (receiveFrame_control hp flags hstamp hchannel (by omega) padding time).trans hraw⟩

end

/-- Settles O21. -/
theorem controlFramesDoWhatTheySpell : Obligations.ControlFramesDoWhatTheySpell := by
  unfold Obligations.ControlFramesDoWhatTheySpell
  refine ⟨fun s i rx code body padding flags time h hw ht hp => ?_, fun s rx mask padding flags time hw hp => ?_⟩
  · obtain ⟨hrx, hspells, hdoes⟩ := spelt h hw ht
    obtain ⟨hraw, hframe⟩ := spelt_bytes hp hrx hspells s.catchUp padding flags time
    exact ⟨_, hdoes s, congrArg Host.Outcome.next hframe, congrArg Host.Outcome.next hraw, congrArg Host.Outcome.next hraw⟩
  · have hbody : Spells 0x40 (toBytes 2 mask.toNat) (.select (channelSet mask)) := by
      refine spells_exactly (n := 2) (r := .select (parseChannels _)) (by decide) (by decide) rfl (toBytes_length 2 _) ?_ (by simp [Read])
      rw [parseChannels_toBytes]
    obtain ⟨-, hframe⟩ := spelt_bytes hp hw hbody s.catchUp padding flags time
    refine ⟨_, rfl, congrArg Host.Outcome.next (hframe.trans ?_)⟩
    exact receiveControl_time _ _ (by simp) time 0

end Sys2Proof.Machine

/-! PROOFS. Control carriers of no known kind, of the wrong length, and of a sender that may not use its port (R22, R188, R209). -/

namespace Sys2Proof.Machine

-- Each elaboration thread takes a large stack, and the text is compiled as one file under a memory limit: one thread at a time.
set_option Elab.async false

variable {s : State} {o : Origin} {rx : ControlRx} {code n : Nat} {body b : List Byte} {r : Request}

/-! ## The code of a request that is read (Table 11-4) -/

theorem exactly_code (h : r.code = code) : (exactly n b code r).code = code := by
  unfold exactly
  split
  · exact h
  · rfl

theorem withEvent_code {f : EventCarried → Request} (h : ∀ e, (f e).code = code) : (withEvent n b code f).code = code := by
  unfold withEvent
  split
  · split
    · exact h _
    · rfl
  · rfl

theorem parseRetime_code (b : List Byte) : (parseRetime b).code = 0x30 := by
  unfold parseRetime
  split
  · split <;> rfl
  · split <;> rfl
  · rfl

theorem parseSchedule_code (code : Nat) (b : List Byte) : (parseSchedule code b).code = code := by
  unfold parseSchedule
  dsimp only
  split
  case h_9 => rfl
  case h_1 | h_2 | h_7 => exact withEvent_code fun _ => rfl
  all_goals exact exactly_code rfl

theorem parseChannelCommand_code (code : Nat) (b : List Byte) : (parseChannelCommand code b).code = code := by
  unfold parseChannelCommand
  split
  case h_12 => rfl
  all_goals exact exactly_code rfl

theorem parseManagement_code (code : Nat) (b : List Byte) : (parseManagement code b).code = code := by
  unfold parseManagement
  split
  case h_10 => rfl
  case h_4 | h_6 => dsimp only; split <;> rfl
  all_goals exact exactly_code rfl

theorem parseOther_code (code : Nat) (b : List Byte) : (parseOther code b).code = code := by
  unfold parseOther
  split
  case h_9 => rfl
  case h_2 => exact parseRetime_code b
  all_goals exact exactly_code rfl

/-- A body is read as a request of its own control code. -/
theorem parseBody_code (code : Nat) (b : List Byte) : (parseBody code b).code = code := by
  unfold parseBody
  split
  · exact parseSchedule_code code b
  split
  · exact parseChannelCommand_code code b
  split
  · exact parseManagement_code code b
  split
  · rfl
  · exact parseOther_code code b

/-! ## Known kinds and others -/

theorem read_exactly (h : Read r) : Read (exactly n b code r) := by
  unfold exactly
  split
  · exact h
  · simp [Read]

theorem read_withEvent {f : EventCarried → Request} (h : ∀ e, Read (f e)) : Read (withEvent n b code f) := by
  unfold withEvent
  split
  · split
    · exact h _
    · simp [Read]
  · simp [Read]

theorem read_parseRetime (b : List Byte) : Read (parseRetime b) := by
  unfold parseRetime
  split
  · split <;> simp [Read]
  · split <;> simp [Read]
  · simp [Read]

/-- A request that is no unknown kind and no outbound one. -/
theorem read_of_form (h : ∀ k, r ≠ .unknown k ∧ r ≠ .outbound k) : Read r := ⟨fun k => (h k).1, fun k => (h k).2⟩

theorem read_parseSchedule (h : code ∈ controlCodes) (hr : 0x10 ≤ code ∧ code ≤ 0x1A) : Read (parseSchedule code b) := by
  unfold parseSchedule
  dsimp only
  split
  case h_9 => simp_all [controlCodes]; omega
  case h_1 | h_2 | h_7 => exact read_withEvent fun e => by simp [Read]
  all_goals exact read_exactly (by simp [Read])

theorem read_parseChannelCommand (h : code ∈ controlCodes) (hr : 0x20 ≤ code ∧ code ≤ 0x2A) : Read (parseChannelCommand code b) := by
  unfold parseChannelCommand
  split
  case h_12 => simp_all [controlCodes]; omega
  all_goals exact read_exactly (by simp [Read])

theorem read_parseManagement (h : code ∈ controlCodes) (hr : 0x40 ≤ code ∧ code ≤ 0x48) : Read (parseManagement code b) := by
  unfold parseManagement
  split
  case h_10 => simp_all [controlCodes]; omega
  case h_4 | h_6 => dsimp only; split <;> simp [Read]
  all_goals exact read_exactly (by simp [Read])

theorem read_parseOther (h : code ∈ controlCodes) (h1 : ¬(0x10 ≤ code ∧ code ≤ 0x1A)) (h2 : ¬(0x20 ≤ code ∧ code ≤ 0x2A))
    (h3 : ¬(0x40 ≤ code ∧ code ≤ 0x48)) (h4 : ¬(0x60 ≤ code ∧ code ≤ 0x66)) : Read (parseOther code b) := by
  unfold parseOther
  split
  case h_9 => simp_all [controlCodes]; omega
  case h_2 => exact read_parseRetime b
  all_goals exact read_exactly (by simp [Read])

/-- Table 11-4: a kind that the part knows and does not itself send. -/
theorem parseBody_read (h : code ∈ controlCodes) (hlt : code < 0x60) : Read (parseBody code b) := by
  unfold parseBody
  split
  · exact read_parseSchedule h (by assumption)
  split
  · exact read_parseChannelCommand h (by assumption)
  split
  · exact read_parseManagement h (by assumption)
  split
  · omega
  · exact read_parseOther h (by assumption) (by assumption) (by assumption) (by assumption)

/-- Section 11.3: a kind that the part does not know. -/
theorem parseBody_unknown (h : code ∉ controlCodes) : parseBody code b = .unknown code := by
  unfold parseBody
  split
  · unfold parseSchedule
    dsimp only
    split <;> simp_all [controlCodes]
  split
  · unfold parseChannelCommand
    split <;> simp_all [controlCodes]
  split
  · unfold parseManagement
    split <;> simp_all [controlCodes]
  split
  · simp [controlCodes] at h
    omega
  · unfold parseOther
    split <;> simp_all [controlCodes]

theorem parseBody_outbound (h : 0x60 ≤ code ∧ code ≤ 0x66) : parseBody code b = .outbound code := by
  unfold parseBody
  rw [if_neg (by omega), if_neg (by omega), if_neg (by omega), if_pos h]

/-! ## Bodies of the wrong length (R209) -/

theorem exactly_wrong (h : n ≠ b.length) : exactly n b code r = .malformed code := if_neg (Ne.symm h)

theorem mem_of_bodyLength (h : bodyLength code b = some n) : code ∈ controlCodes ∧ code < 0x60 := by
  by_contra hnot
  have hlist : ∀ l : List Nat, (∀ k ∈ l, k ∈ controlCodes ∧ k < 0x60) → code ∉ l := fun l hl hk => hnot (hl _ hk)
  have hne : ∀ k : Nat, k ∈ controlCodes ∧ k < 0x60 → code ≠ k := fun k hk he => hnot (he ▸ hk)
  rw [bodyLength, if_neg (hne _ (by decide)), if_neg (hne _ (by decide)), if_neg (hne _ (by decide)), if_neg (hne _ (by decide)),
    if_neg (hne _ (by decide)), if_neg (hne _ (by decide)), if_neg (hlist _ (by decide)), if_neg (hlist _ (by decide)), if_neg (hlist _ (by decide)),
    if_neg (hne _ (by decide)), if_neg (hlist _ (by decide)), if_neg (hne _ (by decide)), if_neg (hne _ (by decide)), if_neg (hlist _ (by decide))] at h
  cases h

/-- Table 11-6: an event that is read has the length that its bits give. -/
theorem parseEvent_length {e : EventCarried} (h : parseEvent b = some e) : b.length = eventLength b := by
  have hlong : 17 ≤ b.length := by
    by_contra hshort
    rw [parseEvent, if_pos (by omega)] at h
    cases h
  have hname : ∀ {p : Bool} {name rest}, takeName p (b.drop 17) = some (name, rest) → b.length = 17 + (if p then 1 + field b 17 1 else 0) + rest.length := by
    intro p name rest hn
    have hdrop : (b.drop 17).length = b.length - 17 := List.length_drop
    unfold takeName at hn
    cases p with
    | false =>
      simp only [Bool.false_eq_true, if_false, Option.some.injEq, Prod.mk.injEq] at hn
      rw [← hn.2, hdrop, if_neg (by decide)]
      omega
    | true =>
      rw [if_pos rfl] at hn
      cases hb : b.drop 17 with
      | nil =>
        rw [hb] at hn
        cases hn
      | cons k tail =>
        rw [hb] at hn
        have hfield : field b 17 1 = k.toNat := by
          rw [field, hb]
          simp [bigEndian]
        dsimp only at hn
        split at hn
        · simp only [Option.some.injEq, Prod.mk.injEq] at hn
          rw [hb, List.length_cons] at hdrop
          rw [← hn.2, List.length_drop, if_pos rfl, hfield]
          omega
        · cases hn
  have hfield : ∀ {p : Bool} {w : Nat} {bytes x rest}, takeField p w bytes = some (x, rest) → bytes.length = (if p then w else 0) + rest.length := by
    intro p w bytes x rest hf
    unfold takeField at hf
    cases p with
    | false =>
      simp only [Bool.false_eq_true, if_false, Option.some.injEq, Prod.mk.injEq] at hf
      rw [← hf.2, if_neg (by decide), Nat.zero_add]
    | true =>
      rw [if_pos rfl] at hf
      split at hf
      · simp only [Option.some.injEq, Prod.mk.injEq] at hf
        rw [← hf.2, List.length_drop, if_pos rfl]
        omega
      · cases hf
  unfold parseEvent at h
  rw [if_neg (by omega)] at h
  dsimp only at h
  cases h1 : takeName ((BitVec.ofNat 8 (field b 15 1)).getLsbD 0) (b.drop 17) with
  | none => rw [h1] at h; cases h
  | some x =>
    obtain ⟨name, rest⟩ := x
    rw [h1] at h
    dsimp only at h
    cases h2 : takeField ((BitVec.ofNat 8 (field b 15 1)).getLsbD 1) 4 rest with
    | none => rw [h2] at h; cases h
    | some x =>
      obtain ⟨inPoint, rest'⟩ := x
      rw [h2] at h
      dsimp only at h
      cases h3 : takeField ((BitVec.ofNat 8 (field b 15 1)).getLsbD 2) 2 rest' with
      | none => rw [h3] at h; cases h
      | some x =>
        obtain ⟨source, last⟩ := x
        cases last with
        | cons => rw [h3] at h; cases h
        | nil =>
          have e1 := hname h1
          have e2 := hfield h2
          have e3 := hfield h3
          unfold eventLength
          dsimp only
          simp only [List.length_nil] at e3
          omega

/-- A body that should end with an event, of another length than the event's. -/
theorem withEvent_wrong {f : EventCarried → Request} (h : n + eventLength (b.drop n) ≠ b.length) : withEvent n b code f = .malformed code := by
  unfold withEvent
  split
  · rename_i e he
    have hlength := parseEvent_length he
    have hlong : 17 ≤ eventLength (b.drop n) := by
      unfold eventLength
      dsimp only
      omega
    rw [List.length_drop] at hlength
    exact absurd (show n + eventLength (b.drop n) = b.length by omega) h
  · rfl

theorem parseRetime_wrong (h : (if field b 0 1 = 1 then 2 else 1) ≠ b.length) : parseRetime b = .malformed 0x30 := by
  have hfirst : ∀ (p : Byte) l, field (p :: l) 0 1 = p.toNat := fun p l => by simp [field, bigEndian]
  unfold parseRetime
  split
  · rename_i p
    rw [hfirst] at h
    refine if_neg fun hp => ?_
    subst hp
    simp at h
  · rename_i p v
    rw [hfirst] at h
    refine if_neg fun hp => ?_
    subst hp
    simp at h
  · rfl

theorem parseSchedule_wrong (hn : bodyLength code b = some n) (h : n ≠ b.length) (hr : 0x10 ≤ code ∧ code ≤ 0x1A) :
    parseSchedule code b = .malformed code := by
  unfold parseSchedule
  dsimp only
  split
  case h_9 => obtain ⟨hmem, hlt⟩ := mem_of_bodyLength hn; simp_all [controlCodes]; omega
  case h_1 | h_2 | h_7 => cases hn; exact withEvent_wrong h
  all_goals
    cases hn
    exact exactly_wrong h

theorem parseChannelCommand_wrong (hn : bodyLength code b = some n) (h : n ≠ b.length) (hr : 0x20 ≤ code ∧ code ≤ 0x2A) :
    parseChannelCommand code b = .malformed code := by
  unfold parseChannelCommand
  split
  case h_12 => obtain ⟨hmem, hlt⟩ := mem_of_bodyLength hn; simp_all [controlCodes]; omega
  all_goals
    cases hn
    exact exactly_wrong h

theorem parseManagement_wrong (hn : bodyLength code b = some n) (h : n ≠ b.length) (hr : 0x40 ≤ code ∧ code ≤ 0x48) :
    parseManagement code b = .malformed code := by
  unfold parseManagement
  split
  case h_10 => obtain ⟨hmem, hlt⟩ := mem_of_bodyLength hn; simp_all [controlCodes]; omega
  case h_4 => cases hn; exact if_neg fun hc => h hc.2.symm
  case h_6 => cases hn; exact if_neg fun hc => h hc.symm
  all_goals
    cases hn
    exact exactly_wrong h

theorem parseOther_wrong (hn : bodyLength code b = some n) (h : n ≠ b.length) (h1 : ¬(0x10 ≤ code ∧ code ≤ 0x1A)) (h2 : ¬(0x20 ≤ code ∧ code ≤ 0x2A))
    (h3 : ¬(0x40 ≤ code ∧ code ≤ 0x48)) : parseOther code b = .malformed code := by
  unfold parseOther
  split
  case h_9 => obtain ⟨hmem, hlt⟩ := mem_of_bodyLength hn; simp_all [controlCodes]; omega
  case h_2 => cases hn; exact parseRetime_wrong h
  all_goals
    cases hn
    exact exactly_wrong h

/-- R209: a body whose length is not the one that its kind and contents require. -/
theorem parseBody_wrong (hn : bodyLength code b = some n) (h : n ≠ b.length) : parseBody code b = .malformed code := by
  unfold parseBody
  split
  · exact parseSchedule_wrong hn h (by assumption)
  split
  · exact parseChannelCommand_wrong hn h (by assumption)
  split
  · exact parseManagement_wrong hn h (by assumption)
  split
  · have := (mem_of_bodyLength hn).2
    omega
  · exact parseOther_wrong hn h (by assumption) (by assumption) (by assumption)

end Sys2Proof.Machine

/-! PROOFS. Bad and misdirected control carriers (R22, R188, R209). -/

namespace Sys2Proof.Machine

-- Each elaboration thread takes a large stack, and the text is compiled as one file under a memory limit: one thread at a time.
set_option Elab.async false

variable {s : State} {o : Origin} {rx : ControlRx} {server : Fin 8} {code named n : Nat} {body payload : List Byte} {r : Request} {time : Nat}

/-! ## A payload judged (R209) -/

/-- A payload whose body does not match its kind, or whose envelope does not name its length. -/
def Mismatched (payload : List Byte) : Prop :=
  (payload.length < 8 ∨ field payload 6 2 ≠ payload.length - 8) ∨
    parseBody (field payload 1 1) (payload.drop 8) = .malformed (field payload 1 1)

theorem parsePayload_malformed (hk : field payload 1 1 ∈ controlCodes) (hlt : field payload 1 1 < 0x60) (h : Mismatched payload) :
    parsePayload payload = .malformed (field payload 1 1) := by
  rw [parsePayload_eq payload rfl (parseBody_read hk hlt)]
  rcases h with h | h
  · exact if_pos h
  · rw [h, ite_self]

/-- A payload of a kind whose code is no longer in the request is read as malformed of its own code, or as a request of its own code. -/
theorem parsePayload_code (payload : List Byte) : (parsePayload payload).code = field payload 1 1 := by
  have hcode := parseBody_code (field payload 1 1) (payload.drop 8)
  by_cases hk : Read (parseBody (field payload 1 1) (payload.drop 8))
  · rw [parsePayload_eq payload rfl hk]
    split
    · rfl
    · exact hcode
  · cases hr : parseBody (field payload 1 1) (payload.drop 8) with
    | unknown k =>
      rw [parsePayload_unknown hr, ← hr]
      exact hcode
    | outbound k =>
      rw [parsePayload_outbound hr, ← hr]
      exact hcode
    | _ =>
      rw [hr] at hk
      exact absurd (by simp [Read]) hk

theorem parsePayload_unknownKind (h : field payload 1 1 ∉ controlCodes) : parsePayload payload = .unknown (field payload 1 1) :=
  parsePayload_unknown (parseBody_unknown h)

/-! ## What a sender may not send (R188) -/

/-- A cue answer, of whatever length, or a kind that only the part sends. -/
def ToServersOnly : Request → Prop
  | .ready .. | .refused .. | .outbound _ => True
  | .malformed k => cueAnswer k = true
  | _ => False

theorem parsePayload_toServersOnly (hk : field payload 1 1 ∈ controlCodes) (h : 0x50 ≤ field payload 1 1) : ToServersOnly (parsePayload payload) := by
  have hcode := parsePayload_code payload
  have hcases : field payload 1 1 = 0x50 ∨ field payload 1 1 = 0x51 ∨ 0x60 ≤ field payload 1 1 ∧ field payload 1 1 ≤ 0x66 := by
    simp only [controlCodes, List.mem_append, List.mem_cons, List.not_mem_nil, or_false] at hk
    omega
  by_cases hout : 0x60 ≤ field payload 1 1 ∧ field payload 1 1 ≤ 0x66
  · rw [parsePayload_outbound (parseBody_outbound hout)]
    trivial
  · rw [parsePayload_eq payload rfl (parseBody_read hk (by omega))]
    split
    · rcases hcases with h50 | h51 | h60
      · rw [h50]
        rfl
      · rw [h51]
        rfl
      · exact absurd h60 hout
    · rcases hcases with h50 | h51 | h60
      · rw [h50]
        show ToServersOnly (exactly 2 _ 0x50 (.ready (field (payload.drop 8) 0 1) (field (payload.drop 8) 1 1)))
        unfold exactly
        split <;> trivial
      · rw [h51]
        show ToServersOnly (exactly 3 _ 0x51 (.refused (field (payload.drop 8) 0 1) (field (payload.drop 8) 1 1)))
        unfold exactly
        split <;> trivial
      · exact absurd h60 hout

/-- R188: a cue answer or an outbound kind from an origin. -/
theorem routeOrigin_toServersOnly (h : ToServersOnly r) : s.routeOrigin o rx r time = s.bump (.whole .misdirectedControl) := by
  cases r with
  | ready | refused | outbound => rfl
  | malformed k => exact if_pos h
  | _ => exact absurd h (by simp [ToServersOnly])

/-- R188: anything but a cue answer from a server. -/
theorem routeServer_other (h : ∀ a b, r ≠ .ready a b ∧ r ≠ .refused a b) : s.routeServer server r = s.bump (.whole .misdirectedControl) := by
  cases r with
  | ready a b => exact absurd rfl (h a b).1
  | refused a b => exact absurd rfl (h a b).2
  | _ => rfl

/-- A payload that is no cue answer of its length. -/
theorem parsePayload_noAnswer (h : (field payload 1 1 ≠ 0x50 ∧ field payload 1 1 ≠ 0x51) ∨ Mismatched payload) (a b : Nat) :
    parsePayload payload ≠ .ready a b ∧ parsePayload payload ≠ .refused a b := by
  have hcode := parsePayload_code payload
  rcases h with ⟨h50, h51⟩ | hm
  · refine ⟨fun hr => h50 ?_, fun hr => h51 ?_⟩
    · rw [← hcode, hr]
      rfl
    · rw [← hcode, hr]
      rfl
  · have hbad : field payload 1 1 = 0x50 ∨ field payload 1 1 = 0x51 → parsePayload payload = .malformed (field payload 1 1) := fun hk =>
      parsePayload_malformed (by rcases hk with hk | hk <;> rw [hk] <;> decide) (by omega) hm
    refine ⟨fun hr => ?_, fun hr => ?_⟩
    · have := hbad (.inl (by rw [← hcode, hr]; rfl))
      rw [hr] at this
      cases this
    · have := hbad (.inr (by rw [← hcode, hr]; rfl))
      rw [hr] at this
      cases this

/-! ## Requests of origins that are bad (R188, R190) -/

theorem unanswered_iff {k : Nat} : unanswered k = true ↔ notAnswered k := by
  simp only [unanswered, notAnswered, Bool.or_eq_true, beq_iff_eq, Bool.and_eq_true, decide_eq_true_eq, List.mem_cons, List.not_mem_nil, or_false]
  omega

theorem heard_unknown (h : Heard s o rx) (k : Nat) :
    s.catchUp.receiveControl rx (.unknown k) time = ((s.heard rx).bump (.whole .badCommands)).answered o rx k .badCommand [] := by
  have hrestarting : (s.heard rx).mgmt.restarting = none := by rw [State.heard_mgmt_restarting]; exact h.2.2.1
  rw [receive_heard h]
  unfold State.routeOrigin State.unlessRestarting
  dsimp only
  rw [hrestarting]
  rfl

theorem heard_malformed (h : Heard s o rx) {k : Nat} (hk : k < 0x50) :
    (notAnswered k → s.catchUp.receiveControl rx (.malformed k) time = (s.heard rx).bump (.whole .badCommands)) ∧
      (¬notAnswered k → s.catchUp.receiveControl rx (.malformed k) time = ((s.heard rx).bump (.whole .badCommands)).answered o rx k .badCommand []) := by
  have hrestarting : (s.heard rx).mgmt.restarting = none := by rw [State.heard_mgmt_restarting]; exact h.2.2.1
  have hanswer : ¬cueAnswer k = true := by
    simp only [cueAnswer, Bool.or_eq_true, beq_iff_eq]
    omega
  rw [receive_heard h]
  unfold State.routeOrigin State.unlessRestarting
  dsimp only
  rw [if_neg hanswer, hrestarting]
  exact ⟨fun hn => if_pos (unanswered_iff.2 hn), fun hn => (if_neg (fun hu => hn (unanswered_iff.1 hu))).trans rfl⟩

/-! ## Senders that do not match (R22) -/

/-- No sender that the port takes: neither an origin nor a server mapped to it (R22). -/
theorem senderOf_none (horigin : ∀ o, fromOrigin o rx = false)
    (hserver : ∀ server : Fin 8, rx.sender = 0x10 + server.val → s.settings.servers[server.val].mapped = true →
      rx.port ≠ .standby s.settings.servers[server.val].port) : s.senderOf rx.port rx.sender = none := by
  obtain ⟨port, stamp, channel, sender, request, group⟩ := rx
  dsimp only at hserver ⊢
  unfold State.senderOf
  cases port with
  | contribution side =>
    have hmain := horigin .mainSite
    simp only [fromOrigin, beq_eq_false_iff_ne] at hmain
    exact if_neg hmain
  | standby n =>
    have hconsole := horigin .console
    simp only [fromOrigin, beq_eq_false_iff_ne] at hconsole
    dsimp only
    rw [if_neg hconsole]
    split
    · rename_i hrange
      refine if_neg fun hmatch => ?_
      rw [Bool.and_eq_true, beq_iff_eq] at hmatch
      exact hserver ⟨sender - 0x10, by omega⟩ (by dsimp only; omega) hmatch.1 (congrArg Port.standby hmatch.2.symm)
    · rfl
  | output side => rfl

theorem receive_mismatched (hrun : Running s) (hstamp : rx.stamp < s.cycle) (hchannel : rx.channel < 16 ∨ rx.channel = 255) (hp : Inbound rx.port)
    (hsender : s.senderOf rx.port rx.sender = none) (r : Request) (time : Nat) :
    s.catchUp.receiveControl rx r time = (s.arrived rx.port).bump (.port rx.port .senderMismatch) := by
  rw [State.catchUp_settled hrun.1]
  have hloading : (s.countCarrier rx.port).loading = false := hrun.2
  have hrange : (s.countCarrier rx.port).controlInRange rx.stamp rx.channel = true := controlInRange_iff.2 ⟨hstamp, hchannel⟩
  have hfrom : ((s.countCarrier rx.port).markTraffic rx.port).senderOf rx.port rx.sender = none := by
    rcases inbound_cases hp with ⟨side, hside⟩ | ⟨n, hn⟩
    · rw [hside] at hsender ⊢
      exact hsender
    · rw [hn] at hsender ⊢
      exact hsender
  have harrived : (s.countCarrier rx.port).markTraffic rx.port = s.arrived rx.port := by cases rx.port <;> rfl
  unfold State.receiveControl
  dsimp only
  rw [if_neg (by simp [hloading]), if_neg (by simp [hrange]), hfrom, harrived]
  rcases inbound_cases hp with ⟨side, hside⟩ | ⟨n, hn⟩
  · rw [hside]
  · rw [hn]

/-- Every command that a control carrier spells is received as one. -/
theorem exec_controlForm {i : Instr} (h : (∃ code body, controlForm i = some (rx, code, body)) ∨ ∃ channels, i = .select rx channels) :
    ∃ r time, exec i s = .next (s.catchUp.receiveControl rx r time) := by
  rcases h with ⟨code, body, h⟩ | ⟨channels, rfl⟩
  · cases i with
    | retime rx value => cases value <;> cases h <;> exact ⟨_, _, rfl⟩
    | _ => cases h <;> exact ⟨_, _, rfl⟩
  · exact ⟨_, _, rfl⟩

end Sys2Proof.Machine

/-! PROOFS. Bad and misdirected control carriers: the obligation (R22, R188, R209). -/

namespace Sys2Proof.Machine

-- Each elaboration thread takes a large stack, and the text is compiled as one file under a memory limit: one thread at a time.
set_option Elab.async false

variable {s : State} {o : Origin} {rx : ControlRx} {server : Fin 8} {code named n : Nat} {body : List Byte} {raw : RawControl}

theorem heard_sender (h : Heard s o rx) : Inbound rx.port ∧ rx.sender < 256 := by
  obtain ⟨-, -, -, -, -, ho⟩ := h
  obtain ⟨port, stamp, channel, sender, request, group⟩ := rx
  unfold Inbound
  cases o <;> cases port <;> simp_all [fromOrigin]

theorem fromServer_sender (h : FromServer s rx server) : Inbound rx.port ∧ rx.sender < 256 := by
  obtain ⟨-, -, -, -, hsender, -, hport⟩ := h
  refine ⟨fun side hside => ?_, by omega⟩
  rw [hport] at hside
  cases hside

/-! ## A whole envelope -/

theorem wrongLength_mismatched {payload : List Byte} (hpayload : payload = controlEnvelope rx code named ++ body) (hcode : code < 256) (hnamed : named < 65536)
    (h : WrongLength code named body) : Mismatched payload := by
  have hfield : field payload 1 1 = code := by rw [hpayload, envelope_code, Nat.mod_eq_of_lt hcode]
  rcases h with hn | ⟨n, hn, hne⟩
  · refine .inl (.inr ?_)
    rw [hpayload, envelope_named, Nat.mod_eq_of_lt hnamed, List.length_append, envelope_length]
    omega
  · refine .inr ?_
    rw [hfield, hpayload, envelope_body, parseBody_wrong hn hne]

/-- A control carrier as bytes with a whole envelope, read as that envelope and its request. -/
theorem receiveRaw_whole (hp : Inbound rx.port) (hsender : rx.sender < 256) (hrequest : rx.request < 65536) (hbody : body.length ≤ 1400)
    (hport : raw.port = rx.port) (hstamp : raw.stamp = rx.stamp) (hchannel : raw.channel = rx.channel)
    (hpayload : raw.payload = controlEnvelope rx code named ++ body) (s : State) :
    s.receiveRaw raw = s.receiveControl rx (parsePayload raw.payload) raw.time := by
  rw [receiveRaw_envelope hp hport (by rw [hpayload, List.length_append, envelope_length]; omega),
    rawEnvelope_envelope hport hstamp hchannel hpayload hsender hrequest]

/-- A sender code that is read from an envelope is that code, whatever the request (R22). -/
theorem receiveRaw_mismatched (hrun : Running s) (hstamp : rx.stamp < s.cycle) (hchannel : rx.channel < 16 ∨ rx.channel = 255) (hp : Inbound rx.port)
    (hport : raw.port = rx.port) (hrawStamp : raw.stamp = rx.stamp) (hrawChannel : raw.channel = rx.channel) (hlength : raw.payload.length ≤ 1408)
    (hsender : s.senderOf rx.port (field raw.payload 0 1) = none) :
    s.catchUp.receiveRaw raw = (s.arrived rx.port).bump (.port rx.port .senderMismatch) := by
  rw [receiveRaw_envelope hp hport hlength]
  have hportOf : (rawEnvelope raw).port = rx.port := hport
  have h := receive_mismatched (s := s) (rx := rawEnvelope raw) hrun (by show raw.stamp < _; rw [hrawStamp]; exact hstamp)
    (by show raw.channel < 16 ∨ _; rw [show (rawEnvelope raw).channel = rx.channel from hrawChannel, hrawChannel]; exact hchannel) (by rw [hportOf]; exact hp)
    (by rw [hportOf]; exact hsender) (parsePayload raw.payload) raw.time
  rw [hportOf] at h
  exact h

/-! ## A payload cut short (log 22) -/

theorem field_take {l : List Byte} {o w n : Nat} (h : o + w ≤ n) : field (l.take n) o w = field l o w := by
  unfold field
  rw [List.drop_take, List.take_take, Nat.min_eq_left (by omega)]

theorem field_take_none {l : List Byte} {o w n : Nat} (h : n ≤ o) : field (l.take n) o w = 0 := by
  unfold field
  rw [List.drop_eq_nil_of_le (by rw [List.length_take]; omega), List.take_nil]
  rfl

section
variable (hcode : code < 256) (hrequest : rx.request < 65536) (hsender : rx.sender < 256) (hport : raw.port = rx.port) (hstamp : raw.stamp = rx.stamp)
  (hchannel : raw.channel = rx.channel) (hpayload : raw.payload = (controlEnvelope rx code named).take n) (hn : n < 8)

theorem envelope_fields : field (controlEnvelope rx code named) 0 1 = rx.sender % 256 ∧ field (controlEnvelope rx code named) 1 1 = code % 256 ∧
    field (controlEnvelope rx code named) 2 2 = rx.request % 65536 := by
  have h0 := envelope_sender (rx := rx) (code := code) (named := named) (body := [])
  have h1 := envelope_code (rx := rx) (code := code) (named := named) (body := [])
  have h2 := envelope_request (rx := rx) (code := code) (named := named) (body := [])
  rw [List.append_nil] at h0 h1 h2
  exact ⟨h0, h1, h2⟩

include hpayload hn in
theorem cut_length : raw.payload.length = n := by
  rw [hpayload, List.length_take, envelope_length]
  omega

include hcode hpayload in
theorem cut_code : field raw.payload 1 1 = if 2 ≤ n then code else 0 := by
  obtain ⟨-, hfield, -⟩ := envelope_fields (rx := rx) (code := code) (named := named)
  rw [hpayload]
  by_cases h : 2 ≤ n
  · rw [if_pos h, field_take (by omega), hfield, Nat.mod_eq_of_lt hcode]
  · rw [if_neg h, field_take_none (by omega)]

include hrequest hsender hport hstamp hchannel hpayload hn in
/-- What is read of a payload shorter than an envelope: what is missing reads as 0. -/
theorem cut_envelope (h : 1 ≤ n) :
    rawEnvelope raw =
      { rx with request := if 4 ≤ n then rx.request else 0, group := (BitVec.ofNat 8 (field raw.payload 4 1)).getLsbD 0 } := by
  obtain ⟨hs, -, hr⟩ := envelope_fields (rx := rx) (code := code) (named := named)
  have hlength := cut_length hpayload hn
  have hsenderField : field raw.payload 0 1 = rx.sender := by rw [hpayload, field_take (by omega), hs, Nat.mod_eq_of_lt hsender]
  have hrequestField : (if raw.payload.length < 4 then 0 else field raw.payload 2 2) = if 4 ≤ n then rx.request else 0 := by
    rw [hlength]
    by_cases h4 : 4 ≤ n
    · rw [if_neg (by omega), if_pos h4, hpayload, field_take (by omega), hr, Nat.mod_eq_of_lt hrequest]
    · rw [if_pos (by omega), if_neg h4]
  unfold rawEnvelope
  rw [hsenderField, hrequestField, hport, hstamp, hchannel]

end

/-! ## The obligation -/

/-- Settles O59: every payload is judged by its code and by whether its lengths match. -/
theorem badAndMisdirectedCarriers : Obligations.BadAndMisdirectedCarriers := by
  unfold Obligations.BadAndMisdirectedCarriers
  refine ⟨fun s o raw rx code named body h hcode hrequest hnamed hbody hport hstamp hchannel hpayload => ?_,
    fun s rx server code named body raw h hcode hrequest hnamed hbody hport hstamp hchannel hpayload hbad => ?_,
    fun s rx code named n raw hcode hrequest hport hstamp hchannel hpayload hn => ?_, fun s i rx hrun hstamp hchannel hp horigin hserver => ?_⟩
  · obtain ⟨hp, hsender⟩ := heard_sender h
    have hfield : field raw.payload 1 1 = code := by rw [hpayload, envelope_code, Nat.mod_eq_of_lt hcode]
    have hexec := receiveRaw_whole hp hsender hrequest hbody hport hstamp hchannel hpayload s.catchUp
    refine ⟨fun hk => ?_, fun hk hlt hwrong => ?_, fun hk hge => ?_⟩
    · refine congrArg Host.Outcome.next (hexec.trans ?_)
      rw [parsePayload_unknownKind (hfield ▸ hk), hfield]
      exact heard_unknown h code
    · have hparse := parsePayload_malformed (payload := raw.payload) (by rw [hfield]; exact hk) (by omega) (wrongLength_mismatched hpayload hcode hnamed hwrong)
      rw [hfield] at hparse
      rw [hparse] at hexec
      exact ⟨fun hna => congrArg Host.Outcome.next (hexec.trans ((heard_malformed h hlt).1 hna)),
        fun hna => congrArg Host.Outcome.next (hexec.trans ((heard_malformed h hlt).2 hna))⟩
    · refine congrArg Host.Outcome.next (hexec.trans ?_)
      rw [receive_heard h, routeOrigin_toServersOnly (parsePayload_toServersOnly (by rw [hfield]; exact hk) (by omega))]
  · obtain ⟨hp, hsender⟩ := fromServer_sender h
    have hfield : field raw.payload 1 1 = code := by rw [hpayload, envelope_code, Nat.mod_eq_of_lt hcode]
    refine congrArg Host.Outcome.next ((receiveRaw_whole hp hsender hrequest hbody hport hstamp hchannel hpayload s.catchUp).trans ?_)
    rw [receive_fromServer h, routeServer_other (parsePayload_noAnswer ?_)]
    exact hbad.imp (fun hk => by rw [hfield]; exact hk) (wrongLength_mismatched hpayload hcode hnamed)
  · have hlength := cut_length hpayload hn
    have hfield := cut_code hcode hpayload
    have hmismatch : Mismatched raw.payload := .inl (.inl (by omega))
    intro kind back
    have hkind : field raw.payload 1 1 = kind := hfield
    refine ⟨fun o h h1 => ?_, fun server h h1 => ?_, fun hrun hlt hch hp h0 => ?_⟩
    · obtain ⟨hp, hsender⟩ := heard_sender h
      have hexec := receiveRaw_envelope (s := s.catchUp) hp hport (by omega)
      rw [cut_envelope hrequest hsender hport hstamp hchannel hpayload hn h1] at hexec
      have hheard : Heard s o { rx with request := if 4 ≤ n then rx.request else 0, group := (BitVec.ofNat 8 (field raw.payload 4 1)).getLsbD 0 } := h
      refine ⟨fun hk => ?_, fun hk hlt => ?_, fun hk hge => ?_⟩
      · rw [parsePayload_unknownKind (by rw [hkind]; exact hk), hkind] at hexec
        exact congrArg Host.Outcome.next (hexec.trans (heard_unknown hheard kind))
      · have hparse := parsePayload_malformed (payload := raw.payload) (by rw [hkind]; exact hk) (by omega) hmismatch
        rw [hparse, hkind] at hexec
        exact ⟨fun hna => congrArg Host.Outcome.next (hexec.trans ((heard_malformed hheard hlt).1 hna)),
          fun hna => congrArg Host.Outcome.next (hexec.trans ((heard_malformed hheard hlt).2 hna))⟩
      · rw [receive_heard hheard, routeOrigin_toServersOnly (parsePayload_toServersOnly (by rw [hkind]; exact hk) (by omega))] at hexec
        exact congrArg Host.Outcome.next hexec
    · obtain ⟨hp, hsender⟩ := fromServer_sender h
      have hexec := receiveRaw_envelope (s := s.catchUp) hp hport (by omega)
      rw [cut_envelope hrequest hsender hport hstamp hchannel hpayload hn h1] at hexec
      have hfrom : FromServer s { rx with request := if 4 ≤ n then rx.request else 0, group := (BitVec.ofNat 8 (field raw.payload 4 1)).getLsbD 0 } server := h
      rw [receive_fromServer hfrom, routeServer_other (parsePayload_noAnswer (.inr hmismatch))] at hexec
      exact congrArg Host.Outcome.next hexec
    · have hzero : field raw.payload 0 1 = 0 := by rw [hpayload, field_take_none (by omega)]
      refine congrArg Host.Outcome.next (receiveRaw_mismatched hrun hlt hch hp hport hstamp hchannel (by omega) ?_)
      rw [hzero]
      exact senderOf_none (rx := { rx with sender := 0 }) (fun o => by cases o <;> cases rx.port <;> simp [fromOrigin])
        (fun server hs => by dsimp only at hs; omega)
  · have hnone := senderOf_none horigin hserver
    refine ⟨fun hform => ?_, fun raw code named body hsender hbody hport hrawStamp hrawChannel hpayload hi => ?_⟩
    · obtain ⟨r, time, hexec⟩ := exec_controlForm (s := s) hform
      rw [hexec, receive_mismatched hrun hstamp hchannel hp hnone]
    · have hfrom : field raw.payload 0 1 = rx.sender := by rw [hpayload, envelope_sender, Nat.mod_eq_of_lt hsender]
      have hraw := receiveRaw_mismatched hrun hstamp hchannel hp hport hrawStamp hrawChannel
        (by rw [hpayload, List.length_append, envelope_length]; omega) (by rw [hfrom]; exact hnone)
      rcases hi with rfl | rfl <;> exact congrArg Host.Outcome.next hraw

end Sys2Proof.Machine

/-! PROOFS. Captures into slates: requests, starts and ends of copies, and a service exit (R54 to R56). -/

namespace Sys2Proof.Machine

-- Each elaboration thread takes a large stack, and the text is compiled as one file under a memory limit: one thread at a time.
set_option Elab.async false

variable {s t u : State} {c : Chan}

/-! ## Releases start copies (R56) -/

/-- What a COMPLETE release on a path makes of one slate. -/
def Slate.started (x : Slate) (c : Chan) (path : SourcePath) (h : Nat) : Slate :=
  match x.request with
  | some r => if r.chan = c ∧ r.path = path then { state := .capturing, request := some { r with copying := some h } } else x
  | none => x

theorem State.startCopies_started (s : State) (c : Chan) (path : SourcePath) (i : Fin 8) :
    (s.startCopies c path).slates[i.val] = s.slates[i.val].started c path s.time.h := by
  rw [State.startCopies_get]
  unfold Slate.started
  cases s.slates[i.val].request <;> rfl

theorem Slate.started_here {x : Slate} {r : Capture} {path : SourcePath} (h : x.request = some r) (hc : r.chan = c) (hp : r.path = path) (at_ : Nat) :
    x.started c path at_ = { state := .capturing, request := some { r with copying := some at_ } } := by
  unfold Slate.started
  rw [h]
  exact if_pos ⟨hc, hp⟩

theorem Slate.started_elsewhere {x : Slate} {path : SourcePath} (h : ∀ r, x.request = some r → ¬(r.chan = c ∧ r.path = path)) (at_ : Nat) :
    x.started c path at_ = x := by
  unfold Slate.started
  cases hr : x.request with
  | none => rfl
  | some r => exact if_neg (h r hr)

/-- Two states with the same slates and the same position. -/
structure SameSlates (s t : State) : Prop where
  slates : t.slates = s.slates
  time : t.time = s.time

theorem SameSlates.trans (h : SameSlates s t) (k : SameSlates t u) : SameSlates s u := ⟨k.slates.trans h.slates, k.time.trans h.time⟩

theorem SameSlates.refl (s : State) : SameSlates s s := ⟨rfl, rfl⟩

theorem SameSlates.started (h : SameSlates s t) (path : SourcePath) (i : Fin 8) :
    (t.startCopies c path).slates[i.val] = s.slates[i.val].started c path s.time.h := by
  rw [State.startCopies_started, h.time]
  simp only [h.slates]

theorem SameSlates.get (h : SameSlates s t) (i : Fin 8) : t.slates[i.val] = s.slates[i.val] := by simp only [h.slates]

/-- What is released on a path: a COMPLETE frame of the stamp. -/
def Channel.completeAt (x : Channel) (path : SourcePath) (stamp : Nat) : Prop := ∃ f n, x.slots.at path stamp = .complete f n ∧ f.stamp = stamp

theorem trackMissing_sameSlates (s : State) (c : Chan) (q : Nat) (slot : Slot) : SameSlates s (s.trackMissing c q slot) := by
  unfold State.trackMissing
  dsimp only
  split
  · exact SameSlates.refl s
  · split <;> exact ⟨rfl, rfl⟩

/-- R45, R56: a release on the main path starts the copies that wait on a COMPLETE frame, and leaves the slates otherwise. -/
theorem releaseMain_slates (s : State) (c : Chan) (q : Nat) (i : Fin 8) :
    ((s.ch c).completeAt .main q → (s.releaseMain c q).1.slates[i.val] = s.slates[i.val].started c .main s.time.h) ∧
      (¬(s.ch c).completeAt .main q → (s.releaseMain c q).1.slates[i.val] = s.slates[i.val]) := by
  have missing : ∀ (g : Align → Align) (p : Nat → Bool),
      SameSlates s ((((s.bumpCh c .mainMissing).trackMissing c q ((s.ch c).slots.at .main q)).freeMain c p).modAlign c g) := fun g p => by
    have h := trackMissing_sameSlates (s.bumpCh c .mainMissing) c q ((s.ch c).slots.at .main q)
    exact ⟨h.slates, h.time⟩
  unfold State.releaseMain
  dsimp only
  cases hslot : (s.ch c).slots.at .main q with
  | complete f n =>
    rw [hslot] at missing
    dsimp only
    by_cases hf : f.stamp = q
    · rw [if_pos hf]
      exact ⟨fun _ => SameSlates.started (s := s) ⟨rfl, rfl⟩ .main i, fun h => absurd ⟨f, n, hslot, hf⟩ h⟩
    · rw [if_neg hf]
      refine ⟨fun ⟨f', n', hslot', hf'⟩ => ?_, fun _ => (missing _ _).get i⟩
      rw [hslot] at hslot'
      cases hslot'
      exact absurd hf' hf
  | _ =>
    rw [hslot] at missing
    refine ⟨fun ⟨f', n', hslot', hf'⟩ => ?_, fun _ => (missing _ _).get i⟩
    rw [hslot] at hslot'
    cases hslot'

/-- R53, R56: a release on the standby path. -/
theorem releaseStandby_slates (s : State) (c : Chan) (q : Nat) (i : Fin 8) :
    ((s.ch c).completeAt .standby q → (s.releaseStandby c q).slates[i.val] = s.slates[i.val].started c .standby s.time.h) ∧
      (¬(s.ch c).completeAt .standby q → (s.releaseStandby c q).slates[i.val] = s.slates[i.val]) := by
  unfold State.releaseStandby
  dsimp only
  cases hslot : (s.ch c).slots.at .standby q with
  | complete f n =>
    dsimp only
    by_cases hf : f.stamp = q
    · rw [if_pos hf]
      exact ⟨fun _ => SameSlates.started (s := s) ⟨rfl, rfl⟩ .standby i, fun h => absurd ⟨f, n, hslot, hf⟩ h⟩
    · rw [if_neg hf]
      refine ⟨fun ⟨f', n', hslot', hf'⟩ => ?_, fun _ => rfl⟩
      rw [hslot] at hslot'
      cases hslot'
      exact absurd hf' hf
  | _ =>
    refine ⟨fun ⟨f', n', hslot', hf'⟩ => ?_, fun _ => rfl⟩
    rw [hslot] at hslot'
    cases hslot'

/-- Slots freed by their stamps hold what they held at a stamp that is not among those. -/
theorem completeAt_freed {n : Nat} {l : List (Fin n)} {pred : Nat → Bool} {v : Vector Slot n} {q : Nat} (hq : pred q = false) (j : Fin n) :
    (∃ f k, (freeHolding l pred v)[j.val] = .complete f k ∧ f.stamp = q) ↔ ∃ f k, v[j.val] = .complete f k ∧ f.stamp = q := by
  rw [freeHolding_get]
  split
  · rename_i h
    constructor
    · rintro ⟨f, k, hf, -⟩
      cases hf
    rintro ⟨f, k, hf, hstamp⟩
    have hholds : (Slot.complete f k).holds pred = true := hf ▸ h.2
    rw [← hstamp] at hq
    exact absurd hholds (by simp [Slot.holds, Slot.stamp, hq])
  · rfl

theorem completeAt_freeMain {pred : Nat → Bool} {q : Nat} (hq : pred q = false) :
    ((s.freeMain c pred).ch c).completeAt .main q ↔ (s.ch c).completeAt .main q := by
  unfold Channel.completeAt State.freeMain
  rw [State.ch_modCh_same]
  exact completeAt_freed hq _

theorem completeAt_freeStandby {pred : Nat → Bool} {q : Nat} (hq : pred q = false) :
    ((s.freeStandby c pred).ch c).completeAt .standby q ↔ (s.ch c).completeAt .standby q := by
  unfold Channel.completeAt State.freeStandby
  rw [State.ch_modCh_same]
  exact completeAt_freed hq _

/-! ## The parts of a boundary (R44, R53) -/

/-- The stamps strictly between a floor and a due stamp. -/
def State.between (s : State) (q floor : Nat) : Nat → Bool := fun p => 0 < s.signed p floor && s.signed p floor < s.signed q floor

theorem between_self (s : State) (q floor : Nat) : s.between q floor q = false := by simp [State.between]

/-- R46: the main slots outside the window freed and counted. -/
def State.windowMain (t : State) (c : Chan) : State :=
  (t.bumpBy (.chan c .windowDiscards) (countHolding mainIndices (fun p => !t.inMainWindow c p) (t.ch c).slots.main)).freeMain c
    fun p => !t.inMainWindow c p

/-- R44: the stamps between the floor and the due stamp skipped and counted. -/
def State.skipMain (s : State) (c : Chan) : State :=
  if s.signed (s.dueStamp c) (s.ch c).align.mainFloor = 1 then s
  else
    (s.freeMain c (s.between (s.dueStamp c) (s.ch c).align.mainFloor)).bumpBy (.chan c .skippedFrames)
      (s.signed (s.dueStamp c) (s.ch c).align.mainFloor - 1).toNat

/-- R44: a repeat, before the slots outside the window are freed. -/
def State.repeatMain (s : State) (c : Chan) : State :=
  (((s.bumpBy (.chan c .windowDiscards) (if ((s.ch c).slots.at .main (s.dueStamp c)).holds (fun p => p == s.dueStamp c) then 1 else 0)).freeMain c
    fun p => p == s.dueStamp c).modAlign c fun x => { x with mainOffer := if x.mainHeld.isSome then .held else .none }).bumpCh c .repeats

theorem takeMainBoundary_repeat (h : s.signed (s.dueStamp c) (s.ch c).align.mainFloor ≤ 0) :
    s.takeMainBoundary c = ((s.repeatMain c).windowMain c, none) := if_pos h

theorem takeMainBoundary_past (h : ¬s.signed (s.dueStamp c) (s.ch c).align.mainFloor ≤ 0) :
    s.takeMainBoundary c =
      (((((s.skipMain c).releaseMain c (s.dueStamp c)).1.modAlign c fun x => { x with mainFloor := s.dueStamp c })).windowMain c,
        some ((s.skipMain c).releaseMain c (s.dueStamp c)).2) := if_neg h

/-- R53: the standby slots outside the window freed and counted. -/
def State.windowStandby (t : State) (c : Chan) : State :=
  (t.bumpBy (.chan c .standbyDiscards) (countHolding standbyIndices (fun p => !t.inStandbyWindow p) (t.ch c).slots.standby)).freeStandby c
    fun p => !t.inStandbyWindow p

/-- R53: the stamps between the floor and H skipped. -/
def State.skipStandby (s : State) (c : Chan) : State :=
  if s.signed s.time.h (s.ch c).align.standbyFloor = 1 then s else s.freeStandby c (s.between s.time.h (s.ch c).align.standbyFloor)

theorem takeStandbyBoundary_repeat (h : s.signed s.time.h (s.ch c).align.standbyFloor ≤ 0) :
    s.takeStandbyBoundary c false =
      (s.modAlign c fun x => { x with standbyOffer := if x.standbyHeld.isSome then .held else .none }).windowStandby c :=
  congrArg (fun t : State => t.windowStandby c) (if_pos h)

theorem takeStandbyBoundary_past (h : ¬s.signed s.time.h (s.ch c).align.standbyFloor ≤ 0) :
    s.takeStandbyBoundary c false =
      (((s.skipStandby c).releaseStandby c s.time.h).modAlign c fun x => { x with standbyFloor := s.time.h }).windowStandby c :=
  congrArg (fun t : State => t.windowStandby c) (if_neg h)

/-- R53: at a REALIGNED boundary the floor is first set to H − 1. -/
theorem takeStandbyBoundary_realigned (s : State) (c : Chan) :
    s.takeStandbyBoundary c true =
      (s.modAlign c fun x => { x with standbyFloor := s.wrap ((s.time.h : Int) - 1) }).takeStandbyBoundary c false := rfl

theorem skipMain_sameSlates (s : State) (c : Chan) : SameSlates s (s.skipMain c) := by
  unfold State.skipMain
  split <;> exact ⟨rfl, rfl⟩

theorem completeAt_skipMain (s : State) (c : Chan) :
    ((s.skipMain c).ch c).completeAt .main (s.dueStamp c) ↔ (s.ch c).completeAt .main (s.dueStamp c) := by
  unfold State.skipMain
  split
  · rfl
  · exact completeAt_freeMain (between_self ..)

theorem skipStandby_sameSlates (s : State) (c : Chan) : SameSlates s (s.skipStandby c) := by
  unfold State.skipStandby
  split <;> exact ⟨rfl, rfl⟩

theorem completeAt_skipStandby (s : State) (c : Chan) :
    ((s.skipStandby c).ch c).completeAt .standby s.time.h ↔ (s.ch c).completeAt .standby s.time.h := by
  unfold State.skipStandby
  split
  · rfl
  · exact completeAt_freeStandby (between_self ..)

theorem windowMain_slates (t : State) (c : Chan) : (t.windowMain c).slates = t.slates := rfl

theorem windowStandby_slates (t : State) (c : Chan) : (t.windowStandby c).slates = t.slates := rfl

/-! ## Slates at a boundary (R56) -/

/-- R44, R56: a boundary on the main path starts copies when it releases a COMPLETE frame past the floor. -/
theorem takeMainBoundary_slates (s : State) (c : Chan) (i : Fin 8) :
    (1 ≤ s.signed (s.dueStamp c) (s.ch c).align.mainFloor ∧ (s.ch c).completeAt .main (s.dueStamp c) →
        (s.takeMainBoundary c).1.slates[i.val] = s.slates[i.val].started c .main s.time.h) ∧
      (¬(1 ≤ s.signed (s.dueStamp c) (s.ch c).align.mainFloor ∧ (s.ch c).completeAt .main (s.dueStamp c)) →
        (s.takeMainBoundary c).1.slates[i.val] = s.slates[i.val]) := by
  by_cases hg : s.signed (s.dueStamp c) (s.ch c).align.mainFloor ≤ 0
  · rw [takeMainBoundary_repeat hg]
    exact ⟨fun h => absurd h.1 (by omega), fun _ => rfl⟩
  · rw [takeMainBoundary_past hg]
    have hskip := skipMain_sameSlates s c
    obtain ⟨hcomplete, hmissing⟩ := releaseMain_slates (s.skipMain c) c (s.dueStamp c) i
    rw [completeAt_skipMain, hskip.get, hskip.time] at hcomplete
    rw [completeAt_skipMain, hskip.get] at hmissing
    simp only [windowMain_slates, State.modAlign_slates]
    exact ⟨fun h => hcomplete h.2, fun h => hmissing fun hc => h ⟨by omega, hc⟩⟩

/-- R53, R56: a boundary on the standby path, its floor in place. -/
theorem takeStandbyBoundary_slates (s : State) (c : Chan) (i : Fin 8) :
    (1 ≤ s.signed s.time.h (s.ch c).align.standbyFloor ∧ (s.ch c).completeAt .standby s.time.h →
        (s.takeStandbyBoundary c false).slates[i.val] = s.slates[i.val].started c .standby s.time.h) ∧
      (¬(1 ≤ s.signed s.time.h (s.ch c).align.standbyFloor ∧ (s.ch c).completeAt .standby s.time.h) →
        (s.takeStandbyBoundary c false).slates[i.val] = s.slates[i.val]) := by
  by_cases hg : s.signed s.time.h (s.ch c).align.standbyFloor ≤ 0
  · rw [takeStandbyBoundary_repeat hg]
    exact ⟨fun h => absurd h.1 (by omega), fun _ => rfl⟩
  · rw [takeStandbyBoundary_past hg]
    have hskip := skipStandby_sameSlates s c
    obtain ⟨hcomplete, hmissing⟩ := releaseStandby_slates (s.skipStandby c) c s.time.h i
    rw [completeAt_skipStandby, hskip.get, hskip.time] at hcomplete
    rw [completeAt_skipStandby, hskip.get] at hmissing
    simp only [windowStandby_slates, State.modAlign_slates]
    exact ⟨fun h => hcomplete h.2, fun h => hmissing fun hc => h ⟨by omega, hc⟩⟩

end Sys2Proof.Machine

/-! PROOFS. Captures into slates: the end of a request, and the obligation (R54 to R56). -/

namespace Sys2Proof.Machine

-- Each elaboration thread takes a large stack, and the text is compiled as one file under a memory limit: one thread at a time.
set_option Elab.async false

variable {s t u : State} {c : Chan} {o : Origin} {rx : ControlRx}

/-! ## A service exit ends the requests that name it (R56) -/

/-- What a service exit makes of one slate. -/
def Slate.abandoned (x : Slate) (c : Chan) : Slate :=
  match x.request with
  | none => x
  | some r => if r.chan = c then { state := if r.copying.isSome then .empty else x.state, request := none } else x

/-- The REPLY with which a request that a service exit ends is answered, when its port's link is UP. -/
def State.abandonReply (s : State) (c : Chan) (i : Fin 8) : Option Sent :=
  match s.slates[i.val].request with
  | none => none
  | some r =>
    if r.chan = c ∧ s.linkUp r.port = true then
      some
        { port := r.port, stamp := s.time.h, unitNumber := s.settings.unitNumber
          what := .reply { request := r.request, kind := 0x31, channel := c.val, result := .abandoned, clamped := false, contents := [] } }
    else none

/-- One request ended at a service exit. -/
def State.abandonAt (s : State) (c : Chan) (i : Fin 8) : State :=
  match s.slates[i.val].request with
  | some r => if r.chan = c then s.endCapture i r .abandoned else s
  | none => s

theorem abandonCaptures_fold (s : State) (c : Chan) : s.abandonCaptures c = slateIndices.foldl (fun t i => t.abandonAt c i) s := rfl

theorem abandonAt_leaves (s : State) (c : Chan) (i : Fin 8) :
    (∀ j : Fin 8, (s.abandonAt c i).slates[j.val] = if j = i then s.slates[i.val].abandoned c else s.slates[j.val]) ∧
      (s.abandonAt c i).outbox = s.outbox ++ (s.abandonReply c i).toList ∧ (s.abandonAt c i).time = s.time ∧
      (s.abandonAt c i).settings = s.settings ∧ (s.abandonAt c i).ports = s.ports := by
  have hkeep : (∀ j : Fin 8, s.slates[j.val] = if j = i then s.slates[i.val] else s.slates[j.val]) := fun j => by
    split
    · rename_i h
      rw [h]
    · rfl
  unfold State.abandonAt State.abandonReply Slate.abandoned
  cases hr : s.slates[i.val].request with
  | none => exact ⟨hkeep, (List.append_nil _).symm, rfl, rfl, rfl⟩
  | some r =>
    dsimp only
    by_cases hc : r.chan = c
    · subst hc
      simp only [if_true, true_and]
      unfold State.endCapture State.captureReply State.reply
      have hslates : ∀ j : Fin 8, (s.modSlate i fun x => x.ended r).slates[j.val] = if j = i then s.slates[i.val].ended r else s.slates[j.val] := fun j => by
        unfold State.modSlate
        rw [vmod_get]
        by_cases hj : j = i
        · subst hj
          exact (if_pos rfl).trans (if_pos rfl).symm
        · exact (if_neg hj).trans (if_neg hj).symm
      by_cases hup : s.linkUp r.port = true
      · have hup' : (s.modSlate i fun x => x.ended r).linkUp r.port = true := hup
        rw [if_pos hup', if_pos hup]
        exact ⟨hslates, rfl, rfl, rfl, rfl⟩
      · have hup' : ¬(s.modSlate i fun x => x.ended r).linkUp r.port = true := hup
        rw [if_neg hup', if_neg hup]
        exact ⟨hslates, (List.append_nil _).symm, rfl, rfl, rfl⟩
    · rw [if_neg hc, if_neg hc, if_neg (fun h => hc h.1)]
      exact ⟨hkeep, (List.append_nil _).symm, rfl, rfl, rfl⟩

theorem abandonReply_congr (hslate : t.slates[(i : Fin 8).val] = s.slates[i.val]) (htime : t.time = s.time) (hsettings : t.settings = s.settings)
    (hports : t.ports = s.ports) : t.abandonReply c i = s.abandonReply c i := by
  have hlink : ∀ p, t.linkUp p = s.linkUp p := fun p => by unfold State.linkUp; rw [hports]
  unfold State.abandonReply
  rw [hslate, htime, hsettings]
  simp only [hlink]

/-- R56: the requests ended one after another, each in its own slate. -/
theorem abandonAt_foldl (c : Chan) (l : List (Fin 8)) (hl : l.Nodup) (s : State) :
    (∀ j : Fin 8, (l.foldl (fun t i => t.abandonAt c i) s).slates[j.val] = if j ∈ l then s.slates[j.val].abandoned c else s.slates[j.val]) ∧
      (l.foldl (fun t i => t.abandonAt c i) s).outbox = s.outbox ++ l.filterMap (s.abandonReply c) := by
  induction l generalizing s with
  | nil => exact ⟨fun j => rfl, (List.append_nil _).symm⟩
  | cons i rest ih =>
    obtain ⟨hnot, hrest⟩ := List.nodup_cons.1 hl
    obtain ⟨hslates, hout, htime, hsettings, hports⟩ := abandonAt_leaves s c i
    obtain ⟨ihSlates, ihOut⟩ := ih hrest (s.abandonAt c i)
    rw [List.foldl_cons]
    refine ⟨fun j => ?_, ?_⟩
    · rw [ihSlates, hslates]
      by_cases hj : j = i
      · subst hj
        rw [if_neg hnot, if_pos rfl, if_pos List.mem_cons_self]
      · rw [if_neg hj]
        by_cases hjr : j ∈ rest
        · rw [if_pos hjr, if_pos (List.mem_cons_of_mem _ hjr)]
        · rw [if_neg hjr, if_neg (by simp [hj, hjr])]
    · have hreplies : rest.filterMap ((s.abandonAt c i).abandonReply c) = rest.filterMap (s.abandonReply c) :=
        List.filterMap_congr fun j hj => abandonReply_congr ((hslates j).trans (if_neg fun he : j = i => hnot (he ▸ hj))) htime hsettings hports
      rw [ihOut, hout, hreplies, List.append_assoc, List.filterMap_cons]
      cases s.abandonReply c i <;> rfl

theorem abandonCaptures_leaves (s : State) (c : Chan) :
    (∀ i : Fin 8, (s.abandonCaptures c).slates[i.val] = s.slates[i.val].abandoned c) ∧
      (s.abandonCaptures c).outbox = s.outbox ++ slateIndices.filterMap (s.abandonReply c) := by
  obtain ⟨hslates, hout⟩ := abandonAt_foldl c slateIndices (by decide) s
  rw [abandonCaptures_fold]
  exact ⟨fun i => (hslates i).trans (if_pos (by fin_cases i <;> decide)), hout⟩

/-! ## What else a service exit sends (R124, R170) -/

/-- What is sent from one state to another has no REPLY in it. -/
def NoReply (s t : State) : Prop := ∃ cues : List Sent, t.outbox = s.outbox ++ cues ∧ ∀ x ∈ cues, ∀ r, x.what ≠ .reply r

theorem NoReply.of_outbox (h : t.outbox = s.outbox) : NoReply s t := ⟨[], by rw [h, List.append_nil], fun _ hx => absurd hx List.not_mem_nil⟩

theorem NoReply.trans (h : NoReply s t) (k : NoReply t u) : NoReply s u := by
  obtain ⟨a, ha, hna⟩ := h
  obtain ⟨b, hb, hnb⟩ := k
  refine ⟨a ++ b, by rw [hb, ha, List.append_assoc], fun x hx => ?_⟩
  rcases List.mem_append.1 hx with hx | hx
  · exact hna x hx
  · exact hnb x hx

theorem NoReply.send (s : State) (p : Port) {what : Outgoing} (h : ∀ r, what ≠ .reply r) : NoReply s (s.send p what) :=
  ⟨[_], rfl, fun x hx r => by
    rw [List.mem_singleton] at hx
    rw [hx]
    exact h r⟩

theorem noReply_sendCancel (s : State) (c : Chan) (server : Fin 8) (player number : Nat) : NoReply s (s.sendCancel c server player number) := by
  unfold State.sendCancel
  split
  · exact (NoReply.of_outbox rfl : NoReply s (s.bumpCh c .cancelsSent)).trans (NoReply.send _ _ nofun)
  · exact NoReply.of_outbox rfl

theorem noReply_sendStop (s : State) (c : Chan) (server : Fin 8) (player number : Nat) : NoReply s (s.sendStop c server player number) := by
  unfold State.sendStop
  split
  · exact (NoReply.of_outbox rfl : NoReply s (s.bumpCh c .stopsSent)).trans (NoReply.send _ _ nofun)
  · exact NoReply.of_outbox rfl

theorem noReply_cancelPending (s : State) (c : Chan) : NoReply s (s.cancelPending c) := by
  unfold State.cancelPending
  split
  · exact NoReply.of_outbox rfl
  · rename_i x _
    have hcue : NoReply s (s.cancelCue c x) := by
      unfold State.cancelCue
      split
      · exact NoReply.of_outbox rfl
      · exact noReply_sendCancel ..
      · exact NoReply.of_outbox rfl
    exact hcue.trans (NoReply.of_outbox rfl)

theorem noReply_stopPlaying (s : State) (c : Chan) : NoReply s (s.stopPlaying c) := by
  unfold State.stopPlaying
  split
  · exact NoReply.of_outbox rfl
  · rename_i x _
    dsimp only
    cases x.number with
    | none => exact NoReply.of_outbox rfl
    | some n => exact (noReply_sendStop ..).trans (NoReply.of_outbox rfl)

theorem noReply_controlExit (s : State) (c : Chan) : NoReply s (s.controlExit c) := by
  unfold State.controlExit
  dsimp only
  have hcues : NoReply s (s.endCues c) :=
    ((noReply_cancelPending s c).trans (noReply_stopPlaying _ c)).trans (NoReply.of_outbox (State.modCue_outbox ..))
  rw [State.modRecord_eq]
  exact hcues.trans (NoReply.of_outbox (by rw [State.setState_outbox, State.modControl_outbox, State.modControl_outbox]))

theorem eachDetector_outbox (s : State) (c : Chan) (f : DetectorSettings → DetectorState → DetectorState) : (s.eachDetector c f).outbox = s.outbox :=
  List.foldlRecOn (motive := fun u : State => u.outbox = s.outbox) Detector.all _ rfl fun _ hu _ _ => hu

theorem evaluate_outbox (hs : (s.ch c).control.state = .outOfService) (cause : EvalCause) : (s.evaluate c cause).outbox = s.outbox := by
  unfold State.evaluate State.holdVerdict
  dsimp only
  split
  · rfl
  · show (State.takeVerdict _ _).outbox = _
    rw [deliver_out (c := c) (by simpa using hs) rfl]
    rfl

theorem monitorExit_outbox (hs : (s.ch c).control.state = .outOfService) : (s.monitorExit c).outbox = s.outbox := by
  unfold State.monitorExit
  dsimp only
  rw [evaluate_outbox ?_, State.modMonitor_outbox, eachDetector_outbox]
  have hch : ((s.eachDetector c fun _ _ => { phase := .clear, latched := false, settle := 0, bad := 0, good := 0 }).ch c).control = (s.ch c).control :=
    (Channel.undetected_fields (eachDetector_undetected ..)).1
  rw [State.ch_modMonitor_same, ← hs, ← hch]

/-- R56: what the other blocks of a service exit leave in the slates and send. -/
theorem exitBlocks_sends (hs : (u.ch c).control.state = .outOfService) :
    (∀ i : Fin 8, (((u.alignExit c).clearOutput c).monitorExit c).slates[i.val] = u.slates[i.val].abandoned c) ∧
      (((u.alignExit c).clearOutput c).monitorExit c).outbox = u.outbox ++ slateIndices.filterMap (u.abandonReply c) := by
  obtain ⟨hleft, hsent⟩ := abandonCaptures_leaves (u.modCh c Channel.vacated) c
  have hreplies : (u.modCh c Channel.vacated).abandonReply c = u.abandonReply c := funext fun i => abandonReply_congr rfl rfl rfl rfl
  have hstate : (((((u.modCh c Channel.vacated).abandonCaptures c).clearOutput c)).ch c).control.state = .outOfService := by
    unfold State.clearOutput
    rw [State.ch_modWork_same, State.ch_modOutput_same, State.abandonCaptures_ch, State.ch_modCh_same]
    exact hs
  have hkept := ((Elsewhere.refl c (((u.modCh c Channel.vacated).abandonCaptures c).clearOutput c)).monitorExit).slates
  rw [hreplies] at hsent
  rw [State.alignExit_eq]
  generalize (u.modCh c Channel.vacated).abandonCaptures c = x at hleft hsent hstate hkept
  refine ⟨fun i => ?_, ?_⟩
  · simp only [hkept]
    exact hleft i
  · rw [monitorExit_outbox hstate]
    exact hsent

/-- R56, R124: what a service exit leaves in the slates and sends. -/
theorem leaveService_sends (s : State) (c : Chan) :
    (∀ i : Fin 8, (s.leaveService c).slates[i.val] = s.slates[i.val].abandoned c) ∧
      ∃ cues : List Sent, (∀ x ∈ cues, ∀ r, x.what ≠ .reply r) ∧
        (s.leaveService c).outbox = s.outbox ++ cues ++ slateIndices.filterMap (s.abandonReply c) := by
  have hexit : Elsewhere c s (s.controlExit c) := ((CueLocal.refl c s).controlExit).toElsewhere
  have hstate : ((s.controlExit c).ch c).control.state = .outOfService := by rw [State.controlExit_ch]
  obtain ⟨cues, hcues, hno⟩ := noReply_controlExit s c
  unfold State.leaveService
  generalize s.controlExit c = u at hexit hstate hcues
  obtain ⟨hleft, hsent⟩ := exitBlocks_sends hstate
  have hreplies : u.abandonReply c = s.abandonReply c := funext fun i =>
    abandonReply_congr (by simp only [hexit.slates]) hexit.time hexit.settings hexit.ports
  refine ⟨fun i => ?_, cues, hno, ?_⟩
  · rw [hleft]
    simp only [hexit.slates]
  · rw [hsent, hcues, hreplies]

/-! ## Requests and ends (R55, R56) -/

theorem exec_captureSlate (h : Named s .console rx c) (slate path : Nat) :
    exec (.captureSlate rx slate path) s =
      .next (match (s.heard rx).commandCapture slate (some c) path rx.port rx.request with
        | (t, some code) => t.answered .console rx 0x31 code []
        | (t, none) => t) := by
  obtain ⟨hheard, hgroup, hchannel⟩ := h
  refine congrArg Host.Outcome.next ((heard_passOn (r := .captureSlate slate path) hheard trivial rfl 0).trans ?_)
  unfold State.passOn
  dsimp only
  unfold State.takeCapture
  rw [if_neg (by simp [hgroup])]
  have hchan : chanOf rx.channel = some c := by
    rw [hchannel]
    exact dif_pos c.isLt
  show (match (s.heard rx).commandCapture slate (chanOf rx.channel) path rx.port rx.request with
    | (t, refusal) => match refusal with
      | some code => t.answer (asked .console rx (.captureSlate slate path)) code false []
      | none => t) = _
  rw [hchan]
  generalize (s.heard rx).commandCapture slate (some c) path rx.port rx.request = x
  obtain ⟨t, refusal⟩ := x
  cases refusal <;> rfl

end Sys2Proof.Machine

/-! PROOFS. Captures into slates: the obligation (R55, R56). -/

namespace Sys2Proof.Machine

-- Each elaboration thread takes a large stack, and the text is compiled as one file under a memory limit: one thread at a time.
set_option Elab.async false

variable {s : State} {c : Chan} {rx : ControlRx}

theorem capturePathOf_none {path : Nat} (h : 1 < path) : capturePathOf path = none := by
  match path, h with
  | k + 2, _ => rfl

theorem capturePathOf_some {path : Nat} (h : path ≤ 1) : capturePathOf path = some (if path = 0 then .main else .standby) := by
  match path, h with
  | 0, _ => rfl
  | 1, _ => rfl

theorem commandCapture_badValue (s : State) (c : Chan) {slate path : Nat} (h : 8 ≤ slate ∨ 1 < path) (port : Port) (request : Nat) :
    s.commandCapture slate (some c) path port request = (s, some .badValue) := by
  unfold State.commandCapture
  by_cases hs : slate < 8
  · rw [dif_pos hs, capturePathOf_none (h.resolve_left (by omega))]
  · exact dif_neg hs

theorem commandCapture_out (hin : s.inService c = false) (i : Fin 8) {path : Nat} (h : path ≤ 1) (port : Port) (request : Nat) :
    s.commandCapture i.val (some c) path port request = (s, some .outOfService) := by
  unfold State.commandCapture
  rw [dif_pos i.isLt, capturePathOf_some h]
  exact if_neg (by simp [hin])

theorem commandCapture_accepted (hin : s.inService c = true) (i : Fin 8) {path : Nat} (h : path ≤ 1) (port : Port) (request : Nat) :
    s.commandCapture i.val (some c) path port request =
      (s.requestCapture i { chan := c, path := if path = 0 then .main else .standby, copying := none, port := port, request := request }, none) := by
  unfold State.commandCapture
  rw [dif_pos i.isLt, capturePathOf_some h]
  exact if_pos hin

theorem requestCapture_free {i : Fin 8} (h : s.slates[i.val].request = none) (r : Capture) :
    s.requestCapture i r = s.modSlate i fun y => { y with request := some r } := by
  unfold State.requestCapture
  rw [h]

theorem State.modSlate_modSlate (s : State) (i : Fin 8) (f g : Slate → Slate) : (s.modSlate i f).modSlate i g = s.modSlate i fun y => g (f y) := by
  unfold State.modSlate
  dsimp only
  rw [vmod_vmod]

theorem State.reply_modSlate (s : State) (i : Fin 8) (f : Slate → Slate) (o : Origin) (p : Port) (r : Reply) :
    (s.modSlate i f).reply o p r = (s.reply o p r).modSlate i f := by
  have hlink : (s.modSlate i f).linkUp p = s.linkUp p := rfl
  unfold State.reply
  rw [hlink]
  split <;> rfl

/-- R55: a request that replaces another ends it with REPLACED. -/
theorem requestCapture_replaces {i : Fin 8} {old : Capture} (h : s.slates[i.val].request = some old) (r : Capture) :
    s.requestCapture i r =
      (s.reply .console old.port
        { request := old.request, kind := 0x31, channel := old.chan.val, result := .replaced, clamped := false, contents := [] }).modSlate i
        fun y => { state := if old.copying.isSome then .empty else y.state, request := some r } := by
  unfold State.requestCapture
  rw [h]
  dsimp only
  unfold State.endCapture State.captureReply
  rw [State.reply_modSlate, State.modSlate_modSlate]
  rfl

/-- Settles O28. -/
theorem slateCaptures : Obligations.SlateCaptures := by
  unfold Obligations.SlateCaptures
  refine ⟨fun s c path realigned i => ?_, fun s rx c h hin => ?_, fun s rx c slate path h hbad => ?_, fun s rx c i path h => ⟨fun hp hin => ?_, fun hp hin => ?_⟩,
    fun s i hs => ⟨fun hnone => ?_, fun r h f hr hcopying hheld => ?_⟩⟩
  · intro stamp floor t released
    have key : (released → t.slates[i.val] = s.slates[i.val].started c path s.time.h) ∧ (¬released → t.slates[i.val] = s.slates[i.val]) := by
      cases path with
      | main => exact takeMainBoundary_slates s c i
      | standby =>
        cases realigned with
        | false => exact takeStandbyBoundary_slates s c i
        | true =>
          have h := takeStandbyBoundary_slates (s.modAlign c fun x => { x with standbyFloor := s.wrap ((s.time.h : Int) - 1) }) c i
          rw [← takeStandbyBoundary_realigned, State.ch_modAlign_same] at h
          exact h
    refine ⟨fun r hr hc hpath hrel => (key.1 hrel).trans (Slate.started_here hr hc hpath _), fun h => ?_⟩
    by_cases hrel : released
    · exact (key.1 hrel).trans (Slate.started_elsewhere (h.resolve_left (not_not.2 hrel)) _)
    · exact key.2 hrel
  · have hin' : (s.heard rx).inService c = true := by rwa [State.heard_inService]
    obtain ⟨hslates, cues, hno, hout⟩ := leaveService_sends (s.heard rx) c
    have hreply : (s.heard rx).abandonReply c = s.abandonReply c := by
      unfold State.abandonReply
      simp only [State.heard_slates, State.heard_linkUp, State.heard_time, State.heard_settings]
    refine ⟨(s.heard rx).leaveService c, cues, ?_, fun i => ?_, hno, ?_⟩
    · exact congrArg Host.Outcome.next (named_accepted (k := .setService 2) h rfl ((commandSetService_out _ c).trans (by rw [if_pos hin'])) fun _ => hin)
    · rw [hslates]
      simp only [State.heard_slates]
      rfl
    · rw [hout, hreply, State.heard_outbox]
      rfl
  · exact (exec_captureSlate h slate path).trans (by rw [commandCapture_badValue _ c hbad])
  · have hin' : (s.heard rx).inService c = false := by rwa [State.heard_inService]
    exact (exec_captureSlate h i.val path).trans (by rw [commandCapture_out hin' i hp])
  · intro x
    have hin' : (s.heard rx).inService c = true := by rwa [State.heard_inService]
    have hexec := exec_captureSlate h i.val path
    rw [commandCapture_accepted hin' i hp] at hexec
    refine ⟨fun hnone => hexec.trans ?_, fun old hold => hexec.trans ?_⟩
    · exact congrArg Host.Outcome.next (requestCapture_free (by simp only [State.heard_slates, hnone]) x)
    · exact congrArg Host.Outcome.next (requestCapture_replaces (by simp only [State.heard_slates, hold]) x)
  · refine congrArg Host.Outcome.next ((congrArg (fun u : State => u.completeCopy i) (State.catchUp_settled hs)).trans ?_)
    unfold State.completeCopy
    dsimp only
    rw [hnone]
  · refine congrArg Host.Outcome.next ((congrArg (fun u : State => u.completeCopy i) (State.catchUp_settled hs)).trans ?_)
    unfold State.completeCopy
    dsimp only
    rw [hr]
    dsimp only
    rw [hcopying, hheld]
    dsimp only
    unfold State.captureReply
    cases r.path <;> rfl

end Sys2Proof.Machine

/-! PROOFS. What power-on and a reset-line reset leave (R19, R149, R204). -/

namespace Sys2Proof.Machine

-- Each elaboration thread takes a large stack, and the text is compiled as one file under a memory limit: one thread at a time.
set_option Elab.async false

variable {s : State} {c : Chan}

theorem powerOn_ctx (s : State) (o : Origin) : s.powerOn.ctx o = Context.reset := by cases o <;> rfl

theorem powerOn_path (s : State) (side : Side) : s.powerOn.path side = { up := false, traffic := false, silence := 0, run := 0 } := by
  cases side <;> rfl

theorem powerOn_linkUp (s : State) (p : Port) : s.powerOn.linkUp p = false := by
  unfold State.linkUp
  exact Vector.getElem_replicate _

theorem reset_detState (c : Chan) (det : Detector) :
    (Channel.reset c).detState det = { phase := .clear, latched := false, settle := 0, bad := 0, good := 0 } := by
  unfold Channel.detState
  exact Vector.getElem_replicate _

/-- R149, R204: the Management Unit after a reset-line reset. -/
theorem resetByLine_mgmt (s : State) :
    s.resetByLine.mgmt =
      { State.reset.mgmt with resetCause := .resetLine, warmRestarts := s.mgmt.warmRestarts, lineResets := satAdd s.mgmt.lineResets 1 } := by
  have hkeep : (s.powerOn.eachChannel fun c u => u.modCh c fun _ => (s.ch c).afterLine c).mgmt = State.reset.mgmt :=
    State.eachChannel_keeps (P := fun u => u.mgmt = State.reset.mgmt) (fun _ _ hu => hu) rfl
  unfold State.resetByLine
  dsimp only
  rw [hkeep]

theorem keptRing_eq (x : Control) :
    keptRing x = x.ring.map fun r => if x.current = some r.sequence ∧ r.outcome = .pending then { r with outcome := .abandoned } else r := by
  unfold keptRing
  refine List.map_congr_left fun r _ => ?_
  unfold abandonPending
  by_cases hc : x.current = some r.sequence
  · rw [if_pos hc]
    by_cases ho : r.outcome = .pending
    · rw [if_pos ho, if_pos ⟨hc, ho⟩]
    · rw [if_neg ho, if_neg fun h => ho h.2]
  · rw [if_neg hc, if_neg fun h => hc h.1]

/-- Settles O7. -/
theorem powerOnAndResetLine : Obligations.PowerOnAndResetLine := by
  unfold Obligations.PowerOnAndResetLine
  refine ⟨fun s => ⟨s.powerOn, rfl, rfl, rfl, rfl, ⟨rfl, rfl, rfl, rfl, rfl, rfl⟩, powerOn_linkUp s, powerOn_path s, rfl, rfl, fun i => Vector.getElem_replicate _,
    s.powerOn_counter, ⟨rfl, rfl, rfl, rfl, rfl, rfl, rfl⟩, powerOn_ctx s, fun c => ?_⟩, fun s hs => ?_⟩
  · rw [s.powerOn_ch]
    exact ⟨⟨rfl, rfl, rfl, rfl, rfl, rfl, rfl, rfl, rfl, rfl, rfl, rfl, rfl, rfl, rfl, rfl⟩, rfl, ⟨rfl, rfl, rfl, rfl, rfl, rfl, rfl, rfl, rfl, rfl⟩,
      ⟨reset_detState c, rfl, rfl, fun i => Vector.getElem_replicate _⟩, rfl, rfl, rfl⟩
  · obtain ⟨chans, mgmt, he, -, -, hch⟩ := resetByLine_eq s
    have hmgmt := resetByLine_mgmt s
    refine ⟨s.resetByLine, congrArg (fun u : State => Host.Outcome.next u.resetByLine) (State.catchUp_settled hs), ?_⟩
    generalize s.resetByLine = t at he hch hmgmt ⊢
    subst he
    refine ⟨rfl, rfl, rfl, rfl, rfl, rfl, rfl, rfl, rfl, rfl, hmgmt, fun c => ⟨keptRing (s.ch c).control, ?_, keptRing_eq _⟩⟩
    rw [hch, State.reset_ch]
    rfl

end Sys2Proof.Machine

/-! PROOFS. A block's work on each channel in turn; a load that finds no image, and saves of the image (R201, R202). -/

namespace Sys2Proof.Machine

-- Each elaboration thread takes a large stack, and the text is compiled as one file under a memory limit: one thread at a time.
set_option Elab.async false

variable {s t u : State} {c : Chan} {rx : ControlRx}

/-! ## Each channel in turn, as one channel sees it -/

/-- What is left of a channel and of the whole part by what is done for other channels. -/
structure AwayFrom (c : Chan) (s t : State) : Prop where
  channel : t.ch c = s.ch c
  counters : ∀ k, t.counter (.chan c k) = s.counter (.chan c k)
  time : t.time = s.time
  settings : t.settings = s.settings
  ports : t.ports = s.ports
  site : t.site = s.site
  mgmt : t.mgmt.quiet = s.mgmt.quiet
  outbox : s.outbox <+: t.outbox

theorem AwayFrom.refl (c : Chan) (s : State) : AwayFrom c s s := ⟨rfl, fun _ => rfl, rfl, rfl, rfl, rfl, rfl, List.prefix_refl _⟩

theorem AwayFrom.trans (h : AwayFrom c s t) (k : AwayFrom c t u) : AwayFrom c s u :=
  ⟨k.channel.trans h.channel, fun x => (k.counters x).trans (h.counters x), k.time.trans h.time, k.settings.trans h.settings, k.ports.trans h.ports,
   k.site.trans h.site, k.mgmt.trans h.mgmt, h.outbox.trans k.outbox⟩

theorem Around.awayFrom {c' : Chan} (h : Around c' s t) (hc : c ≠ c') : AwayFrom c s t :=
  ⟨h.others c hc, fun k => h.counters (.chan c k) (by simp [foreign, hc]), h.time, h.settings, h.ports, h.site, h.mgmt, h.outbox⟩

theorem AwayFrom.foldl {f : Chan → State → State} (hf : ∀ c t, Around c t (f c t)) {l : List Chan} (hc : c ∉ l) (s : State) :
    AwayFrom c s (l.foldl (fun t c => f c t) s) := by
  induction l generalizing s with
  | nil => exact .refl c s
  | cons a l ih =>
    rw [List.mem_cons, not_or] at hc
    exact ((hf a s).awayFrom hc.1).trans (ih hc.2 _)

theorem Chan.all_around : ∀ c : Chan, ∃ before after, Chan.all = before ++ c :: after ∧ c ∉ before ∧ c ∉ after := by
  intro c
  exact ⟨Chan.all.take c.val, Chan.all.drop (c.val + 1), by revert c; decide, by revert c; decide, by revert c; decide⟩

/-- Work done on each channel in turn meets a channel once, as others left it. -/
theorem State.eachChannel_at {f : Chan → State → State} (hf : ∀ c t, Around c t (f c t)) (s : State) (c : Chan) :
    ∃ u, AwayFrom c s u ∧ AwayFrom c (f c u) (s.eachChannel f) := by
  obtain ⟨before, after, hall, hbefore, hafter⟩ := Chan.all_around c
  refine ⟨before.foldl (fun t c => f c t) s, AwayFrom.foldl hf hbefore s, ?_⟩
  unfold State.eachChannel
  rw [hall, List.foldl_append, List.foldl_cons]
  exact AwayFrom.foldl hf hafter _

/-! ## RESYNC for every channel (R112, R119) -/

theorem resync_ch (s : State) (c : Chan) : (s.resync c).ch c = { s.ch c with schedule := { (s.ch c).schedule with resyncTimer := some 0 } } := by
  unfold State.resync
  rw [State.ch_modSchedule_same]
  rfl

/-- What a RESYNC of every channel keeps of the unit. -/
theorem eachResync_rest (s : State) :
    { s.eachChannel (fun c t => t.resync c) with chans := s.chans, counters := s.counters, outbox := s.outbox } = s :=
  State.eachChannel_keeps (P := fun u => { u with chans := s.chans, counters := s.counters, outbox := s.outbox } = s) (fun _ _ hu => hu) rfl

theorem eachResync_counter (s : State) {key : CounterKey} (h : ∀ c, key ≠ .chan c .resyncsSent) :
    (s.eachChannel fun c t => t.resync c).counter key = s.counter key :=
  State.eachChannel_keeps (P := fun u => u.counter key = s.counter key)
    (fun c u hu => by
      unfold State.resync State.sendMain State.bumpCh
      rw [State.counter_modSchedule, State.counter_bump, if_neg (h c), State.counter_send, State.counter_send, hu]) rfl

/-- What a RESYNC of every channel does for one of them. -/
theorem eachResync_at (s : State) (c : Chan) :
    (s.eachChannel fun c t => t.resync c).ch c = { s.ch c with schedule := { (s.ch c).schedule with resyncTimer := some 0 } } ∧
      (s.eachChannel fun c t => t.resync c).counter (.chan c .resyncsSent) = satAdd (s.counter (.chan c .resyncsSent)) 1 ∧
      ∀ side, ∃ x ∈ (s.eachChannel fun c t => t.resync c).outbox, x.port = .contribution side ∧ x.stamp = s.time.h ∧
        x.what = .resync c (s.ch c).schedule.expected (s.ch c).schedule.state := by
  obtain ⟨u, hu, hafter⟩ := State.eachChannel_at (f := fun c t => t.resync c) (fun c t => (Around.refl c t).elsewhere (Elsewhere.refl c t).resync) s c
  generalize s.eachChannel (fun c t => t.resync c) = t at hafter ⊢
  refine ⟨hafter.channel.trans ?_, (hafter.counters _).trans ?_, fun side => ?_⟩
  · rw [resync_ch, hu.channel]
  · unfold State.resync State.sendMain State.bumpCh
    rw [State.counter_modSchedule, State.counter_bump, if_pos rfl, State.counter_send, State.counter_send, hu.counters]
  · have hwhat : ∃ x ∈ (u.resync c).outbox, x.port = .contribution side ∧ x.stamp = u.time.h ∧
        x.what = .resync c (u.ch c).schedule.expected (u.ch c).schedule.state := by
      unfold State.resync State.sendMain
      cases side with
      | a => exact ⟨_, List.mem_append_left _ (List.mem_append_right _ (List.mem_singleton_self _)), rfl, rfl, rfl⟩
      | b => exact ⟨_, List.mem_append_right _ (List.mem_singleton_self _), rfl, rfl, rfl⟩
    obtain ⟨x, hx, hport, hstamp, hx'⟩ := hwhat
    refine ⟨x, hafter.outbox.subset hx, hport, by rw [hstamp, hu.time], by rw [hx', hu.channel]⟩

/-! ## The defaults (R201) -/

theorem defaultSettings_ch (s : State) (c : Chan) :
    s.defaultSettings.ch c = { s.ch c with settings := .default c, control := { (s.ch c).control with mode := .outOfService } } := by
  refine State.eachChannel_ch_eq (g := fun c x => { x with settings := .default c, control := { x.control with mode := .outOfService } })
    (fun c u c' => ?_) c
  by_cases h : c' = c
  · subst h
    rw [if_pos rfl, State.ch_modControl_same, State.ch_modSettings_same]
  · rw [if_neg h, State.ch_modControl_ne _ _ _ _ h, State.ch_modSettings_ne _ _ _ _ h]

/-- The settings of one channel at their defaults. -/
def State.defaultChannel (c : Chan) (t : State) : State :=
  (t.modSettings c fun _ => .default c).modControl c fun y => { y with mode := .outOfService }

theorem defaultSettings_eq (s : State) :
    s.defaultSettings = State.eachChannel { s with settings := .default, time := { s.time with rate := .fr25 } } State.defaultChannel := rfl

/-- Work that touches the channels alone, done on each channel. -/
theorem eachChannel_rest {f : Chan → State → State} (x : Vector Channel 16) (hf : ∀ c t, { f c t with chans := x } = { t with chans := x }) (s : State) :
    { s.eachChannel f with chans := x } = { s with chans := x } :=
  State.eachChannel_keeps (P := fun u => { u with chans := x } = { s with chans := x }) (fun c u hu => (hf c u).trans hu) rfl

theorem defaultSettings_rest (s : State) :
    { s.defaultSettings with chans := s.chans } = { s with settings := .default, time := { s.time with rate := .fr25 } } := by
  have h := eachChannel_rest (f := State.defaultChannel) s.chans (fun _ _ => rfl)
    { s with settings := .default, time := { s.time with rate := .fr25 } }
  rw [defaultSettings_eq]
  generalize State.eachChannel { s with settings := .default, time := { s.time with rate := .fr25 } } State.defaultChannel = t at h ⊢
  exact h

/-- Tables 7-1, 4-1 and the rules of SERVERS, OUTPUT_MAP and SITE: the entries of a part whose settings stand at their defaults. -/
theorem getRef_default (hsettings : ∀ c, (t.ch c).settings = .default c) (hmode : ∀ c, (t.ch c).control.mode = .outOfService)
    (hunit : t.settings = .default) (hrate : t.time.rate = .fr25) (r : SettingRef) : t.getRef r = r.stated.2 := by
  unfold State.getRef
  cases r with
  | chan c k =>
    dsimp only
    rw [hsettings, hmode]
    cases k <;> rfl
  | det c d k =>
    dsimp only
    unfold Channel.detCfg
    rw [hsettings]
    cases d <;> cases k <;> rfl
  | chain c | pairs c | stream c =>
    dsimp only
    rw [hsettings]
    rfl
  | mapped i | serverPort i =>
    dsimp only
    simp only [hunit]
    simp [UnitSettings.default, flagNat, SettingRef.stated]
  | site k =>
    dsimp only
    rw [hunit, hrate]
    cases k <;> rfl

/-! ## The load and the saves -/

/-- R201: a channel whose mode is OUT_OF_SERVICE is placed in no service. -/
theorem eachEntry_out (h : ∀ c, (s.ch c).control.mode = .outOfService) :
    s.eachChannel (fun c t => match (t.ch c).control.mode with
      | .outOfService => t
      | m => t.enterService c m) = s :=
  State.eachChannel_keeps (P := fun u => u = s)
    (fun c u hu => by
      subst hu
      rw [h c]) rfl

theorem completeLoad_idle (h : s.loading = false) (answer : Option Image) (time : Nat) : s.completeLoad answer time = s :=
  if_neg (by simp [h])

/-- R201: the load with no image, before the channels are looked at. -/
def State.unloaded (s : State) (time : Nat) : State :=
  ({ s.defaultSettings with mgmt := { s.defaultSettings.mgmt with config := .defaulted .noMemory } } : State).modTime fun x =>
    { x with timer := some (time + x.rate.period) }

theorem unloaded_rest (s : State) (time : Nat) :
    { s.unloaded time with chans := s.chans } =
      { s with
        settings := .default, time := { s.time with rate := .fr25, timer := some (time + 4320000) }
        mgmt := { s.mgmt with config := .defaulted .noMemory } } := by
  have h := defaultSettings_rest s
  unfold State.unloaded
  generalize s.defaultSettings = d at h ⊢
  obtain ⟨dt, dp, ds, df, dsl, dc, dse, dm, dco, dw, dout, dpe⟩ := d
  cases h
  rfl

theorem unloaded_ch (s : State) (time : Nat) (c : Chan) :
    (s.unloaded time).ch c = { s.ch c with settings := .default c, control := { (s.ch c).control with mode := .outOfService } } := defaultSettings_ch s c

/-- R201: the load with no image: every channel sends RESYNC. -/
theorem completeLoad_none (h : s.loading = true) (time : Nat) :
    s.completeLoad none time = (s.unloaded time).eachChannel fun c t => t.resync c := by
  have hmode : ∀ c, (((s.unloaded time).eachChannel fun c t => t.resync c).ch c).control.mode = .outOfService := fun c => by
    rw [(eachResync_at _ c).1, unloaded_ch]
  have htake : (s.takeImage none).modTime (fun x => { x with timer := some (time + x.rate.period) }) = s.unloaded time := rfl
  unfold State.completeLoad
  dsimp only
  rw [if_pos h, htake]
  exact eachEntry_out hmode

/-- Settles O8. -/
theorem loadWithNoImageAndSaves : Obligations.LoadWithNoImageAndSaves := by
  unfold Obligations.LoadWithNoImageAndSaves
  refine ⟨fun s time hs => ⟨fun hl answer => ?_, fun hl => ?_⟩, fun s rx h => ⟨fun hsave => ?_, fun hsave => ?_⟩,
    fun s readBack hs => ⟨fun hsave => ?_, fun image p q hsave => ?_⟩⟩
  · exact congrArg Host.Outcome.next ((congrArg (fun u : State => u.completeLoad answer time) (State.catchUp_settled hs)).trans (completeLoad_idle hl _ _))
  · have hexec : exec (.loadCompletion none time) s = .next ((s.unloaded time).eachChannel fun c t => t.resync c) :=
      congrArg Host.Outcome.next ((congrArg (fun u : State => u.completeLoad none time) (State.catchUp_settled hs)).trans (completeLoad_none hl _))
    have hat := eachResync_at (s.unloaded time)
    have hcounter := fun key => eachResync_counter (s.unloaded time) (key := key)
    have hrest := eachResync_rest (s.unloaded time)
    have hunloaded := unloaded_rest s time
    have hch := unloaded_ch s time
    refine ⟨_, hexec, ?_⟩
    generalize (s.unloaded time).eachChannel (fun c t => t.resync c) = t at hat hcounter hrest ⊢
    generalize s.unloaded time = u at hat hcounter hrest hunloaded hch
    have fields {α : Type} (g : State → α) (hg : ∀ x ch co out, g { x with chans := ch, counters := co, outbox := out } = g x) :
        g t = g { s with
          settings := .default, time := { s.time with rate := .fr25, timer := some (time + 4320000) }
          mgmt := { s.mgmt with config := .defaulted .noMemory } } := by
      have h1 := congrArg g hrest
      have h2 := congrArg g hunloaded
      rw [hg] at h1
      rw [show g { u with chans := s.chans } = g u from (hg { u with chans := s.chans } u.chans u.counters u.outbox).symm] at h2
      rw [h1, h2]
    have htime : u.time.h = s.time.h := (congrArg (fun x : State => x.time.h) hunloaded :)
    have hcounters : ∀ key, u.counter key = s.counter key := fun key => (congrArg (fun x : State => x.counter key) hunloaded :)
    have hsettings := fields State.settings (fun _ _ _ _ => rfl)
    have htimes := fields State.time (fun _ _ _ _ => rfl)
    have hchannel : ∀ c, t.ch c = { s.ch c with
        settings := ChannelSettings.default c
        control := { (s.ch c).control with mode := .outOfService }
        schedule := { (s.ch c).schedule with resyncTimer := some 0 } } := fun c => by rw [(hat c).1, hch]
    refine ⟨fields State.pending (fun _ _ _ _ => rfl), htimes, hsettings,
      getRef_default (fun c => by rw [hchannel]) (fun c => by rw [hchannel]) hsettings (by rw [htimes]), fields State.mgmt (fun _ _ _ _ => rfl),
      fields State.ports (fun _ _ _ _ => rfl), fields State.site (fun _ _ _ _ => rfl), fields State.poolFree (fun _ _ _ _ => rfl),
      fields State.slates (fun _ _ _ _ => rfl), hchannel, fun key => ?_, fun side c => ?_⟩
    · split
      · rename_i c
        rw [(hat c).2.1, hcounters]
        rfl
      · rename_i hkey
        rw [hcounter key fun c => hkey c, hcounters]
    · obtain ⟨x, hx, hport, hstamp, hwhat⟩ := (hat c).2.2 side
      exact ⟨x, hx, hport, hstamp.trans htime, by rw [hwhat, hch]⟩
  · have hheard : (s.heard rx).mgmt.save = none := by rw [State.heard_save, hsave]
    refine congrArg Host.Outcome.next ((heard_passOn (r := .saveConfig) h.1 trivial rfl 0).trans ?_)
    unfold State.passOn
    dsimp only
    rw [unitRequest_whole h]
    unfold State.takeSave State.commandSave
    rw [hheard]
    have himage : (s.heard rx).imageOf = s.imageOf := by
      unfold State.imageOf
      have href : ∀ r, (s.heard rx).getRef r = s.getRef r := fun r => by
        cases r <;> simp only [State.getRef, State.heard_ch, State.heard_settings, State.heard_time]
      simp only [href]
    rw [himage]
    rfl
  · obtain ⟨x, hx⟩ := Option.ne_none_iff_exists'.1 hsave
    have hheard : (s.heard rx).mgmt.save = some x := by rw [State.heard_save, hx]
    refine congrArg Host.Outcome.next ((heard_passOn (r := .saveConfig) h.1 trivial rfl 0).trans ?_)
    unfold State.passOn
    dsimp only
    rw [unitRequest_whole h]
    unfold State.takeSave State.commandSave
    rw [hheard]
    rfl
  · refine congrArg Host.Outcome.next ((congrArg (fun u : State => u.completeSave readBack) (State.catchUp_settled hs)).trans ?_)
    unfold State.completeSave
    rw [hsave]
  · refine congrArg Host.Outcome.next ((congrArg (fun u : State => u.completeSave readBack) (State.catchUp_settled hs)).trans ?_)
    unfold State.completeSave
    rw [hsave]
    cases readBack <;> rfl

end Sys2Proof.Machine

/-! PROOFS. Reports queued and sent, and REPLYs sent or not (R190, R198, R199). -/

namespace Sys2Proof.Machine

-- Each elaboration thread takes a large stack, and the text is compiled as one file under a memory limit: one thread at a time.
set_option Elab.async false

variable {s t u : State} {o o' : Origin}

/-! ## Contexts (R191) -/

theorem ctx_modCtx_same (s : State) (o : Origin) (f : Context → Context) : (s.modCtx o f).ctx o = f (s.ctx o) := by cases o <;> rfl

theorem ctx_modCtx_other (h : o' ≠ o) (s : State) (f : Context → Context) : (s.modCtx o f).ctx o' = s.ctx o' := by
  cases o with
  | mainSite =>
    cases o' with
    | mainSite => exact absurd rfl h
    | console => rfl
  | console =>
    cases o' with
    | mainSite => rfl
    | console => exact absurd rfl h

theorem ctx_bump (s : State) (key : CounterKey) (o : Origin) : (s.bump key).ctx o = s.ctx o := by cases o <;> rfl

theorem counter_modCtx (s : State) (o : Origin) (f : Context → Context) (key : CounterKey) : (s.modCtx o f).counter key = s.counter key := by
  cases o <;> rfl

/-! ## A report offered (R198) -/

theorem admissionLimit_eq (n : Nat) : admissionLimit n = if n = 1 then 8 else if n = 2 then 24 else 32 := by
  match n with
  | 0 => rfl
  | 1 => rfl
  | 2 => rfl
  | n + 3 => rfl

theorem offer_off {r : Report} (h : (s.ctx o).levels[(reportKind r).val] = 0) : s.offer o r = s := if_pos h

theorem offer_admitted {r : Report} (h : (s.ctx o).levels[(reportKind r).val] ≠ 0)
    (hroom : (s.ctx o).queue.length < admissionLimit (s.ctx o).levels[(reportKind r).val]) :
    s.offer o r = s.modCtx o fun y =>
      { y with
        queue := y.queue ++ [{ sequence := y.nextSequence, position := s.time.h, report := r }], nextSequence := (y.nextSequence + 1) % 65536 } := by
  unfold State.offer
  dsimp only
  rw [if_neg h, if_pos hroom]
  cases o <;> rfl

theorem offer_dropped {r : Report} (h : (s.ctx o).levels[(reportKind r).val] ≠ 0)
    (hroom : ¬(s.ctx o).queue.length < admissionLimit (s.ctx o).levels[(reportKind r).val]) :
    s.offer o r = (s.modCtx o fun y => { y with nextSequence := (y.nextSequence + 1) % 65536 }).bump (.origin o .reportsDropped) := by
  unfold State.offer
  dsimp only
  rw [if_neg h, if_neg hroom]
  cases o <;> rfl

/-- A report offered to an origin is judged by that origin's context, and leaves the other's and what it counts. -/
theorem offer_other (h : o' ≠ o) (s : State) (r : Report) :
    (s.offer o r).ctx o' = s.ctx o' ∧ (s.offer o r).counter (.origin o' .reportsDropped) = s.counter (.origin o' .reportsDropped) := by
  by_cases hoff : (s.ctx o).levels[(reportKind r).val] = 0
  · rw [offer_off hoff]
    exact ⟨rfl, rfl⟩
  · by_cases hroom : (s.ctx o).queue.length < admissionLimit (s.ctx o).levels[(reportKind r).val]
    · rw [offer_admitted hoff hroom, ctx_modCtx_other h, counter_modCtx]
      exact ⟨rfl, rfl⟩
    · rw [offer_dropped hoff hroom, ctx_bump, ctx_modCtx_other h, State.counter_bump, if_neg (by simp [h]), counter_modCtx]
      exact ⟨rfl, rfl⟩

/-- What an offer does to an origin depends on that origin's context, its counter and H. -/
theorem offer_same {s s' : State} (hctx : s'.ctx o = s.ctx o) (hcounter : s'.counter (.origin o .reportsDropped) = s.counter (.origin o .reportsDropped))
    (htime : s'.time = s.time) (r : Report) :
    (s'.offer o r).ctx o = (s.offer o r).ctx o ∧
      (s'.offer o r).counter (.origin o .reportsDropped) = (s.offer o r).counter (.origin o .reportsDropped) := by
  by_cases hoff : (s.ctx o).levels[(reportKind r).val] = 0
  · rw [offer_off hoff, offer_off (by rw [hctx]; exact hoff)]
    exact ⟨hctx, hcounter⟩
  · have hoff' : (s'.ctx o).levels[(reportKind r).val] ≠ 0 := by rw [hctx]; exact hoff
    by_cases hroom : (s.ctx o).queue.length < admissionLimit (s.ctx o).levels[(reportKind r).val]
    · rw [offer_admitted hoff hroom, offer_admitted hoff' (by rw [hctx]; exact hroom), ctx_modCtx_same, ctx_modCtx_same, hctx, htime, counter_modCtx,
        counter_modCtx]
      exact ⟨rfl, hcounter⟩
    · rw [offer_dropped hoff hroom, offer_dropped hoff' (by rw [hctx]; exact hroom), ctx_bump, ctx_bump, ctx_modCtx_same, ctx_modCtx_same, hctx,
        State.counter_bump, State.counter_bump, if_pos rfl, if_pos rfl, counter_modCtx, counter_modCtx, hcounter]
      exact ⟨rfl, rfl⟩

/-! ## Reports sent (R199) -/

/-- Where a run of reports of an origin has been sent: from the head of its queue, on the origin's ports. -/
structure ReportsSent (o : Origin) (l : List QueuedReport) (s t : State) : Prop where
  queue : (s.ctx o).queue = l ++ (t.ctx o).queue
  other : ∀ o', o' ≠ o → t.ctx o' = s.ctx o'
  count : t.counter (.origin o .reportsSent) = if l = [] then s.counter (.origin o .reportsSent) else satAdd (s.counter (.origin o .reportsSent)) l.length
  counters : ∀ key, key ≠ .origin o .reportsSent → t.counter key = s.counter key
  outbox : t.outbox = s.outbox ++ l.flatMap fun r =>
    (s.reportPorts o).map fun p => { port := p, stamp := s.time.h, unitNumber := s.settings.unitNumber, what := .report r }
  time : t.time = s.time
  settings : t.settings = s.settings
  ports : t.ports = s.ports
  console : t.mgmt.consolePort = s.mgmt.consolePort

theorem ReportsSent.refl (o : Origin) (s : State) : ReportsSent o [] s s :=
  ⟨rfl, fun _ _ => rfl, rfl, fun _ _ => rfl, (List.append_nil _).symm, rfl, rfl, rfl, rfl⟩

theorem ReportsSent.reach {l : List QueuedReport} (h : ReportsSent o l s t) (o' : Origin) :
    t.reportPorts o' = s.reportPorts o' ∧ t.reachable o' = s.reachable o' := by
  have hlink : t.linkUp = s.linkUp := funext fun p => by unfold State.linkUp; rw [h.ports]
  unfold State.reportPorts State.reachable
  rw [hlink, h.ports, h.console]
  exact ⟨rfl, rfl⟩

theorem ReportsSent.trans {l l' : List QueuedReport} (h : ReportsSent o l s t) (k : ReportsSent o l' t u) : ReportsSent o (l ++ l') s u := by
  refine ⟨by rw [h.queue, k.queue, List.append_assoc], fun o' ho => (k.other o' ho).trans (h.other o' ho), ?_,
    fun key hk => (k.counters key hk).trans (h.counters key hk), ?_, k.time.trans h.time, k.settings.trans h.settings, k.ports.trans h.ports,
    k.console.trans h.console⟩
  · rw [k.count, h.count]
    by_cases hl : l = []
    · subst hl
      rw [if_pos rfl, List.nil_append]
    · by_cases hl' : l' = []
      · subst hl'
        rw [if_pos rfl, if_neg hl, List.append_nil, if_neg hl]
      · rw [if_neg hl, if_neg hl', if_neg (by simp [hl]), satAdd_satAdd, List.length_append]
  · rw [k.outbox, h.outbox, (h.reach o).1, h.time, h.settings, List.flatMap_append, List.append_assoc]

theorem foldl_send (s : State) (what : Outgoing) (l : List Port) :
    l.foldl (fun t p => t.send p what) s =
      { s with outbox := s.outbox ++ l.map fun p => { port := p, stamp := s.time.h, unitNumber := s.settings.unitNumber, what := what } } := by
  induction l generalizing s with
  | nil => simp
  | cons p l ih =>
    rw [List.foldl_cons, ih]
    simp [State.send]

/-- R199: the report at the head of a queue sent. -/
theorem sendHead_sent (s : State) (o : Origin) : ReportsSent o ((s.ctx o).queue.take 1) s (s.sendHead o) := by
  unfold State.sendHead
  cases hq : (s.ctx o).queue with
  | nil => exact .refl o s
  | cons r rest =>
    dsimp only
    have hctx : ∀ o', ((s.modCtx o fun x => { x with queue := rest }).bump (.origin o .reportsSent)).ctx o' =
        (s.modCtx o fun x => { x with queue := rest }).ctx o' := fun o' => ctx_bump ..
    have hqueue : (((s.modCtx o fun x => { x with queue := rest }).bump (.origin o .reportsSent)).ctx o).queue = rest := by rw [hctx, ctx_modCtx_same]
    have hother : ∀ o', o' ≠ o → ((s.modCtx o fun x => { x with queue := rest }).bump (.origin o .reportsSent)).ctx o' = s.ctx o' := fun o' ho =>
      (hctx o').trans (ctx_modCtx_other ho ..)
    have hcounter : ∀ key, ((s.modCtx o fun x => { x with queue := rest }).bump (.origin o .reportsSent)).counter key =
        if key = .origin o .reportsSent then satAdd (s.counter key) 1 else s.counter key := fun key => by rw [State.counter_bump, counter_modCtx]
    have hrest : let u := (s.modCtx o fun x => { x with queue := rest }).bump (.origin o .reportsSent)
        u.reportPorts o = s.reportPorts o ∧ u.time = s.time ∧ u.settings = s.settings ∧ u.outbox = s.outbox ∧ u.ports = s.ports ∧
          u.mgmt.consolePort = s.mgmt.consolePort := by
      cases o <;> exact ⟨rfl, rfl, rfl, rfl, rfl, rfl⟩
    generalize (s.modCtx o fun x => { x with queue := rest }).bump (.origin o .reportsSent) = u at hqueue hother hcounter hrest ⊢
    obtain ⟨hreport, htime, hsettings, hout, hports, hconsole⟩ := hrest
    rw [foldl_send, hreport]
    refine ⟨?_, fun o' ho => ?_, ?_, fun key hk => ?_, ?_, htime, hsettings, hports, hconsole⟩
    · rw [hq]
      cases o <;> exact congrArg (List.cons r) hqueue.symm
    · cases o' <;> exact hother _ ho
    · exact (hcounter _).trans (if_pos rfl)
    · exact (hcounter _).trans (if_neg hk)
    · dsimp only
      rw [hout, htime, hsettings]
      simp

/-- R199: up to two reports of an origin that can be reached. -/
theorem sendReports_sent (s : State) (o : Origin) :
    ReportsSent o (if s.reachable o then (s.ctx o).queue.take 2 else []) s (s.sendReports o) := by
  unfold State.sendReports
  split
  · have h := sendHead_sent s o
    have k := sendHead_sent (s.sendHead o) o
    have hrest : (s.ctx o).queue.take 1 ++ ((s.sendHead o).ctx o).queue.take 1 = (s.ctx o).queue.take 2 := by
      have hq := h.queue
      generalize ((s.sendHead o).ctx o).queue = rest at hq ⊢
      match hc : (s.ctx o).queue with
      | [] =>
        rw [hc] at hq
        have : rest = [] := by simpa using hq.symm
        rw [this]
        rfl
      | r :: tail =>
        rw [hc] at hq
        have : tail = rest := by simpa using hq
        rw [this]
        rfl
    rw [← hrest]
    exact h.trans k
  · exact .refl o s

/-- Settles O58. -/
theorem reportsAreQueuedAndSent : Obligations.ReportsAreQueuedAndSent := by
  unfold Obligations.ReportsAreQueuedAndSent
  refine ⟨fun s o r => ?_, fun s => ⟨fun r => ⟨rfl, fun o => ?_⟩, fun o p r => ⟨fun hup => ?_, fun hdown => ?_⟩, ?_, ?_, fun h => ?_, fun n hn hup => ?_⟩,
    fun s => ⟨fun h => ?_, fun h => ?_⟩⟩
  · intro x level room
    have hroom : room = admissionLimit level := (admissionLimit_eq level).symm
    refine ⟨fun h => offer_off h, fun h hlt => offer_admitted h (by rw [← hroom]; exact hlt),
      fun h hle => offer_dropped h (by rw [← hroom]; exact Nat.not_lt.2 hle)⟩
  · cases o with
    | mainSite => exact offer_other (by decide) _ r
    | console =>
      obtain ⟨hctx, hcounter⟩ := offer_other (o := .mainSite) (o' := .console) (by decide) s r
      exact offer_same hctx hcounter (State.offer_time ..) r
  · unfold State.reply
    rw [if_pos hup]
    rfl
  · unfold State.reply
    rw [if_neg (by simp [hdown])]
  · exact Bool.or_eq_true_iff
  · unfold State.reachable
    cases hport : s.mgmt.consolePort with
    | none => simp
    | some n => simp
  · exact if_pos h
  · unfold State.reportPorts
    rw [hn]
    simp [hup]
  · exact congrArg Host.Outcome.next (if_neg (by simp [h]))
  · have hexec : exec .report s = .next _ := congrArg Host.Outcome.next (if_pos h)
    have hmain := sendReports_sent { s with work := { s.work with report := false } } .mainSite
    have hconsole := sendReports_sent (({ s with work := { s.work with report := false } } : State).sendReports .mainSite) .console
    refine ⟨_, hexec, ?_⟩
    generalize ({ s with work := { s.work with report := false } } : State).sendReports .mainSite = v at hmain hconsole ⊢
    generalize v.sendReports .console = t at hconsole ⊢
    have hreach : v.reachable .console = s.reachable .console := (hmain.reach .console).2
    have hports : v.reportPorts .console = s.reportPorts .console := (hmain.reach .console).1
    have hvctx : v.ctx .console = s.ctx .console := hmain.other .console (by decide)
    rw [hreach, hvctx] at hconsole
    have hdrop : ∀ {b : Bool} {q rest : List QueuedReport}, q = (if b then q.take 2 else []) ++ rest → rest = if b then q.drop 2 else q := by
      intro b q rest hq
      cases b with
      | false => exact (by simpa using hq : q = rest).symm
      | true =>
        rw [if_pos rfl] at hq ⊢
        exact (List.append_cancel_left ((List.take_append_drop 2 q).trans hq)).symm
    have hcount : ∀ {b : Bool} {q : List QueuedReport} {n : Nat},
        (if (if b then q.take 2 else []) = [] then n else satAdd n (if b then q.take 2 else []).length) =
          if b = true ∧ q ≠ [] then min (n + min q.length 2) 4294967295 else n := by
      intro b q n
      cases b with
      | false => simp
      | true =>
        cases q with
        | nil => simp
        | cons r l =>
          have hlength : min (l.length + 1) 2 = min 1 l.length + 1 := by omega
          simp [satAdd, counterMax, hlength]
    refine ⟨fun o => ?_, fun o => ?_, ?_⟩
    · cases o with
      | mainSite =>
        have : (t.ctx .mainSite).queue = (v.ctx .mainSite).queue := congrArg Context.queue (hconsole.other .mainSite (by decide))
        rw [this]
        exact hdrop hmain.queue
      | console => exact hdrop (by rw [← hvctx]; rw [← hvctx] at hconsole; exact hconsole.queue)
    · cases o with
      | mainSite =>
        rw [hconsole.counters _ (by decide), hmain.count]
        exact hcount
      | console =>
        rw [hconsole.count, hmain.counters _ (by decide)]
        exact hcount
    · rw [hconsole.outbox, hmain.outbox, hports, hmain.time, hmain.settings, List.append_assoc]
      simp only [List.flatMap_cons, List.flatMap_nil, List.append_nil]
      rfl

end Sys2Proof.Machine

/-! PROOFS. What the Channel Controller and the Cue Engine do for a channel is made of few kinds of steps: a property that each keeps, they keep (R126 to R134, R150 to R163). -/

namespace Sys2Proof.Machine

-- Each elaboration thread takes a large stack, and the text is compiled as one file under a memory limit: one thread at a time.
set_option Elab.async false

variable {s : State} {c : Chan} {P : State → Prop}

/-- A counter of a channel that the Continuity Monitor counts: VERDICT_CHANGES and those of the edges. -/
def monitorCounter (k : ChanCtr) : Prop := k = .verdictChanges ∨ ∃ det e, k = edgeCounter det e

/-- Who may command a channel, and in what mode and under what pin it serves (R120, R121). -/
def Control.rule (x : Control) : ServiceMode × Pin × Owner := (x.mode, x.pin, x.owner)

/-- Of a channel, what no cue, no verdict notice and no restart of its monitor changes. -/
structure Standing where
  settings : ChannelSettings
  rule : ServiceMode × Pin × Owner
  align : Align
  slots : Slots
  schedule : Schedule
  work : ChannelWork

/-- The part of a channel that stands so. -/
def Channel.standing (x : Channel) : Standing :=
  { settings := x.settings, rule := x.control.rule, align := x.align, slots := x.slots, schedule := x.schedule, work := x.work }

/-- The counters of a channel that its cues and its takeovers count. -/
def cueCounters : List ChanCtr :=
  [.cancelsSent, .stopsSent, .cueControlsUnsent, .cueFailures, .cuesSent, .noServerFailures, .recomputes, .takeovers, .recordsOverwritten, .guardRestarts,
    .guardCancels]

/-- A property kept by a change of channel `c` that leaves what stands, by a count of its cues and takeovers, and by a carrier that is no REPLY. -/
structure CueSilent (c : Chan) (P : State → Prop) : Prop where
  channel : ∀ (s : State) (f : Channel → Channel), (∀ x, (f x).standing = x.standing) → P s → P (s.modCh c f)
  bump : ∀ (s : State) (k : ChanCtr), k ∈ cueCounters → P s → P (s.bumpCh c k)
  send : ∀ (s : State) (p : Port) (what : Outgoing), (∀ r, what ≠ .reply r) → P s → P (s.send p what)

/-- Kept by a report raised, too. -/
structure CueStable (c : Chan) (P : State → Prop) : Prop extends CueSilent c P where
  raise : ∀ (s : State) (r : Report), P s → P (s.raise r)

theorem not_monitorCounter {k : ChanCtr} (h : k ≠ .verdictChanges) (he : ∀ det e, k ≠ edgeCounter det e) : ¬monitorCounter k := by
  rintro (hk | ⟨det, e, hk⟩)
  · exact h hk
  · exact he det e hk

theorem cueCounters_not_monitor {k : ChanCtr} (h : k ∈ cueCounters) : ¬monitorCounter k := by
  refine not_monitorCounter (fun hk => ?_) fun det e hk => ?_
  · rw [hk] at h
    exact absurd h (by decide)
  · rw [hk] at h
    exact absurd h (by cases det <;> cases e <;> decide)

namespace CueSilent

variable (h : CueSilent c P)
include h

theorem modControl (hs : P s) (f : Control → Control) (hf : ∀ y, (f y).rule = y.rule := by exact fun _ => rfl) : P (s.modControl c f) :=
  h.channel _ _ (fun x => congrArg (fun r => { x.standing with rule := r }) (hf x.control)) hs
theorem modCue (hs : P s) (f : CueContext → CueContext) : P (s.modCue c f) := h.channel _ _ (fun _ => rfl) hs
theorem setState (hs : P s) (x : ChannelState) : P (s.setState c x) := h.channel _ _ (fun _ => rfl) (h.modControl hs _)

theorem modRecord (hs : P s) (f : TakeoverRecord → TakeoverRecord) : P (s.modRecord c f) := by
  rw [State.modRecord_eq]
  exact h.modControl hs _

theorem sendCancel (hs : P s) (server : Fin 8) (player number : Nat) : P (s.sendCancel c server player number) := by
  unfold State.sendCancel
  split
  · exact h.send _ _ _ nofun (h.bump _ _ (by decide) hs)
  · exact h.bump _ _ (by decide) hs

theorem sendStop (hs : P s) (server : Fin 8) (player number : Nat) : P (s.sendStop c server player number) := by
  unfold State.sendStop
  split
  · exact h.send _ _ _ nofun (h.bump _ _ (by decide) hs)
  · exact h.bump _ _ (by decide) hs

theorem cancelCue (hs : P s) (x : Cue) : P (s.cancelCue c x) := by
  unfold State.cancelCue
  split
  · exact hs
  · exact h.sendCancel hs _ _ _
  · exact hs

theorem cancelPending (hs : P s) : P (s.cancelPending c) := by
  unfold State.cancelPending
  split
  · exact hs
  · exact h.modCue (h.cancelCue hs _) _

theorem stopPlaying (hs : P s) : P (s.stopPlaying c) := by
  unfold State.stopPlaying
  split
  · exact hs
  · dsimp only
    split
    · exact h.modCue (h.sendStop hs _ _ _) _
    · exact h.modCue hs _

theorem requestCancel (hs : P s) : P (s.requestCancel c) := by
  unfold State.requestCancel State.clearWait
  exact h.modCue (h.cancelPending hs) _

theorem startGuard (hs : P s) : P (s.startGuard c) := by
  unfold State.startGuard
  split
  · exact h.setState (h.modControl hs _) _
  · exact h.setState (h.modControl (h.requestCancel hs) _) _
  · exact hs

theorem sendCue (hs : P s) (p : Port) (kind : CueKind) (e : Event) (offset t used limit : Nat) : P (s.sendCue c p kind e offset t used limit) := by
  unfold State.sendCue
  exact h.send _ _ _ nofun (h.bump _ _ (by decide) (h.modCue hs _))

theorem writeLink (hs : P s) (j : JoinChoice) : P (s.writeLink c j) := by
  unfold State.writeLink
  split
  · dsimp only
    split
    · exact h.modCue (h.modRecord hs _) _
    · exact h.modCue hs _
  · exact hs

theorem noSchedule (hs : P s) : P (s.noSchedule c) := by
  unfold State.noSchedule
  split
  · exact h.setState (h.modRecord hs _) _
  · exact h.modRecord hs _
  · exact h.stopPlaying (h.setState hs _)
  · exact h.modControl hs _
  · exact h.modControl hs _
  · exact hs

theorem openRecord (hs : P s) (cause : TakeoverCause) (asserted : List Detector) (origin : Option Origin) : P (s.openRecord c cause asserted origin) := by
  unfold State.openRecord
  dsimp only
  split
  · exact h.modControl (h.bump _ _ (by decide) hs) _
  · exact h.modControl hs _

theorem cueingFailed (hs : P s) (asserted : List Detector) : P (s.cueingFailed c asserted) := by
  unfold State.cueingFailed
  exact h.setState (h.modControl (h.modRecord hs _) _) _

theorem runFollowOn (fuel : Nat) (hs : P s) (used limit : Nat) : P (State.runFollowOn fuel s c used limit) := by
  induction fuel generalizing s used with
  | zero => exact hs
  | succ fuel ih =>
    unfold State.runFollowOn
    split
    · exact hs
    · dsimp only
      split
      · exact h.sendCue hs _ _ _ _ _ _ _
      · have counted := h.bump _ .noServerFailures (by decide) hs
        split
        · exact ih counted _
        · exact h.modCue counted _

theorem followOnCheck (hs : P s) : P (s.followOnCheck c) := h.runFollowOn _ hs _ _

/-- A notice that is not FAILED, or one that finds the channel in no state to take it, raises no report. -/
theorem takeVerdict_mild (hs : P s) {n : VerdictNotice} (hn : n.chan = c) (hnew : n.new ≠ .failed) : P (s.takeVerdict n) := by
  unfold State.takeVerdict
  rw [hn]
  dsimp only
  split
  · rename_i hfailed
    exact absurd hfailed hnew
  · rename_i hfailed
    exact absurd hfailed hnew
  · split
    · exact h.startGuard hs
    · exact hs
  · split
    · exact h.startGuard hs
    · exact hs
  · exact h.modControl (h.bump _ _ (by decide) hs) _
  · rename_i hfailed
    exact absurd hfailed hnew
  · rename_i hfailed
    exact absurd hfailed hnew
  · exact hs

end CueSilent

namespace CueStable

variable (h : CueStable c P)
include h

theorem cueFailed (hs : P s) : P (s.cueFailed c) := by
  unfold State.cueFailed
  exact h.raise _ _ (h.bump _ _ (by decide) hs)

theorem exhausted (hs : P s) : P (s.exhausted c) := by
  unfold State.exhausted
  split
  · exact h.cueFailed (h.modControl (h.setState (h.modRecord hs _) _) _)
  · exact h.cueFailed (h.modRecord hs _)
  · exact h.cueFailed (h.stopPlaying (h.setState hs _))
  · exact h.cueFailed (h.modControl hs _)
  · exact h.cueFailed (h.modControl hs _)
  · exact hs

theorem runJoin (fuel : Nat) (hs : P s) (used limit : Nat) : P (State.runJoin fuel s c used limit) := by
  induction fuel generalizing s used with
  | zero => exact hs
  | succ fuel ih =>
    unfold State.runJoin
    dsimp only
    have linked := h.writeLink hs (s.chooseJoin c)
    split
    · exact h.noSchedule (h.modCue linked _)
    · split
      · exact h.sendCue linked _ _ _ _ _ _ _
      · have counted := h.bump _ .noServerFailures (by decide) linked
        split
        · exact ih counted _
        · exact h.exhausted counted

theorem requestJoin (hs : P s) : P (s.requestJoin c) := h.runJoin _ (h.requestCancel hs) _ _

theorem takeover (hs : P s) (cause : TakeoverCause) (asserted : List Detector) (origin : Option Origin) : P (s.takeover c cause asserted origin) := by
  unfold State.takeover
  split
  · exact h.requestJoin (h.modCue (h.raise _ _ (h.bump _ _ (by decide)
      (h.setState (h.modControl (h.openRecord hs _ _ _) _) _))) _)
  · exact hs

theorem callOffReturn (hs : P s) : P (s.callOffReturn c) := by
  have counted : P (if s.chState c = .returnGuard then s.bumpCh c .guardCancels else s) := by
    split
    · exact h.bump _ _ (by decide) hs
    · exact hs
  unfold State.callOffReturn State.callOff
  dsimp only
  have called := h.modControl counted fun y => { y with guard := none, returnPosition := none, returnOrigin := none }
  split
  · exact h.requestJoin (h.setState called _)
  · exact h.requestJoin (h.stopPlaying (h.setState called _))
  · exact h.followOnCheck (h.setState called _)

/-- A verdict notice, whatever it is. -/
theorem takeVerdict (hs : P s) {n : VerdictNotice} (hn : n.chan = c) : P (s.takeVerdict n) := by
  unfold State.takeVerdict
  rw [hn]
  dsimp only
  split
  · split
    · exact h.takeover hs _ _ _
    · exact hs
  · split
    · exact h.cueingFailed hs _
    · exact hs
  · split
    · exact h.startGuard hs
    · exact hs
  · split
    · exact h.startGuard hs
    · exact hs
  · exact h.modControl (h.bump _ _ (by decide) hs) _
  · exact h.callOffReturn hs
  · split
    · exact h.callOffReturn hs
    · exact hs
  · exact hs

end CueStable

end Sys2Proof.Machine

/-! PROOFS. A monitor restarted, and what the restarts of every channel in service leave (R70, R71, R79). -/

namespace Sys2Proof.Machine

-- Each elaboration thread takes a large stack, and the text is compiled as one file under a memory limit: one thread at a time.
set_option Elab.async false

variable {s t u : State} {c : Chan} {P : State → Prop}

/-! ## The detectors (R79) -/

/-- R79: what a warm restart leaves of a detector: an enabled one starts settling, a disabled one loses its runs. -/
def restartedDetector (cfg : DetectorSettings) (x : DetectorState) : DetectorState :=
  if cfg.enabled then startSettling cfg x else { x with bad := 0, good := 0 }

/-- A channel with its detectors restarted, its verdict not yet evaluated. -/
def Channel.restarted (x : Channel) : Channel :=
  { x with monitor := { x.monitor with detectors := Vector.ofFn fun i => restartedDetector x.settings.detectors[i.val] x.monitor.detectors[i.val] } }

/-- The part with the detectors of one channel restarted. -/
def State.detectorsRestarted (s : State) (c : Chan) : State := s.modCh c Channel.restarted

theorem eachDetector_rest (s : State) (c : Chan) (f : DetectorSettings → DetectorState → DetectorState) :
    ({ s.eachDetector c f with chans := s.chans } : State) = s := by
  unfold State.eachDetector
  refine List.foldlRecOn (motive := fun t : State => ({ t with chans := s.chans } : State) = s) _ _ rfl fun t ht det _ => ?_
  exact ht

theorem eachDetector_others (s : State) (f : DetectorSettings → DetectorState → DetectorState) {c' : Chan} (h : c' ≠ c) :
    (s.eachDetector c f).ch c' = s.ch c' := ((Elsewhere.refl c s).eachDetector f).others c' h

theorem detectors_ext {x y : Channel} (hrest : x.undetected = y.undetected) (hdet : ∀ det, x.detState det = y.detState det) : x = y := by
  obtain ⟨settings, slots, align, ⟨detectors, verdict, reference, edges⟩, schedule, control, cue, output⟩ := x
  obtain ⟨settings', slots', align', ⟨detectors', verdict', reference', edges'⟩, schedule', control', cue', output'⟩ := y
  have hdetectors : detectors = detectors' := Vector.ext fun i hi => by
    match i, hi with
    | 0, _ => exact hdet .arrival
    | 1, _ => exact hdet .freeze
    | 2, _ => exact hdet .black
    | 3, _ => exact hdet .silence
  subst hdetectors
  cases hrest
  rfl

theorem restarted_detState (x : Channel) (det : Detector) : x.restarted.detState det = restartedDetector (x.detCfg det) (x.detState det) := by
  simp [Channel.restarted, Channel.detState, Channel.detCfg]

/-- The detectors updated in turn are the detectors updated at once. -/
theorem eachDetector_restarted (s : State) (c : Chan) :
    (s.eachDetector c fun cfg x => if cfg.enabled then startSettling cfg x else { x with bad := 0, good := 0 }) = s.detectorsRestarted c := by
  have hrest : { s.eachDetector c restartedDetector with chans := (s.detectorsRestarted c).chans } = s.detectorsRestarted c :=
    congrArg (fun u : State => { u with chans := (s.detectorsRestarted c).chans }) (eachDetector_rest s c restartedDetector)
  refine State.eq_of_ch hrest fun c' => ?_
  by_cases h : c' = c
  · subst h
    rw [State.detectorsRestarted, State.ch_modCh_same]
    refine detectors_ext ((eachDetector_undetected ..).trans rfl) fun det => ?_
    rw [eachDetector_detState, restarted_detState]
    rfl
  · rw [State.detectorsRestarted, State.ch_modCh_ne _ _ _ _ h]
    exact eachDetector_others s _ h

/-! ## The verdict (R68 to R70) -/

theorem restarted_latched (x : Channel) (det : Detector) : (x.restarted.detState det).latched = (x.detState det).latched := by
  rw [restarted_detState]
  unfold restartedDetector
  split <;> rfl

theorem restarted_bad (x : Channel) (det : Detector) : (x.restarted.detState det).bad = 0 := by
  rw [restarted_detState]
  unfold restartedDetector
  split <;> rfl

theorem restarted_detCfg (x : Channel) (det : Detector) : x.restarted.detCfg det = x.detCfg det := rfl
theorem restarted_counted (x : Channel) (det : Detector) : x.restarted.counted det = x.counted det := rfl

theorem restarted_stands (x : Channel) (det : Detector) : x.restarted.stands det = x.stands det := by
  unfold Channel.stands standsAsserted
  rw [restarted_latched, restarted_detCfg]

/-- R79: with the latched verdicts kept and the runs lost, FAILED stays and SUSPECT may become HEALTHY. -/
theorem evaluate_restarted (x : Channel) : x.restarted.evaluate = x.evaluate ∨ x.evaluate = .suspect ∧ x.restarted.evaluate = .healthy := by
  have hfailing : x.restarted.failing = x.failing := funext fun det => by
    unfold Channel.failing
    rw [restarted_stands, restarted_detCfg]
    rfl
  have hpair : x.restarted.pairFailing = x.pairFailing := by
    unfold Channel.pairFailing
    simp only [restarted_stands, restarted_counted, restarted_detCfg]
  have hfailed : x.restarted.evaluate = .failed ↔ x.evaluate = .failed := by
    rw [evaluate_failed, evaluate_failed, hfailing, hpair]
    rfl
  have hhealthy : x.evaluate = .healthy → x.restarted.evaluate = .healthy := by
    rw [evaluate_healthy_iff, evaluate_healthy_iff]
    exact fun h det hcounted => ⟨(restarted_latched x det).trans (h det hcounted).1, restarted_bad x det⟩
  cases hx : x.evaluate with
  | failed => exact .inl (hfailed.2 hx)
  | healthy => exact .inl (hhealthy hx)
  | suspect =>
    cases hr : x.restarted.evaluate with
    | suspect => exact .inl rfl
    | healthy => exact .inr ⟨rfl, rfl⟩
    | failed => rw [hfailed.1 hr] at hx; exact absurd hx (by decide)

/-! ## A monitor restarted (R71, R79) -/

/-- The notice of a verdict that a restart changes (R71). -/
def State.restartNotice (s : State) (c : Chan) : VerdictNotice :=
  { chan := c, old := (s.ch c).monitor.verdict, new := (s.ch c).restarted.evaluate, position := s.time.h, cause := .restart
    asserted := (s.ch c).restarted.assertedList }

/-- The part with the detectors of a channel restarted, and its verdict held anew and counted. -/
def State.verdictRestarted (s : State) (c : Chan) : State :=
  ((s.detectorsRestarted c).modMonitor c fun m => { m with verdict := (s.ch c).restarted.evaluate }).bump (.chan c .verdictChanges)

theorem detectorsRestarted_ch (s : State) (c : Chan) : (s.detectorsRestarted c).ch c = (s.ch c).restarted := State.ch_modCh_same ..

theorem monitorRestart_eq (s : State) (c : Chan) :
    s.monitorRestart c =
      if (s.ch c).restarted.evaluate = (s.ch c).monitor.verdict then s.detectorsRestarted c
      else (s.verdictRestarted c).takeVerdict (s.restartNotice c) := by
  unfold State.monitorRestart
  rw [eachDetector_restarted, evaluate_change, detectorsRestarted_ch]
  rfl

/-- A property that the steps for the channel keep, and its count of verdicts, a restart keeps. -/
theorem CueStable.monitorRestart (h : CueStable c P) (hcount : ∀ s, P s → P (s.bump (.chan c .verdictChanges))) (hs : P s) :
    P (s.monitorRestart c) := by
  have hdetectors := h.channel s Channel.restarted (fun _ => rfl) hs
  rw [monitorRestart_eq]
  split
  · exact hdetectors
  · exact h.takeVerdict (hcount _ (h.channel _ _ (by exact fun _ => rfl) hdetectors)) rfl

/-- The same without a report, where the verdict does not become FAILED. -/
theorem CueSilent.monitorRestart (h : CueSilent c P) (hcount : ∀ s, P s → P (s.bump (.chan c .verdictChanges))) (hs : P s)
    (hmild : (s.ch c).restarted.evaluate = (s.ch c).monitor.verdict ∨ (s.ch c).restarted.evaluate ≠ .failed) : P (s.monitorRestart c) := by
  have hdetectors := h.channel s Channel.restarted (fun _ => rfl) hs
  rw [monitorRestart_eq]
  split
  · exact hdetectors
  · exact h.takeVerdict_mild (hcount _ (h.channel _ _ (by exact fun _ => rfl) hdetectors)) rfl (hmild.resolve_left ‹_›)

/-- A restart of the monitor, but for its detectors, leaves of the channel what its notice leaves. -/
theorem monitorRestart_ch (s : State) (c : Chan) :
    SameButCues { (s.ch c).restarted with monitor := { (s.ch c).restarted.monitor with verdict := (s.ch c).restarted.evaluate } } ((s.monitorRestart c).ch c) ∧
      ((s.ch c).restarted.evaluate = (s.ch c).monitor.verdict → (s.monitorRestart c).ch c = (s.ch c).restarted) := by
  rw [monitorRestart_eq]
  split
  · rename_i hsame
    rw [detectorsRestarted_ch]
    refine ⟨?_, fun _ => rfl⟩
    rw [hsame]
    rfl
  · rename_i hchange
    refine ⟨?_, fun h => absurd h hchange⟩
    have hnotice := (CueLocal.takeVerdict (s.restartNotice c) (.refl c (s.verdictRestarted c))).channel
    have hheld : (s.verdictRestarted c).ch c =
        { (s.ch c).restarted with monitor := { (s.ch c).restarted.monitor with verdict := (s.ch c).restarted.evaluate } } := by
      unfold State.verdictRestarted
      rw [State.ch_bump, State.ch_modMonitor_same, detectorsRestarted_ch]
    rw [← hheld]
    exact hnotice

/-- What a restart counts of the monitor's counters: the verdict's change, and nothing else. -/
theorem monitorRestart_counter (s : State) (c : Chan) {k : ChanCtr} (hk : monitorCounter k) :
    (s.monitorRestart c).counter (.chan c k) =
      if k = .verdictChanges ∧ (s.ch c).restarted.evaluate ≠ (s.ch c).monitor.verdict then satAdd (s.counter (.chan c k)) 1 else s.counter (.chan c k) := by
  have hstable : ∀ n, CueStable c fun u => u.counter (.chan c k) = n := fun n =>
    { channel := fun _ _ _ h => h
      bump := fun u k' hk' h => by
        unfold State.bumpCh
        rw [State.counter_bump, if_neg (fun e => by cases e; exact cueCounters_not_monitor hk' hk), h]
      send := fun u p what _ h => by rw [State.counter_send, h]
      raise := fun u r h => (State.counter_raise u r (.chan c k) nofun).trans h }
  rw [monitorRestart_eq]
  split
  · rename_i hsame
    rw [if_neg (by simp [hsame])]
    exact (hstable _).channel s Channel.restarted (fun _ => rfl) rfl
  · rename_i hchange
    refine ((hstable _).takeVerdict rfl rfl).trans ?_
    unfold State.verdictRestarted
    rw [State.counter_bump, State.counter_modMonitor]
    by_cases hv : k = .verdictChanges
    · rw [if_pos (by rw [hv]), if_pos ⟨hv, hchange⟩]
      rfl
    · rw [if_neg (by simpa using hv), if_neg (by simp [hv])]
      rfl

end Sys2Proof.Machine

/-! PROOFS. A warm restart: what it discards, what its reports leave in the queues, and its end (R79, R92, R202, R203). -/

namespace Sys2Proof.Machine

-- Each elaboration thread takes a large stack, and the text is compiled as one file under a memory limit: one thread at a time.
set_option Elab.async false

variable {s t u : State} {c : Chan} {o : Origin} {rx : ControlRx} {P : State → Prop}

/-! ## Each channel in turn, before it has been met -/

/-- Work done on each channel in turn finds each channel as it was before. -/
theorem State.eachChannel_fresh {f : Chan → State → State} (alone : ∀ c c' t, c' ≠ c → (f c t).ch c' = t.ch c')
    (step : ∀ c t, P t → t.ch c = s.ch c → P (f c t)) (h : P s) : P (s.eachChannel f) := by
  have key : ∀ (l : List Chan) (t : State), l.Nodup → (∀ c ∈ l, t.ch c = s.ch c) → P t → P (l.foldl (fun t c => f c t) t) := by
    intro l
    induction l with
    | nil => exact fun t _ _ ht => ht
    | cons c l ih =>
      intro t hn hl ht
      obtain ⟨hc, hn⟩ := List.nodup_cons.1 hn
      refine ih (f c t) hn (fun c' hc' => ?_) (step c t ht (hl c List.mem_cons_self))
      rw [alone c c' t fun e => hc (e ▸ hc'), hl c' (List.mem_cons_of_mem _ hc')]
  exact key Chan.all s Chan.nodup_all (fun _ _ => rfl) h

/-! ## The report queues after a warm restart (R198, R203) -/

/-- A context whose queue a warm restart emptied: its reports are the first of their sequence, raised at `h`, and the next number is their count until 24
have been admitted. -/
structure Begun (h : Nat) (x : Context) : Prop where
  levels : x.levels = Vector.replicate 8 2
  entries : ∀ (i : Nat) (y : QueuedReport), x.queue[i]? = some y → y.sequence = i ∧ y.position = h
  length : x.queue.length ≤ 24
  next : x.queue.length < 24 → x.nextSequence = x.queue.length

theorem begun_reset (h : Nat) : Begun h .reset := ⟨rfl, fun i y hi => absurd hi (by simp [Context.reset]), by decide, fun _ => rfl⟩

theorem Begun.accept {h : Nat} {x : Context} (hx : Begun h x) (hroom : x.queue.length < 24) (r : Report) :
    Begun h { x with queue := x.queue ++ [{ sequence := x.nextSequence, position := h, report := r }], nextSequence := (x.nextSequence + 1) % 65536 } := by
  refine ⟨hx.levels, fun i y hi => ?_, ?_, fun _ => ?_⟩
  · rcases Nat.lt_or_ge i x.queue.length with hlt | hge
    · exact hx.entries i y (by rwa [List.getElem?_append_left hlt] at hi)
    · obtain ⟨hsingle, rfl⟩ : i - x.queue.length = 0 ∧ { sequence := x.nextSequence, position := h, report := r } = y := by
        simpa [List.getElem?_append_right hge, List.getElem?_singleton] using hi
      exact ⟨(hx.next hroom).trans (by omega), rfl⟩
  · rw [List.length_append]
    exact hroom
  · rw [hx.next hroom, List.length_append]
    exact Nat.mod_eq_of_lt (by omega)

theorem Begun.drop {h : Nat} {x : Context} (hx : Begun h x) (hroom : ¬x.queue.length < 24) :
    Begun h { x with nextSequence := (x.nextSequence + 1) % 65536 } := ⟨hx.levels, hx.entries, hx.length, fun hlt => absurd hlt hroom⟩

/-- The part whose two contexts a warm restart has begun afresh. -/
def QueuesBegun (h : Nat) (s : State) : Prop := s.time.h = h ∧ ∀ o, Begun h (s.ctx o)

theorem modCtx_time (s : State) (o : Origin) (f : Context → Context) : (s.modCtx o f).time = s.time := by cases o <;> rfl

theorem QueuesBegun.offer {h : Nat} (hs : QueuesBegun h s) (o : Origin) (r : Report) : QueuesBegun h (s.offer o r) := by
  have hlevel : (s.ctx o).levels[(reportKind r).val] = 2 := by simp [(hs.2 o).levels]
  have hlimit : admissionLimit (s.ctx o).levels[(reportKind r).val] = 24 := by rw [hlevel]; rfl
  have hon : (s.ctx o).levels[(reportKind r).val] ≠ 0 := by rw [hlevel]; decide
  by_cases hroom : (s.ctx o).queue.length < 24
  · rw [offer_admitted hon (by rw [hlimit]; exact hroom)]
    refine ⟨(congrArg Timeline.h (modCtx_time ..)).trans hs.1, fun o' => ?_⟩
    by_cases ho : o' = o
    · subst ho
      rw [ctx_modCtx_same, hs.1]
      exact (hs.2 o').accept hroom r
    · rw [ctx_modCtx_other ho]
      exact hs.2 o'
  · rw [offer_dropped hon (by rw [hlimit]; exact hroom)]
    refine ⟨(congrArg Timeline.h (modCtx_time ..)).trans hs.1, fun o' => ?_⟩
    rw [ctx_bump]
    by_cases ho : o' = o
    · subst ho
      rw [ctx_modCtx_same]
      exact (hs.2 o').drop hroom
    · rw [ctx_modCtx_other ho]
      exact hs.2 o'

theorem QueuesBegun.stable (h : Nat) (c : Chan) : CueStable c (QueuesBegun h) where
  channel _ _ _ hs := hs
  bump u k _ hs := ⟨hs.1, fun o => (ctx_bump u (.chan c k) o).symm ▸ hs.2 o⟩
  send _ _ _ _ hs := hs
  raise _ r hs := (hs.offer .mainSite r).offer .console r

/-- The queues and what they have dropped are as they were in `s`. -/
def QueuesQuiet (s t : State) : Prop := ∀ o, t.ctx o = s.ctx o ∧ t.counter (.origin o .reportsDropped) = s.counter (.origin o .reportsDropped)

theorem QueuesQuiet.bump (h : QueuesQuiet s t) (k : ChanCtr) : QueuesQuiet s (t.bump (.chan c k)) := fun o =>
  ⟨(ctx_bump ..).trans (h o).1, (State.counter_bump ..).trans ((if_neg (by simp)).trans (h o).2)⟩

theorem QueuesQuiet.silent (s : State) (c : Chan) : CueSilent c (QueuesQuiet s) where
  channel _ _ _ ht := ht
  bump _ k _ ht := ht.bump k
  send _ _ _ _ ht := ht

theorem noReply_stable (s : State) (c : Chan) : CueStable c (NoReply s) where
  channel _ _ _ ht := ht.trans (.of_outbox rfl)
  bump _ _ _ ht := ht.trans (.of_outbox rfl)
  send _ p _ hr ht := ht.trans (.send _ p hr)
  raise _ _ ht := ht.trans (.of_outbox (State.raise_outbox ..))

/-! ## The monitors of the channels in service (R79, R203) -/

/-- A channel's part in a warm restart. -/
def State.restartIn (c : Chan) (t : State) : State := if t.inService c then t.monitorRestart c else t

/-- Every channel in service with its monitor restarted. -/
def State.monitorsRestarted (s : State) : State := s.eachChannel State.restartIn

theorem restartIn_elsewhere (c : Chan) (t : State) : Elsewhere c t (t.restartIn c) := by
  unfold State.restartIn
  split
  · exact (Elsewhere.refl c t).monitorRestart
  · exact .refl c t

theorem restartIn_around (c : Chan) (t : State) : Around c t (State.restartIn c t) := (restartIn_elsewhere c t).beside.around

/-- A property that every channel's steps and its count of verdicts keep, the restarts keep. -/
theorem CueStable.monitorsRestarted (h : ∀ c, CueStable c P) (hcount : ∀ c s, P s → P (s.bump (.chan c .verdictChanges))) (hs : P s) :
    P s.monitorsRestarted :=
  State.eachChannel_keeps (fun c t ht => by
    unfold State.restartIn
    split
    · exact (h c).monitorRestart (hcount c) ht
    · exact ht) hs

theorem CueSilent.monitorsRestarted (h : ∀ c, CueSilent c P) (hcount : ∀ c s, P s → P (s.bump (.chan c .verdictChanges))) (hs : P s)
    (hmild : ∀ c, s.inService c = true → (s.ch c).restarted.evaluate = (s.ch c).monitor.verdict ∨ (s.ch c).restarted.evaluate ≠ .failed) :
    P s.monitorsRestarted :=
  State.eachChannel_fresh (fun c c' t hc => (restartIn_elsewhere c t).others c' hc) (fun c t ht hc => by
    unfold State.restartIn
    split
    · rename_i hin
      refine (h c).monitorRestart (hcount c) ht ?_
      rw [hc]
      refine hmild c ?_
      unfold State.inService at hin ⊢
      rwa [← hc]
    · exact ht) hs

/-- What the restarts leave of the unit. -/
theorem monitorsRestarted_unit (s : State) :
    s.monitorsRestarted.time = s.time ∧ s.monitorsRestarted.site = s.site ∧ s.monitorsRestarted.poolFree = s.poolFree ∧
      s.monitorsRestarted.slates = s.slates ∧ s.monitorsRestarted.settings = s.settings ∧ s.monitorsRestarted.pending = s.pending ∧
      s.monitorsRestarted.mgmt.quiet = s.mgmt.quiet :=
  State.eachChannel_keeps (P := fun u => u.time = s.time ∧ u.site = s.site ∧ u.poolFree = s.poolFree ∧ u.slates = s.slates ∧ u.settings = s.settings ∧
      u.pending = s.pending ∧ u.mgmt.quiet = s.mgmt.quiet) (fun c t h => by
    obtain ⟨htime, hsite, hpool, hslates, hsettings, hpending, hmgmt⟩ := h
    have k := restartIn_elsewhere c t
    exact ⟨k.time.trans htime, k.site.trans hsite, k.poolFree.trans hpool, k.slates.trans hslates, k.settings.trans hsettings, k.pending.trans hpending,
      k.mgmt.trans hmgmt⟩) ⟨rfl, rfl, rfl, rfl, rfl, rfl, rfl⟩

/-- What the restarts leave of a channel in service. -/
theorem monitorsRestarted_in (h : s.inService c = true) :
    SameButCues { (s.ch c).restarted with monitor := { (s.ch c).restarted.monitor with verdict := (s.ch c).restarted.evaluate } } (s.monitorsRestarted.ch c) ∧
      ((s.ch c).restarted.evaluate = (s.ch c).monitor.verdict → s.monitorsRestarted.ch c = (s.ch c).restarted) ∧
      ∀ k, monitorCounter k → s.monitorsRestarted.counter (.chan c k) =
        if k = .verdictChanges ∧ (s.ch c).restarted.evaluate ≠ (s.ch c).monitor.verdict then satAdd (s.counter (.chan c k)) 1 else s.counter (.chan c k) := by
  obtain ⟨u, hu, hafter⟩ := State.eachChannel_at restartIn_around s c
  have hin : u.inService c = true := by
    unfold State.inService at h ⊢
    rwa [hu.channel]
  have hrestart : State.restartIn c u = u.monitorRestart c := if_pos hin
  rw [hrestart] at hafter
  change AwayFrom c _ s.monitorsRestarted at hafter
  obtain ⟨hch, hsame⟩ := monitorRestart_ch u c
  rw [hafter.channel, ← hu.channel]
  refine ⟨hch, hsame, fun k hk => ?_⟩
  rw [hafter.counters, monitorRestart_counter u c hk, hu.counters]

/-- The restarts leave a channel out of service as it was. -/
theorem monitorsRestarted_out (h : s.inService c = false) : s.monitorsRestarted.ch c = s.ch c := by
  obtain ⟨u, hu, hafter⟩ := State.eachChannel_at restartIn_around s c
  have hin : u.inService c = false := by
    unfold State.inService at h ⊢
    rwa [hu.channel]
  have hrestart : State.restartIn c u = u := if_neg (by rw [hin]; decide)
  rw [hrestart] at hafter
  exact hafter.channel.trans hu.channel

end Sys2Proof.Machine

/-! PROOFS. WARM_RESTART as a whole, and what it discards until its end (R79, R92, R202, R203). -/

namespace Sys2Proof.Machine

-- Each elaboration thread takes a large stack, and the text is compiled as one file under a memory limit: one thread at a time.
set_option Elab.async false

variable {s t u : State} {c : Chan} {o : Origin} {rx : ControlRx} {i : Instr}

/-! ## What is discarded while a warm restart is in progress (R203) -/

theorem requestOf_carries (h : requestOf i = some rx) : ∃ r code time, Carries i rx r code time := by
  unfold requestOf at h
  cases hchannel : channelCommand i with
  | some x =>
    obtain ⟨rx', code⟩ := x
    rw [hchannel] at h
    cases h
    unfold channelCommand at hchannel
    cases hown : ownerCommand i with
    | some y =>
      rw [hown] at hchannel
      cases hchannel
      obtain ⟨k, hk, -⟩ := carries_ownerCommand hown
      exact ⟨_, _, _, hk⟩
    | none =>
      rw [hown] at hchannel
      obtain ⟨r, hr, -⟩ := carries_consoleChannelCommand hchannel
      exact ⟨_, _, _, hr⟩
  | none =>
    rw [hchannel] at h
    cases hconsole : consoleCommand i with
    | some x =>
      obtain ⟨rx', code⟩ := x
      rw [hconsole] at h
      cases h
      obtain ⟨r, time, hr, -⟩ := carries_consoleCommand hconsole
      exact ⟨_, _, _, hr⟩
    | none =>
      rw [hconsole] at h
      cases i <;> cases h <;> exact ⟨_, _, _, fun _ => rfl, trivial, rfl⟩

/-- A carrier of an origin in range reaches the routing of origins, also while a warm restart is in progress. -/
theorem receive_inRange (hs : s.settled = true) (hl : s.loading = false) (hstamp : rx.stamp < s.cycle) (hchannel : rx.channel < 16 ∨ rx.channel = 255)
    (ho : fromOrigin o rx = true) (r : Request) (time : Nat) : s.catchUp.receiveControl rx r time = (s.heard rx).routeOrigin o rx r time := by
  rw [State.catchUp_settled hs]
  obtain ⟨port, stamp, channel, sender, request, group⟩ := rx
  have hrange : ∀ p k, (s.bump (.port p k)).controlInRange stamp channel = true := fun p k => by
    have : stamp < (s.bump (.port p k)).cycle := hstamp
    simp [State.controlInRange, this, hchannel]
  have hload : ∀ p k, (s.bump (.port p k)).loading = false := fun _ _ => hl
  cases o <;> rcases port with side | n | side <;> simp [fromOrigin] at ho <;> subst ho <;>
    simp [State.receiveControl, State.countCarrier, State.markTraffic, State.senderOf, State.noteConsole, State.heard, hrange, hload]

theorem route_restarting {owed : ReplyTo} (h : s.mgmt.restarting = some owed) {r : Request} (hr : Answerable r) (time : Nat) :
    s.routeOrigin o rx r time = s.bump (.whole .restartDiscards) := by
  unfold State.routeOrigin State.unlessRestarting
  rw [h]
  cases r with
  | keepalive | schedule | ready | refused | outbound | unknown | malformed => exact hr.elim
  | _ => rfl

/-! ## WARM_RESTART (R203) -/

/-- The part as WARM_RESTART leaves it before the monitors restart. -/
def State.restartBegun (x : State) (rx : ControlRx) : State :=
  { x with
    mgmt :=
      { x.mgmt with
        mainSite := .reset, console := .reset, consolePort := none, save := x.mgmt.save.map fun y => { y with reply := none }
        restarting := some { port := rx.port, request := rx.request }, resetCause := .warmRestart
        warmRestarts := min (x.mgmt.warmRestarts + 1) 4294967295 } }

/-- The part as WARM_RESTART leaves it. -/
def State.warmRestarted (x : State) (rx : ControlRx) : State := (x.restartBegun rx).monitorsRestarted.modSite Site.restart

theorem exec_warmRestart (h : Whole s .console rx) : exec (.warmRestart rx) s = .next ((s.heard rx).warmRestarted rx) := by
  refine congrArg Host.Outcome.next ((heard_passOn (r := .warmRestart) h.1 trivial rfl 0).trans ?_)
  unfold State.passOn
  dsimp only
  rw [unitRequest_whole h]
  unfold State.takeWarmRestart State.warmRestarted State.monitorsRestarted State.restartIn
  rfl

theorem restartBegun_ctx (x : State) (rx : ControlRx) (o : Origin) : (x.restartBegun rx).ctx o = .reset := by cases o <;> rfl

/-- What a warm restart leaves of the unit's management. -/
theorem warmRestarted_quiet (x : State) (rx : ControlRx) : (x.warmRestarted rx).mgmt.quiet = (x.restartBegun rx).mgmt.quiet := by
  unfold State.warmRestarted
  rw [State.modSite_mgmt]
  exact (monitorsRestarted_unit (x.restartBegun rx)).2.2.2.2.2.2

theorem quiet_ctx {s t : State} (h : t.mgmt.quiet = s.mgmt.quiet) (o : Origin) :
    (t.ctx o).window = (s.ctx o).window ∧ (t.ctx o).walk = (s.ctx o).walk ∧ (t.ctx o).sticky = (s.ctx o).sticky ∧ (t.ctx o).mask = (s.ctx o).mask ∧
      (t.ctx o).levels = (s.ctx o).levels := by
  cases o with
  | mainSite =>
    have hctx := congrArg Management.mainSite h
    exact ⟨(congrArg Context.window hctx :), (congrArg Context.walk hctx :), (congrArg Context.sticky hctx :), (congrArg Context.mask hctx :),
      (congrArg Context.levels hctx :)⟩
  | console =>
    have hctx := congrArg Management.console h
    exact ⟨(congrArg Context.window hctx :), (congrArg Context.walk hctx :), (congrArg Context.sticky hctx :), (congrArg Context.mask hctx :),
      (congrArg Context.levels hctx :)⟩

theorem restartBegun_inService (x : State) (rx : ControlRx) (c : Chan) : (x.restartBegun rx).inService c = x.inService c := rfl
theorem restartBegun_ch (x : State) (rx : ControlRx) (c : Chan) : (x.restartBegun rx).ch c = x.ch c := rfl
theorem restartBegun_counter (x : State) (rx : ControlRx) (key : CounterKey) : (x.restartBegun rx).counter key = x.counter key := rfl

/-- A channel in service after the restart, by what it was before. -/
theorem warmRestarted_in (x : State) (rx : ControlRx) (h : x.inService c = true) :
    SameButCues { (x.ch c).restarted with monitor := { (x.ch c).restarted.monitor with verdict := (x.ch c).restarted.evaluate } }
        ((x.warmRestarted rx).ch c) ∧
      ((x.ch c).restarted.evaluate = (x.ch c).monitor.verdict → (x.warmRestarted rx).ch c = (x.ch c).restarted) ∧
      ∀ k, monitorCounter k → (x.warmRestarted rx).counter (.chan c k) =
        if k = .verdictChanges ∧ (x.ch c).restarted.evaluate ≠ (x.ch c).monitor.verdict then satAdd (x.counter (.chan c k)) 1 else x.counter (.chan c k) := by
  have hin := monitorsRestarted_in ((restartBegun_inService x rx c).trans h)
  simp only [restartBegun_ch, restartBegun_counter] at hin
  unfold State.warmRestarted
  simp only [State.ch_modSite, State.counter_modSite]
  exact hin

theorem warmRestarted_out (x : State) (rx : ControlRx) (h : x.inService c = false) : (x.warmRestarted rx).ch c = x.ch c := by
  unfold State.warmRestarted
  rw [State.ch_modSite]
  exact (monitorsRestarted_out ((restartBegun_inService x rx c).trans h)).trans (restartBegun_ch ..)

theorem sameButCues_keeps {x y : Channel} (h : SameButCues x y) :
    y.settings = x.settings ∧ y.slots = x.slots ∧ y.align = x.align ∧ y.schedule = x.schedule ∧ y.monitor = x.monitor := by
  unfold SameButCues at h
  exact ⟨(congrArg Channel.settings h :), (congrArg Channel.slots h :), (congrArg Channel.align h :), (congrArg Channel.schedule h :),
    (congrArg Channel.monitor h :)⟩

theorem ctx_modSite (s : State) (f : Site → Site) (o : Origin) : (s.modSite f).ctx o = s.ctx o := by cases o <;> rfl

/-- The queues after a warm restart hold the reports that it raised, in their sequence. -/
theorem warmRestarted_begun (x : State) (rx : ControlRx) (o : Origin) : Begun x.time.h ((x.warmRestarted rx).ctx o) := by
  have hbegun : QueuesBegun x.time.h (x.restartBegun rx) := ⟨rfl, fun o => by rw [restartBegun_ctx]; exact begun_reset _⟩
  have h := CueStable.monitorsRestarted (QueuesBegun.stable x.time.h)
    (fun c u hu => ⟨hu.1, fun o => (ctx_bump u (.chan c .verdictChanges) o).symm ▸ hu.2 o⟩) hbegun
  unfold State.warmRestarted
  rw [ctx_modSite]
  exact h.2 o

/-- No verdict has become FAILED: a warm restart raises no report. -/
theorem warmRestarted_silent (x : State) (rx : ControlRx)
    (hmild : ∀ c, x.inService c = true → (x.ch c).restarted.evaluate = (x.ch c).monitor.verdict ∨ (x.ch c).restarted.evaluate ≠ .failed) (o : Origin) :
    (x.warmRestarted rx).ctx o = .reset ∧ (x.warmRestarted rx).counter (.origin o .reportsDropped) = x.counter (.origin o .reportsDropped) := by
  have h := CueSilent.monitorsRestarted (s := x.restartBegun rx) (P := QueuesQuiet (x.restartBegun rx)) (QueuesQuiet.silent _) (fun c u hu => hu.bump _)
    (fun _ => ⟨rfl, rfl⟩) hmild o
  rw [restartBegun_ctx, restartBegun_counter] at h
  unfold State.warmRestarted
  rw [ctx_modSite, State.counter_modSite]
  exact h

theorem warmRestarted_noReply (x : State) (rx : ControlRx) : NoReply x (x.warmRestarted rx) := by
  have h := CueStable.monitorsRestarted (P := NoReply x) (noReply_stable x) (fun _ _ hu => hu.trans (.of_outbox rfl))
    (NoReply.of_outbox (t := x.restartBegun rx) rfl)
  exact h.trans (.of_outbox (State.modSite_outbox ..))

theorem edgeCounter_ne (det : Detector) (e : EdgeKind) : edgeCounter det e ≠ .verdictChanges := by cases det <;> cases e <;> decide

theorem quiet_management {m m' : Management} (h : m.quiet = m'.quiet) :
    m.consolePort = m'.consolePort ∧ m.config = m'.config ∧ m.save = m'.save ∧ m.lastSave = m'.lastSave ∧ m.restarting = m'.restarting ∧
      m.resetCause = m'.resetCause ∧ m.warmRestarts = m'.warmRestarts ∧ m.lineResets = m'.lineResets :=
  ⟨(congrArg Management.consolePort h :), (congrArg Management.config h :), (congrArg Management.save h :), (congrArg Management.lastSave h :),
    (congrArg Management.restarting h :), (congrArg Management.resetCause h :), (congrArg Management.warmRestarts h :), (congrArg Management.lineResets h :)⟩

/-- What a warm restart leaves of the unit: its timeline, settings, pool, slates and queue, and its site but for the keepalive timer. -/
theorem warmRestarted_unit (x : State) (rx : ControlRx) :
    (x.warmRestarted rx).time = x.time ∧ (x.warmRestarted rx).settings = x.settings ∧ (x.warmRestarted rx).poolFree = x.poolFree ∧
      (x.warmRestarted rx).slates = x.slates ∧ (x.warmRestarted rx).pending = x.pending ∧ (x.warmRestarted rx).site = x.site.restart := by
  unfold State.warmRestarted
  rw [State.modSite_time, State.modSite_settings, State.modSite_poolFree, State.modSite_slates, State.modSite_pending, State.modSite_site]
  obtain ⟨htime, hsite, hpool, hslates, hsettings, hpending, -⟩ := monitorsRestarted_unit (x.restartBegun rx)
  exact ⟨htime, hsettings, hpool, hslates, hpending, congrArg Site.restart hsite⟩

theorem heard_management (s : State) (rx : ControlRx) :
    (s.heard rx).mgmt.config = s.mgmt.config ∧ (s.heard rx).mgmt.lastSave = s.mgmt.lastSave ∧ (s.heard rx).mgmt.warmRestarts = s.mgmt.warmRestarts ∧
      (s.heard rx).mgmt.lineResets = s.mgmt.lineResets := by
  unfold State.heard
  cases rx.port with
  | contribution side => cases side <;> exact ⟨rfl, rfl, rfl, rfl⟩
  | standby | output => exact ⟨rfl, rfl, rfl, rfl⟩

theorem heard_counter_origin (s : State) (rx : ControlRx) (o : Origin) (k : OriginCtr) : (s.heard rx).counter (.origin o k) = s.counter (.origin o k) := by
  have counted : (s.bump (.port rx.port .carriersIn)).counter (.origin o k) = s.counter (.origin o k) := by rw [State.counter_bump, if_neg (by simp)]
  rw [← counted]
  unfold State.heard
  rcases rx.port with (_ | _) | n | side <;> rfl

theorem site_restart (x : Site) : x.restart = { x with elapsed := 0, timerRunning := decide (x.automation = .alive) } := by
  unfold Site.restart
  cases x.automation <;> rfl

theorem verdict_of_restarted {x y : Channel}
    (h : SameButCues { x.restarted with monitor := { x.restarted.monitor with verdict := x.restarted.evaluate } } y) :
    y.monitor.verdict = x.restarted.evaluate ∧ y.monitor.detectors = x.restarted.monitor.detectors ∧ y.settings = x.settings ∧
      y.monitor.reference = x.monitor.reference ∧ y.monitor.edges = x.monitor.edges := by
  obtain ⟨hsettings, -, -, -, hmonitor⟩ := sameButCues_keeps h
  rw [hmonitor]
  exact ⟨rfl, rfl, hsettings, rfl, rfl⟩

/-- Settles O57: WARM_RESTART, the monitors it restarts, what it discards, and its end. -/
theorem warmRestarts : Obligations.WarmRestarts := by
  refine ⟨fun s rx h => ?_, fun s rx h => ?_, fun s c => ?_, fun s x readBack hs hsave hreply => ?_,
    fun s o rx i owed hs hl howed hstamp hchannel ho hi => ?_, fun s => ⟨fun hwork => ?_, fun owed hwork howed => ?_⟩⟩
  · refine ⟨_, exec_warmRestart h, ?_⟩
    obtain ⟨htime, hsettings, hpool, hslates, hpending, hsite⟩ := warmRestarted_unit (s.heard rx) rx
    obtain ⟨hconsole, hconfig, -, -, hrestarting, hcause, hwarm, hline⟩ := quiet_management (warmRestarted_quiet (s.heard rx) rx)
    have hctx := fun o => quiet_ctx (warmRestarted_quiet (s.heard rx) rx) o
    obtain ⟨hconfig', -, hwarm', hline'⟩ := heard_management s rx
    have hin := fun c => warmRestarted_in (c := c) (s.heard rx) rx
    have hout := fun c => warmRestarted_out (c := c) (s.heard rx) rx
    simp only [restartBegun_ctx, State.heard_inService, State.heard_ch] at hctx hin hout
    rw [State.heard_time] at htime
    rw [State.heard_settings] at hsettings
    rw [State.heard_poolFree] at hpool
    rw [State.heard_slates] at hslates
    rw [State.heard_pending] at hpending
    rw [State.heard_site, site_restart] at hsite
    generalize (s.heard rx).warmRestarted rx = t at *
    refine ⟨hctx, hconsole, hrestarting, hcause, ?_, hline.trans hline', hconfig.trans hconfig', htime, hsettings, hpool, hslates, hpending, hsite,
      fun c => ?_⟩
    · rw [hwarm, ← hwarm']
      rfl
    · cases hc : s.inService c with
      | true =>
        obtain ⟨hsettings, hslots, halign, hschedule, -⟩ := sameButCues_keeps (hin c hc).1
        exact ⟨hsettings, hslots, halign, hschedule, nofun⟩
      | false =>
        have hch := hout c hc
        rw [hch]
        exact ⟨rfl, rfl, rfl, rfl, fun _ => rfl⟩
  · intro x base restarted t
    have ht : t = (s.heard rx).warmRestarted rx := by
      unfold State.warmRestarted State.monitorsRestarted State.restartIn
      rfl
    clear_value t
    subst ht
    obtain ⟨-, -, hsave, hlast, -⟩ := quiet_management (warmRestarted_quiet (s.heard rx) rx)
    obtain ⟨-, hlast', -, -⟩ := heard_management s rx
    refine ⟨exec_warmRestart h, hsave.trans (congrArg (Option.map _) (s.heard_save rx)), hlast.trans hlast', ?_, fun o => ⟨?_, fun hmild => ?_⟩, fun c hc => ?_⟩
    · obtain ⟨sent, hsent, hreply⟩ := warmRestarted_noReply (s.heard rx) rx
      exact ⟨sent, hsent.trans (by rw [State.heard_outbox]), hreply⟩
    · have hbegun := (warmRestarted_begun (s.heard rx) rx o).entries
      rw [State.heard_time] at hbegun
      exact hbegun
    · obtain ⟨hctx, hdropped⟩ := warmRestarted_silent (s.heard rx) rx (fun c hc => by
        have hin := (verdict_of_restarted (warmRestarted_in (s.heard rx) rx hc).1).1
        rw [State.heard_inService] at hc
        rw [← hin, State.heard_ch]
        exact hmild c hc) o
      rw [hctx]
      refine ⟨rfl, rfl, hdropped.trans ?_⟩
      exact heard_counter_origin s rx o .reportsDropped
    · have hin := warmRestarted_in (c := c) (s.heard rx) rx (by rw [State.heard_inService]; exact hc)
      simp only [State.heard_ch] at hin
      obtain ⟨hch, hsame, hcount⟩ := hin
      obtain ⟨hverdict, hdetectors, hsettings, hreference, hedges⟩ := verdict_of_restarted hch
      intro cfg held new
      have hnew : new = (s.ch c).restarted.evaluate := hverdict
      have hcounter : ∀ k, (s.heard rx).counter (.chan c k) = s.counter (.chan c k) := heard_counter s rx c
      refine ⟨fun det => ?_, hreference, hedges, ?_, fun hheld => ?_, fun hsame' => ?_, ?_, fun det k => ?_⟩
      · have hstate : (((s.heard rx).warmRestarted rx).ch c).detState det = (s.ch c).restarted.detState det := by
          unfold Channel.detState
          rw [hdetectors]
        rw [hstate, restarted_detState]
        rfl
      · exact hverdict.trans (evaluate_congr hsettings.symm hdetectors.symm)
      · rw [hnew, hheld]
        exact evaluate_restarted (s.ch c)
      · rw [hsame (hnew.symm.trans hsame')]
        rfl
      · rw [hcount _ (.inl rfl), hcounter, hnew]
        by_cases hv : (s.ch c).restarted.evaluate = held
        · rw [if_pos hv, if_neg (fun h => h.2 hv)]
        · rw [if_neg hv, if_pos ⟨rfl, hv⟩]
          rfl
      · rw [hcount _ (.inr ⟨det, k, rfl⟩), if_neg (fun h => edgeCounter_ne det k h.1), hcounter]
  · intro restarted new
    have hrestarted : restarted = s.detectorsRestarted c := rfl
    clear_value restarted
    subst hrestarted
    have hnew : new = (s.ch c).restarted.evaluate := congrArg Channel.evaluate (detectorsRestarted_ch s c)
    clear_value new
    subst hnew
    rw [monitorRestart_eq, detectorsRestarted_ch]
    rfl
  · refine congrArg Host.Outcome.next ((congrArg (fun u : State => u.completeSave readBack) (State.catchUp_settled hs)).trans ?_)
    unfold State.completeSave
    rw [hsave]
    dsimp only
    rw [hreply]
    cases readBack <;> rfl
  · obtain ⟨r, code, time, hr⟩ := requestOf_carries hi
    rw [hr.exec, receive_inRange hs hl hstamp hchannel ho]
    exact congrArg Host.Outcome.next (route_restarting (by rw [State.heard_mgmt_restarting, howed]) hr.answerable time)
  · exact congrArg Host.Outcome.next (if_neg (by rw [hwork]; decide))
  · refine congrArg Host.Outcome.next ((if_pos hwork).trans ?_)
    dsimp only
    rw [howed]
    rfl

end Sys2Proof.Machine

/-! PROOFS. SELECT, SUBSCRIBE and CLEAR_COUNTERS, and the pages of COUNTERS (R39, R191, R197, R200). -/

namespace Sys2Proof.Machine

-- Each elaboration thread takes a large stack, and the text is compiled as one file under a memory limit: one thread at a time.
set_option Elab.async false

variable {s : State} {o : Origin} {rx : ControlRx}

/-! ## The mask of SELECT (R197) -/

theorem getLsbD_selected (channels : List Nat) (h : ∀ n ∈ channels, n < 16) (m : BitVec 16) {i : Nat} (hi : i < 16) :
    (channels.foldl (fun m c => m ||| (1#16 <<< c)) m).getLsbD i = (m.getLsbD i || decide (i ∈ channels)) := by
  induction channels generalizing m with
  | nil => simp
  | cons c channels ih =>
    rw [List.foldl_cons, ih (fun n hn => h n (List.mem_cons_of_mem _ hn))]
    have hc : c < 16 := h c List.mem_cons_self
    have hbit : (1#16 <<< c).getLsbD i = decide (i = c) := by
      rw [BitVec.getLsbD_shiftLeft, BitVec.getLsbD_one, decide_eq_true hi, Bool.true_and]
      by_cases hlt : i < c
      · simp [hlt, Nat.ne_of_lt hlt]
      · by_cases he : i = c
        · simp [he]
        · have : i - c ≠ 0 := by omega
          simp [hlt, he, this]
    rw [BitVec.getLsbD_or, hbit, Bool.or_assoc]
    congr 1
    simp [List.mem_cons, Bool.decide_or]

/-! ## The levels of SUBSCRIBE (R200) -/

theorem setLevels_get (v : Vector Nat 8) (pairs : List (Nat × Nat)) (k : Fin 8) :
    (setLevels v pairs)[k.val] =
      match (pairs.filter fun p => p.1 = k.val).getLast? with
      | some p => min p.2 3
      | none => v[k.val] := by
  induction pairs using List.reverseRecOn with
  | nil => rfl
  | append_singleton pairs p ih =>
    unfold setLevels at ih ⊢
    rw [List.foldl_append, List.foldl_cons, List.foldl_nil, List.filter_append]
    by_cases hk : p.1 = k.val
    · rw [dif_pos (by omega), List.filter_cons_of_pos (by simpa using hk), List.filter_nil, List.getLast?_append]
      simp [hk]
    · rw [List.filter_cons_of_neg (by simpa using hk), List.filter_nil, List.append_nil, ← ih]
      split
      · rw [Vector.getElem_set_ne _ _ hk]
      · rfl

/-! ## SUBSCRIBE (R200) -/

theorem originOf_none {code : Nat} (h : 2 ≤ code) : originOf code = none := by
  match code, h with
  | n + 2, _ => rfl

theorem modCtx_congr {f g : Context → Context} (h : f (s.ctx o) = g (s.ctx o)) : s.modCtx o f = s.modCtx o g := by
  cases o with
  | mainSite =>
    unfold State.modCtx
    dsimp only
    rw [show f s.mgmt.mainSite = g s.mgmt.mainSite from h]
  | console =>
    unfold State.modCtx
    dsimp only
    rw [show f s.mgmt.console = g s.mgmt.console from h]

theorem exec_subscribe (h : Whole s .console rx) (code : Nat) (pairs : List (Nat × Nat)) :
    exec (.subscribe rx code pairs) s = .next ((s.heard rx).takeSubscribe (asked .console rx (.subscribe code pairs)) code pairs) := by
  refine congrArg Host.Outcome.next ((heard_passOn (r := .subscribe code pairs) h.1 trivial rfl 0).trans ?_)
  unfold State.passOn
  dsimp only
  exact unitRequest_whole h ..

theorem chanCounters_page (s : State) (c : Chan) : s.page .counters c.val = some (chanCounters.map fun k => [.num 4 (s.counter (.chan c k))]) := by
  have hc : c.val ≠ 255 := by omega
  unfold State.page
  dsimp only
  rw [if_neg hc, chanOf_val]
  rfl

/-- Settles O54: SELECT, SUBSCRIBE, CLEAR_COUNTERS and the pages of COUNTERS. -/
theorem selectSubscribeAndClearCounters : Obligations.SelectSubscribeAndClearCounters := by
  refine ⟨fun s o rx channels h => ?_, fun s rx h => ⟨fun pairs o code hcode hpairs => ?_, fun code pairs hbad => ?_, ?_, fun key => counters_zero_get key, fun c => ?_, ?_⟩⟩
  · have hexec : exec (.select rx channels) s = .next ((s.heard rx).takeSelect (asked o rx (.select channels)) channels) := by
      refine congrArg Host.Outcome.next ((heard_passOn (r := .select channels) h.1 trivial (by cases o <;> rfl) 0).trans ?_)
      unfold State.passOn
      dsimp only
      exact unitRequest_whole h ..
    rw [hexec]
    refine ⟨fun hin => ⟨channels.foldl (fun m c => m ||| (1#16 <<< c)) 0#16, fun i hi => ?_, ?_⟩, fun hout => congrArg Host.Outcome.next (if_neg ?_)⟩
    · rw [getLsbD_selected channels hin _ hi]
      simp
    · exact congrArg Host.Outcome.next (if_pos (by simpa using hin))
    · simpa using hout
  · have horigin : originOf code = some o := by
      rw [hcode]
      cases o <;> rfl
    clear hcode
    refine ⟨setLevels (s.ctx o).levels pairs, fun k => setLevels_get _ pairs k, ?_⟩
    rw [exec_subscribe h]
    unfold State.takeSubscribe
    rw [horigin]
    dsimp only
    rw [if_pos (by simpa using hpairs), modCtx_congr (g := fun x => { x with levels := setLevels (s.ctx o).levels pairs }) (by rw [State.heard_ctx])]
    unfold State.answer asked
    rw [h.2.2]
    rfl
  · rw [exec_subscribe h]
    refine congrArg Host.Outcome.next ?_
    unfold State.takeSubscribe
    cases horigin : originOf code with
    | none => rfl
    | some o =>
      have hpairs : ∃ p ∈ pairs, 8 ≤ p.1 := hbad.resolve_left fun hcode => by
        rw [originOf_none hcode] at horigin
        cases horigin
      exact if_neg (by simpa using hpairs)
  · refine congrArg Host.Outcome.next ((heard_passOn (r := .clearCounters) h.1 trivial rfl 0).trans ?_)
    unfold State.passOn
    dsimp only
    exact unitRequest_whole h ..
  · rw [chanCounters_page]
    rfl
  · rfl

end Sys2Proof.Machine

/-! PROOFS. Windows read at rest, and walks (R191 to R193, R195, R196). -/

namespace Sys2Proof.Machine

-- Each elaboration thread takes a large stack, and the text is compiled as one file under a memory limit: one thread at a time.
set_option Elab.async false

variable {s t : State} {o : Origin} {rx : ControlRx} {w : Walk}

/-! ## A window request in an idle context (R192, R193) -/

theorem windowRequest_idle (h : (s.ctx o).walk = none) (hg : rx.group = false) (sets : Bool) (f : State) (r : Request) :
    windowRequest s (asked o rx r) rx.group sets f = f := by
  unfold windowRequest
  dsimp only [asked]
  rw [h, hg]
  rfl

theorem exec_read (h : Heard s o rx) (hg : rx.group = false) (hw : (s.ctx o).walk = none) (count : Nat) :
    exec (.read rx count) s = .next ((s.heard rx).read (asked o rx (.read count)) count) := by
  refine congrArg Host.Outcome.next ((heard_passOn (r := .read count) h trivial (by cases o <;> rfl) 0).trans ?_)
  unfold State.passOn
  dsimp only
  exact windowRequest_idle (by rw [State.heard_ctx]; exact hw) hg ..

/-- A REPLY leaves the contexts. -/
theorem ctx_reply (s : State) (o' : Origin) (p : Port) (r : Reply) (o : Origin) : (s.reply o' p r).ctx o = s.ctx o := by
  unfold State.reply
  cases o <;> split <;> rfl

/-- R193: the offset advances under auto-increment. -/
theorem advance_eq (s : State) (o : Origin) (n : Nat) :
    s.advance o n =
      if (s.ctx o).window.auto then s.modCtx o fun y => { y with window := { y.window with offset := (y.window.offset + n) % 65536 } } else s := by
  unfold State.advance
  split
  · rename_i hauto
    exact modCtx_congr (if_pos hauto)
  · rename_i hauto
    have hsame : s.modCtx o id = s := by cases o <;> rfl
    refine Eq.trans (modCtx_congr (g := id) ?_) hsame
    exact if_neg hauto

theorem refuseSticky_eq (s : State) (r : Request) (code : Result) :
    s.refuseSticky (asked o rx r) code = (s.modCtx o fun y => y.stuck code rx.request).answered o rx r.code code [] := by
  unfold State.refuseSticky
  exact congrArg (fun u : State => u.answered o rx r.code code []) (State.setSticky_offset s o code rx.request)

/-! ## READ (R193, R195) -/

theorem clampNat_in {count : Nat} (h : 1 ≤ count) (h' : count ≤ 16) : clampNat 1 16 count = count := by unfold clampNat; omega

theorem read_held {e : StickyError} (h : (s.ctx o).sticky = some e) (count : Nat) :
    s.read (asked o rx (.read count)) count = s.answered o rx 0x42 e.code [] := by
  unfold State.read
  dsimp only [asked]
  rw [h]
  rfl

theorem read_walked (h : (s.ctx o).sticky = none) (hw : (s.ctx o).window.table.walked = true) (count : Nat) :
    s.read (asked o rx (.read count)) count =
      s.modCtx o fun y =>
        { y with
          walk := some
            { table := (s.ctx o).window.table, page := (s.ctx o).window.page, count := clampNat 1 16 count, clamped := clampNat 1 16 count != count
              request := rx.request, port := rx.port, channel := rx.channel, gathered := [], cursor := none } } := by
  unfold State.read
  dsimp only [asked]
  rw [h]
  dsimp only
  rw [if_pos hw]

theorem read_past {entries : List (List Atom)} (h : (s.ctx o).sticky = none) (hw : (s.ctx o).window.table.walked = false)
    (hp : s.page (s.ctx o).window.table (s.ctx o).window.page = some entries) {count : Nat}
    (hlen : entries.length < (s.ctx o).window.offset + clampNat 1 16 count) :
    s.read (asked o rx (.read count)) count = (s.modCtx o fun y => y.stuck .badOffset rx.request).answered o rx 0x42 .badOffset [] := by
  rw [← show (Request.read count).code = 0x42 from rfl, ← refuseSticky_eq]
  unfold State.read
  dsimp only [asked]
  rw [h]
  dsimp only
  rw [if_neg (by rw [hw]; decide), hp]
  dsimp only
  rw [if_pos hlen]

/-- R193: the entries of a page at rest, with the EDGES among them cleared (R75). -/
theorem read_entries {entries : List (List Atom)} (h : (s.ctx o).sticky = none) (hw : (s.ctx o).window.table.walked = false)
    (hp : s.page (s.ctx o).window.table (s.ctx o).window.page = some entries) {count : Nat}
    (hlen : (s.ctx o).window.offset + clampNat 1 16 count ≤ entries.length) :
    s.read (asked o rx (.read count)) count =
      ((if (s.ctx o).window.table = .edges then s.clearEdges (s.ctx o).window.page (s.ctx o).window.offset (clampNat 1 16 count) else s).advance o
          (clampNat 1 16 count)).reply o rx.port
        { request := rx.request, kind := 0x42, channel := rx.channel, result := .accepted, clamped := clampNat 1 16 count != count
          contents := .num 1 (clampNat 1 16 count) ::
            (numberedFrom (s.ctx o).window.offset ((entries.drop (s.ctx o).window.offset).take (clampNat 1 16 count))).flatMap entryAtoms } := by
  have hcount : ∀ (l : List (List Atom)) (k : Nat), (numberedFrom k l).length = l.length := fun l => by
    induction l with
    | nil => exact fun _ => rfl
    | cons e l ih => exact fun k => congrArg (· + 1) (ih (k + 1))
  have hlist : ∀ l : List (Nat × List Atom), listAtoms entryAtoms l = .num 1 l.length :: l.flatMap entryAtoms := fun _ => rfl
  unfold State.read
  dsimp only [asked]
  rw [h]
  dsimp only
  rw [if_neg (by rw [hw]; decide), hp]
  dsimp only
  rw [if_neg (by omega), hlist, hcount, List.length_take, List.length_drop, Nat.min_eq_left (by omega)]
  rfl

/-! ## Walks (R196) -/

theorem findFrom_some {α : Type} {p : α → Bool} {l : List α} {i k : Nat} {x : α} (hx : l[i]? = some x) (hp : p x = true)
    (hbefore : ∀ j y, j < i → l[j]? = some y → p y = false) : findFrom p k l = some (k + i, x) := by
  induction l generalizing i k with
  | nil => cases hx
  | cons y l ih =>
    unfold findFrom
    cases i with
    | zero =>
      cases hx
      rw [if_pos hp]
      rfl
    | succ i =>
      have hy : ¬p y = true := by rw [hbefore 0 y (Nat.succ_pos i) rfl]; decide
      rw [if_neg hy, ih (k := k + 1) hx fun j z hj hz => hbefore (j + 1) z (Nat.succ_lt_succ hj) hz]
      exact congrArg some (Prod.ext (by dsimp only; omega) rfl)

theorem findFrom_none {α : Type} {p : α → Bool} {l : List α} (h : ∀ y ∈ l, p y = false) (k : Nat) : findFrom p k l = none := by
  induction l generalizing k with
  | nil => rfl
  | cons y l ih =>
    unfold findFrom
    rw [if_neg (by rw [h y List.mem_cons_self]; decide)]
    exact ih (fun z hz => h z (List.mem_cons_of_mem _ hz)) _

/-- The part as a walk that ends leaves it: the REPLY with what it gathered, and the offset advanced. -/
def State.walkEnded (s : State) (o : Origin) (w : Walk) (gathered : List (Nat × List Atom)) (ranOut : Bool) : State :=
  let u := (s.modCtx o fun y => { y with walk := none }).reply o w.port
    { request := w.request, kind := 0x42, channel := w.channel, result := .accepted, clamped := w.clamped
      contents := (.num 1 gathered.length :: gathered.flatMap entryAtoms) ++ [.flag ranOut] }
  if (s.ctx o).window.auto then u.modCtx o fun y => { y with window := { y.window with offset := (y.window.offset + gathered.length) % 65536 } } else u

theorem endWalk_eq (s : State) (o : Origin) (w : Walk) (ranOut : Bool) : s.endWalk o w ranOut = s.walkEnded o w w.gathered ranOut := by
  unfold State.endWalk
  dsimp only
  rw [advance_eq]
  unfold State.answer
  rw [ctx_reply, ctx_modCtx_same]
  rfl

theorem exec_walkReach (hs : s.settled = true) (o : Origin) : exec (.walkReach o) s = .next (s.walkReach o) :=
  congrArg Host.Outcome.next (congrArg (fun u : State => u.walkReach o) (State.catchUp_settled hs))

theorem walkReach_idle (h : (s.ctx o).walk = none) : s.walkReach o = s := by
  unfold State.walkReach
  rw [h]

theorem walkReach_reached {x : Reached} (h : (s.ctx o).walk = some w) (hx : s.nextReach o w = some x) :
    ((w.gathered ++ [(x.offset, x.entry)]).length < w.count →
      s.walkReach o = s.modCtx o fun y => { y with walk := some { w with gathered := w.gathered ++ [(x.offset, x.entry)], cursor := some x.cursor } }) ∧
    (w.count ≤ (w.gathered ++ [(x.offset, x.entry)]).length → s.walkReach o = s.walkEnded o w (w.gathered ++ [(x.offset, x.entry)]) false) := by
  unfold State.walkReach
  rw [h]
  dsimp only
  rw [hx]
  refine ⟨fun hlt => if_neg (Nat.not_le.2 hlt), fun hle => (if_pos hle).trans ?_⟩
  rw [endWalk_eq]
  rfl

theorem walkReach_ranOut {q : Nat} (h : (s.ctx o).walk = some w) (hx : s.nextReach o w = none) (hq : w.cursor = some q) :
    s.walkReach o = s.walkEnded o w w.gathered true := by
  rw [← endWalk_eq]
  unfold State.walkReach
  rw [h]
  dsimp only
  rw [hx]
  dsimp only
  rw [hq]

theorem walkReach_badOffset (h : (s.ctx o).walk = some w) (hx : s.nextReach o w = none) (hq : w.cursor = none) :
    s.walkReach o =
      ((s.modCtx o fun y => { y with walk := none }).modCtx o fun y => y.stuck .badOffset w.request).reply o w.port
        { request := w.request, kind := 0x42, channel := w.channel, result := .badOffset, clamped := false, contents := [] } := by
  unfold State.walkReach
  rw [h]
  dsimp only
  rw [hx]
  dsimp only
  rw [hq]
  dsimp only
  unfold State.refuseSticky
  dsimp only
  rw [State.setSticky_offset]
  rfl

end Sys2Proof.Machine

/-! PROOFS. Edges latched, read and cleared, and the walk of takeover records (R64, R65, R74, R75, R145, R193, R196). -/

namespace Sys2Proof.Machine

-- Each elaboration thread takes a large stack, and the text is compiled as one file under a memory limit: one thread at a time.
set_option Elab.async false

variable {s t : State} {o : Origin} {rx : ControlRx} {c : Chan}

/-! ## Edges latched (R64, R65, R74) -/

section
variable {det : Detector} {cfg : DetectorSettings} {set : BitVec 8} {reference : Option (BitVec 32)} {j : Judgement} {x : DetectorState}

/-- R64: the frames that assert a detector. -/
def Rises (cfg : DetectorSettings) (x : DetectorState) (k : FrameClass) : Prop :=
  cfg.enabled = true ∧ x.phase = .clear ∧ k = .bad ∧ cfg.assertCount ≤ x.bad + 1

/-- R65: the frames that clear it. -/
def Falls (cfg : DetectorSettings) (x : DetectorState) (k : FrameClass) : Prop :=
  cfg.enabled = true ∧ x.phase = .asserted ∧ k = .good ∧ cfg.clearCount ≤ x.good + 1

theorem detectorStep_rise (h : Rises cfg x (classify det cfg set reference j)) :
    (detectorStep det cfg set reference j x).2 = some .rise ∧ (detectorStep det cfg set reference j x).1.latched = true := by
  obtain ⟨henabled, hphase, hclass, hcount⟩ := h
  unfold detectorStep countFrame
  rw [if_neg (by rw [henabled]; decide), if_neg (by rw [hphase]; decide), hphase, hclass]
  dsimp only
  rw [if_pos hcount]
  exact ⟨rfl, rfl⟩

theorem detectorStep_fall (h : Falls cfg x (classify det cfg set reference j)) :
    (detectorStep det cfg set reference j x).2 = some .fall ∧ (detectorStep det cfg set reference j x).1.latched = false := by
  obtain ⟨henabled, hphase, hclass, hcount⟩ := h
  unfold detectorStep countFrame
  rw [if_neg (by rw [henabled]; decide), if_neg (by rw [hphase]; decide), hphase, hclass]
  dsimp only
  rw [if_pos hcount]
  exact ⟨rfl, rfl⟩

theorem detectorStep_neither (hrise : ¬Rises cfg x (classify det cfg set reference j)) (hfall : ¬Falls cfg x (classify det cfg set reference j)) :
    (detectorStep det cfg set reference j x).2 = none ∧ (detectorStep det cfg set reference j x).1.latched = x.latched := by
  unfold Rises at hrise
  unfold Falls at hfall
  unfold detectorStep
  cases henabled : cfg.enabled with
  | false => exact ⟨rfl, rfl⟩
  | true =>
    rw [if_neg (by decide)]
    cases hphase : x.phase with
    | settling => exact ⟨rfl, rfl⟩
    | clear =>
      rw [if_neg (by decide)]
      unfold countFrame
      cases hclass : classify det cfg set reference j with
      | bad =>
        rw [hphase]
        dsimp only
        rw [if_neg fun hcount => hrise ⟨henabled, hphase, hclass, hcount⟩]
        exact ⟨rfl, rfl⟩
      | good | neither => rw [hphase]; exact ⟨rfl, rfl⟩
    | asserted =>
      rw [if_neg (by decide)]
      unfold countFrame
      cases hclass : classify det cfg set reference j with
      | good =>
        rw [hphase]
        dsimp only
        rw [if_neg fun hcount => hfall ⟨henabled, hphase, hclass, hcount⟩]
        exact ⟨rfl, rfl⟩
      | bad | neither => rw [hphase]; exact ⟨rfl, rfl⟩

theorem not_falls_of_rises {k : FrameClass} (h : Rises cfg x k) : ¬Falls cfg x k := fun h' => by
  have := h.2.1.symm.trans h'.2.1
  cases this

end

section
variable {j : Judgement} {det : Detector}

/-- What a detector does with a frame of a channel. -/
def stepOf (x : Channel) (j : Judgement) (det : Detector) : DetectorState × Option EdgeKind :=
  detectorStep det (x.detCfg det) x.settings.pairSet x.monitor.reference j (x.detState det)

/-- R74: the entry of an edge latched, unless the detector's policy is IGNORE. -/
theorem judgeDetector_latched {k : EdgeKind} (h : (stepOf (s.ch c) j det).2 = some k) (hp : ((s.ch c).detCfg det).policy ≠ .ignore) :
    (((s.judgeDetector c j det).1).ch c).monitor.edges = vmod (s.ch c).monitor.edges (edgeIndex det k) (latchEdge s.time.h) := by
  unfold stepOf at h
  unfold State.judgeDetector
  dsimp only
  rw [h]
  dsimp only
  rw [if_neg hp]
  simp

theorem judgeDetector_unlatched (h : (stepOf (s.ch c) j det).2 = none ∨ ((s.ch c).detCfg det).policy = .ignore) :
    (((s.judgeDetector c j det).1).ch c).monitor.edges = (s.ch c).monitor.edges := by
  unfold stepOf at h
  unfold State.judgeDetector
  dsimp only
  split
  · simp
  · rename_i k hedge
    rw [hedge] at h
    rw [if_pos (h.resolve_left nofun)]
    simp

end

theorem latchEdge_eq (h : Nat) (x : Option Edge) :
    latchEdge h x = match x with
      | none => some { count := 1, first := h, latest := h }
      | some e => some { count := min (e.count + 1) 255, first := e.first, latest := h } := by
  cases x <;> rfl

theorem edgeLatched_get (v : Vector (Option Edge) 8) (det : Detector) (k : EdgeKind) (h : Nat) (i : Fin 8) :
    (vmod v (edgeIndex det k) (latchEdge h))[i.val] = if i = edgeIndex det k then latchEdge h v[i.val] else v[i.val] := vmod_get ..

theorem eq_edgeIndex_rise {det : Detector} {i : Fin 8} : i = edgeIndex det .rise ↔ i.val = 2 * (detectorIndex det).val := Fin.ext_iff
theorem eq_edgeIndex_fall {det : Detector} {i : Fin 8} : i = edgeIndex det .fall ↔ i.val = 2 * (detectorIndex det).val + 1 := Fin.ext_iff

/-! ## Edges read and cleared (R75) -/

theorem foldl_clear_get (p : Fin 8 → Prop) [DecidablePred p] (l : List (Fin 8)) (v : Vector (Option Edge) 8) (i : Fin 8) :
    (l.foldl (fun v i => if p i then vmod v i fun _ => none else v) v)[i.val] = if i ∈ l ∧ p i then none else v[i.val] := by
  induction l generalizing v with
  | nil => simp
  | cons k l ih =>
    rw [List.foldl_cons, ih]
    by_cases hk : p k
    · rw [if_pos hk, vmod_get]
      by_cases hi : i = k
      · subst hi
        simp [hk]
      · simp [hi]
    · rw [if_neg hk]
      by_cases hi : i = k
      · subst hi
        simp [hk]
      · simp [hi]

/-- The entries of a page of edges, without those from an offset on that a READ has returned. -/
def edgesCleared (v : Vector (Option Edge) 8) (offset n : Nat) : Vector (Option Edge) 8 :=
  Vector.ofFn fun i => if offset ≤ i.val ∧ i.val < offset + n then none else v[i.val]

theorem clearEdges_eq (s : State) (c : Chan) (offset n : Nat) :
    s.clearEdges c.val offset n = s.modMonitor c fun m => { m with edges := edgesCleared m.edges offset n } := by
  have hedges : ∀ v : Vector (Option Edge) 8,
      slateIndices.foldl (fun v i => if offset ≤ i.val ∧ i.val < offset + n then vmod v i fun _ => none else v) v = edgesCleared v offset n := fun v => by
    refine Vector.ext fun i hi => ?_
    have hmem : (⟨i, hi⟩ : Fin 8) ∈ slateIndices := by
      have : ∀ k : Fin 8, k ∈ slateIndices := by decide
      exact this _
    rw [foldl_clear_get (fun i => offset ≤ i.val ∧ i.val < offset + n) slateIndices v ⟨i, hi⟩]
    simp [edgesCleared, hmem]
  unfold State.clearEdges
  rw [chanOf_val]
  dsimp only
  simp only [hedges]

theorem edges_page (s : State) (c : Chan) : s.page .edges c.val = some ((s.ch c).monitor.edges.toList.map edgeEntry) := by
  unfold State.page
  dsimp only
  rw [chanOf_val]
  rfl

theorem edges_length (v : Vector (Option Edge) 8) : (v.toList.map edgeEntry).length = 8 := by simp

/-! ## Takeover records (R145, R196) -/

theorem openedAfter_iff (q : Nat) (r : TakeoverRecord) :
    openedAfter q r = true ↔ 1 ≤ ((r.sequence : Int) - q) % 65536 ∧ ((r.sequence : Int) - q) % 65536 < 32768 := by
  unfold openedAfter
  simp

theorem nextReach_first {w : Walk} (hp : w.page = c.val) (ht : w.table = .records) (hq : w.cursor = none) :
    s.nextReach o w =
      ((s.ch c).control.ring[(s.ctx o).window.offset]?).map fun r =>
        { offset := (s.ctx o).window.offset, entry := recordEntry r, cursor := r.sequence } := by
  unfold State.nextReach
  rw [hp, chanOf_val, ht, hq]
  dsimp only
  rw [Option.map_map]
  rfl

theorem nextReach_later {w : Walk} {q : Nat} (hp : w.page = c.val) (ht : w.table = .records) (hq : w.cursor = some q) :
    s.nextReach o w =
      (findFrom (openedAfter q) 0 (s.ch c).control.ring).map fun x => { offset := x.1, entry := recordEntry x.2, cursor := x.2.sequence } := by
  unfold State.nextReach
  rw [hp, chanOf_val, ht, hq]

theorem recordEntry_eq (r : TakeoverRecord) :
    recordEntry r =
      List.flatten
        [[.num 2 r.sequence, .num 1 r.causes.length], r.causes.map fun k => .enum (causeCode k), [.num 1 (detectorSet r.asserted)],
          optAtoms (fun o => [.enum (originCode o)]) r.origin, [.pos r.decision, .enum (replicationCode r.replication)],
          optAtoms (fun x => [.num 4 x.1, .num 4 x.2]) r.event, optAtoms (fun p => [.pos p]) r.switchPosition, [.enum (outcomeCode r.outcome)],
          optAtoms (fun p => [.pos p]) r.returnPosition] := by
  have hcauses : listAtoms (fun k => [Atom.enum (causeCode k)]) r.causes = .num 1 r.causes.length :: r.causes.map fun k => .enum (causeCode k) := by
    unfold listAtoms
    rw [List.map_eq_flatMap]
  unfold recordEntry joinAtoms
  rw [hcauses]
  rfl

/-- A READ whose count is out of range is one of the nearer bound, and says so. -/
theorem clampNat_out {count : Nat} (h : count < 1 ∨ 16 < count) : clampNat 1 16 count = (if count < 1 then 1 else 16) ∧ (clampNat 1 16 count != count) = true := by
  unfold clampNat
  rcases h with h | h
  · have : count = 0 := by omega
    subst this
    exact ⟨rfl, rfl⟩
  · rw [if_neg (by omega)]
    have hmin : min 16 (max 1 count) = 16 := by omega
    refine ⟨by omega, ?_⟩
    rw [bne_iff_ne]
    omega

theorem stuck_free {y : Context} (h : y.sticky = none) (code : Result) (request : Nat) :
    y.stuck code request = { y with sticky := some { code := code, request := request, offset := y.window.offset } } := by
  unfold Context.stuck
  rw [if_neg (by rw [h]; decide)]

/-- A REPLY is sent by the links, the timeline, the settings and what has been sent. -/
theorem reply_outbox {s t : State} (hports : t.ports = s.ports) (htime : t.time = s.time) (hsettings : t.settings = s.settings)
    (houtbox : t.outbox = s.outbox) (o : Origin) (p : Port) (r : Reply) : (t.reply o p r).outbox = (s.reply o p r).outbox := by
  have hlink : t.linkUp p = s.linkUp p := by unfold State.linkUp; rw [hports]
  unfold State.reply
  rw [hlink]
  split
  · unfold State.send
    dsimp only
    change t.outbox ++ [{ port := p, stamp := t.time.h, unitNumber := t.settings.unitNumber, what := .reply r }] = _
    rw [houtbox, htime, hsettings]
    rfl
  · exact houtbox

theorem clearEdges_ch (s : State) (page offset n : Nat) (c : Chan) :
    (s.clearEdges page offset n).ch c =
      if page = c.val then { s.ch c with monitor := { (s.ch c).monitor with edges := edgesCleared (s.ch c).monitor.edges offset n } } else s.ch c := by
  by_cases hin : page < 16
  · obtain ⟨c', rfl⟩ : ∃ c' : Chan, page = c'.val := ⟨⟨page, hin⟩, rfl⟩
    rw [clearEdges_eq]
    by_cases h : c = c'
    · subst h
      rw [State.ch_modMonitor_same, if_pos rfl]
    · rw [State.ch_modMonitor_ne _ _ _ _ h, if_neg fun e => h (Fin.ext e.symm)]
  · unfold State.clearEdges chanOf
    rw [dif_neg hin, if_neg (by omega)]

theorem clearEdges_rest (s : State) (page offset n : Nat) (o : Origin) :
    let t := s.clearEdges page offset n
    t.ports = s.ports ∧ t.time = s.time ∧ t.settings = s.settings ∧ t.outbox = s.outbox ∧ t.ctx o = s.ctx o := by
  unfold State.clearEdges
  split
  · exact ⟨rfl, rfl, rfl, rfl, rfl⟩
  · exact ⟨rfl, rfl, rfl, rfl, by cases o <;> rfl⟩

/-- What a READ of a page at rest leaves, its REPLY apart: the edges that it clears, and the offset advanced. -/
theorem readLeaves (s : State) (o : Origin) (page offset n : Nat) (p : Prop) [Decidable p] :
    let u := (if p then s.clearEdges page offset n else s).advance o n
    (∀ o p r, (u.reply o p r).outbox = (s.reply o p r).outbox) ∧
      u.ctx o =
        (if (s.ctx o).window.auto then { s.ctx o with window := { (s.ctx o).window with offset := ((s.ctx o).window.offset + n) % 65536 } } else s.ctx o) ∧
      ∀ c, u.ch c =
        if p ∧ page = c.val then { s.ch c with monitor := { (s.ch c).monitor with edges := edgesCleared (s.ch c).monitor.edges offset n } } else s.ch c := by
  intro u
  obtain ⟨v, hv, hports, htime, hsettings, houtbox, hctx, hch⟩ : ∃ v, v = (if p then s.clearEdges page offset n else s) ∧ v.ports = s.ports ∧
      v.time = s.time ∧ v.settings = s.settings ∧ v.outbox = s.outbox ∧ v.ctx o = s.ctx o ∧ ∀ c, v.ch c =
        if p ∧ page = c.val then { s.ch c with monitor := { (s.ch c).monitor with edges := edgesCleared (s.ch c).monitor.edges offset n } } else s.ch c := by
    by_cases hp : p
    · obtain ⟨hports, htime, hsettings, houtbox, hctx⟩ := clearEdges_rest s page offset n o
      rw [if_pos hp]
      exact ⟨_, rfl, hports, htime, hsettings, houtbox, hctx, fun c => by simp only [clearEdges_ch, hp, true_and]⟩
    · exact ⟨_, rfl, by rw [if_neg hp], by rw [if_neg hp], by rw [if_neg hp], by rw [if_neg hp], by rw [if_neg hp],
        fun c => by rw [if_neg hp, if_neg fun h => hp h.1]⟩
  have hu : u = v.advance o n := by rw [hv]
  clear_value u
  subst hu
  rw [advance_eq, hctx]
  split
  · refine ⟨fun o' p r => reply_outbox ?_ ?_ ?_ ?_ o' p r, ?_, ?_⟩
    · cases o <;> exact hports
    · cases o <;> exact htime
    · cases o <;> exact hsettings
    · cases o <;> exact houtbox
    · rw [ctx_modCtx_same, hctx]
    · exact fun c => Eq.trans (by cases o <;> rfl) (hch c)
  · exact ⟨fun o' p r => reply_outbox hports htime hsettings houtbox o' p r, hctx, hch⟩

/-- R193: a READ past the end of a page at rest. -/
theorem exec_read_past {entries : List (List Atom)} (h : Heard s o rx) (hg : rx.group = false) (hw : (s.ctx o).walk = none)
    (hsticky : (s.ctx o).sticky = none) (hrest : (s.ctx o).window.table.walked = false)
    (hp : (s.heard rx).page (s.ctx o).window.table (s.ctx o).window.page = some entries) {count : Nat}
    (hlen : entries.length < (s.ctx o).window.offset + clampNat 1 16 count) :
    exec (.read rx count) s =
      .next
        (((s.heard rx).modCtx o fun y =>
          { y with sticky := some { code := .badOffset, request := rx.request, offset := (s.ctx o).window.offset } }).answered o rx 0x42 .badOffset []) := by
  have hctx : (s.heard rx).ctx o = s.ctx o := State.heard_ctx ..
  rw [exec_read h hg hw, read_past (by rw [hctx]; exact hsticky) (by rw [hctx]; exact hrest) (by rw [hctx]; exact hp) (by rw [hctx]; exact hlen),
    modCtx_congr (g := fun y => { y with sticky := some { code := .badOffset, request := rx.request, offset := (s.ctx o).window.offset } })]
  rw [hctx]
  exact stuck_free hsticky _ _

/-- R193: a READ of entries of a page at rest. -/
theorem exec_read_entries {entries : List (List Atom)} (h : Heard s o rx) (hg : rx.group = false) (hw : (s.ctx o).walk = none)
    (hsticky : (s.ctx o).sticky = none) (hrest : (s.ctx o).window.table.walked = false)
    (hp : (s.heard rx).page (s.ctx o).window.table (s.ctx o).window.page = some entries) {count : Nat}
    (hlen : (s.ctx o).window.offset + clampNat 1 16 count ≤ entries.length) :
    exec (.read rx count) s =
      .next
        (((if (s.ctx o).window.table = .edges then (s.heard rx).clearEdges (s.ctx o).window.page (s.ctx o).window.offset (clampNat 1 16 count)
            else s.heard rx).advance o (clampNat 1 16 count)).reply o rx.port
          { request := rx.request, kind := 0x42, channel := rx.channel, result := .accepted, clamped := clampNat 1 16 count != count
            contents := .num 1 (clampNat 1 16 count) ::
              (numberedFrom (s.ctx o).window.offset ((entries.drop (s.ctx o).window.offset).take (clampNat 1 16 count))).flatMap entryAtoms }) := by
  have hctx : (s.heard rx).ctx o = s.ctx o := State.heard_ctx ..
  rw [exec_read h hg hw, read_entries (by rw [hctx]; exact hsticky) (by rw [hctx]; exact hrest) (by rw [hctx]; exact hp) (by rw [hctx]; exact hlen), hctx]

/-- R193: a READ that begins a walk. -/
theorem exec_read_walked (h : Heard s o rx) (hg : rx.group = false) (hw : (s.ctx o).walk = none) (hsticky : (s.ctx o).sticky = none)
    (hwalked : (s.ctx o).window.table.walked = true) (count : Nat) :
    exec (.read rx count) s =
      .next ((s.heard rx).modCtx o fun y =>
        { y with
          walk := some
            { table := (s.ctx o).window.table, page := (s.ctx o).window.page, count := clampNat 1 16 count, clamped := clampNat 1 16 count != count
              request := rx.request, port := rx.port, channel := rx.channel, gathered := [], cursor := none } }) := by
  have hctx : (s.heard rx).ctx o = s.ctx o := State.heard_ctx ..
  rw [exec_read h hg hw, read_walked (by rw [hctx]; exact hsticky) (by rw [hctx]; exact hwalked), hctx]

/-- Settles O60: edges latched, read and cleared, a clamped READ, and the walk of takeover records. -/
theorem edgesAndRecordWalks : Obligations.EdgesAndRecordWalks := by
  refine ⟨⟨rfl, fun e => rfl⟩, fun s c j det => ?_, fun s o rx count c h hg hw hsticky hpage hlow hhigh => ?_, fun s o rx count h hg hw hsticky hcount => ?_,
    fun s o w c hs hw ht hp => ?_⟩
  · intro cfg run frame x t rises falls
    obtain ⟨-, hstate⟩ := judgeDetector_ch s c j det
    have hlatched := hstate det
    rw [if_pos rfl] at hlatched
    refine ⟨fun i => ?_, ?_, fun c' hc => ((Elsewhere.refl c s).judgeDetector j det).others c' hc⟩
    · by_cases hpolicy : cfg.policy = .ignore
      · exact (getElem_congr_coll (judgeDetector_unlatched (.inr hpolicy))).trans (if_neg fun h => h.1 hpolicy).symm
      · by_cases hrise : rises
        · have hfall := not_falls_of_rises hrise
          refine (getElem_congr_coll (judgeDetector_latched (detectorStep_rise hrise).1 hpolicy)).trans ?_
          rw [edgeLatched_get, latchEdge_eq]
          by_cases hi : i.val = 2 * (detectorIndex det).val
          · rw [if_pos (eq_edgeIndex_rise.2 hi), if_pos ⟨hpolicy, .inl ⟨hrise, hi⟩⟩] <;> rfl
          · rw [if_neg (hi ∘ eq_edgeIndex_rise.1), if_neg fun h => h.2.elim (fun h => hi h.2) fun h => hfall h.1]
        · by_cases hfall : falls
          · refine (getElem_congr_coll (judgeDetector_latched (detectorStep_fall hfall).1 hpolicy)).trans ?_
            rw [edgeLatched_get, latchEdge_eq]
            by_cases hi : i.val = 2 * (detectorIndex det).val + 1
            · rw [if_pos (eq_edgeIndex_fall.2 hi), if_pos ⟨hpolicy, .inr ⟨hfall, hi⟩⟩] <;> rfl
            · rw [if_neg (hi ∘ eq_edgeIndex_fall.1), if_neg fun h => h.2.elim (fun h => hrise h.1) fun h => hi h.2]
          · exact (getElem_congr_coll (judgeDetector_unlatched (.inl (detectorStep_neither hrise hfall).1))).trans
              (if_neg fun h => h.2.elim (fun h => hrise h.1) fun h => hfall h.1).symm
    · refine (congrArg DetectorState.latched hlatched).trans ?_
      by_cases hrise : rises
      · exact (detectorStep_rise hrise).2.trans (if_pos hrise).symm
      · refine Eq.trans ?_ (if_neg hrise).symm
        by_cases hfall : falls
        · exact (detectorStep_fall hfall).2.trans (if_pos hfall).symm
        · exact (detectorStep_neither hrise hfall).2.trans (if_neg hfall).symm
  · intro t w
    have hcount := clampNat_in hlow hhigh
    refine ⟨fun ht => ?_, fun ht => ?_⟩
    · have hrest : (s.ctx o).window.table.walked = false := congrArg Table.walked ht
      have hp : (s.heard rx).page (s.ctx o).window.table (s.ctx o).window.page = some ((s.ch c).monitor.edges.toList.map edgeEntry) := by
        rw [show (s.ctx o).window.table = .edges from ht, hpage, edges_page, State.heard_ch]
      refine ⟨fun hlen => ?_, fun hlen => ?_⟩
      · exact exec_read_past h hg hw hsticky hrest hp (by rw [hcount, edges_length]; exact hlen)
      · rw [exec_read_entries h hg hw hsticky hrest hp (by rw [hcount, edges_length]; exact hlen), hcount, if_pos ht, hpage, clearEdges_eq, advance_eq]
        have hsame : (count != count) = false := by simp
        rw [hsame]
        have hctx : (((s.heard rx).modMonitor c fun m => { m with edges := edgesCleared m.edges (s.ctx o).window.offset count }).ctx o).window = w :=
          congrArg Context.window (State.heard_ctx s rx o)
        rw [hctx]
        rfl
    · rw [exec_read_walked h hg hw hsticky (congrArg Table.walked ht), hcount, hpage, show (s.ctx o).window.table = .records from ht]
      have hsame : (count != count) = false := by simp
      rw [hsame]
  · intro n t w
    obtain ⟨hn, hclamped⟩ := clampNat_out hcount
    refine ⟨fun ht => ?_, fun entries hs hr hp => ?_⟩
    · have hwalked : (s.ctx o).window.table.walked = true := ht.elim (congrArg Table.walked) (congrArg Table.walked)
      rw [exec_read_walked h hg hw hsticky hwalked, hclamped, hn]
    · have hrest : (s.ctx o).window.table.walked = false := by
        cases htable : (s.ctx o).window.table with
        | schedule => exact absurd htable hs
        | records => exact absurd htable hr
        | _ => rfl
      refine ⟨fun hlen => ?_, fun hlen => ⟨_, exec_read_entries h hg hw hsticky hrest hp (by rw [hn]; exact hlen), ?_⟩⟩
      · exact exec_read_past h hg hw hsticky hrest hp (by rw [hn]; exact hlen)
      · rw [hclamped, hn]
        have hkeeps := readLeaves (s.heard rx) o (s.ctx o).window.page (s.ctx o).window.offset n ((s.ctx o).window.table = .edges)
        obtain ⟨hreply, hctx, hch⟩ := hkeeps
        refine ⟨hreply .., ?_, fun c => ?_⟩
        · rw [ctx_reply, hctx, State.heard_ctx]
          split <;> rfl
        · rw [State.ch_reply, hch]
          simp only [State.heard_ch]
          rfl
  · intro l after ended idle
    rw [exec_walkReach hs]
    refine ⟨fun r => ?_, fun i r hr => ?_, fun q hq hnone => congrArg Host.Outcome.next ?_, fun hq hlen => congrArg Host.Outcome.next ?_⟩
    · intro absent causes origin event replication outcome
      have hcauses : (r.causes.map fun k => Atom.enum (causeCode k)) = causes := List.map_congr_left fun k _ => by cases k <;> rfl
      have horigin : optAtoms (fun o => [.enum (originCode o)]) r.origin = origin := by
        unfold origin
        rcases r.origin with _ | _ | _ <;> rfl
      have hevent : optAtoms (fun x => [.num 4 x.1, .num 4 x.2]) r.event = event := by
        unfold event
        cases r.event <;> rfl
      have hreplication : replicationCode r.replication = replication := by
        unfold replication
        cases r.replication <;> rfl
      have houtcome : outcomeCode r.outcome = outcome := by
        unfold outcome
        cases r.outcome <;> rfl
      have habsent : ∀ x : Option Nat, optAtoms (fun p => [.pos p]) x = absent x := fun x => by cases x <;> rfl
      rw [recordEntry_eq, hcauses, horigin, hevent, hreplication, houtcome, habsent, habsent]
    · have hreach : s.nextReach o w = some { offset := i, entry := recordEntry r, cursor := r.sequence } := by
        rcases hr with ⟨hq, rfl, hr⟩ | ⟨q, hq, hr, hafter, hfirst⟩
        · rw [nextReach_first hp ht hq]
          exact congrArg (Option.map _) hr
        · have hfound : findFrom (openedAfter q) 0 l = some (0 + i, r) := findFrom_some hr ((openedAfter_iff q r).2 hafter) fun j y hj hy =>
            Bool.eq_false_iff.2 fun h => hfirst j y hj hy ((openedAfter_iff q y).1 h)
          rw [nextReach_later hp ht hq]
          rw [Nat.zero_add] at hfound
          exact congrArg (Option.map _) hfound
      obtain ⟨hmore, hlast⟩ := walkReach_reached hw hreach
      exact ⟨fun hlt => congrArg Host.Outcome.next (hmore hlt), fun hle => congrArg Host.Outcome.next (hlast hle)⟩
    · have hreach : s.nextReach o w = none := by
        rw [nextReach_later hp ht hq]
        exact congrArg (Option.map _) (findFrom_none (fun y hy => Bool.eq_false_iff.2 fun h => hnone y hy ((openedAfter_iff q y).1 h)) 0)
      exact walkReach_ranOut hw hreach hq
    · have hreach : s.nextReach o w = none := by
        rw [nextReach_first hp ht hq]
        exact congrArg (Option.map _) (List.getElem?_eq_none hlen)
      exact walkReach_badOffset hw hreach hq

end Sys2Proof.Machine

/-! PROOFS. What the tables of settings and STATUS show (R118, R144, R205). -/

namespace Sys2Proof.Machine

-- Each elaboration thread takes a large stack, and the text is compiled as one file under a memory limit: one thread at a time.
set_option Elab.async false

variable {s t : State} {o : Origin} {rx : ControlRx} {c : Chan}

/-! ## Lists of a page -/

theorem flagNat_shown (b : Bool) : (flagNat b != 0) = b := by cases b <;> rfl

/-- A vector's items, place by place. -/
theorem map_places {α β : Type} {n : Nat} (v : Vector α n) (f : α → β) (l : List (Fin n)) (h : l = List.finRange n) :
    (l.map fun i => f v[i.val]) = v.toList.map f := by
  subst h
  refine List.ext_getElem (by simp) fun i _ _ => ?_
  simp

theorem optAtoms_map {α β : Type} (f : β → List Atom) (g : α → β) (x : Option α) : optAtoms f (x.map g) = optAtoms (fun y => f (g y)) x := by
  cases x <;> rfl

/-! ## The summaries of a mask (R144) -/

theorem mem_maskChannels {mask : BitVec 16} : c ∈ maskChannels mask ↔ mask.getLsbD c.val = true := by
  unfold maskChannels
  rw [List.mem_filter]
  exact and_iff_right (Chan.mem_all c)

theorem mask_all (mask : BitVec 16) (p : Chan → Bool) :
    (!(maskChannels mask).isEmpty && (maskChannels mask).all p) =
      decide ((∃ c : Chan, mask.getLsbD c.val = true) ∧ ∀ c : Chan, mask.getLsbD c.val = true → p c = true) := by
  rw [Bool.eq_iff_iff, Bool.and_eq_true, decide_eq_true_iff, List.all_eq_true, Bool.not_eq_true', List.isEmpty_eq_false_iff]
  simp only [mem_maskChannels]
  refine and_congr_left' ?_
  refine ⟨fun h => (List.exists_mem_of_ne_nil _ h).imp fun c => mem_maskChannels.1, fun ⟨c, hc⟩ h => ?_⟩
  have hmem := mem_maskChannels.2 hc
  rw [h] at hmem
  cases hmem

theorem mask_any (mask : BitVec 16) (p : Chan → Bool) :
    (maskChannels mask).any p = decide (∃ c : Chan, mask.getLsbD c.val = true ∧ p c = true) := by
  rw [Bool.eq_iff_iff, decide_eq_true_iff, List.any_eq_true]
  simp only [mem_maskChannels]

/-! ## Items of STATUS -/

/-- The fields that follow an event's duration, with the kind of its material first (R95). -/
def materialShown (m : Material) : List Atom := .enum (materialCode m) :: materialEntry m

theorem materialShown_eq (m : Material) :
    materialShown m =
      match m with
      | .clip name i => .enum 0 :: .num 1 1 :: (.num 1 name.length :: name.map fun b => .num 1 b.toNat) ++ [.num 1 1, .num 4 i, .num 1 0]
      | .fixed name i => .enum 1 :: .num 1 1 :: (.num 1 name.length :: name.map fun b => .num 1 b.toNat) ++ [.num 1 1, .num 4 i, .num 1 0]
      | .live source => [.enum 2, .num 1 0, .num 1 0, .num 1 1, .num 2 source] := by
  have htext : ∀ l : List Byte, textAtoms l = .num 1 l.length :: l.map fun b => .num 1 b.toNat := fun l => by
    unfold textAtoms listAtoms
    rw [List.map_eq_flatMap]
  cases m with
  | clip name i => simp [materialShown, materialEntry, Material.name, Material.inPoint, Material.source, optAtoms, htext, materialCode]
  | fixed name i => simp [materialShown, materialEntry, Material.name, Material.inPoint, Material.source, optAtoms, htext, materialCode]
  | live source => rfl

theorem eventFlags_eq (e : Event) :
    eventFlags e = (if e.normalised then 1 else 0) + (if e.headTrimmed then 2 else 0) + (if e.tailTrimmed then 4 else 0) := by
  unfold eventFlags flagNat
  cases e.headTrimmed <;> cases e.tailTrimmed <;> rfl

theorem scheduleEntry_eq (s : State) (e : Event) :
    s.scheduleEntry e =
      List.flatten [[.num 4 e.id], s.labelOf e.start, s.labelOf e.finish, [.num 4 e.duration], materialShown e.material, [.num 1 (eventFlags e)]] := by
  simp [State.scheduleEntry, joinAtoms, materialShown]

theorem cueEntry_eq (s : State) (x : Cue) :
    cueEntry s x =
      List.flatten
        [optAtoms (fun n => [.num 1 n]) x.number,
          [.enum (cueKindCode x.kind), .enum x.server.val, .enum x.player.val, .num 4 x.event.id, .pos (s.wrap (x.event.start : Int)),
            .num 4 x.event.duration],
          materialShown x.event.material, [.num 4 x.offset], optAtoms (fun p => [.pos p]) x.materialPosition,
          [.num 4 x.playLength, .pos x.switchPosition, .num 1 x.used, .num 1 x.limit, .enum (cueStatusCode x.status)]] := by
  simp [cueEntry, joinAtoms, materialShown]

theorem rampAtoms_eq (r : Ramp) :
    rampAtoms r = match r with
      | .idle => [.enum 0, .num 1 0, .num 1 0]
      | .running step spent => [.enum 1, .num 1 1, .num 1 step, .num 1 1, .num 1 spent] := by
  cases r <;> rfl

theorem slateAtoms_eq (v : SlateState) :
    slateAtoms v = match v with
      | .empty => [.enum 0, .num 1 0, .num 1 0, .num 1 0]
      | .capturing => [.enum 1, .num 1 0, .num 1 0, .num 1 0]
      | .filled p => [.enum 2, .num 1 1, .num 1 p.chan.val, .num 1 1, .enum (sourcePathCode p.path), .num 1 1, .pos p.position] := by
  cases v <;> rfl

theorem sideIndex_val (side : Side) :
    (sideIndex side).val = match side with
      | .a => 0
      | .b => 1 := by
  cases side <;> rfl

theorem configAtoms_eq (x : ConfigState) :
    configAtoms x = match x with
      | .loaded => [.enum 0, .num 1 0]
      | .defaulted f => [.enum 1, .num 1 1, .enum (loadFaultCode f)]
      | .loading => [.enum 2, .num 1 0] := by
  cases x <;> rfl

theorem stickyCode_some (code : Result) :
    stickyCode (some code) = match code with
      | .busy => 1
      | .badTable => 2
      | .badOffset => 3
      | .readOnly => 4
      | .notAuthorised => 5
      | .badValue => 6
      | _ => 0 := by
  cases code <;> rfl

theorem stickyAtoms_eq (x : Option StickyError) :
    stickyAtoms x = match x with
      | none => [.enum 0, .num 1 0, .num 1 0]
      | some e => [.enum (match e.code with
          | .busy => 1
          | .badTable => 2
          | .badOffset => 3
          | .readOnly => 4
          | .notAuthorised => 5
          | .badValue => 6
          | _ => 0), .num 1 1, .num 2 e.request, .num 1 1, .num 2 e.offset] := by
  cases x with
  | none => rfl
  | some e => exact congrArg (fun n => [Atom.enum n, .num 1 1, .num 2 e.request, .num 1 1, .num 2 e.offset]) (stickyCode_some e.code)

theorem chanOf_none {page : Nat} (h : 16 ≤ page) : chanOf page = none := dif_neg (by omega)

/-! ## Window requests (R192, R195, R196) -/

theorem hasPage_any (s t : State) (k : Table) (page : Nat) : s.hasPage k page = t.hasPage k page := by
  unfold State.hasPage State.page
  cases k with
  | status | counters => dsimp only; split <;> simp
  | identity | restart => dsimp only; split <;> rfl
  | edges | schedule | records | channel | detectors | servers | outputMap | site => simp

theorem exec_setWindow (h : Heard s o rx) (hg : rx.group = false) (hw : (s.ctx o).walk = none) (table page offset auto : Nat) :
    exec (.setWindow rx table page offset auto) s =
      .next ((s.heard rx).setWindow (asked o rx (.setWindow table page offset auto)) table page offset auto) := by
  refine congrArg Host.Outcome.next ((heard_passOn (r := .setWindow table page offset auto) h trivial (by cases o <;> rfl) 0).trans ?_)
  unfold State.passOn
  dsimp only
  exact windowRequest_idle (by rw [State.heard_ctx]; exact hw) hg ..

theorem exec_clearError (h : Heard s o rx) (hg : rx.group = false) (hw : (s.ctx o).walk = none) :
    exec (.clearError rx) s = .next ((s.heard rx).clearStickyError (asked o rx .clearError)) := by
  refine congrArg Host.Outcome.next ((heard_passOn (r := .clearError) h trivial (by cases o <;> rfl) 0).trans ?_)
  unfold State.passOn
  dsimp only
  exact windowRequest_idle (by rw [State.heard_ctx]; exact hw) hg ..

theorem tableOf_none {n : Nat} (h : 12 ≤ n) : tableOf n = none := by
  obtain ⟨k, rfl⟩ := Nat.exists_eq_add_of_le' h
  rfl

theorem setWindow_noTable (u : State) (r : Request) {table : Nat} (h : 12 ≤ table) (page offset auto : Nat) :
    u.setWindow (asked o rx r) table page offset auto = u.refuseSticky (asked o rx r) .badTable := by
  unfold State.setWindow
  rw [tableOf_none h]

theorem setWindow_noPage (u : State) (r : Request) {table page : Nat} {k : Table} (h : tableOf table = some k) (hp : u.hasPage k page = false)
    (offset auto : Nat) : u.setWindow (asked o rx r) table page offset auto = u.refuseSticky (asked o rx r) .badOffset := by
  unfold State.setWindow
  rw [h]
  dsimp only
  rw [hp]
  rfl

theorem setWindow_set (u : State) (r : Request) {table page auto : Nat} {k : Table} (h : tableOf table = some k) (hp : u.hasPage k page = true)
    (ha : auto < 2) (offset : Nat) :
    u.setWindow (asked o rx r) table page offset auto =
      (u.modCtx o fun y => { y with window := { table := k, page := page, offset := offset, auto := auto == 1 } }).answered o rx r.code .accepted [] := by
  unfold State.setWindow
  rw [h]
  dsimp only
  rw [if_neg (by rw [hp]; decide), if_neg (Nat.not_le.2 ha)]
  rfl

/-- A window request in a busy context (R196). -/
theorem exec_busy {w : Walk} {i : Instr} {code : Nat} (h : Heard s o rx) (hw : (s.ctx o).walk = some w) (hi : windowRequestOf i = some (rx, code))
    (ho : o = .console ∨ code ≠ 0x43) :
    exec i s =
      .next (((((s.heard rx).modCtx o fun y => y.stuck .busy rx.request).answered o rx code .busy []).modCtx o fun y => { y with walk := none }).reply o w.port
        { request := w.request, kind := 0x42, channel := w.channel, result := .busy, clamped := false, contents := [] }) := by
  obtain ⟨r, time, hr, ha, hpass⟩ := carries_windowRequestOf hi
  have hauth : authorised o r = true := by
    rcases ho with rfl | hcode
    · rfl
    · cases o <;> [exact ha hcode; rfl]
  obtain ⟨f, hf⟩ := hpass (s.heard rx) (asked o rx r) rx.group time
  rw [hr.exec, heard_passOn h hr.answerable hauth, hf, ← hr.code, windowRequest_busy (by rw [State.heard_ctx]; exact hw)]

theorem refuseAuthority_write (u : State) (values : List Nat) :
    u.refuseAuthority (asked o rx (.write values)) (.write values) =
      let refused := (State.modCtx (u.bump (.origin o .notAuthorisedRefusals)) o fun y => y.stuck .notAuthorised rx.request).answered o rx 0x43 .notAuthorised []
      match (u.ctx o).walk with
      | some w =>
        (refused.modCtx o fun y => { y with walk := none }).reply o w.port
          { request := w.request, kind := 0x42, channel := w.channel, result := .busy, clamped := false, contents := [] }
      | none => refused := by
  unfold State.refuseAuthority
  dsimp only
  rw [refuseSticky_eq, show (asked o rx (.write values)).origin = o from rfl, ctx_bump]
  cases (u.ctx o).walk <;> rfl

/-! ## Walks of a schedule (R196) -/

theorem scheduleReach_first {w : Walk} (hp : w.page = c.val) (ht : w.table = .schedule) (hq : w.cursor = none) :
    s.nextReach o w =
      ((s.live c)[(s.ctx o).window.offset]?).map fun e => { offset := (s.ctx o).window.offset, entry := s.scheduleEntry e, cursor := e.start } := by
  unfold State.nextReach
  rw [hp, chanOf_val, ht, hq]
  dsimp only
  rw [Option.map_map]
  rfl

theorem scheduleReach_later {w : Walk} {q : Nat} (hp : w.page = c.val) (ht : w.table = .schedule) (hq : w.cursor = some q) :
    s.nextReach o w =
      (findFrom (fun e : Event => q < e.start) 0 (s.live c)).map fun x => { offset := x.1, entry := s.scheduleEntry x.2, cursor := x.2.start } := by
  unfold State.nextReach
  rw [hp, chanOf_val, ht, hq]

end Sys2Proof.Machine

/-! PROOFS. What the tables show, windows set and read, and the walks of schedules (R118, R191 to R196, R205). -/

namespace Sys2Proof.Machine

-- Each elaboration thread takes a large stack, and the text is compiled as one file under a memory limit: one thread at a time.
set_option Elab.async false

variable {s t : State} {o : Origin} {rx : ControlRx} {c : Chan}

/-- Settles O55: what the tables show, windows set and read, the refusals of a busy context, and the walks of schedules. -/
theorem windowsReadsAndWalks : Obligations.WindowsReadsAndWalks := by
  refine ⟨fun s => ⟨fun c => ⟨?_, ?_⟩, ?_, ?_, ?_, rfl, ?_, fun page h => ?_, fun page h => ?_, ?_⟩, ?_, ?_⟩
  · unfold State.page pageRefs
    dsimp only
    rw [chanOf_val]
    simp only [Option.map_some, chanSettings, List.map_cons, List.map_nil, State.settingEntry, SettingRef.kind, ChanSetting.kind, State.getRef,
      ChannelSettings.get, flagNat_shown] <;> rfl
  · unfold State.page pageRefs
    dsimp only
    rw [chanOf_val]
    simp only [Option.map_some, Detector.all, detSettings, List.flatMap_cons, List.flatMap_nil, List.cons_append, List.nil_append, List.map_cons,
      List.map_nil, State.settingEntry, SettingRef.kind, DetSetting.kind, State.getRef, DetectorSettings.get, flagNat_shown] <;> rfl
  · unfold State.page pageRefs
    dsimp only
    simp only [if_true, Option.map_some, serverIndices, List.flatMap_cons, List.flatMap_nil, List.cons_append, List.nil_append, List.map_cons, List.map_nil,
      State.settingEntry, SettingRef.kind, State.getRef, flagNat_shown]
  · rfl
  · rfl
  · rfl
  · have hpage := chanOf_none h
    unfold State.page pageRefs
    rw [hpage]
    exact ⟨rfl, rfl⟩
  · unfold State.page pageRefs
    dsimp only
    rw [if_neg h, if_neg h, if_neg h, if_neg h, if_neg h]
    exact ⟨rfl, rfl, rfl, rfl, rfl⟩
  · intro label material opt
    have hlabel : s.labelOf = label := rfl
    have hmaterial : materialShown = material := funext fun m => by
      exact (materialShown_eq m).trans (by cases m <;> rfl)
    have hopt : ∀ {α : Type} (f : α → List Atom) (x : Option α), optAtoms f x = opt x f := fun f x => by cases x <;> rfl
    refine ⟨fun e => ?_, fun page h h' => ?_, fun c => ?_, ?_⟩
    · intro flags
      rw [scheduleEntry_eq, hlabel, hmaterial, eventFlags_eq]
      rfl
    · unfold State.page
      dsimp only
      rw [if_neg h', chanOf_none h]
      rfl
    · intro x a y z slot cue
      have hcue : cueEntry s = cue := funext fun q => by
        rw [cueEntry_eq, hmaterial]
        rfl
      have hmain : (mainIndices.map fun i => [Atom.enum (slotCode (s.ch c).slots.main[i.val])]) = (s.ch c).slots.main.toList.map slot :=
        map_places (s.ch c).slots.main slot mainIndices (by decide)
      have hstandby : (standbyIndices.map fun i => [Atom.enum (slotCode (s.ch c).slots.standby[i.val])]) = (s.ch c).slots.standby.toList.map slot :=
        map_places (s.ch c).slots.standby slot standbyIndices (by decide)
      have hcurrent : optAtoms (fun n => [.num 2 n]) (s.currentSequence c) =
          opt (z.ring.find? fun r => z.current = some r.sequence) fun r => [.num 2 r.sequence] := by
        unfold State.currentSequence
        rw [State.currentRecord_eq, optAtoms_map]
        exact hopt ..
      have hpage : s.page .status c.val = some (s.statusChannel c) := by
        unfold State.page
        dsimp only
        rw [if_neg (by omega), chanOf_val]
        rfl
      rw [hpage]
      refine congrArg some ?_
      unfold State.statusChannel State.statusCarriage State.statusMonitor State.statusSchedule State.statusControl State.statusCue State.statusOutput
      dsimp only
      rw [hmain, hstandby, hcue, hlabel, hcurrent, rampAtoms_eq]
      simp only [hopt, List.append_assoc]
      rfl
    · intro up site each member onMain onStandby summaries
      have hlinks : s.ports.links.toList.map up = Port.all.map fun p => [upAtom (s.linkUp p)] :=
        (map_places s.ports.links up [0, 1, 2, 3, 4, 5, 6, 7] (by decide)).symm
      have hslates : (slateIndices.map fun i => slateAtoms s.slates[i.val].state) = s.slates.toList.map fun v => slateAtoms v.state :=
        map_places s.slates (fun v => slateAtoms v.state) slateIndices (by decide)
      have hflags : (selectionFlags.flatMap fun k => Origin.all.map fun o => [Atom.flag (s.selectionFlag (s.ctx o).mask k)]) =
          summaries.flatMap fun f => each fun x => [.flag (f x)] := by
        have hmain : (fun c => s.chState c == .main) = onMain := rfl
        have hstandby : s.isOnStandby = onStandby := funext fun c => by
          unfold State.isOnStandby State.chState onStandby
          cases (s.ch c).control.state <;> rfl
        simp only [selectionFlags, Origin.all, List.flatMap_cons, List.flatMap_nil, List.map_cons, List.map_nil, State.selectionFlag, hmain, hstandby, mask_all,
          mask_any]
        rfl
      refine congrArg some ?_
      unfold State.statusUnit State.statusTime State.statusPorts State.statusSite State.statusManagement State.statusContexts
      rw [hslates, hflags, hlinks]
      simp only [slateAtoms_eq, sideIndex_val, configAtoms_eq, stickyAtoms_eq, hopt, List.append_assoc]
      rfl
  · intro s o rx h hg x t stick
    have hctx : t.ctx o = s.ctx o := State.heard_ctx ..
    refine ⟨fun hw => ⟨fun table page offset auto => ⟨fun ht => ?_, fun k hk => ⟨fun hp => ?_, fun hp ha => ?_⟩⟩, ?_, fun e count he => ?_,
      fun entries count hsticky hrest hedges hp hlow hhigh => ?_⟩, ?_⟩
    · rw [exec_setWindow h hg hw, setWindow_noTable _ _ ht, refuseSticky_eq]
      rfl
    · rw [exec_setWindow h hg hw, setWindow_noPage _ _ hk ((hasPage_any ..).trans hp), refuseSticky_eq]
      rfl
    · rw [exec_setWindow h hg hw, setWindow_set _ _ hk ((hasPage_any ..).trans hp) ha]
      rfl
    · rw [exec_clearError h hg hw]
      unfold State.clearStickyError
      rw [show (asked o rx .clearError).origin = o from rfl, show (s.heard rx).ctx o = x from hctx]
      cases x.sticky <;> rfl
    · rw [exec_read h hg hw, read_held (by rw [State.heard_ctx]; exact he)]
    · have hcount := clampNat_in hlow hhigh
      refine ⟨fun hlen => ?_, fun hlen => ?_⟩
      · rw [exec_read h hg hw, read_past (entries := entries) (by rw [State.heard_ctx]; exact hsticky) (by rw [State.heard_ctx]; exact hrest)
          (by rw [State.heard_ctx]; exact hp) (by rw [State.heard_ctx, hcount]; exact hlen)]
        rfl
      · have hsame : (count != count) = false := by simp
        rw [exec_read_entries h hg hw hsticky hrest hp (by rw [hcount]; exact hlen), hcount, if_neg hedges, advance_eq, State.heard_ctx, hsame]
        rfl
    · intro ended
      refine ⟨fun w i code hw hi => ?_, fun ho values time => ?_⟩
      · have hrequest : windowRequestOf i = some (rx, code) ∧ (o = .console ∨ code ≠ 0x43) := by
          rcases hi with ⟨count, rfl, rfl⟩ | ⟨table, page, offset, auto, rfl, rfl⟩ | ⟨rfl, rfl⟩ | ⟨ho, values, time, rfl, rfl⟩
          · exact ⟨rfl, .inr (by decide)⟩
          · exact ⟨rfl, .inr (by decide)⟩
          · exact ⟨rfl, .inr (by decide)⟩
          · exact ⟨rfl, .inl ho⟩
        rw [exec_busy h hw hrequest.1 hrequest.2]
        rfl
      · intro refused
        have hexec : exec (.write rx values time) s = .next ((s.heard rx).refuseAuthority (asked o rx (.write values)) (.write values)) :=
          congrArg Host.Outcome.next (heard_refused (r := .write values) h trivial (by rw [ho]; rfl) time)
        rw [hexec, refuseAuthority_write, State.heard_ctx]
        cases hwalk : (s.ctx o).walk with
        | none => rfl
        | some w => rfl
  · refine ⟨fun s o rx count h hg hw hsticky ht hlow hhigh => ?_, fun s o hs => ⟨fun hw => ?_, fun w c hw ht hp => ?_⟩⟩
    · have hsame : (count != count) = false := by simp
      rw [exec_read_walked h hg hw hsticky (congrArg Table.walked ht), clampNat_in hlow hhigh, hsame, ht]
    · rw [exec_walkReach hs, walkReach_idle hw]
    · intro l base ended answer idle
      rw [exec_walkReach hs]
      refine ⟨fun i e he => ?_, fun q hq hnone => congrArg Host.Outcome.next ?_, fun hq hlen => congrArg Host.Outcome.next ?_⟩
      · have hreach : s.nextReach o w = some { offset := i, entry := s.scheduleEntry e, cursor := e.start } := by
          rcases he with ⟨hq, rfl, he⟩ | ⟨q, hq, he, hafter, hfirst⟩
          · rw [scheduleReach_first hp ht hq]
            exact congrArg (Option.map _) he
          · have hfound : findFrom (fun e : Event => q < e.start) 0 l = some (0 + i, e) := findFrom_some he (decide_eq_true hafter) fun j y hj hy =>
              decide_eq_false (Nat.not_lt.2 (hfirst j y hj hy))
            rw [scheduleReach_later hp ht hq]
            rw [Nat.zero_add] at hfound
            exact congrArg (Option.map _) hfound
        obtain ⟨hmore, hlast⟩ := walkReach_reached hw hreach
        exact ⟨fun hlt => congrArg Host.Outcome.next (hmore hlt), fun hle => congrArg Host.Outcome.next (hlast hle)⟩
      · have hreach : s.nextReach o w = none := by
          rw [scheduleReach_later hp ht hq]
          exact congrArg (Option.map _) (findFrom_none (fun y hy => decide_eq_false (Nat.not_lt.2 (hnone y hy))) 0)
        exact walkReach_ranOut hw hreach hq
      · have hreach : s.nextReach o w = none := by
          rw [scheduleReach_first hp ht hq]
          exact congrArg (Option.map _) (List.getElem?_eq_none hlen)
        exact walkReach_badOffset hw hreach hq

end Sys2Proof.Machine

/-! PROOFS. The entries of the five tables of settings, read and stored (R17, R37, R59, R121, R179, R201, R204). -/

namespace Sys2Proof.Machine

-- Each elaboration thread takes a large stack, and the text is compiled as one file under a memory limit: one thread at a time.
set_option Elab.async false

variable {s t : State} {c : Chan} {r r' : SettingRef}

/-! ## Entries of a channel's settings -/

/-- The channel whose settings or mode an entry holds. -/
def SettingRef.chan? : SettingRef → Option Chan
  | .chan c _ | .det c _ _ | .chain c | .pairs c | .stream c => some c
  | .mapped _ | .serverPort _ | .site _ => none

/-- An entry of a channel as a number. -/
def SettingRef.readFrom (x : ChannelSettings) (mode : ServiceMode) : SettingRef → Nat
  | .chan _ k => x.get mode k
  | .det _ d k => (x.detectors[(detectorIndex d).val]).get k
  | .chain _ => flagNat x.chain
  | .pairs _ => x.pairSet.toNat
  | .stream _ => x.streamId
  | _ => 0

/-- A value stored in the settings of a channel. -/
def SettingRef.putIn (x : ChannelSettings) (v : Nat) : SettingRef → ChannelSettings
  | .chan _ k => x.put k v
  | .det _ d k => { x with detectors := vmod x.detectors (detectorIndex d) fun y => y.put k v }
  | .chain _ => { x with chain := v != 0 }
  | .pairs _ => { x with pairSet := BitVec.ofNat 8 v }
  | .stream _ => { x with streamId := v }
  | _ => x

theorem getRef_chan (h : r.chan? = some c) (s : State) : s.getRef r = r.readFrom (s.ch c).settings (s.ch c).control.mode := by
  cases r <;> cases h <;> rfl

theorem putRef_mode (s : State) (c : Chan) (v : Nat) : s.putRef (.chan c .serviceMode) v = s.modControl c fun y => { y with mode := modeOf v } := rfl

theorem putRef_chan (h : r.chan? = some c) (hm : r ≠ .chan c .serviceMode) (s : State) (v : Nat) :
    s.putRef r v = s.modSettings c fun x => r.putIn x v := by
  cases r with
  | chan c' k =>
    cases h
    cases k with
    | serviceMode => exact absurd rfl hm
    | _ => rfl
  | det | chain | pairs | stream => cases h; rfl
  | mapped | serverPort | site => cases h

theorem chan_put_get_ne {k k' : ChanSetting} (h : k' ≠ k) (x : ChannelSettings) (v : Nat) (mode : ServiceMode) : (x.put k v).get mode k' = x.get mode k' := by
  cases k with
  | lead | joinMargin | cueAttempts | server | player | returnMode | autoReturn | guardLength | mainHoldLimit | standbyHoldLimit | fillSlate | delayOverride
  | delayMargin | rampEnable | rampStep | serviceMode => cases k' <;> simp [ChannelSettings.put, ChannelSettings.get] at h ⊢

theorem det_put_get_ne {k k' : DetSetting} (h : k' ≠ k) (x : DetectorSettings) (v : Nat) : (x.put k v).get k' = x.get k' := by
  cases k with
  | enabled | policy | assertCount | clearCount | settleFrames | threshold | riseReport | fallReport =>
    cases k' <;> simp [DetectorSettings.put, DetectorSettings.get] at h ⊢

/-- A value stored in a channel's entry leaves the channel's other entries. -/
theorem readFrom_putIn_ne (hc : r.chan? = some c) (hc' : r'.chan? = some c) (h : r' ≠ r) (x : ChannelSettings) (v : Nat) (mode : ServiceMode) :
    r'.readFrom (r.putIn x v) mode = r'.readFrom x mode := by
  cases r with
  | mapped | serverPort | site => cases hc
  | chan a k =>
    cases hc
    cases r' with
    | chan a' k' =>
      cases hc'
      exact chan_put_get_ne (fun e => h (by rw [e])) x v mode
    | det | chain | pairs | stream => cases k <;> rfl
    | _ => rfl
  | det a d k =>
    cases hc
    cases r' with
    | det a' d' k' =>
      cases hc'
      unfold SettingRef.readFrom SettingRef.putIn
      dsimp only
      rw [vmod_get]
      by_cases hd : d' = d
      · subst hd
        rw [if_pos rfl]
        exact det_put_get_ne (fun e => h (by rw [e])) _ v
      · rw [if_neg fun e => hd (detectorIndex_inj e)]
    | chan a' k' => cases k' <;> rfl
    | _ => rfl
  | chain a =>
    cases hc
    cases r' with
    | chain a' => cases hc'; exact absurd rfl h
    | chan a' k' => cases k' <;> rfl
    | _ => rfl
  | pairs a =>
    cases hc
    cases r' with
    | pairs a' => cases hc'; exact absurd rfl h
    | chan a' k' => cases k' <;> rfl
    | _ => rfl
  | stream a =>
    cases hc
    cases r' with
    | stream a' => cases hc'; exact absurd rfl h
    | chan a' k' => cases k' <;> rfl
    | _ => rfl

/-! ## Entries of the unit's settings -/

theorem getRef_unit (h : r.chan? = none) (hsettings : t.settings = s.settings) (htime : t.time = s.time) : t.getRef r = s.getRef r := by
  cases r with
  | chan | det | chain | pairs | stream => cases h
  | mapped i | serverPort i =>
    unfold State.getRef
    dsimp only
    simp only [hsettings]
  | site k =>
    unfold State.getRef
    dsimp only
    rw [hsettings, htime]

theorem unit_put_get_ne {k k' : SiteSetting} (h : k' ≠ k) (x : UnitSettings) (v : Nat) (rate : Rate) : (x.put k v).get rate k' = x.get rate k' := by
  cases k with
  | houseRate | pathTimeout | pathRestore | keepaliveCount | keepalivePrescale | snapshotCount | snapshotPrescale | resyncCount | resyncPrescale | unitNumber =>
    cases k' <;> simp [UnitSettings.put, UnitSettings.get] at h ⊢

/-- A value stored in an entry of the unit leaves its other entries. -/
theorem getRef_putRef_unit (hr : r.chan? = none) (hr' : r'.chan? = none) (h : r' ≠ r) (s : State) (v : Nat) : (s.putRef r v).getRef r' = s.getRef r' := by
  cases r with
  | chan | det | chain | pairs | stream => cases hr
  | mapped i =>
    cases r' with
    | chan | det | chain | pairs | stream => cases hr'
    | mapped j =>
      have hj : j ≠ i := fun e => h (by rw [e])
      simp [State.getRef, State.putRef, State.modUnit, hj]
    | serverPort j =>
      simp only [State.getRef, State.putRef, State.modUnit, vmod_get]
      split <;> rfl
    | site k => cases k <;> rfl
  | serverPort i =>
    cases r' with
    | chan | det | chain | pairs | stream => cases hr'
    | serverPort j =>
      have hj : j ≠ i := fun e => h (by rw [e])
      simp [State.getRef, State.putRef, State.modUnit, hj]
    | mapped j =>
      simp only [State.getRef, State.putRef, State.modUnit, vmod_get]
      split <;> rfl
    | site k => cases k <;> rfl
  | site k =>
    cases r' with
    | chan | det | chain | pairs | stream => cases hr'
    | mapped j | serverPort j => cases k <;> rfl
    | site k' =>
      have hk : k' ≠ k := fun e => h (by rw [e])
      cases k with
      | houseRate =>
        cases k' with
        | houseRate => exact absurd rfl hk
        | _ => rfl
      | _ => exact unit_put_get_ne hk s.settings v s.time.rate

/-! ## Any entries -/

theorem putRef_ch_ne (hr : r.chan? ≠ some c) (s : State) (v : Nat) : (s.putRef r v).ch c = s.ch c := by
  cases hc : r.chan? with
  | none =>
    cases r with
    | chan | det | chain | pairs | stream => cases hc
    | mapped | serverPort => rfl
    | site k => cases k <;> rfl
  | some c' =>
    have hne : c ≠ c' := fun e => hr (by rw [hc, e])
    by_cases hm : r = .chan c' .serviceMode
    · rw [hm, putRef_mode, State.ch_modControl_ne _ _ _ _ hne]
    · rw [putRef_chan hc hm, State.ch_modSettings_ne _ _ _ _ hne]

theorem putRef_unit (hr : r.chan? = some c) (s : State) (v : Nat) : (s.putRef r v).settings = s.settings ∧ (s.putRef r v).time = s.time := by
  by_cases hm : r = .chan c .serviceMode
  · rw [hm]
    exact ⟨rfl, rfl⟩
  · rw [putRef_chan hr hm]
    exact ⟨rfl, rfl⟩

/-- A value stored in an entry leaves every other entry. -/
theorem getRef_putRef_ne (h : r' ≠ r) (s : State) (v : Nat) : (s.putRef r v).getRef r' = s.getRef r' := by
  cases hc' : r'.chan? with
  | none =>
    cases hc : r.chan? with
    | none => exact getRef_putRef_unit hc hc' h s v
    | some c =>
      obtain ⟨hsettings, htime⟩ := putRef_unit hc s v
      exact getRef_unit hc' hsettings htime
  | some c =>
    rw [getRef_chan hc', getRef_chan hc']
    by_cases hc : r.chan? = some c
    · by_cases hm : r = .chan c .serviceMode
      · subst hm
        rw [putRef_mode, State.ch_modControl_same]
        cases r' with
        | chan a k =>
          cases hc'
          cases k with
          | serviceMode => exact absurd rfl h
          | _ => rfl
        | _ => rfl
      · rw [putRef_chan hc hm, State.ch_modSettings_same]
        exact readFrom_putIn_ne hc hc' h _ v _
    · rw [putRef_ch_ne hc]

/-! ## A value stored and read back -/

theorem judgeValue_enum {m v : Nat} (h : judgeValue (.enum m) v = some (v, false)) : v < m := by
  unfold judgeValue at h
  dsimp only at h
  split at h
  · assumption
  · cases h

theorem judgeValue_flag {v : Nat} (h : judgeValue .flag v = some (v, false)) : v < 2 := by
  unfold judgeValue at h
  dsimp only at h
  split at h
  · assumption
  · cases h

theorem judgeValue_pairs {v : Nat} (h : judgeValue .pairs v = some (v, false)) : v < 256 := by
  unfold judgeValue at h
  dsimp only at h
  split at h
  · assumption
  · cases h

theorem flagNat_put {v : Nat} (h : v < 2) : flagNat (v != 0) = v := by
  match v, h with
  | 0, _ | 1, _ => rfl

theorem finOf_val {n v : Nat} (hn : 0 < n) (h : v < n) : (finOf n hn v).val = v := Nat.mod_eq_of_lt h

theorem modeCode_modeOf {v : Nat} (h : v < 3) : modeCode (modeOf v) = v := by
  match v, h with
  | 0, _ | 1, _ | 2, _ => rfl

theorem rateCode_rateOf {v : Nat} (h : v < 4) : rateCode (rateOf v) = v := by
  match v, h with
  | 0, _ | 1, _ | 2, _ | 3, _ => rfl

theorem policyCode_policyOf {v : Nat} (h : v < 3) : policyCode (policyOf v) = v := by
  match v, h with
  | 0, _ | 1, _ | 2, _ => rfl

theorem chan_put_get {k : ChanSetting} {v : Nat} (hk : k ≠ .serviceMode) (h : judgeValue k.kind v = some (v, false)) (x : ChannelSettings) (mode : ServiceMode) :
    (x.put k v).get mode k = v := by
  cases k with
  | serviceMode => exact absurd rfl hk
  | server | player | fillSlate => exact finOf_val (by decide) (judgeValue_enum h)
  | autoReturn | rampEnable => exact flagNat_put (judgeValue_flag h)
  | returnMode =>
    have hv := judgeValue_enum h
    match v, hv with
    | 0, _ | 1, _ => rfl
  | _ => rfl

theorem det_put_get {d : Detector} {k : DetSetting} {v : Nat} (hk : k ≠ .threshold) (h : judgeValue (k.kind d) v = some (v, false)) (x : DetectorSettings) :
    (x.put k v).get k = v := by
  cases k with
  | threshold => exact absurd rfl hk
  | enabled | riseReport | fallReport => exact flagNat_put (judgeValue_flag h)
  | policy => exact policyCode_policyOf (judgeValue_enum h)
  | _ => rfl

theorem unit_put_get {k : SiteSetting} {v : Nat} (hk : k ≠ .houseRate) (h : judgeValue k.kind v = some (v, false)) (x : UnitSettings) (rate : Rate) :
    (x.put k v).get rate k = v := by
  cases k with
  | houseRate => exact absurd rfl hk
  | keepalivePrescale | snapshotPrescale | resyncPrescale => exact finOf_val (by decide) (judgeValue_enum h)
  | _ => rfl

/-- What an entry reads once a value has been stored in it: the threshold of a detector that has none stays absent, and reads as 0. -/
def State.storedAs (s : State) (n : Nat) : SettingRef → Nat
  | .det c det .threshold => if ((s.ch c).settings.detectors[(detectorIndex det).val]).threshold = none then 0 else n
  | _ => n

/-- A value that an entry takes as it is reads back. -/
theorem getRef_putRef {n : Nat} (h : judgeValue r.kind n = some (n, false)) (s : State) : (s.putRef r n).getRef r = s.storedAs n r := by
  cases r with
  | chan c k =>
    rw [getRef_chan (c := c) rfl]
    by_cases hk : k = .serviceMode
    · subst hk
      rw [putRef_mode, State.ch_modControl_same]
      exact modeCode_modeOf (judgeValue_enum h)
    · rw [putRef_chan (c := c) rfl (fun e => hk (SettingRef.chan.inj e).2), State.ch_modSettings_same]
      exact chan_put_get hk h _ _
  | det c d k =>
    rw [getRef_chan (c := c) rfl, putRef_chan (c := c) rfl (fun e => by cases e), State.ch_modSettings_same]
    unfold SettingRef.readFrom SettingRef.putIn
    dsimp only
    rw [vmod_get_same]
    by_cases hk : k = .threshold
    · subst hk
      unfold DetectorSettings.put DetectorSettings.get State.storedAs
      dsimp only
      cases ((s.ch c).settings.detectors[(detectorIndex d).val]).threshold with
      | none => rfl
      | some y => exact (if_neg nofun).symm
    · rw [det_put_get hk h]
      cases k with
      | threshold => exact absurd rfl hk
      | _ => rfl
  | chain c =>
    rw [getRef_chan (c := c) rfl, putRef_chan (c := c) rfl (fun e => by cases e), State.ch_modSettings_same]
    exact flagNat_put (judgeValue_flag h)
  | pairs c =>
    rw [getRef_chan (c := c) rfl, putRef_chan (c := c) rfl (fun e => by cases e), State.ch_modSettings_same]
    exact (BitVec.toNat_ofNat ..).trans (Nat.mod_eq_of_lt (judgeValue_pairs h))
  | stream c =>
    rw [getRef_chan (c := c) rfl, putRef_chan (c := c) rfl (fun e => by cases e), State.ch_modSettings_same]
    rfl
  | mapped i =>
    simp only [State.getRef, State.putRef, State.modUnit, vmod_get_same]
    exact flagNat_put (judgeValue_flag h)
  | serverPort i =>
    simp only [State.getRef, State.putRef, State.modUnit, vmod_get_same]
    exact finOf_val (by decide) (judgeValue_enum h)
  | site k =>
    by_cases hk : k = .houseRate
    · subst hk
      exact rateCode_rateOf (judgeValue_enum h)
    · have hput : (s.putRef (.site k) n).getRef (.site k) = (s.settings.put k n).get s.time.rate k := by
        cases k with
        | houseRate => exact absurd rfl hk
        | _ => rfl
      exact hput.trans (unit_put_get hk h _ _)

/-- Where a value is stored: in its entry's settings, or in the mode or the rate. -/
theorem putRef_rest (hmode : ∀ c, r ≠ .chan c .serviceMode) (hrate : r ≠ .site .houseRate) (s : State) (v : Nat) :
    (∀ c, { (s.putRef r v).ch c with settings := (s.ch c).settings } = s.ch c) ∧ { s.putRef r v with chans := s.chans, settings := s.settings } = s := by
  cases hc : r.chan? with
  | some c =>
    rw [putRef_chan hc (hmode c)]
    refine ⟨fun c' => ?_, rfl⟩
    by_cases h : c' = c
    · subst h
      rw [State.ch_modSettings_same]
    · rw [State.ch_modSettings_ne _ _ _ _ h]
  | none =>
    cases r with
    | chan | det | chain | pairs | stream => cases hc
    | mapped | serverPort => exact ⟨fun _ => rfl, rfl⟩
    | site k =>
      cases k with
      | houseRate => exact absurd rfl hrate
      | _ => exact ⟨fun _ => rfl, rfl⟩

end Sys2Proof.Machine

/-! PROOFS. WRITE value by value, and a change of house rate (R17, R60, R61, R185, R194). -/

namespace Sys2Proof.Machine

-- Each elaboration thread takes a large stack, and the text is compiled as one file under a memory limit: one thread at a time.
set_option Elab.async false

variable {s t u : State} {o : Origin} {rx : ControlRx} {c : Chan} {r : SettingRef} {refs : List SettingRef} {x : Writing} {offset time v n : Nat}

/-! ## One value (R194) -/

/-- A WRITE stopped at the entry that it has reached. -/
def Writing.stop (x : Writing) (offset : Nat) (code : Result) : Writing := { x with stopped := some (code, offset + x.dealt) }

/-- A WRITE that has stored `n` for the value `v`. -/
def Writing.wrote (x : Writing) (offset : Nat) (t : State) (n v : Nat) : Writing :=
  { x with state := t, dealt := x.dealt + 1, clamped := if n = v then x.clamped else x.clamped ++ [offset + x.dealt] }

theorem step_stopped (h : x.stopped ≠ none) : x.step refs offset time v = x := by
  obtain ⟨y, hy⟩ := Option.ne_none_iff_exists'.1 h
  unfold Writing.step
  rw [hy]

theorem foldl_stopped (h : x.stopped ≠ none) (values : List Nat) : values.foldl (fun x v => x.step refs offset time v) x = x := by
  induction values with
  | nil => rfl
  | cons v values ih => rw [List.foldl_cons, step_stopped h, ih]

theorem step_past (h : x.stopped = none) (hlen : refs.length ≤ offset + x.dealt) : x.step refs offset time v = x.stop offset .badOffset := by
  unfold Writing.step
  rw [h]
  dsimp only
  rw [List.getElem?_eq_none hlen]
  rfl

theorem step_readOnly (h : x.stopped = none) (hr : refs[offset + x.dealt]? = some r) (hro : r.readOnly = true) :
    x.step refs offset time v = x.stop offset .readOnly := by
  unfold Writing.step
  rw [h]
  dsimp only
  rw [hr]
  dsimp only
  rw [if_pos hro]
  rfl

theorem step_badValue (h : x.stopped = none) (hr : refs[offset + x.dealt]? = some r) (hro : r.readOnly = false) (hj : judgeValue r.kind v = none) :
    x.step refs offset time v = x.stop offset .badValue := by
  unfold Writing.step
  rw [h]
  dsimp only
  rw [hr]
  dsimp only
  rw [if_neg (by rw [hro]; decide), hj]
  rfl

theorem step_written (h : x.stopped = none) (hr : refs[offset + x.dealt]? = some r) (hro : r.readOnly = false)
    (hj : judgeValue r.kind v = some (n, n != v)) (hw : x.state.writeRef r n time = some t) : x.step refs offset time v = x.wrote offset t n v := by
  unfold Writing.step Writing.wrote
  rw [h]
  dsimp only
  rw [hr]
  dsimp only
  rw [if_neg (by rw [hro]; decide), hj]
  dsimp only
  rw [hw]
  by_cases hn : n = v
  · simp [hn]
  · simp [hn]

theorem step_refused (h : x.stopped = none) (hr : refs[offset + x.dealt]? = some r) (hro : r.readOnly = false)
    (hj : judgeValue r.kind v = some (n, n != v)) (hw : x.state.writeRef r n time = none) :
    x.step refs offset time v = { x with dealt := x.dealt + 1, refused := x.refused ++ [(offset + x.dealt, .inService)] } := by
  unfold Writing.step
  rw [h]
  dsimp only
  rw [hr]
  dsimp only
  rw [if_neg (by rw [hro]; decide), hj]
  dsimp only
  rw [hw]

theorem readOnly_iff : r.readOnly = true ↔ r.kind = .absent ∨ ∃ c, r = .chan c .serviceMode := by
  unfold SettingRef.readOnly
  split
  · exact iff_of_true rfl (.inr ⟨_, rfl⟩)
  · rename_i hmode
    rw [beq_iff_eq]
    exact ⟨.inl, fun h => h.resolve_right fun ⟨c, hc⟩ => hmode c hc⟩

/-- A value that an entry takes, as it stores it. -/
def Fits (k : SettingKind) (v n : Nat) : Prop :=
  (∃ width lo hi, k = .number width lo hi ∧ n = max lo (min hi v)) ∨ (∃ m, k = .enum m ∧ v < m ∧ n = v) ∨ (k = .flag ∧ v < 2 ∧ n = v) ∨
    (k = .pairs ∧ v < 256 ∧ n = v)

/-- A value that an entry refuses. -/
def Misfits (k : SettingKind) (v : Nat) : Prop := (∃ m, k = .enum m ∧ m ≤ v) ∨ (k = .flag ∧ 2 ≤ v) ∨ (k = .pairs ∧ 256 ≤ v)

theorem judgeValue_fits {k : SettingKind} (h : Fits k v n) : judgeValue k v = some (n, n != v) := by
  unfold judgeValue
  rcases h with ⟨width, lo, hi, rfl, rfl⟩ | ⟨m, rfl, hlt, rfl⟩ | ⟨rfl, hlt, rfl⟩ | ⟨rfl, hlt, rfl⟩
  · rfl
  · simp [hlt]
  · simp [hlt]
  · simp [hlt]

theorem judgeValue_misfits {k : SettingKind} (h : Misfits k v) : judgeValue k v = none := by
  unfold judgeValue
  rcases h with ⟨m, rfl, hle⟩ | ⟨rfl, hle⟩ | ⟨rfl, hle⟩
  · exact if_neg (by omega)
  · exact if_neg (by omega)
  · exact if_neg (by omega)

theorem readOnly_of_fits (h : Fits r.kind v n ∨ Misfits r.kind v) (hmode : ∀ c, r ≠ .chan c .serviceMode) : r.readOnly = false := by
  rw [← Bool.not_eq_true, readOnly_iff]
  rintro (habsent | ⟨c, hc⟩)
  · rw [habsent] at h
    rcases h with (⟨_, _, _, h, _⟩ | ⟨_, h, _⟩ | ⟨h, _⟩ | ⟨h, _⟩) | (⟨_, h, _⟩ | ⟨h, _⟩ | ⟨h, _⟩) <;> cases h
  · exact hmode c hc

theorem fits_eq {k : SettingKind} (h : Fits k v n) (hk : ∀ width lo hi, k ≠ .number width lo hi) : n = v := by
  rcases h with ⟨width, lo, hi, h, _⟩ | ⟨m, _, _, h⟩ | ⟨_, _, h⟩ | ⟨_, _, h⟩
  · exact absurd h (hk width lo hi)
  · exact h
  · exact h
  · exact h

theorem fits_lt {k : SettingKind} {m : Nat} (h : Fits k v n) (hk : k = .enum m) : v < m := by
  subst hk
  rcases h with ⟨_, _, _, h, _⟩ | ⟨m', h, hlt, _⟩ | ⟨h, _⟩ | ⟨h, _⟩
  · cases h
  · cases h
    exact hlt
  · cases h
  · cases h

/-! ## What a value stored does (R17, R60, R61, R185) -/

theorem writeDetector_same {d : Detector} {k : DetSetting} (h : s.getRef (.det c d k) = n) : s.writeDetector c d k n = s := if_pos h

theorem writeDetector_plain {d : Detector} {k : DetSetting} (h : s.getRef (.det c d k) ≠ n) (hk : s.inService c = false ∨ k ∉ [.enabled, .policy]) :
    s.writeDetector c d k n = s.putRef (.det c d k) n := by
  unfold State.writeDetector
  dsimp only
  rw [if_neg h]
  by_cases hin : s.inService c = true
  · rw [if_pos hin]
    have hk := hk.resolve_left (by rw [hin]; decide)
    cases k with
    | enabled | policy => exact absurd (by decide) hk
    | _ => rfl
  · rw [if_neg hin]

theorem writeDetector_evaluates {d : Detector} {k : DetSetting} (h : s.getRef (.det c d k) ≠ n) (hin : s.inService c = true)
    (hk : k = .policy ∨ (k = .enabled ∧ n = 0)) : s.writeDetector c d k n = (s.putRef (.det c d k) n).evaluate c .setting := by
  unfold State.writeDetector
  dsimp only
  rw [if_neg h, if_pos hin]
  rcases hk with rfl | ⟨rfl, hn⟩
  · rfl
  · exact if_pos hn

theorem writeDetector_settles {d : Detector} (h : s.getRef (.det c d .enabled) ≠ n) (hin : s.inService c = true) (hn : n ≠ 0) :
    s.writeDetector c d .enabled n =
      ((s.putRef (.det c d .enabled) n).modDetector c d (startSettling (((s.putRef (.det c d .enabled) n).ch c).detCfg d))).evaluate c .settling := by
  unfold State.writeDetector
  dsimp only
  rw [if_neg h, if_pos hin, if_neg hn]

theorem allOut_iff : s.allOut = true ↔ ∀ c, (s.ch c).control.mode = .outOfService := by
  unfold State.allOut
  rw [List.all_eq_true]
  exact ⟨fun h c => beq_iff_eq.1 (h c (Chan.mem_all c)), fun h c _ => beq_iff_eq.2 (h c)⟩

theorem writeRef_houseRate_in (h : ∃ c, (s.ch c).control.mode ≠ .outOfService) (v time : Nat) : s.writeRef (.site .houseRate) v time = none := by
  obtain ⟨c, hc⟩ := h
  have hout : s.allOut = false := by
    rw [← Bool.not_eq_true, allOut_iff]
    exact fun h => hc (h c)
  unfold State.writeRef
  dsimp only
  rw [hout]
  rfl

theorem writeRef_houseRate_out (h : ∀ c, (s.ch c).control.mode = .outOfService) (v time : Nat) :
    s.writeRef (.site .houseRate) v time = some (if rateOf v = s.time.rate then s else s.changeRate (rateOf v) time) := by
  unfold State.writeRef
  dsimp only
  rw [allOut_iff.2 h]
  split
  · rename_i h
    cases h
  · split <;> rfl

theorem rateOf_nth {rate : Rate} (h : [Rate.fr25, .fr30d, .fr50, .fr60d][v]? = some rate) : rateOf v = rate ∧ v < 4 := by
  match v, h with
  | 0, h | 1, h | 2, h | 3, h => cases h; exact ⟨rfl, by decide⟩
  | n + 4, h => cases h

/-! ## A change of house rate (R17, R114) -/

/-- R17: H re-expressed at a new rate keeps the day, hour, minute and second of its label. -/
theorem reexpressed_label {old new : Rate} {p : Nat} (h : p < old.cycle) :
    let l := positionLabel old p
    positionLabel new (reexpressPosition old new p) = { l with ff := if l.ss = 0 ∧ l.mm % 10 ≠ 0 then new.k else 0 } := by
  intro l
  obtain ⟨⟨hhh, hmm, hss, -, hday⟩, -⟩ := (positionLabel_valid h).1
  have hk : new.k = 0 ∨ 0 < new.k := Nat.eq_zero_or_pos _
  have hnormal : normaliseLabel new { l with ff := 0 } = { l with ff := if l.ss = 0 ∧ l.mm % 10 ≠ 0 then new.k else 0 } := by
    unfold normaliseLabel labelNamesNoFrame
    by_cases hdrop : l.ss = 0 ∧ l.mm % 10 ≠ 0
    · rw [if_pos hdrop]
      by_cases hk : 0 < new.k
      · rw [if_pos (by simp [hdrop.1, hdrop.2, hk])]
      · rw [if_neg (by simp [hk]), Nat.eq_zero_of_not_pos hk]
    · rw [if_neg hdrop, if_neg]
      simp only [Bool.and_eq_true, beq_iff_eq, bne_iff_ne, decide_eq_true_eq]
      exact fun h => hdrop h.1
  unfold reexpressPosition
  rw [show ({ positionLabel old p with ff := 0 } : Label) = { l with ff := 0 } from rfl, hnormal]
  refine positionLabel_labelPosition ⟨⟨hhh, hmm, hss, ?_, hday⟩, ?_⟩
  · dsimp only
    split
    · exact new.k_lt_n
    · exact Nat.zero_lt_of_lt new.k_lt_n
  · dsimp only
    rintro ⟨hss, hmm, hff⟩
    rw [if_pos ⟨hss, hmm⟩] at hff
    exact Nat.lt_irrefl _ hff

theorem clearLists_schedule (s : State) (c : Chan) (cause : ReplicationCause) :
    ((s.clearLists c cause).ch c).schedule.live = none ∧ ((s.clearLists c cause).ch c).schedule.shadow = none ∧
      ((s.clearLists c cause).ch c).schedule.state = .empty := by
  have hview := (Relists.clearLists s c cause).view
  generalize s.clearLists c cause = t at hview ⊢
  exact ⟨congrArg ListView.live hview, congrArg ListView.shadow hview, congrArg ListView.state hview⟩

theorem clearAllLists_schedule (s : State) (cause : ReplicationCause) (c : Chan) :
    ((s.clearAllLists cause).ch c).schedule.live = none ∧ ((s.clearAllLists cause).ch c).schedule.shadow = none ∧
      ((s.clearAllLists cause).ch c).schedule.state = .empty := by
  obtain ⟨u, -, hafter⟩ := State.eachChannel_at (fun c t => Around.clearLists t c cause) s c
  change AwayFrom c _ (s.clearAllLists cause) at hafter
  rw [hafter.channel]
  exact clearLists_schedule u c cause

theorem changeRate_schedule (s : State) (r : Rate) (time : Nat) (c : Chan) :
    ((s.changeRate r time).ch c).schedule.live = none ∧ ((s.changeRate r time).ch c).schedule.shadow = none ∧
      ((s.changeRate r time).ch c).schedule.state = .empty := by
  unfold State.changeRate
  dsimp only
  generalize State.setLock _ _ = u
  exact clearAllLists_schedule u .rateChange c

end Sys2Proof.Machine

/-! PROOFS. WRITE through a window, and its REPLY (R17, R194, R195). -/

namespace Sys2Proof.Machine

-- Each elaboration thread takes a large stack, and the text is compiled as one file under a memory limit: one thread at a time.
set_option Elab.async false

variable {s t u : State} {o : Origin} {rx : ControlRx} {c : Chan} {r : SettingRef} {refs : List SettingRef} {x y : Writing} {w : Window}
  {values : List Nat} {offset time v n : Nat}

/-! ## What writing leaves of the contexts (R194) -/

theorem putRef_mgmt (s : State) (r : SettingRef) (v : Nat) : (s.putRef r v).mgmt = s.mgmt := by
  cases hc : r.chan? with
  | some c =>
    by_cases hm : r = .chan c .serviceMode
    · rw [hm]
      rfl
    · rw [putRef_chan hc hm]
      rfl
  | none =>
    cases r with
    | chan | det | chain | pairs | stream => cases hc
    | mapped | serverPort => rfl
    | site k => cases k <;> rfl

theorem cutRamp_mgmt (s : State) (c : Chan) : (s.cutRamp c).mgmt = s.mgmt := by
  unfold State.cutRamp
  split <;> rfl

theorem evaluate_quiet (s : State) (c : Chan) (cause : EvalCause) : (s.evaluate c cause).mgmt.quiet = s.mgmt.quiet :=
  ((Elsewhere.refl c s).evaluate cause).mgmt

theorem setLock_quiet (s : State) (new : LockState) : (s.setLock new).mgmt.quiet = s.mgmt.quiet := by
  unfold State.setLock
  dsimp only
  split
  · rfl
  · exact State.raise_quiet ..

theorem changeRate_quiet (s : State) (r : Rate) (time : Nat) : (s.changeRate r time).mgmt.quiet = s.mgmt.quiet := by
  unfold State.changeRate
  dsimp only
  have hlists : ∀ u : State, (u.clearAllLists .rateChange).mgmt.quiet = u.mgmt.quiet := fun u =>
    (Through.eachChannel (fun c t => Around.clearLists t c .rateChange) u).mgmt
  rw [hlists, setLock_quiet]
  rfl

theorem writeRef_quiet (h : s.writeRef r v time = some t) : t.mgmt.quiet = s.mgmt.quiet := by
  have hput : (s.putRef r v).mgmt.quiet = s.mgmt.quiet := congrArg Management.quiet (putRef_mgmt s r v)
  unfold State.writeRef at h
  split at h
  · cases h
    unfold State.writeDetector
    dsimp only
    split
    · rfl
    · split
      · split
        · split
          · rw [evaluate_quiet, hput]
          · rw [evaluate_quiet]
            exact hput
        · rw [evaluate_quiet, hput]
        · exact hput
      · exact hput
  · cases h
    unfold State.writeChain
    dsimp only
    split
    · rfl
    · split
      · rw [evaluate_quiet, hput]
      · exact hput
  · cases h
    split
    · exact (congrArg Management.quiet (cutRamp_mgmt ..)).trans hput
    · exact hput
  · split at h
    · cases h
    · split at h
      · cases h
        rfl
      · rw [← Option.some.inj h]
        exact changeRate_quiet _ _ _
  · cases h
    exact hput

theorem step_quiet (x : Writing) (refs : List SettingRef) (offset time v : Nat) : (x.step refs offset time v).state.mgmt.quiet = x.state.mgmt.quiet := by
  unfold Writing.step
  split
  · rfl
  · dsimp only
    split
    · rfl
    · split
      · rfl
      · split
        · rfl
        · split
          · rename_i hw
            exact writeRef_quiet hw
          · rfl

theorem writeTable_quiet (s : State) (w : Window) (values : List Nat) (time : Nat) : (s.writeTable w values time).state.mgmt.quiet = s.mgmt.quiet := by
  unfold State.writeTable
  split
  · rfl
  · split
    · rfl
    · unfold State.writeAll
      exact List.foldlRecOn (motive := fun x : Writing => x.state.mgmt.quiet = s.mgmt.quiet) _ _ rfl fun x hx v _ => (step_quiet ..).trans hx

/-! ## The values of a WRITE in turn -/

theorem writeTable_nil (s : State) (w : Window) (time : Nat) :
    s.writeTable w [] time = { state := s, dealt := 0, clamped := [], refused := [], stopped := none } := rfl

theorem writeTable_fixed (h : w.table.writable = false) (s : State) (v : Nat) (values : List Nat) (time : Nat) :
    s.writeTable w (v :: values) time = { state := s, dealt := 0, clamped := [], refused := [], stopped := some (.readOnly, w.offset) } := by
  unfold State.writeTable
  rw [if_neg (by simp), if_pos (by rw [h]; rfl)]

theorem writeTable_values (h : w.table.writable = true) (s : State) (values : List Nat) (time : Nat) :
    s.writeTable w values time =
      values.foldl (fun x v => x.step ((pageRefs w.table w.page).getD []) w.offset time v)
        { state := s, dealt := 0, clamped := [], refused := [], stopped := none } := by
  unfold State.writeTable
  cases values with
  | nil => rfl
  | cons v values =>
    rw [if_neg (by simp), if_neg (by rw [h]; decide)]
    rfl

theorem foldl_refused {a : Nat × Result} {l : List (Nat × Result)} (h : x.refused = a :: l) (values : List Nat) :
    ∃ l', (values.foldl (fun x v => x.step refs offset time v) x).refused = a :: l' := by
  induction values generalizing x l with
  | nil => exact ⟨l, h⟩
  | cons v values ih =>
    have hstep : ∃ l', (x.step refs offset time v).refused = a :: l' := by
      unfold Writing.step
      split
      · exact ⟨l, h⟩
      · dsimp only
        split
        · exact ⟨l, h⟩
        · split
          · exact ⟨l, h⟩
          · split
            · exact ⟨l, h⟩
            · split
              · exact ⟨l, h⟩
              · exact ⟨l ++ _, by dsimp only; rw [h]; rfl⟩
    obtain ⟨l', hl'⟩ := hstep
    exact ih hl'

/-! ## The REPLY (R194) -/

/-- The part once a WRITE has ended: the code and the entry that stopped it are the console's sticky error. -/
def Writing.stuck (y : Writing) (request : Nat) : State :=
  match y.stopped with
  | some (code, at_) => y.state.modCtx .console fun z => { z with sticky := some { code := code, request := request, offset := at_ } }
  | none => y.state

/-- The offset of the console's window advanced, under auto-increment. -/
def State.advancedBy (u : State) (auto : Bool) (n : Nat) : State :=
  if auto then u.modCtx .console fun z => { z with window := { z.window with offset := (z.window.offset + n) % 65536 } } else u

/-- The REPLY of a WRITE. -/
def State.wroteReply (u : State) (rx : ControlRx) (y : Writing) : State :=
  u.reply .console rx.port
    { request := rx.request, kind := 0x43, channel := rx.channel, result := y.result, clamped := y.result == .accepted && !y.clamped.isEmpty
      contents := y.contents }

theorem contents_eq (y : Writing) :
    y.contents =
      [.num 1 y.dealt, .num 1 y.clamped.length] ++ y.clamped.map (fun i => .num 2 i) ++
        (.num 1 y.refused.length :: y.refused.flatMap fun z => [.num 2 z.1, .enum (resultCode z.2)]) ++
        optAtoms (fun z => [.enum (resultCode z.1), .num 2 z.2]) y.stopped := by
  unfold Writing.contents listAtoms
  rw [List.map_eq_flatMap]
  simp

theorem exec_write (h : Heard s .console rx) (hg : rx.group = false) (hw : s.mgmt.console.walk = none) (values : List Nat) (time : Nat) :
    exec (.write rx values time) s = .next ((s.heard rx).write (asked .console rx (.write values)) values time) := by
  refine congrArg Host.Outcome.next ((heard_passOn (r := .write values) h trivial rfl time).trans ?_)
  unfold State.passOn
  dsimp only
  exact windowRequest_idle (by rw [State.heard_ctx]; exact hw) hg ..

theorem write_held {e : StickyError} (h : s.mgmt.console.sticky = some e) (values : List Nat) (time : Nat) :
    s.write (asked .console rx (.write values)) values time = s.answered .console rx 0x43 e.code [] := by
  unfold State.write
  dsimp only
  rw [show (s.ctx (asked .console rx (.write values)).origin).sticky = some e from h]
  rfl

/-- R194: WRITE with no sticky error held. -/
theorem write_free (h : s.mgmt.console.sticky = none) (values : List Nat) (time : Nat) :
    let y := s.writeTable s.mgmt.console.window values time
    s.write (asked .console rx (.write values)) values time = ((y.stuck rx.request).advancedBy s.mgmt.console.window.auto y.dealt).wroteReply rx y := by
  intro y
  obtain ⟨hwindow, -, hsticky, -⟩ := quiet_ctx (writeTable_quiet s s.mgmt.console.window values time) .console
  have hstuck : (match y.stopped with
      | some (code, at_) => y.state.setSticky .console code rx.request at_
      | none => y.state) = y.stuck rx.request := by
    unfold Writing.stuck
    cases y.stopped with
    | none => rfl
    | some z =>
      have hnone : (y.state.ctx .console).sticky = none := hsticky.trans h
      refine modCtx_congr ?_
      rw [hnone]
  have hauto : ((y.stuck rx.request).ctx .console).window.auto = s.mgmt.console.window.auto := by
    refine (congrArg Window.auto ?_).trans (congrArg Window.auto hwindow)
    unfold Writing.stuck
    split <;> rfl
  unfold State.write
  dsimp only
  rw [show (s.ctx (asked .console rx (.write values)).origin).sticky = none from h]
  dsimp only
  change (State.advance (match y.stopped with
      | some (code, at_) => y.state.setSticky .console code rx.request at_
      | none => y.state) .console y.dealt).wroteReply rx y = _
  rw [hstuck, advance_eq, hauto]
  rfl

end Sys2Proof.Machine

/-! PROOFS. WRITE of one value and of several, and the tables' entries (R17, R194, R204). -/

namespace Sys2Proof.Machine

-- Each elaboration thread takes a large stack, and the text is compiled as one file under a memory limit: one thread at a time.
set_option Elab.async false

variable {s t u : State} {rx : ControlRx} {c : Chan} {r : SettingRef} {refs : List SettingRef} {x y : Writing} {w : Window}
  {values : List Nat} {offset time v n : Nat}

/-- A WRITE before its first value. -/
def State.writingFrom (s : State) : Writing := { state := s, dealt := 0, clamped := [], refused := [], stopped := none }

theorem exec_write_free (h : Heard s .console rx) (hg : rx.group = false) (hw : s.mgmt.console.walk = none) (hsticky : s.mgmt.console.sticky = none)
    {values : List Nat} {time : Nat} {y : Writing} (hy : (s.heard rx).writeTable s.mgmt.console.window values time = y) :
    exec (.write rx values time) s = .next (((y.stuck rx.request).advancedBy s.mgmt.console.window.auto y.dealt).wroteReply rx y) := by
  have hconsole : (s.heard rx).mgmt.console = s.mgmt.console := State.heard_ctx s rx .console
  rw [exec_write h hg hw, write_free (by rw [hconsole]; exact hsticky), hconsole, hy]

/-- The first value of a WRITE at an entry. -/
theorem writeTable_cons (h : w.table.writable = true) (hrefs : pageRefs w.table w.page = some refs) (s : State) (v : Nat) (values : List Nat) (time : Nat) :
    s.writeTable w (v :: values) time =
      values.foldl (fun x v => x.step refs w.offset time v) (s.writingFrom.step refs w.offset time v) := by
  rw [writeTable_values h, hrefs]
  rfl

/-- A WRITE that its first value stops. -/
theorem writeTable_stops (h : w.table.writable = true) (hrefs : pageRefs w.table w.page = some refs) {code : Result} (s : State) (v : Nat) (values : List Nat)
    (time : Nat) (hstop : s.writingFrom.step refs w.offset time v = s.writingFrom.stop w.offset code) :
    s.writeTable w (v :: values) time = s.writingFrom.stop w.offset code := by
  rw [writeTable_cons h hrefs, hstop]
  exact foldl_stopped (Option.some_ne_none _) values

/-- The console's sticky error after a WRITE that its first value stopped. -/
theorem stop_leaves (u : State) (offset request : Nat) (code : Result) (auto : Bool) :
    let v := ((u.writingFrom.stop offset code).stuck request).advancedBy auto 0
    v.mgmt.console.sticky = some { code := code, request := request, offset := offset } ∧ v.chans = u.chans ∧ v.settings = u.settings := by
  cases auto <;> exact ⟨rfl, rfl, rfl⟩

theorem channelRefs_get {k : ChanSetting} (hk : chanSettings[offset]? = some k) :
    (chanSettings.map (SettingRef.chan c))[offset + 0]? = some (.chan c k) := by
  rw [Nat.add_zero, List.getElem?_map, hk]
  rfl

theorem pageRefs_channel (c : Chan) : pageRefs .channel c.val = some (chanSettings.map (SettingRef.chan c)) := by
  unfold pageRefs
  dsimp only
  rw [chanOf_val]
  rfl

theorem pageRefs_detectors (c : Chan) :
    pageRefs .detectors c.val = some ((Detector.all.flatMap fun d => detSettings.map (SettingRef.det c d)) ++ [.chain c, .pairs c]) := by
  unfold pageRefs
  dsimp only
  rw [chanOf_val]
  rfl

theorem pageRefs_site : pageRefs .site 255 = some (siteSettings.map SettingRef.site) := rfl

/-- A number written to a channel's settings. -/
theorem writeRef_number {k : ChanSetting} {width lo hi : Nat} (hk : k.kind = .number width lo hi) (s : State) (c : Chan) (n time : Nat) :
    s.writeRef (.chan c k) n time = some (s.modSettings c fun x => x.put k n) := by
  cases k <;> cases hk <;> rfl

/-- A WRITE whose first value has been stored. -/
theorem wrote_first (s u : State) (offset n v : Nat) :
    s.writingFrom.wrote offset u n v = { state := u, dealt := 1, clamped := if n = v then [] else [offset], refused := [], stopped := none } := rfl

/-- A WRITE whose first value, of HOUSE_RATE, has been refused. -/
def Writing.rateRefused (x : Writing) : Writing := { x with dealt := 1, refused := [(0, .inService)] }

theorem siteRefs_rate (h : offset = 0) : (siteSettings.map SettingRef.site)[offset + 0]? = some (.site .houseRate) := by
  subst h
  rfl

/-- R17: HOUSE_RATE written while a channel is in service. -/
theorem writeTable_rateRefused (htable : w.table = .site) (hpage : w.page = 255) (hoffset : w.offset = 0) (hv : v < 4)
    (hin : ∃ c, (s.ch c).control.mode ≠ .outOfService) (values : List Nat) (time : Nat) :
    s.writeTable w (v :: values) time =
      values.foldl (fun x v => x.step (siteSettings.map SettingRef.site) w.offset time v) s.writingFrom.rateRefused := by
  have hrefs : pageRefs w.table w.page = some (siteSettings.map SettingRef.site) := by
    rw [htable, hpage]
    rfl
  have hfits : Fits (SettingRef.site .houseRate).kind v v := .inr (.inl ⟨4, rfl, hv, rfl⟩)
  have hget : (siteSettings.map SettingRef.site)[w.offset + s.writingFrom.dealt]? = some (.site .houseRate) := siteRefs_rate hoffset
  rw [writeTable_cons (congrArg Table.writable htable) hrefs,
    step_refused rfl hget (readOnly_of_fits (.inl hfits) nofun) (judgeValue_fits hfits) (writeRef_houseRate_in hin v time), hoffset]
  rfl

/-- Settles O56: WRITE at a window and value by value, the entries read back, a change of house rate, and the pages of the tables. -/
theorem writesAndHouseRate : Obligations.WritesAndHouseRate := by
  refine ⟨fun s rx time h hg hw => ?_, fun s w time => ⟨rfl, fun hfixed v values => writeTable_fixed hfixed s v values time, fun hwritable values v => ?_⟩,
    fun x refs offset time v => ?_, fun s r n hj hmode hrate => ?_, fun s r time hp => ?_, fun r => ?_, fun c => ⟨pageRefs_channel c, pageRefs_detectors c⟩,
    rfl, rfl, rfl, fun page hp => ?_, fun page hp => ⟨if_neg hp, if_neg hp, if_neg hp⟩⟩
  · intro w t advanced reply
    have hconsole : t.mgmt.console = s.mgmt.console := State.heard_ctx s rx .console
    refine ⟨fun e values he => ?_, fun hsticky => ?_⟩
    · rw [exec_write h hg hw, write_held (by rw [show (s.heard rx).mgmt.console = s.mgmt.console from hconsole]; exact he)]
    have hexec : ∀ {values : List Nat} {y : Writing}, t.writeTable w values time = y →
        exec (.write rx values time) s = .next (((y.stuck rx.request).advancedBy w.auto y.dealt).wroteReply rx y) := fun hy =>
      exec_write_free h hg hw hsticky hy
    refine ⟨hexec rfl, fun c k width lo hi v htable hpage hk hkind => ?_, fun c k n v values htable hpage hk hmode hkind hle => ?_,
      fun v values hfixed => ?_, fun c v values htable hpage hoffset => ?_, fun c v htable hpage hoffset hv hmode => ?_,
      fun c v values htable hpage hoffset hv hmode => ?_, fun v r htable hpage hoffset hr hchange hout => ?_, fun values => ?_⟩
    · have hwritable : w.table.writable = true := congrArg Table.writable htable
      have hrefs : pageRefs w.table w.page = some (chanSettings.map (SettingRef.chan c)) := by rw [htable, hpage, pageRefs_channel]
      have hfits : Fits (SettingRef.chan c k).kind v (max lo (min hi v)) := .inl ⟨width, lo, hi, hkind, rfl⟩
      have hmode : ∀ c', SettingRef.chan c k ≠ .chan c' .serviceMode := fun c' e => by
        cases e
        cases hkind
      intro n
      have hy : t.writeTable w [v] time = t.writingFrom.wrote w.offset (t.modSettings c fun x => x.put k n) n v := by
        rw [writeTable_cons hwritable hrefs]
        exact step_written rfl (channelRefs_get hk) (readOnly_of_fits (.inl hfits) hmode) (judgeValue_fits hfits) (writeRef_number hkind ..)
      rw [hexec hy, wrote_first]
      by_cases hn : n = v
      · rw [if_pos hn, if_pos hn, show (n != v) = false by simp [hn]]
        rfl
      · rw [if_neg hn, if_neg hn, show (n != v) = true by simp [hn]]
        rfl
    · have hwritable : w.table.writable = true := congrArg Table.writable htable
      have hrefs : pageRefs w.table w.page = some (chanSettings.map (SettingRef.chan c)) := by rw [htable, hpage, pageRefs_channel]
      have hbad : Misfits (SettingRef.chan c k).kind v := .inl ⟨n, hkind, hle⟩
      have hmode : ∀ c', SettingRef.chan c k ≠ .chan c' .serviceMode := fun c' e => hmode (SettingRef.chan.inj e).2
      have hy := writeTable_stops hwritable hrefs t v values time
        (step_badValue rfl (channelRefs_get hk) (readOnly_of_fits (n := v) (.inr hbad) hmode) (judgeValue_misfits hbad))
      obtain ⟨hstuck, hchans, hsettings⟩ := stop_leaves t w.offset rx.request .badValue w.auto
      exact ⟨_, _, hexec hy, hstuck, hchans.trans (s.heard_chans rx), hsettings.trans (s.heard_settings rx)⟩
    · obtain ⟨hstuck, hchans, hsettings⟩ := stop_leaves t w.offset rx.request .readOnly w.auto
      exact ⟨_, _, hexec (writeTable_fixed hfixed t v values time), hstuck, hchans.trans (s.heard_chans rx), hsettings.trans (s.heard_settings rx)⟩
    · have hwritable : w.table.writable = true := congrArg Table.writable htable
      have hrefs : pageRefs w.table w.page = some (chanSettings.map (SettingRef.chan c)) := by rw [htable, hpage, pageRefs_channel]
      have hy := writeTable_stops hwritable hrefs t v values time (step_past rfl hoffset)
      obtain ⟨hstuck, hchans, hsettings⟩ := stop_leaves t w.offset rx.request .badOffset w.auto
      exact ⟨_, _, hexec hy, hstuck, hchans.trans (s.heard_chans rx), hsettings.trans (s.heard_settings rx)⟩
    · have hin : ∃ c, (t.ch c).control.mode ≠ .outOfService := ⟨c, by rw [show t.ch c = s.ch c from State.heard_ch ..]; exact hmode⟩
      have hy : t.writeTable w [v] time = t.writingFrom.rateRefused := writeTable_rateRefused htable hpage hoffset hv hin [] time
      rw [hexec hy]
      rfl
    · have hin : ∃ c, (t.ch c).control.mode ≠ .outOfService := ⟨c, by rw [show t.ch c = s.ch c from State.heard_ch ..]; exact hmode⟩
      obtain ⟨l, hl⟩ := foldl_refused (x := t.writingFrom.rateRefused) (refs := siteSettings.map SettingRef.site) (offset := w.offset) (time := time) rfl values
      rw [← writeTable_rateRefused htable hpage hoffset hv hin] at hl
      refine ⟨((t.writeTable w (v :: values) time).stuck rx.request).advancedBy w.auto (t.writeTable w (v :: values) time).dealt,
        (t.writeTable w (v :: values) time).contents, (hexec rfl).trans (congrArg Host.Outcome.next ?_)⟩
      have hresult : (t.writeTable w (v :: values) time).result = .inService := by
        unfold Writing.result
        rw [hl]
      unfold State.wroteReply
      rw [hresult]
      rfl
    · obtain ⟨hr, hv⟩ := rateOf_nth hr
      have hout : ∀ c, (t.ch c).control.mode = .outOfService := fun c => by
        rw [show t.ch c = s.ch c from State.heard_ch ..]
        exact hout c
      have hrefs : pageRefs w.table w.page = some (siteSettings.map SettingRef.site) := by
        rw [htable, hpage]
        rfl
      have hfits : Fits (SettingRef.site .houseRate).kind v v := .inr (.inl ⟨4, rfl, hv, rfl⟩)
      have hget : (siteSettings.map SettingRef.site)[w.offset + t.writingFrom.dealt]? = some (.site .houseRate) := siteRefs_rate hoffset
      have hwrite := writeRef_houseRate_out hout v time
      rw [hr, if_neg (by rw [show t.time = s.time from State.heard_time ..]; exact hchange)] at hwrite
      have hy : t.writeTable w [v] time = t.writingFrom.wrote w.offset (t.changeRate r time) v v := by
        rw [writeTable_cons (congrArg Table.writable htable) hrefs]
        exact step_written rfl hget (readOnly_of_fits (.inl hfits) nofun) (judgeValue_fits hfits) hwrite
      rw [hexec hy, wrote_first, if_pos rfl]
      generalize t.changeRate r time = u
      rfl
    · intro y u result
      rw [hexec (y := y) rfl]
      refine congrArg Host.Outcome.next ?_
      have hresult : y.result = result := by
        unfold Writing.result
        rfl
      have hclamped : (y.result == .accepted && !y.clamped.isEmpty) = decide (result = .accepted ∧ y.clamped ≠ []) := by
        rw [hresult, Bool.decide_and]
        congr 1
        cases y.clamped <;> rfl
      have hcontents : optAtoms (fun z => [.enum (resultCode z.1), .num 2 z.2]) y.stopped = match y.stopped with
          | none => [.num 1 0]
          | some (code, at_) => [.num 1 1, .enum (resultCode code), .num 2 at_] := by
        cases y.stopped <;> rfl
      have hstuck : y.stuck rx.request = u := by
        unfold Writing.stuck
        rfl
      unfold State.wroteReply
      rw [hclamped, hresult, contents_eq, hcontents, hstuck]
      rfl
  · rw [writeTable_values hwritable, writeTable_values hwritable, List.foldl_append]
    rfl
  · intro at_ s stop wrote y
    refine ⟨fun hstop => step_stopped hstop, fun hstop hlen => step_past hstop hlen, fun r hstop hr => ⟨fun hro => step_readOnly hstop hr (readOnly_iff.2 hro),
      fun hmode => ⟨fun hbad => step_badValue hstop hr (readOnly_of_fits (n := v) (.inr hbad) hmode) (judgeValue_misfits hbad), fun n hn => ?_⟩⟩⟩
    have hro := readOnly_of_fits (.inl hn) hmode
    have hj := judgeValue_fits hn
    have hwrote : ∀ {t : State}, s.writeRef r n time = some t → y = wrote t n := fun hw => step_written hstop hr hro hj hw
    intro t
    split
    · rename_i c
      have hnv : n = v := fits_eq hn nofun
      subst hnv
      refine hwrote ?_
      unfold State.writeRef State.cutRamp
      dsimp only
      have houtput : ((s.putRef (.chan c .rampEnable) n).ch c).output = (s.ch c).output := by
        exact (congrArg Channel.output (State.ch_modSettings_same s c fun x => x.put .rampEnable n) :)
      rw [houtput]
      by_cases hoff : n = 0
      · rw [if_pos hoff]
        by_cases hidle : (s.ch c).output.ramp = .idle
        · rw [if_pos hidle, if_neg fun h => h.2 hidle]
        · rw [if_neg hidle, if_pos ⟨hoff, hidle⟩]
          rfl
      · rw [if_neg hoff, if_neg fun h => hoff h.1]
    · rename_i c det k
      refine ⟨fun hsame => hwrote (congrArg some (writeDetector_same hsame)), fun hchange => ⟨fun hk => hwrote (congrArg some (writeDetector_plain hchange hk)),
        fun hin hk => hwrote (congrArg some (writeDetector_evaluates hchange hin ?_)), fun hin hk hv => ?_⟩⟩
      · refine hk.imp_right fun ⟨hk, hv⟩ => ⟨hk, ?_⟩
        subst hk
        exact (fits_eq hn nofun).trans hv
      · subst hk
        have hnv : n = v := fits_eq hn nofun
        exact hwrote (congrArg some (writeDetector_settles hchange hin (by omega)))
    · rename_i c
      refine hwrote (congrArg some ?_)
      rfl
    · refine ⟨fun hin => step_refused hstop hr hro hj (writeRef_houseRate_in hin n time), fun hout rate hrate => hwrote ?_⟩
      have hnv : n = v := fits_eq hn nofun
      rw [writeRef_houseRate_out hout, hnv, (rateOf_nth hrate).1]
    · rename_i hramp hdet hchain hhouse
      refine hwrote ?_
      unfold State.writeRef
      split
      · exact (hdet _ _ _ rfl).elim
      · exact (hchain _ rfl).elim
      · exact (hramp _ rfl).elim
      · exact (hhouse rfl).elim
      · rfl
  · refine ⟨(getRef_putRef hj s).trans ?_, fun r' hr => getRef_putRef_ne hr s n, putRef_rest hmode hrate s n⟩
    cases r with
    | det c d k => cases k <;> rfl
    | _ => rfl
  · intro t l l'
    have htime := changeRate_time s r time
    have hlists := changeRate_schedule s r time
    have ht : s.changeRate r time = t := rfl
    rw [ht] at htime
    simp only [ht] at hlists
    clear_value t
    have hh : t.time.h = reexpressPosition s.time.rate r s.time.h := congrArg Timeline.h htime
    have hlabel : l' = { l with ff := if l.ss = 0 ∧ l.mm % 10 ≠ 0 then r.k else 0 } := (congrArg (positionLabel r) hh).trans (reexpressed_label hp)
    refine ⟨?_, ?_, ?_, ?_, ?_, ?_, ?_, hlists⟩
    · rw [hh]
      exact htime
    · rw [hh]
      exact reexpressPosition_lt_cycle hp
    · rw [hlabel]
    · rw [hlabel]
    · rw [hlabel]
    · rw [hlabel]
    · rw [hlabel]
  · cases r with
    | chan c k => cases k <;> rfl
    | det c d k => cases d <;> cases k <;> rfl
    | site k => cases k <;> rfl
    | chain | pairs | mapped | serverPort | stream => rfl
  · unfold pageRefs
    dsimp only
    rw [chanOf_none hp]
    exact ⟨rfl, rfl⟩

end Sys2Proof.Machine

/-! PROOFS. The configuration image: its entries taken one after another (R201, R202). -/

namespace Sys2Proof.Machine

-- Each elaboration thread takes a large stack, and the text is compiled as one file under a memory limit: one thread at a time.
set_option Elab.async false

variable {s t u x : State} {c : Chan} {r : SettingRef}

/-! ## What storing settings leaves -/

/-- The states that differ from `s` in settings, modes and house rate alone. -/
structure Dressed (s t : State) : Prop where
  channel : ∀ c, { t.ch c with settings := (s.ch c).settings, control := { (t.ch c).control with mode := (s.ch c).control.mode } } = s.ch c
  unit : { t with chans := s.chans, settings := s.settings, time := { t.time with rate := s.time.rate } } = s

theorem Dressed.refl (s : State) : Dressed s s := ⟨fun _ => rfl, rfl⟩

theorem Dressed.trans (h : Dressed s t) (k : Dressed t u) : Dressed s u := by
  refine ⟨fun c => ?_, ?_⟩
  · have hk := congrArg (fun y : Channel => { y with settings := (s.ch c).settings, control := { y.control with mode := (s.ch c).control.mode } }) (k.channel c)
    exact hk.trans (h.channel c)
  · have hk := congrArg (fun y : State => { y with chans := s.chans, settings := s.settings, time := { y.time with rate := s.time.rate } }) k.unit
    exact hk.trans h.unit

theorem Dressed.putRef (r : SettingRef) (s : State) (v : Nat) : Dressed s (s.putRef r v) := by
  by_cases hmode : ∃ c, r = .chan c .serviceMode
  · obtain ⟨c, rfl⟩ := hmode
    refine ⟨fun c' => ?_, rfl⟩
    rw [putRef_mode]
    by_cases h : c' = c
    · subst h
      rw [State.ch_modControl_same]
    · rw [State.ch_modControl_ne _ _ _ _ h]
  · by_cases hrate : r = .site .houseRate
    · subst hrate
      exact ⟨fun _ => rfl, rfl⟩
    · obtain ⟨hch, hrest⟩ := putRef_rest (fun c e => hmode ⟨c, e⟩) hrate s v
      have htime := (congrArg State.time hrest :)
      refine ⟨fun c => ?_, ?_⟩
      · have hc := hch c
        generalize (s.putRef r v).ch c = y at hc ⊢
        rw [← hc]
      · generalize s.putRef r v = y at hrest htime ⊢
        have hy : { y.time with rate := s.time.rate } = y.time := by rw [htime]
        rw [hy]
        exact hrest

theorem Dressed.defaultSettings (s : State) : Dressed s s.defaultSettings := by
  have hch := defaultSettings_ch s
  have hrest := defaultSettings_rest s
  generalize s.defaultSettings = t at hch hrest ⊢
  have htime := (congrArg State.time hrest :)
  refine ⟨fun c => by rw [hch c], ?_⟩
  have hy := congrArg (fun y : State => { y with settings := s.settings, time := s.time }) hrest
  rw [htime]
  exact hy

/-! ## The thresholds that detectors have -/

/-- Every detector has a threshold or none, as its kind says. -/
def ThresholdsKept (s : State) : Prop := ∀ c det, ((s.ch c).detCfg det).threshold = none ↔ DetSetting.threshold.kind det = .absent

theorem det_put_threshold (k : DetSetting) (y : DetectorSettings) (v : Nat) : (y.put k v).threshold = none ↔ y.threshold = none := by
  cases k with
  | threshold => exact Option.map_eq_none_iff
  | _ => exact Iff.rfl

theorem putIn_threshold (r : SettingRef) (y : ChannelSettings) (v : Nat) (det : Detector) :
    ((r.putIn y v).detectors[(detectorIndex det).val]).threshold = none ↔ (y.detectors[(detectorIndex det).val]).threshold = none := by
  cases r with
  | det c d k =>
    unfold SettingRef.putIn
    dsimp only
    rw [vmod_get]
    split
    · exact det_put_threshold k _ v
    · rfl
  | chan c k => cases k <;> exact Iff.rfl
  | _ => exact Iff.rfl

theorem ThresholdsKept.putRef (h : ThresholdsKept s) (r : SettingRef) (v : Nat) : ThresholdsKept (s.putRef r v) := by
  intro c det
  rw [← h c det]
  by_cases hc : r.chan? = some c
  · by_cases hm : r = .chan c .serviceMode
    · rw [hm, putRef_mode, State.ch_modControl_same]
      rfl
    · rw [putRef_chan hc hm, State.ch_modSettings_same]
      exact putIn_threshold r _ v det
  · rw [putRef_ch_ne hc]

theorem ThresholdsKept.defaultSettings (s : State) : ThresholdsKept s.defaultSettings := by
  intro c det
  rw [defaultSettings_ch]
  cases det with
  | arrival | freeze => exact iff_of_true rfl rfl
  | black | silence => exact iff_of_false nofun nofun

/-! ## Entries copied from a part -/

/-- An entry of a part that a load takes as it stands: in its range, or the absent threshold. -/
def State.Loadable (x : State) (r : SettingRef) : Prop :=
  judgeValue r.kind (x.getRef r) = some (x.getRef r, false) ∨ r.kind = .absent ∧ x.getRef r = 0

/-- An entry set as it stands in another part. -/
def State.copyEntry (x s : State) (r : SettingRef) : State := if r.kind = .absent then s else s.putRef r (x.getRef r)

theorem judgeValue_fitsWidth {k : SettingKind} (hk : ∀ w lo hi, k = .number w lo hi → hi < 256 ^ w ∧ lo ≤ hi) (hc : ∀ n, k = .enum n → n ≤ 256) {v : Nat}
    (h : judgeValue k v = some (v, false)) : v < 256 ^ k.width := by
  cases k with
  | number w lo hi =>
    obtain ⟨hhi, hlo⟩ := hk w lo hi rfl
    unfold judgeValue clampNat at h
    simp only [Option.some.injEq, Prod.mk.injEq] at h
    have : max lo (min hi v) ≤ hi := by omega
    exact Nat.lt_of_le_of_lt (h.1 ▸ this) hhi
  | enum n => exact Nat.lt_of_lt_of_le (judgeValue_enum h) (hc n rfl)
  | flag => exact Nat.lt_of_lt_of_le (judgeValue_flag h) (by decide)
  | pairs => exact judgeValue_pairs h
  | absent => cases h

/-- The ranges of the entries fit their widths. -/
theorem kind_number {w lo hi : Nat} (h : r.kind = .number w lo hi) : hi < 256 ^ w ∧ lo ≤ hi := by
  cases r with
  | chan c k => cases k <;> cases h <;> decide
  | det c d k => cases d <;> cases k <;> cases h <;> decide
  | site k => cases k <;> cases h <;> decide
  | stream => cases h; decide
  | chain | pairs | mapped | serverPort => cases h

theorem kind_enum {n : Nat} (h : r.kind = .enum n) : n ≤ 256 := by
  cases r with
  | chan c k => cases k <;> cases h <;> decide
  | det c d k => cases d <;> cases k <;> cases h <;> decide
  | site k => cases k <;> cases h <;> decide
  | serverPort => cases h; decide
  | chain | pairs | mapped | stream => cases h

/-- R201: an entry copied from a part is taken as it stood there, with no adjustment. -/
theorem loadEntry_copied (h : x.Loadable r) (s : State) (rest : List Byte) :
    loadEntry (s, toBytes r.kind.width (x.getRef r) ++ rest) r = (x.copyEntry s r, rest) := by
  unfold loadEntry State.copyEntry adjustValue
  dsimp only
  rw [List.take_left' (toBytes_length ..), List.drop_left' (toBytes_length ..)]
  rcases h with h | ⟨hkind, -⟩
  · have habsent : r.kind ≠ .absent := fun e => by rw [e] at h; cases h
    rw [bigEndian_of_lt (judgeValue_fitsWidth (fun _ _ _ => kind_number) (fun _ => kind_enum) h), h, if_neg habsent]
    rfl
  · rw [hkind]
    rfl

theorem foldl_loadEntry_copied {l : List SettingRef} (h : ∀ r ∈ l, x.Loadable r) (s : State) (rest : List Byte) :
    l.foldl loadEntry (s, (l.flatMap fun r => toBytes r.kind.width (x.getRef r)) ++ rest) = (l.foldl x.copyEntry s, rest) := by
  induction l generalizing s with
  | nil => rfl
  | cons r l ih =>
    rw [List.flatMap_cons, List.append_assoc, List.foldl_cons, List.foldl_cons, loadEntry_copied (h r List.mem_cons_self)]
    exact ih (fun r' hr' => h r' (List.mem_cons_of_mem _ hr')) _

theorem Dressed.copyEntry (x s : State) (r : SettingRef) : Dressed s (x.copyEntry s r) := by
  unfold State.copyEntry
  split
  · exact .refl s
  · exact .putRef r s _

theorem ThresholdsKept.copyEntry (h : ThresholdsKept s) (x : State) (r : SettingRef) : ThresholdsKept (x.copyEntry s r) := by
  unfold State.copyEntry
  split
  · exact h
  · exact h.putRef r _

theorem copyEntry_reads (hs : ThresholdsKept s) (hr : x.Loadable r) : (x.copyEntry s r).getRef r = x.getRef r := by
  unfold State.copyEntry
  rcases hr with hr | ⟨hkind, hzero⟩
  · have habsent : r.kind ≠ .absent := fun e => by rw [e] at hr; cases hr
    rw [if_neg habsent, getRef_putRef hr]
    cases r with
    | det c det k =>
      cases k with
      | threshold => exact if_neg fun e => habsent ((hs c det).1 e)
      | _ => rfl
    | _ => rfl
  · rw [if_pos hkind, hzero]
    cases r with
    | det c det k =>
      cases k with
      | threshold =>
        have hnone : ((s.ch c).detCfg det).threshold = none := (hs c det).2 hkind
        show ((s.ch c).detCfg det).threshold.getD 0 = 0
        rw [hnone]
        rfl
      | _ => cases hkind
    | chan c k => cases k <;> cases hkind
    | site k => cases k <;> cases hkind
    | _ => cases hkind

theorem copyEntry_keeps (hs : ThresholdsKept s) {r' : SettingRef} (hr : x.Loadable r) (h : s.getRef r' = x.getRef r') :
    (x.copyEntry s r).getRef r' = x.getRef r' := by
  by_cases he : r' = r
  · rw [he]
    exact copyEntry_reads hs hr
  · unfold State.copyEntry
    split
    · exact h
    · rw [getRef_putRef_ne he, h]

/-- R201, R202: entries copied from a part one after another read as they stand there, and nothing else has changed. -/
theorem foldl_copyEntry {l : List SettingRef} (h : ∀ r ∈ l, x.Loadable r) (hs : ThresholdsKept s) :
    Dressed s (l.foldl x.copyEntry s) ∧ (∀ r, s.getRef r = x.getRef r → (l.foldl x.copyEntry s).getRef r = x.getRef r) ∧
      ∀ r ∈ l, (l.foldl x.copyEntry s).getRef r = x.getRef r := by
  induction l generalizing s with
  | nil => exact ⟨.refl s, fun _ hr => hr, nofun⟩
  | cons r l ih =>
    have hr := h r List.mem_cons_self
    obtain ⟨hdressed, hkept, hread⟩ := ih (fun r' hr' => h r' (List.mem_cons_of_mem _ hr')) (hs.copyEntry x r)
    refine ⟨(Dressed.copyEntry x s r).trans hdressed, fun r' hr' => hkept r' (copyEntry_keeps hs hr hr'), fun r' hr' => ?_⟩
    rcases List.mem_cons.1 hr' with rfl | hr'
    · exact hkept _ (copyEntry_reads hs hr)
    · exact hread r' hr'

/-! ## The image -/

theorem sum_widths (x : State) (l : List SettingRef) :
    (l.flatMap fun r => toBytes r.kind.width (x.getRef r)).length = (l.map fun r => r.kind.width).sum := by
  rw [List.length_flatMap]
  simp only [toBytes_length]

/-- R202: the image copied from a part is valid. -/
theorem imageFault_imageOf (x : State) : imageFault (some x.imageOf) = none := by
  have hlength : x.imageOf.contents.length = imageLength := sum_widths x imageRefs
  have hcrc : x.imageOf.crc = imageCrc x.imageOf.version x.imageOf.length x.imageOf.contents := rfl
  have hmark : x.imageOf.mark = Config.imageMark := rfl
  have hversion : x.imageOf.version = imageVersion := rfl
  have hfield : x.imageOf.length = imageLength := rfl
  generalize x.imageOf = image at *
  unfold imageFault
  dsimp only
  rw [if_neg (not_not_intro hmark), if_neg (not_not_intro hversion), if_neg (not_or.2 ⟨not_not_intro hfield, not_not_intro hlength⟩), if_neg (not_not_intro hcrc)]

/-- R201: the settings that a valid image gives. -/
theorem takeImage_valid {image : Image} (h : imageFault (some image) = none) (s : State) :
    s.takeImage (some image) =
      { (imageRefs.foldl loadEntry (s.defaultSettings, image.contents)).1 with
        mgmt := { (imageRefs.foldl loadEntry (s.defaultSettings, image.contents)).1.mgmt with config := .loaded } } := by
  unfold State.takeImage
  rw [h]

/-- The part with every entry of the image set as it stands in `x`. -/
def State.dressedAs (s x : State) : State := imageRefs.foldl x.copyEntry s.defaultSettings

theorem takeImage_imageOf (h : ∀ r ∈ imageRefs, x.Loadable r) (s : State) :
    s.takeImage (some x.imageOf) = { s.dressedAs x with mgmt := { (s.dressedAs x).mgmt with config := .loaded } } := by
  have hfold := foldl_loadEntry_copied h s.defaultSettings []
  rw [List.append_nil] at hfold
  have hcontents : x.imageOf.contents = imageRefs.flatMap fun r => toBytes r.kind.width (x.getRef r) := rfl
  have hdressed : (imageRefs.foldl loadEntry (s.defaultSettings, x.imageOf.contents)).1 = s.dressedAs x := by
    rw [hcontents, hfold, State.dressedAs]
  rw [takeImage_valid (imageFault_imageOf x), hdressed]

theorem dressedAs_dressed (h : ∀ r ∈ imageRefs, x.Loadable r) (s : State) :
    Dressed s (s.dressedAs x) ∧ ∀ r ∈ imageRefs, (s.dressedAs x).getRef r = x.getRef r := by
  obtain ⟨hdressed, -, hread⟩ := foldl_copyEntry h (ThresholdsKept.defaultSettings s)
  exact ⟨(Dressed.defaultSettings s).trans hdressed, hread⟩

theorem mode_mem_imageRefs (c : Chan) : .chan c .serviceMode ∈ imageRefs := by
  have hpage : SettingRef.chan c .serviceMode ∈ (pageRefs .channel c.val).getD [] := by
    rw [pageRefs_channel]
    exact List.mem_map_of_mem (by decide)
  unfold imageRefs
  exact List.mem_append_left _ (List.mem_append_left _ (List.mem_append_left _ (List.mem_append_left _ (List.mem_flatMap.2 ⟨c, Chan.mem_all c, hpage⟩))))

theorem rate_mem_imageRefs : .site .houseRate ∈ imageRefs := by
  have hpage : SettingRef.site .houseRate ∈ (pageRefs .site 255).getD [] := by
    rw [pageRefs_site]
    exact List.mem_map_of_mem (by decide)
  unfold imageRefs
  exact List.mem_append_right _ hpage

theorem modeCode_injective {m m' : ServiceMode} (h : modeCode m = modeCode m') : m = m' := by
  cases m <;> cases m' <;> cases h <;> rfl

theorem rateCode_injective {m m' : Rate} (h : rateCode m = rateCode m') : m = m' := by
  cases m <;> cases m' <;> cases h <;> rfl

end Sys2Proof.Machine

/-! PROOFS. A load completion with an image copied from a part (R49, R72, R123, R149, R201). -/

namespace Sys2Proof.Machine

-- Each elaboration thread takes a large stack, and the text is compiled as one file under a memory limit: one thread at a time.
set_option Elab.async false

variable {s t u x : State} {c : Chan} {r : SettingRef} {time : Nat}

/-! ## Channels placed in service -/

/-- The detectors of a channel that has been placed in service, with its last verdict and reference gone. -/
def State.placed (s : State) (c : Chan) (mode : ServiceMode) : State := (s.entered c mode).modMonitor c fun m => { m with reference := none, verdict := .healthy }

/-- The states that differ from `s` in channels alone. -/
def SameUnit (s t : State) : Prop := { t with chans := s.chans } = s

theorem SameUnit.modCh (h : SameUnit s t) (c : Chan) (f : Channel → Channel) : SameUnit s (t.modCh c f) := h

theorem SameUnit.trans (h : SameUnit s t) (k : SameUnit t u) : SameUnit s u := by
  unfold SameUnit at *
  have hk := congrArg (fun v : State => { v with chans := s.chans }) k
  exact hk.trans h

theorem placed_rest (s : State) (c : Chan) (mode : ServiceMode) : SameUnit s (s.placed c mode) := by
  have hcontrol : SameUnit s (s.controlEntry c mode) := ((show SameUnit s s from rfl).modCh c _).modCh c _ |>.modCh c _
  have halign : SameUnit s ((s.controlEntry c mode).alignEntry c) := hcontrol.modCh c _
  exact ((halign.modCh c _).modCh c _).modCh c _

theorem enterService_eq (h : ∀ det, ((s.ch c).detState det).latched = false) (mode : ServiceMode) :
    s.enterService c mode = (s.placed c mode).eachDetector c fun cfg y => if cfg.enabled then startSettling cfg y else y := by
  have hstate : ∀ det, ((s.entered c mode).ch c).detState det = (s.ch c).detState det := fun det => by
    simp [State.entered, State.controlEntry, State.alignEntry, State.clearOutput, State.setState, Channel.detState]
  have heq : s.enterService c mode = (s.entered c mode).monitorEntry c := rfl
  rw [heq, monitorEntry_eq fun det => by rw [hstate, h]]
  rfl

/-- A channel with no detector latched enters service, and nothing but its record changes. -/
theorem enterService_rest (h : ∀ det, ((s.ch c).detState det).latched = false) (mode : ServiceMode) : SameUnit s (s.enterService c mode) := by
  rw [enterService_eq h]
  exact (placed_rest s c mode).trans (eachDetector_rest (s.placed c mode) c _)

/-- What R49, R72 and R123 leave of a channel that enters service with no detector latched. -/
structure IntoService (s : State) (c : Chan) (mode : ServiceMode) (y : Channel) : Prop where
  settings : y.settings = (s.ch c).settings
  control : y.control =
    { (s.ch c).control with
      mode := mode, state := .main, pin := .none, cause := none, returnOrigin := none, guard := none, returnPosition := none
      suspended := false, awaitingRecue := false, current := none }
  delivered : y.output.delivered = .main
  d : y.align.d = some (if (s.ch c).settings.delayOverride = 0 then (s.ch c).align.measurement.measured else (s.ch c).settings.delayOverride)
  mainFloor : y.align.mainFloor = s.wrap ((s.time.h : Int) -
    (if (s.ch c).settings.delayOverride = 0 then (s.ch c).align.measurement.measured else (s.ch c).settings.delayOverride : Nat))
  standbyFloor : y.align.standbyFloor = s.time.h
  verdict : y.monitor.verdict = .healthy
  reference : y.monitor.reference = none
  detectors : ∀ det, (y.detCfg det).enabled = true → 1 ≤ (y.detCfg det).settleFrames →
    (y.detState det).phase = .settling ∧ (y.detState det).settle = (y.detCfg det).settleFrames

theorem entered_ch (s : State) (c : Chan) (mode : ServiceMode) :
    ((s.entered c mode).ch c).settings = (s.ch c).settings ∧
    ((s.entered c mode).ch c).control =
      { (s.ch c).control with
        mode := mode, state := .main, pin := .none, cause := none, returnOrigin := none, guard := none, returnPosition := none
        suspended := false, awaitingRecue := false, current := none } ∧
    ((s.entered c mode).ch c).output.delivered = .main ∧
    ((s.entered c mode).ch c).align.d =
      some (if (s.ch c).settings.delayOverride = 0 then (s.ch c).align.measurement.measured else (s.ch c).settings.delayOverride) ∧
    ((s.entered c mode).ch c).align.mainFloor = s.wrap ((s.time.h : Int) -
      (if (s.ch c).settings.delayOverride = 0 then (s.ch c).align.measurement.measured else (s.ch c).settings.delayOverride : Nat)) ∧
    ((s.entered c mode).ch c).align.standbyFloor = s.time.h := by
  simp only [State.entered, State.controlEntry, State.alignEntry, State.clearOutput, State.setState, State.ch_modWork_same, State.ch_modOutput_same,
    State.ch_modAlign_same, State.ch_modControl_same, State.modOutput_time, State.modControl_time, State.wrap, State.cycle, and_self]

theorem enterService_placed (h : ∀ det, ((s.ch c).detState det).latched = false) (mode : ServiceMode) : IntoService s c mode ((s.enterService c mode).ch c) := by
  obtain ⟨hund, hdet⟩ := s.entered_undetected h mode
  obtain ⟨hsettings, hentered, hdelivered, hd, hmain, hstandby⟩ := entered_ch s c mode
  generalize (s.entered c mode).ch c = q at hund hsettings hentered hdelivered hd hmain hstandby
  generalize (s.enterService c mode).ch c = y at hund hdet ⊢
  obtain ⟨hcontrol, halign, -, -, -, houtput, hreference, hverdict⟩ := Channel.undetected_fields hund
  have hkept : y.settings = (s.ch c).settings := (congrArg Channel.settings hund :).trans hsettings
  have hcfg : ∀ det, y.detCfg det = (s.ch c).detCfg det := fun det => by
    unfold Channel.detCfg
    rw [hkept]
  refine ⟨hkept, hcontrol.trans hentered, ?_, ?_, ?_, ?_, hverdict, hreference, fun det hon hpos => ?_⟩
  · rw [houtput, hdelivered]
  · rw [halign, hd]
  · rw [halign, hmain]
  · rw [halign, hstandby]
  · rw [hcfg] at hon hpos
    rw [hdet, if_pos hon, hcfg]
    exact ⟨if_neg (Nat.pos_iff_ne_zero.1 hpos), rfl⟩

theorem enterLoaded_around (c : Chan) (t : State) : Around c t (enterLoaded c t) := by
  by_cases hm : (t.ch c).control.mode = .outOfService
  · rw [enterLoaded_of_out hm]
    exact .refl c t
  · rw [enterLoaded_of_in hm]
    exact (Around.refl c t).elsewhere ((Elsewhere.refl c t).enterService _)

/-- What the placing in service of the channels leaves of the unit, while no detector is latched. -/
theorem eachEntry_rest (h : ∀ c det, ((s.ch c).detState det).latched = false) : SameUnit s (s.eachChannel enterLoaded) :=
  State.eachChannel_fresh (P := SameUnit s) (fun c c' t hc => (enterLoaded_around c t).others c' hc)
    (fun c t ht hc => by
      by_cases hm : (t.ch c).control.mode = .outOfService
      · rw [enterLoaded_of_out hm]
        exact ht
      · rw [enterLoaded_of_in hm]
        exact SameUnit.trans ht (enterService_rest (fun det => by rw [hc, h]) _)) rfl

/-- What the placing in service of the channels leaves of one whose image gives no mode. -/
theorem eachEntry_out_ch (hm : (s.ch c).control.mode = .outOfService) : (s.eachChannel enterLoaded).ch c = s.ch c := by
  obtain ⟨u, hu, hafter⟩ := State.eachChannel_at enterLoaded_around s c
  rw [hafter.channel, enterLoaded_of_out (by rw [hu.channel, hm]), hu.channel]

/-- What the placing in service of the channels leaves of one whose image gives a mode. -/
theorem eachEntry_in_ch (hm : (s.ch c).control.mode ≠ .outOfService) :
    ∃ u : State, u.ch c = s.ch c ∧ u.time = s.time ∧ (s.eachChannel enterLoaded).ch c = (u.enterService c (s.ch c).control.mode).ch c := by
  obtain ⟨u, hu, hafter⟩ := State.eachChannel_at enterLoaded_around s c
  refine ⟨u, hu.channel, hu.time, ?_⟩
  rw [hafter.channel, enterLoaded_of_in (by rw [hu.channel]; exact hm), hu.channel]

end Sys2Proof.Machine

/-! PROOFS. A load completion with an image copied from a part, and how an entry of an image is taken (R49, R72, R123, R149, R201). -/

namespace Sys2Proof.Machine

-- Each elaboration thread takes a large stack, and the text is compiled as one file under a memory limit: one thread at a time.
set_option Elab.async false

variable {s t u x : State} {c : Chan} {r : SettingRef} {time : Nat}

/-! ## The load -/

/-- R201: the configuration loaded. -/
def State.configLoaded (d : State) : State := { d with mgmt := { d.mgmt with config := .loaded } }

/-- R201: the frame timer armed for one frame period. -/
def State.timerArmed (d : State) (time : Nat) : State := d.modTime fun y => { y with timer := some (time + y.rate.period) }

/-- R201: a load with the settings of `d`, before the channels are looked at. -/
def State.loadedFrom (d : State) (time : Nat) : State := d.configLoaded.timerArmed time

theorem takeImage_eq (h : ∀ r ∈ imageRefs, x.Loadable r) (s : State) : s.takeImage (some x.imageOf) = (s.dressedAs x).configLoaded := takeImage_imageOf h s

theorem completeLoad_eq (hl : s.loading = true) (answer : Option Image) (time : Nat) :
    s.completeLoad answer time = (((s.takeImage answer).timerArmed time).eachChannel fun c t => t.resync c).eachChannel enterLoaded := if_pos hl

theorem completeLoad_imageOf (hl : s.loading = true) (h : ∀ r ∈ imageRefs, x.Loadable r) (time : Nat) :
    s.completeLoad (some x.imageOf) time = (((s.dressedAs x).loadedFrom time).eachChannel fun c t => t.resync c).eachChannel enterLoaded := by
  rw [completeLoad_eq hl, takeImage_eq h, State.loadedFrom]

/-- An entry reads the settings and the mode of its channel, or the unit's settings and the house rate. -/
theorem getRef_eq (hsettings : ∀ c, (t.ch c).settings = (s.ch c).settings) (hmode : ∀ c, (t.ch c).control.mode = (s.ch c).control.mode)
    (hunit : t.settings = s.settings) (hrate : t.time.rate = s.time.rate) (r : SettingRef) : t.getRef r = s.getRef r := by
  cases hc : r.chan? with
  | some c => rw [getRef_chan hc, getRef_chan hc, hsettings, hmode]
  | none =>
    cases r with
    | chan | det | chain | pairs | stream => cases hc
    | mapped i | serverPort i =>
      unfold State.getRef
      dsimp only
      simp only [hunit]
    | site k =>
      unfold State.getRef
      dsimp only
      rw [hunit, hrate]

/-- R201: what a load leaves before the channels are looked at. -/
theorem loadedFrom_leaves {d : State} (hd : Dressed s d) (hread : ∀ r ∈ imageRefs, d.getRef r = x.getRef r) (time : Nat) :
    (∀ c, { (d.loadedFrom time).ch c with settings := (s.ch c).settings, control := { ((d.loadedFrom time).ch c).control with mode := (s.ch c).control.mode } } = s.ch c) ∧
    { d.loadedFrom time with chans := s.chans, settings := s.settings } =
      { s with time := { s.time with rate := x.time.rate, timer := some (time + x.time.rate.period) }, mgmt := { s.mgmt with config := .loaded } } ∧
    (∀ r ∈ imageRefs, (d.loadedFrom time).getRef r = x.getRef r) ∧ (∀ c, ((d.loadedFrom time).ch c).control.mode = (x.ch c).control.mode) ∧
    (d.loadedFrom time).time.rate = x.time.rate := by
  obtain ⟨hchannel, hunit⟩ := hd
  have hmode : ∀ c, (d.ch c).control.mode = (x.ch c).control.mode := fun c => modeCode_injective (hread _ (mode_mem_imageRefs c))
  have hrate : d.time.rate = x.time.rate := rateCode_injective (hread _ rate_mem_imageRefs)
  refine ⟨hchannel, ?_, fun r hr => ?_, hmode, hrate⟩
  · rw [← hrate]
    exact congrArg (fun y : State => { y with
      time := { y.time with rate := d.time.rate, timer := some (time + d.time.rate.period) }, mgmt := { y.mgmt with config := .loaded } }) hunit
  · exact (getRef_eq (fun _ => rfl) (fun _ => rfl) rfl rfl r).trans (hread r hr)

/-- R49, R72, R123, R149, R201: what the load leaves once every channel has sent RESYNC and those with a mode are placed in service. -/
theorem load_leaves {d : State} (hd : Dressed s d) (hcopied : ∀ r ∈ imageRefs, d.getRef r = x.getRef r) (hout : ∀ c, s.inService c = false)
    (hlatched : ∀ c det, ((s.ch c).detState det).latched = false) (time : Nat) :
    let t := ((d.loadedFrom time).eachChannel fun c t => t.resync c).eachChannel enterLoaded
    t.mgmt = { s.mgmt with config := .loaded } ∧ t.pending = s.pending ∧
      (∀ r ∈ imageRefs, t.getRef r = x.getRef r) ∧ t.time = { s.time with rate := x.time.rate, timer := some (time + x.time.rate.period) } ∧
      t.counter (.whole .imageAdjustments) = s.counter (.whole .imageAdjustments) ∧
      ∀ c,
        let y := t.ch c
        let d := if y.settings.delayOverride = 0 then (s.ch c).align.measurement.measured else y.settings.delayOverride
        ((x.ch c).control.mode = .outOfService → y.control.state = .outOfService ∧ y.align = (s.ch c).align ∧ y.monitor = (s.ch c).monitor) ∧
        ((x.ch c).control.mode ≠ .outOfService →
          y.control =
            { (s.ch c).control with
              mode := (x.ch c).control.mode, state := .main, pin := .none, cause := none, returnOrigin := none, guard := none, returnPosition := none
              suspended := false, awaitingRecue := false, current := none } ∧
          y.output.delivered = .main ∧ y.align.d = some d ∧ y.align.mainFloor = t.wrap ((s.time.h : Int) - d) ∧ y.align.standbyFloor = s.time.h ∧
          y.monitor.verdict = .healthy ∧ y.monitor.reference = none ∧
          ∀ det, (y.detCfg det).enabled = true → 1 ≤ (y.detCfg det).settleFrames →
            (y.detState det).phase = .settling ∧ (y.detState det).settle = (y.detCfg det).settleFrames) := by
  obtain ⟨hchannel, hunit, hread, hmode, hrate⟩ := loadedFrom_leaves hd hcopied time
  generalize d.loadedFrom time = w at *
  have hat := fun c => (eachResync_at w c).1
  have hresync := eachResync_rest w
  have hadjust := eachResync_counter w (key := .whole .imageAdjustments) (fun c e => by cases e)
  generalize w.eachChannel (fun c t => t.resync c) = v at *
  have hwchannel : ∀ c det, ((w.ch c).detState det).latched = false := fun c det =>
    (congrArg (fun y : Channel => (y.detState det).latched) (hchannel c) :).trans (hlatched c det)
  have hentered := eachEntry_rest (s := v) fun c det => by
    rw [hat]
    exact hwchannel c det
  have hstay := fun c => eachEntry_out_ch (s := v) (c := c)
  have henter := fun c => eachEntry_in_ch (s := v) (c := c)
  generalize v.eachChannel enterLoaded = t at hentered hstay henter ⊢
  unfold SameUnit at hentered
  have fields {α : Type} (g : State → α) (hg : ∀ y ch se co out, g { y with chans := ch, settings := se, counters := co, outbox := out } = g y) :
      g t = g { s with
        time := { s.time with rate := x.time.rate, timer := some (time + x.time.rate.period) }, mgmt := { s.mgmt with config := .loaded } } :=
    calc
      g t = g v := (hg t v.chans t.settings t.counters t.outbox).symm.trans (congrArg g hentered)
      _ = g w := (hg v w.chans v.settings w.counters w.outbox).symm.trans (congrArg g hresync)
      _ = _ := (hg w s.chans s.settings w.counters w.outbox).symm.trans (congrArg g hunit)
  have htime := fields State.time (fun _ _ _ _ _ => rfl)
  have hunits : t.settings = w.settings := (congrArg State.settings hentered :).trans (congrArg State.settings hresync :)
  have hmodes : ∀ c, (v.ch c).control.mode = (x.ch c).control.mode := fun c => by rw [hat, ← hmode]
  have hplaced : ∀ c, (x.ch c).control.mode ≠ .outOfService → ∃ u : State, u.ch c = v.ch c ∧ u.time = v.time ∧ IntoService u c (x.ch c).control.mode (t.ch c) :=
    fun c hm => by
      obtain ⟨u, hch, hutime, ht⟩ := henter c (by rw [hmodes]; exact hm)
      refine ⟨u, hch, hutime, ?_⟩
      rw [ht, hmodes]
      exact enterService_placed (fun det => by rw [hch, hat]; exact hwchannel c det) _
  have hkept : ∀ c, (t.ch c).settings = (w.ch c).settings ∧ (t.ch c).control.mode = (w.ch c).control.mode := fun c => by
    by_cases hm : (x.ch c).control.mode = .outOfService
    · rw [hstay c (by rw [hmodes, hm]), hat]
      exact ⟨rfl, rfl⟩
    · obtain ⟨u, hch, -, hinto⟩ := hplaced c hm
      rw [hinto.settings, hinto.control, hch, hat, hmode]
      exact ⟨rfl, rfl⟩
  refine ⟨fields State.mgmt (fun _ _ _ _ _ => rfl), fields State.pending (fun _ _ _ _ _ => rfl), fun r hr => ?_, htime, ?_, fun c => ⟨fun hm => ?_, fun hm => ?_⟩⟩
  · exact (getRef_eq (fun c => (hkept c).1) (fun c => (hkept c).2) hunits (by rw [htime, hrate]) r).trans (hread r hr)
  · exact (congrArg (fun y : State => y.counter (.whole .imageAdjustments)) hentered :).trans
      (hadjust.trans (congrArg (fun y : State => y.counter (.whole .imageAdjustments)) hunit :))
  · have hy : t.ch c = { w.ch c with schedule := { (w.ch c).schedule with resyncTimer := some 0 } } := (hstay c (by rw [hmodes, hm])).trans (hat c)
    rw [hy]
    refine ⟨(congrArg (fun y : Channel => y.control.state) (hchannel c) :).trans ?_, (congrArg Channel.align (hchannel c) :), (congrArg Channel.monitor (hchannel c) :)⟩
    simpa [State.inService] using hout c
  · obtain ⟨u, hch, hutime, hinto⟩ := hplaced c hm
    have hvtime : v.time = t.time := (congrArg State.time hentered :).symm
    have hy : u.ch c = { w.ch c with schedule := { (w.ch c).schedule with resyncTimer := some 0 } } := hch.trans (hat c)
    have hcontrol : { (w.ch c).control with mode := (s.ch c).control.mode } = (s.ch c).control := (congrArg Channel.control (hchannel c) :)
    have halign : (w.ch c).align = (s.ch c).align := (congrArg Channel.align (hchannel c) :)
    have htimes : u.time = t.time := hutime.trans hvtime
    have hh : u.time.h = s.time.h := by rw [htimes, htime]
    have hd : (if (u.ch c).settings.delayOverride = 0 then (u.ch c).align.measurement.measured else (u.ch c).settings.delayOverride) =
        if (t.ch c).settings.delayOverride = 0 then (s.ch c).align.measurement.measured else (t.ch c).settings.delayOverride := by
      rw [hinto.settings, hy, halign]
    refine ⟨?_, hinto.delivered, hinto.d.trans (by rw [hd]), ?_, hinto.standbyFloor.trans hh, hinto.verdict, hinto.reference, hinto.detectors⟩
    · rw [hinto.control, hy, ← hcontrol]
    · rw [hinto.mainFloor, hd, hh]
      unfold State.wrap State.cycle
      rw [htimes]

/-! ## An entry taken from an image -/

/-- An entry taken from the bytes of its width, judged by its kind. -/
theorem loadEntry_eq {bytes : List Byte} (hlen : bytes.length = r.kind.width) (s : State) (rest : List Byte) {value : Option Nat} {adjusted : Bool}
    (h : adjustValue r.kind (bigEndian bytes) = (value, adjusted)) :
    loadEntry (s, bytes ++ rest) r =
      (value.elim (if adjusted then s.bump (.whole .imageAdjustments) else s) ((if adjusted then s.bump (.whole .imageAdjustments) else s).putRef r), rest) := by
  unfold loadEntry
  dsimp only
  rw [List.take_left' hlen, List.drop_left' hlen, h]
  cases value <;> rfl

theorem adjustValue_some {k : SettingKind} {v n : Nat} {clamped : Bool} (h : judgeValue k v = some (n, clamped)) : adjustValue k v = (some n, clamped) := by
  unfold adjustValue
  rw [h]

theorem adjustValue_none {k : SettingKind} {v : Nat} (h : judgeValue k v = none) : adjustValue k v = (none, k != .absent) := by
  unfold adjustValue
  rw [h]

/-- R201: a number is brought into its range, and counted when it was not in it. -/
theorem loadEntry_number {w lo hi : Nat} (hkind : r.kind = .number w lo hi) (hle : lo ≤ hi) {bytes : List Byte} (hlen : bytes.length = r.kind.width)
    (s : State) (rest : List Byte) :
    loadEntry (s, bytes ++ rest) r =
      ((if lo ≤ bigEndian bytes ∧ bigEndian bytes ≤ hi then s else s.bump (.whole .imageAdjustments)).putRef r (max lo (min hi (bigEndian bytes))), rest) := by
  have hjudge : judgeValue r.kind (bigEndian bytes) =
      some (max lo (min hi (bigEndian bytes)), max lo (min hi (bigEndian bytes)) != bigEndian bytes) := by
    rw [hkind]
    rfl
  rw [loadEntry_eq hlen s rest (adjustValue_some hjudge)]
  generalize bigEndian bytes = v
  by_cases hin : lo ≤ v ∧ v ≤ hi
  · have hclamp : ¬(max lo (min hi v) != v) = true := by
      rw [bne_iff_ne]
      omega
    rw [if_pos hin, if_neg hclamp]
    rfl
  · have hclamp : (max lo (min hi v) != v) = true := by
      rw [bne_iff_ne]
      omega
    rw [if_neg hin, if_pos hclamp]
    rfl

/-- R201: an enumeration or flag out of its values is counted, and the default that stands is left. -/
theorem loadEntry_code {n : Nat} (hkind : r.kind = .enum n ∨ r.kind = .flag ∧ n = 2) {bytes : List Byte} (hlen : bytes.length = r.kind.width) (s : State)
    (rest : List Byte) :
    loadEntry (s, bytes ++ rest) r = (if bigEndian bytes < n then s.putRef r (bigEndian bytes) else s.bump (.whole .imageAdjustments), rest) := by
  have hjudge : judgeValue r.kind (bigEndian bytes) = if bigEndian bytes < n then some (bigEndian bytes, false) else none := by
    rcases hkind with hkind | ⟨hkind, rfl⟩ <;> rw [hkind] <;> rfl
  have hpresent : (r.kind != .absent) = true := by
    rcases hkind with hkind | ⟨hkind, -⟩ <;> rw [hkind] <;> rfl
  by_cases hv : bigEndian bytes < n
  · rw [if_pos hv] at hjudge ⊢
    exact loadEntry_eq hlen s rest (adjustValue_some hjudge)
  · rw [if_neg hv] at hjudge ⊢
    exact loadEntry_eq hlen s rest ((adjustValue_none hjudge).trans (by rw [hpresent]))

theorem kind_stated (r : SettingRef) : r.kind = r.stated.1 := by
  cases r with
  | chan c k => cases k <;> rfl
  | det c d k => cases d <;> cases k <;> rfl
  | site k => cases k <;> rfl
  | _ => rfl

theorem defaultSettings_getRef (s : State) (r : SettingRef) : s.defaultSettings.getRef r = r.stated.2 := by
  have hch := defaultSettings_ch s
  have hrest := defaultSettings_rest s
  generalize s.defaultSettings = d at hch hrest ⊢
  have hunit : d.settings = .default := (congrArg State.settings hrest :)
  have hrate : d.time.rate = .fr25 := (congrArg (fun y : State => y.time.rate) hrest :)
  exact getRef_default (fun c => by rw [hch]) (fun c => by rw [hch]) hunit hrate r

theorem configLoaded_getRef (d : State) (r : SettingRef) : d.configLoaded.getRef r = d.getRef r := getRef_eq (fun _ => rfl) (fun _ => rfl) rfl rfl r

/-- R201, R202: the settings copied from a part are those a load with its image gives. -/
theorem takeImage_imageOf_getRef (h : ∀ r ∈ imageRefs, x.Loadable r) (s : State) :
    (s.takeImage (some x.imageOf)).mgmt.config = .loaded ∧ ∀ r ∈ imageRefs, (s.takeImage (some x.imageOf)).getRef r = x.getRef r := by
  rw [takeImage_eq h]
  exact ⟨rfl, fun r hr => (configLoaded_getRef _ r).trans ((dressedAs_dressed h s).2 r hr)⟩

theorem exec_loadCompletion_imageOf (hs : s.settled = true) (hl : s.loading = true) (h : ∀ r ∈ imageRefs, x.Loadable r) (time : Nat) :
    exec (.loadCompletion (some x.imageOf) time) s =
      .next ((((s.dressedAs x).loadedFrom time).eachChannel fun c t => t.resync c).eachChannel enterLoaded) :=
  congrArg Host.Outcome.next
    ((congrArg (fun u : State => u.completeLoad (some x.imageOf) time) (State.catchUp_settled hs)).trans (completeLoad_imageOf hl h time))

/-- Settles O9. -/
theorem loadedImageGivesTheSavedSettings : Obligations.LoadedImageGivesTheSavedSettings := by
  refine ⟨fun s x h => ⟨takeImage_imageOf_getRef h s, fun time hs hl hout hlatched => ?_⟩, fun s r => ⟨defaultSettings_getRef s r, kind_stated r⟩,
    fun s image h => ⟨_, rfl, takeImage_valid h s⟩, fun s r bytes rest hlen => ?_⟩
  · obtain ⟨hdressed, hcopied⟩ := dressedAs_dressed (x := x) h s
    exact ⟨_, exec_loadCompletion_imageOf hs hl h time, load_leaves hdressed hcopied hout hlatched time⟩
  · exact ⟨fun w lo hi hkind hle => loadEntry_number hkind hle hlen s rest, fun n hkind => loadEntry_code (.inl hkind) hlen s rest,
      fun hkind => loadEntry_code (.inr ⟨hkind, rfl⟩) hlen s rest⟩

end Sys2Proof.Machine

/-! PROOFS. Media carriers taken to a port's path, and to the slot of their stamp (R23, R28 to R33, R36, R38, R43, R52). -/

namespace Sys2Proof.Machine

-- Each elaboration thread takes a large stack, and the text is compiled as one file under a memory limit: one thread at a time.
set_option Elab.async false

variable {s t u : State} {c : Chan} {path : SourcePath} {p : Port} {m : Media} {r : Collect}

/-! ## Slots -/

theorem Slots.put_put (x : Slots) (path : SourcePath) (q : Nat) (a b : Slot) : (x.put path q a).put path q b = x.put path q b := by
  cases path <;> simp [Slots.put]

theorem modSlots_put_put (s : State) (c : Chan) (path : SourcePath) (q : Nat) (a b : Slot) :
    (s.modSlots c fun y => y.put path q a).modSlots c (fun y => y.put path q b) = s.modSlots c fun y => y.put path q b := by
  unfold State.modSlots
  rw [State.modCh_modCh]
  simp only [Slots.put_put]

theorem modAlign_modSlots (s : State) (c : Chan) (f : Align → Align) (g : Slots → Slots) :
    (s.modAlign c f).modSlots c g = (s.modSlots c g).modAlign c f := by
  unfold State.modSlots State.modAlign
  rw [State.modCh_modCh, State.modCh_modCh]

/-! ## A carrier meets a slot of its stamp (R30 to R33) -/

/-- R31, R32, R38: a FILLING slot made CORRUPT. -/
def State.corrupted (s : State) (c : Chan) (path : SourcePath) (stamp : Nat) (bad : Bool) : State :=
  (s.modSlots c fun y => y.put path stamp (.corrupt stamp)).countCorrupt c path bad

theorem joinFilling_duplicate (h : admitPiece r.view m = .duplicate) (s : State) (c : Chan) (path : SourcePath) (p : Port) :
    s.joinFilling c path p r m = s.bump (.port p .duplicates) := by
  unfold State.joinFilling
  rw [h]

theorem joinFilling_disagree (h : admitPiece r.view m = .disagree) (s : State) (c : Chan) (path : SourcePath) (p : Port) :
    s.joinFilling c path p r m = s.corrupted c path r.stamp false := by
  unfold State.joinFilling
  rw [h]
  rfl

theorem joinFilling_bad (h : admitPiece r.view m = .badSummary) (s : State) (c : Chan) (path : SourcePath) (p : Port) :
    s.joinFilling c path p r m = s.corrupted c path r.stamp true := by
  unfold State.joinFilling
  rw [h]
  rfl

theorem joinFilling_stored {vc ac : Option Nat} {x : Option Summary} (h : admitPiece r.view m = .store vc ac x) {r' : Collect}
    (hr : r.record m vc ac x = r') (hpart : ¬(r'.summary ≠ none ∧ r'.view.complete = true)) (s : State) (c : Chan) (path : SourcePath) (p : Port) :
    s.joinFilling c path p r m = s.modSlots c fun y => y.put path r.stamp (.filling r') := by
  unfold State.joinFilling
  rw [h]
  dsimp only
  rw [hr]
  split
  · rename_i y hy
    exact if_neg fun hc => hpart ⟨by rw [hy]; exact Option.some_ne_none _, hc⟩
  · rfl

theorem joinFilling_completed {vc ac : Option Nat} {x : Option Summary} (h : admitPiece r.view m = .store vc ac x) {r' : Collect}
    (hr : r.record m vc ac x = r') {y : Summary} (hy : r'.summary = some y) (hc : r'.view.complete = true) (s : State) (c : Chan) (path : SourcePath) (p : Port) :
    s.joinFilling c path p r m = s.completeSlot c path r' y := by
  unfold State.joinFilling
  rw [h]
  dsimp only
  rw [hr, hy]
  exact if_pos hc

/-- R33: the counts of a record are announced and every piece of it is there. -/
def Collect.Whole (q : Collect) : Prop :=
  ∃ v a, q.vc = some v ∧ q.ac = some a ∧ (∀ n, n < v → n ∈ q.video.map Piece.index) ∧ ∀ n, n < a → n ∈ q.audio.map Piece.index

theorem all_range_contains {n : Nat} {l : List Nat} : ((List.range n).all l.contains) = true ↔ ∀ i, i < n → i ∈ l := by
  simp

theorem tracker_complete_iff {x : Tracker} :
    x.complete = true ↔ x.summary = true ∧ ∃ v a, x.vc = some v ∧ x.ac = some a ∧ (∀ n, n < v → n ∈ x.video) ∧ ∀ n, n < a → n ∈ x.audio := by
  obtain ⟨stamp, vc, ac, summary, video, audio⟩ := x
  unfold Tracker.complete
  cases summary <;> cases vc <;> cases ac <;> simp

theorem view_complete_iff : r.view.complete = true ↔ r.summary.isSome = true ∧ r.Whole := tracker_complete_iff

theorem record_stamp (r : Collect) (m : Media) (vc ac : Option Nat) (x : Option Summary) : (r.record m vc ac x).stamp = r.stamp := by
  unfold Collect.record
  cases m.kind <;> rfl

/-! ## A slot just opened (R29) -/

/-- What the first carrier of a stamp leaves in its slot. -/
def openedSlot (m : Media) : Slot :=
  match m.kind with
  | .video => .filling { stamp := m.stamp, vc := some m.fragCount, ac := none, video := [{ index := m.fragIndex, payload := m.payload }], audio := [], summary := none }
  | .audio => .filling { stamp := m.stamp, vc := none, ac := some m.fragCount, video := [], audio := [{ index := m.fragIndex, payload := m.payload }], summary := none }
  | .summary =>
    match parseSummary m.payload with
    | some x => .filling { stamp := m.stamp, vc := some x.vc, ac := some x.ac, video := [], audio := [], summary := some x }
    | none => .corrupt m.stamp

theorem parseSummary_vc {payload : List Byte} {x : Summary} (h : parseSummary payload = some x) : 1 ≤ x.vc := by
  unfold parseSummary at h
  dsimp only at h
  split at h
  · rename_i hc
    rw [← Option.some.inj h]
    exact hc.2.2.1
  · cases h

theorem joinFilling_opened (s : State) (c : Chan) (path : SourcePath) (p : Port) (m : Media) :
    (s.modSlots c fun y => y.put path m.stamp (.filling (.opened m.stamp))).joinFilling c path p (.opened m.stamp) m =
      if m.kind = .summary ∧ parseSummary m.payload = none then (s.modSlots c fun y => y.put path m.stamp (openedSlot m)).countCorrupt c path true else s.modSlots c fun y => y.put path m.stamp (openedSlot m) := by
  obtain ⟨kind, channel, stamp, index, count, payload⟩ := m
  cases kind with
  | video | audio =>
    rw [joinFilling_stored rfl rfl (fun h => h.1 rfl)]
    rw [if_neg (fun h => nomatch h.1)]
    exact modSlots_put_put ..
  | summary =>
    cases hp : parseSummary payload with
    | none =>
      rw [joinFilling_bad (by simp [admitPiece, Collect.opened, Collect.view, hp]), if_pos ⟨rfl, rfl⟩]
      unfold State.corrupted openedSlot
      dsimp only
      rw [hp, Collect.opened, modSlots_put_put]
    | some x =>
      have hadmit : admitPiece (Collect.opened stamp).view ⟨.summary, channel, stamp, index, count, payload⟩ = .store (some x.vc) (some x.ac) (some x) := by
        simp [admitPiece, Collect.opened, Collect.view, hp, agrees]
      have hvc := parseSummary_vc hp
      rw [joinFilling_stored hadmit rfl, if_neg (fun h => Option.some_ne_none _ h.2)]
      · unfold openedSlot
        dsimp only
        rw [hp, Collect.opened, modSlots_put_put]
        rfl
      · rintro ⟨-, hc⟩
        obtain ⟨-, v, a, hv, -, hall, -⟩ := view_complete_iff.1 hc
        have hv' : x.vc = v := Option.some.inj hv
        exact absurd (hall 0 (by omega)) (by simp [Collect.record, Collect.opened])

end Sys2Proof.Machine

/-! PROOFS. Media carriers received at a contribution port and at a standby port (R21, R23, R28, R37, R52). -/

namespace Sys2Proof.Machine

-- Each elaboration thread takes a large stack, and the text is compiled as one file under a memory limit: one thread at a time.
set_option Elab.async false

variable {s t u : State} {c : Chan} {path : SourcePath} {p : Port} {m : Media} {side : Side} {n : Fin 4}

theorem mediaInRange_iff_inRange {channels : Nat} : s.mediaInRange m channels = true ↔ InRange s m channels := by
  rw [mediaInRange_iff]
  unfold InRange
  constructor
  · rintro ⟨⟨hstamp, hlength, -, hindex⟩, hchannel, hvideo, haudio, hsummary⟩
    refine ⟨hstamp, hlength, hindex, hchannel, ?_⟩
    split
    · exact hvideo ‹_›
    · exact haudio ‹_›
    · exact hsummary ‹_›
  · rintro ⟨hstamp, hlength, hindex, hchannel, hkind⟩
    refine ⟨⟨hstamp, hlength, by omega, hindex⟩, hchannel, fun h => ?_, fun h => ?_, fun h => ?_⟩ <;> rw [h] at hkind <;> exact hkind

/-! ## The contribution ports -/

theorem exec_mainMediaCarrier (hs : s.settled = true) (side : Side) (m : Media) : exec (.mainMediaCarrier side m) s = .next (s.receiveMainMedia side m) :=
  congrArg Host.Outcome.next (congrArg (fun u : State => u.receiveMainMedia side m) (State.catchUp_settled hs))

/-- R20, R21: a media carrier out of range is counted alone. -/
theorem receiveMainMedia_outOfRange (hl : s.loading = false) (h : ¬InRange s m 16) (side : Side) :
    s.receiveMainMedia side m = (s.bump (.port (.contribution side) .carriersIn)).bump (.port (.contribution side) .badField) := by
  have hl' : ¬(s.countCarrier (.contribution side)).loading = true := by
    rw [show (s.countCarrier (.contribution side)).loading = s.loading from rfl, hl]
    simp
  have hr : (s.countCarrier (.contribution side)).mediaInRange m 16 = false := by
    rw [← Bool.not_eq_true]
    exact fun hin => h (mediaInRange_iff_inRange.1 hin)
  unfold State.receiveMainMedia
  dsimp only
  rw [if_neg hl', hr]
  rfl

/-- R23, R25, R28: a media carrier in range marks its path, and is judged for its channel. -/
theorem receiveMainMedia_inRange (hl : s.loading = false) (h : InRange s m 16) (hc : m.channel = c.val) (side : Side) :
    s.receiveMainMedia side m =
      if s.inService c then (s.arrived (.contribution side)).classifyMain c (.contribution side) m
      else (s.arrived (.contribution side)).bump (.port (.contribution side) .outOfService) := by
  have hl' : ¬(s.countCarrier (.contribution side)).loading = true := by
    rw [show (s.countCarrier (.contribution side)).loading = s.loading from rfl, hl]
    simp
  have hr : (s.countCarrier (.contribution side)).mediaInRange m 16 = true := mediaInRange_iff_inRange.2 h
  have harrived : (s.countCarrier (.contribution side)).markTraffic (.contribution side) = s.arrived (.contribution side) := rfl
  have hin : (s.arrived (.contribution side)).inService c = s.inService c := by cases side <;> rfl
  unfold State.receiveMainMedia
  dsimp only
  rw [if_neg hl', hr, harrived, hc, chanOf_val]
  dsimp only
  rw [hin]
  rfl

theorem arrived_time (s : State) (p : Port) : (s.arrived p).time = s.time := by
  cases p with
  | contribution side => cases side <;> rfl
  | _ => rfl

theorem arrived_ch (s : State) (p : Port) (c : Chan) : (s.arrived p).ch c = s.ch c := by
  cases p with
  | contribution side => cases side <;> rfl
  | _ => rfl

/-- The signed difference of a stamp from the due stamp of a channel's main path. -/
def State.stampAge (s : State) (c : Chan) (stamp : Nat) : Int := s.signed stamp ((s.time.h : Int) - s.delay c)

theorem arrived_stampAge (s : State) (p : Port) (c : Chan) (stamp : Nat) : (s.arrived p).stampAge c stamp = s.stampAge c stamp := by
  unfold State.stampAge State.signed State.cycle State.delay
  rw [arrived_time, arrived_ch]

theorem arrived_signed (s : State) (p : Port) (y x : Int) : (s.arrived p).signed y x = s.signed y x := by
  unfold State.signed State.cycle
  rw [arrived_time]

theorem classifyMain_late (h : s.stampAge c m.stamp ≤ 0) (p : Port) : s.classifyMain c p m = (s.bump (.port p .late)).offerTracker c p m := if_pos h

theorem classifyMain_early (h : 16 < s.stampAge c m.stamp) (p : Port) : s.classifyMain c p m = s.bump (.port p .early) := by
  refine (if_neg ?_).trans (if_neg ?_) <;> unfold State.stampAge at h <;> omega

theorem classifyMain_placed (h : 1 ≤ s.stampAge c m.stamp) (h' : s.stampAge c m.stamp ≤ 16) (p : Port) : s.classifyMain c p m = s.placePiece c .main p m := by
  refine (if_neg ?_).trans (if_pos h')
  unfold State.stampAge at h
  omega

/-! ## The standby ports (R37) -/

theorem exec_standbyMediaCarrier (hs : s.settled = true) (n : Fin 4) (m : Media) : exec (.standbyMediaCarrier n m) s = .next (s.receiveStandbyMedia n m) :=
  congrArg Host.Outcome.next (congrArg (fun u : State => u.receiveStandbyMedia n m) (State.catchUp_settled hs))

/-- R37: a channel in service whose configuration names the server and player of a stream. -/
def State.NamedBy (s : State) (stream : Nat) (c : Chan) : Prop :=
  s.inService c = true ∧ (s.ch c).settings.server.val = stream / 4 ∧ (s.ch c).settings.player.val = stream % 4

theorem mem_assigned {stream : Nat} : c ∈ s.assigned (stream / 4) (stream % 4) ↔ s.NamedBy stream c := by
  unfold State.assigned State.NamedBy
  rw [List.mem_filter]
  simp [Chan.mem_all, and_assoc]

theorem nodup_assigned (s : State) (server player : Nat) : (s.assigned server player).Nodup := Chan.nodup_all.filter _

theorem assigned_none {stream : Nat} (h : ∀ c, ¬s.NamedBy stream c) : s.assigned (stream / 4) (stream % 4) = [] :=
  List.eq_nil_iff_forall_not_mem.2 fun c hc => h c (mem_assigned.1 hc)

theorem assigned_one {stream : Nat} (h : ∀ c', s.NamedBy stream c' ↔ c' = c) : s.assigned (stream / 4) (stream % 4) = [c] :=
  List.perm_singleton.1 ((List.perm_ext_iff_of_nodup (nodup_assigned ..) (List.nodup_singleton c)).2 fun c' => by rw [mem_assigned, h, List.mem_singleton])

theorem assigned_two {stream : Nat} {c' : Chan} (hne : c ≠ c') (h : s.NamedBy stream c) (h' : s.NamedBy stream c') :
    ∃ a b l, s.assigned (stream / 4) (stream % 4) = a :: b :: l := by
  have hc := mem_assigned.2 h
  have hc' := mem_assigned.2 h'
  match hl : s.assigned (stream / 4) (stream % 4) with
  | [] => rw [hl] at hc; cases hc
  | [a] =>
    rw [hl, List.mem_singleton] at hc hc'
    exact absurd (hc.trans hc'.symm) hne
  | a :: b :: l => exact ⟨a, b, l, rfl⟩

/-- R37: a standby media carrier in range is counted, and is taken for its channel or discarded. -/
theorem receiveStandbyMedia_inRange (hl : s.loading = false) (h : InRange s m 32) (n : Fin 4) :
    s.receiveStandbyMedia n m =
      (s.assignStream n m.channel).elim (fun k => (s.bump (.port (.standby n) .carriersIn)).bump (.port (.standby n) k))
        fun c => (s.bump (.port (.standby n) .carriersIn)).classifyStandby c (.standby n) m := by
  have hl' : ¬(s.countCarrier (.standby n)).loading = true := by
    rw [show (s.countCarrier (.standby n)).loading = s.loading from rfl, hl]
    simp
  have hr : (s.countCarrier (.standby n)).mediaInRange m 32 = true := mediaInRange_iff_inRange.2 h
  have hassign : (s.countCarrier (.standby n)).assignStream n m.channel = s.assignStream n m.channel := rfl
  unfold State.receiveStandbyMedia
  dsimp only
  rw [if_neg hl', hr, hassign]
  cases s.assignStream n m.channel <;> rfl

theorem assignStream_unmapped {stream : Nat} (h : s.settings.servers[(stream / 4) % 8].mapped = false) (n : Fin 4) :
    s.assignStream n stream = .inl .standbyUnmapped := by
  unfold State.assignStream
  dsimp only
  rw [h]
  rfl

theorem assignStream_wrongPort {stream : Nat} (h : s.settings.servers[(stream / 4) % 8].mapped = true) (hn : s.settings.servers[(stream / 4) % 8].port ≠ n) :
    s.assignStream n stream = .inl .standbyWrongPort := by
  unfold State.assignStream
  dsimp only
  rw [h]
  exact (if_neg (by simp)).trans (if_pos hn)

theorem assignStream_mapped {stream : Nat} (h : s.settings.servers[(stream / 4) % 8].mapped = true) (hn : s.settings.servers[(stream / 4) % 8].port = n) :
    s.assignStream n stream =
      match s.assigned (stream / 4) (stream % 4) with
      | [] => .inl .standbyUnassigned
      | [c] => .inr c
      | _ => .inl .standbyAmbiguous := by
  unfold State.assignStream
  dsimp only
  rw [h]
  exact (if_neg (by simp)).trans (if_neg (not_not_intro hn))

theorem classifyStandby_late (h : s.signed m.stamp s.time.h ≤ 0) (p : Port) : s.classifyStandby c p m = s.bump (.chan c .standbyLate) := if_pos h

theorem classifyStandby_early (h : 4 < s.signed m.stamp s.time.h) (p : Port) : s.classifyStandby c p m = s.bump (.chan c .standbyEarly) := by
  refine (if_neg ?_).trans (if_neg ?_) <;> omega

theorem classifyStandby_placed (h : 1 ≤ s.signed m.stamp s.time.h) (h' : s.signed m.stamp s.time.h ≤ 4) (p : Port) :
    s.classifyStandby c p m = s.placePiece c .standby p m := (if_neg (by omega)).trans (if_pos h')

/-- R28, R37, R52: a carrier in the window of its channel's path is taken to its slot. -/
theorem exec_placed {i : Instr} (h : Placed s c path p m i) : exec i s = .next ((s.arrived p).placePiece c path p m) := by
  obtain ⟨⟨hs, hl⟩, h⟩ := h
  cases path with
  | main =>
    obtain ⟨⟨side, rfl, rfl⟩, hc, hr, hin, hlow, hhigh⟩ := h
    rw [exec_mainMediaCarrier hs, receiveMainMedia_inRange hl hr hc, if_pos hin,
      classifyMain_placed (by rw [arrived_stampAge]; exact hlow) (by rw [arrived_stampAge]; exact hhigh)]
  | standby =>
    obtain ⟨⟨n, rfl, rfl, hentry⟩, hr, hnamed, hlow, hhigh⟩ := h
    rw [exec_standbyMediaCarrier hs, receiveStandbyMedia_inRange hl hr, assignStream_mapped (by rw [hentry]) (by rw [hentry]), assigned_one hnamed]
    exact congrArg Host.Outcome.next (classifyStandby_placed (s := s.arrived (.standby n)) hlow hhigh _)

end Sys2Proof.Machine

/-! PROOFS. What a carrier does to the slot of its stamp, and the eviction of a held frame (R29 to R33, R36, R38, R43). -/

namespace Sys2Proof.Machine

-- Each elaboration thread takes a large stack, and the text is compiled as one file under a memory limit: one thread at a time.
set_option Elab.async false

variable {s t u : State} {c : Chan} {path : SourcePath} {p : Port} {m : Media} {r : Collect}

/-! ## The slot of a carrier's stamp (R29) -/

theorem placePiece_free (h : (s.ch c).slots.at path m.stamp = .free) (p : Port) :
    s.placePiece c path p m = ((s.takeUnit c).modSlots c fun y => y.put path m.stamp (.filling (.opened m.stamp))).joinFilling c path p (.opened m.stamp) m := by
  unfold State.placePiece
  rw [h]

theorem placePiece_filling (h : (s.ch c).slots.at path m.stamp = .filling r) (hr : r.stamp = m.stamp) (p : Port) :
    s.placePiece c path p m = s.joinFilling c path p r m := by
  unfold State.placePiece
  rw [h]
  exact if_pos hr

theorem placePiece_complete {f : Frame} {x : Nat} (h : (s.ch c).slots.at path m.stamp = .complete f x) (hf : f.stamp = m.stamp) (p : Port) :
    s.placePiece c path p m = s.joinComplete c p f m := by
  unfold State.placePiece
  rw [h]
  exact if_pos hf

theorem placePiece_corrupt (h : (s.ch c).slots.at path m.stamp = .corrupt m.stamp) (p : Port) :
    s.placePiece c path p m = s.bump (.chan c .corruptDiscards) := by
  unfold State.placePiece
  rw [h]
  exact if_pos rfl

/-- R29: a slot that holds another stamp is reclaimed. -/
theorem placePiece_reclaims {q : Nat} (h : ((s.ch c).slots.at path m.stamp).stamp = some q) (hq : q ≠ m.stamp) (p : Port) :
    s.placePiece c path p m =
      ((s.bump (.chan c .staleReclaims)).modSlots c fun y => y.put path m.stamp (.filling (.opened m.stamp))).joinFilling c path p (.opened m.stamp) m := by
  unfold State.placePiece
  generalize (s.ch c).slots.at path m.stamp = slot at h
  cases slot with
  | free => cases h
  | filling r | complete f x | corrupt q' =>
    have hne := Option.some.inj h ▸ hq
    exact if_neg hne

/-! ## A carrier for a COMPLETE slot (R30 to R32) -/

theorem joinComplete_eq (s : State) (c : Chan) (p : Port) (f : Frame) (m : Media) (hindex : m.kind = .summary → m.fragIndex = 0) :
    s.joinComplete c p f m =
      if m.kind = .summary ∧ parseSummary m.payload = none then s.bump (.chan c .badSummaries)
      else if m.fragIndex < (match m.kind with | .video => f.video.length | .audio => f.audio.length | .summary => 1) then s.bump (.port p .duplicates)
      else s.bump (.chan c .corruptDiscards) := by
  obtain ⟨kind, channel, stamp, index, count, payload⟩ := m
  cases kind with
  | video | audio => exact (if_neg (fun h => nomatch h.1)).symm
  | summary =>
    have hzero : index = 0 := hindex rfl
    unfold State.joinComplete
    dsimp only
    cases hp : parseSummary payload with
    | none => exact (if_pos ⟨rfl, rfl⟩).symm
    | some x =>
      rw [hzero]
      exact ((if_neg (fun h => Option.some_ne_none _ h.2)).trans (if_pos Nat.zero_lt_one)).symm

/-! ## A carrier for a FILLING slot (R30 to R33) -/

/-- R33, R36, R38: the frame that a whole record makes. -/
def Collect.frame (q : Collect) (x : Summary) (signature : Option (BitVec 32)) : Frame :=
  { stamp := q.stamp, summary := x, video := q.video.map Piece.payload, audio := q.audio.map Piece.payload, signature := signature }

theorem completeSlot_main (s : State) (c : Chan) (q : Collect) (x : Summary) :
    s.completeSlot c .main q x =
      (s.modSlots c fun y => y.put .main q.stamp (.complete (q.frame x (some (crc32 (q.video.map Piece.payload).flatten))) s.time.h)).takeSample c
        (s.signed s.time.h q.stamp) := rfl

theorem completeSlot_standby (s : State) (c : Chan) (q : Collect) (x : Summary) :
    s.completeSlot c .standby q x = s.modSlots c fun y => y.put .standby q.stamp (.complete (q.frame x none) s.time.h) := rfl

theorem agrees_iff {announced : Option Nat} {n : Nat} : agrees announced n = true ↔ announced = none ∨ announced = some n := by
  cases announced <;> simp [agrees]

theorem admitPiece_video (h : m.kind = .video) (x : Tracker) :
    (m.fragIndex ∈ x.video → admitPiece x m = .duplicate) ∧
      (m.fragIndex ∉ x.video → ¬(x.vc = none ∨ x.vc = some m.fragCount) → admitPiece x m = .disagree) ∧
      (m.fragIndex ∉ x.video → (x.vc = none ∨ x.vc = some m.fragCount) → admitPiece x m = .store (some m.fragCount) x.ac none) := by
  unfold admitPiece
  rw [h]
  dsimp only
  rw [← agrees_iff]
  exact ⟨fun hi => if_pos (List.contains_iff_mem.2 hi), fun hi ha => (if_neg (fun hc => hi (List.contains_iff_mem.1 hc))).trans (if_neg ha),
    fun hi ha => (if_neg (fun hc => hi (List.contains_iff_mem.1 hc))).trans (if_pos ha)⟩

theorem admitPiece_audio (h : m.kind = .audio) (x : Tracker) :
    (m.fragIndex ∈ x.audio → admitPiece x m = .duplicate) ∧
      (m.fragIndex ∉ x.audio → ¬(x.ac = none ∨ x.ac = some m.fragCount) → admitPiece x m = .disagree) ∧
      (m.fragIndex ∉ x.audio → (x.ac = none ∨ x.ac = some m.fragCount) → admitPiece x m = .store x.vc (some m.fragCount) none) := by
  unfold admitPiece
  rw [h]
  dsimp only
  rw [← agrees_iff]
  exact ⟨fun hi => if_pos (List.contains_iff_mem.2 hi), fun hi ha => (if_neg (fun hc => hi (List.contains_iff_mem.1 hc))).trans (if_neg ha),
    fun hi ha => (if_neg (fun hc => hi (List.contains_iff_mem.1 hc))).trans (if_pos ha)⟩

theorem admitPiece_summary_held (h : m.kind = .summary) {x : Tracker} (hx : x.summary = true) : admitPiece x m = .duplicate := by
  unfold admitPiece
  rw [h]
  exact if_pos hx

theorem admitPiece_summary_bad (h : m.kind = .summary) {x : Tracker} (hx : x.summary = false) (hp : parseSummary m.payload = none) :
    admitPiece x m = .badSummary := by
  unfold admitPiece
  rw [h, hp, hx]
  exact if_neg (by simp)

theorem admitPiece_summary (h : m.kind = .summary) {x : Tracker} (hx : x.summary = false) {y : Summary} (hp : parseSummary m.payload = some y) :
    (¬((x.vc = none ∨ x.vc = some y.vc) ∧ (x.ac = none ∨ x.ac = some y.ac)) → admitPiece x m = .disagree) ∧
      ((x.vc = none ∨ x.vc = some y.vc) ∧ (x.ac = none ∨ x.ac = some y.ac) → admitPiece x m = .store (some y.vc) (some y.ac) (some y)) := by
  unfold admitPiece
  rw [h, hp, hx]
  dsimp only
  rw [← agrees_iff, ← agrees_iff, ← Bool.and_eq_true]
  exact ⟨fun ha => (if_neg (by simp)).trans (if_neg ha), fun ha => (if_neg (by simp)).trans (if_pos ha)⟩

/-- R33: a first copy that agrees is stored, and the last one makes the slot COMPLETE. -/
theorem joinFilling_first {vc ac : Option Nat} {y : Option Summary} (h : admitPiece r.view m = .store vc ac y) {q : Collect} (hq : r.record m vc ac y = q)
    (hr : r.stamp = m.stamp) (s : State) (c : Chan) (path : SourcePath) (p : Port) :
    (¬(q.summary ≠ none ∧ q.Whole) → s.joinFilling c path p r m = s.modSlots c fun z => z.put path m.stamp (.filling q)) ∧
      ∀ x, q.summary = some x → q.Whole → s.joinFilling c path p r m = s.completeSlot c path q x := by
  refine ⟨fun hpart => ?_, fun x hx hwhole => ?_⟩
  · rw [← hr]
    exact joinFilling_stored h hq (fun hc => hpart ⟨hc.1, (view_complete_iff.1 hc.2).2⟩) s c path p
  · exact joinFilling_completed h hq hx (view_complete_iff.2 ⟨by rw [hx]; rfl, hwhole⟩) s c path p

/-! ## The held frame given up (R43) -/

theorem evictHeld_counter (s : State) (c : Chan) :
    (s.evictHeld c).counter (.chan c .heldEvictions) = min (s.counter (.chan c .heldEvictions) + 1) 4294967295 := by
  unfold State.evictHeld State.stopCopies
  dsimp only
  rw [State.counter_mapSlates, State.counter_bumpCh, if_pos rfl]
  cases offAirPath (s.ch c).control.state <;> rfl

end Sys2Proof.Machine

/-! PROOFS. Media carriers on a contribution port, and what a carrier does to its slot on either path (R23, R28 to R33, R35, R36, R38, R43). -/

namespace Sys2Proof.Machine

-- Each elaboration thread takes a large stack, and the text is compiled as one file under a memory limit: one thread at a time.
set_option Elab.async false

variable {s t u : State} {c : Chan} {path : SourcePath} {p : Port} {m : Media} {r : Collect} {i : Instr}

theorem offerTracker_other (h : ∀ k, (s.ch c).slots.tracker = some k → k.stamp ≠ m.stamp) (p : Port) : s.offerTracker c p m = s := by
  unfold State.offerTracker
  cases hk : (s.ch c).slots.tracker with
  | none => rfl
  | some k => exact if_pos (h k hk)

/-- The range of a carrier taken to a slot leaves a SUMMARY one piece. -/
theorem Placed.summaryIndex (h : Placed s c path p m i) (hk : m.kind = .summary) : m.fragIndex = 0 := by
  have hr : InRange s m 16 ∨ InRange s m 32 := by
    obtain ⟨-, h⟩ := h
    cases path with
    | main => exact .inl h.2.2.1
    | standby => exact .inr h.2.1
  rcases hr with ⟨-, -, -, -, hkind⟩ | ⟨-, -, -, -, hkind⟩ <;> rw [hk] at hkind <;> exact hkind.1

/-- R29: a FREE slot opened by its first carrier. -/
theorem placePiece_opens (h : (s.ch c).slots.at path m.stamp = .free) (p : Port) :
    s.placePiece c path p m =
      if m.kind = .summary ∧ parseSummary m.payload = none then
        ((((if (s.ch c).align.freeUnits = 0 then s.evictHeld c else s).modSlots c fun y => y.put path m.stamp (openedSlot m)).modAlign c fun x =>
          { x with freeUnits := x.freeUnits - 1 }).countCorrupt c path true)
      else ((if (s.ch c).align.freeUnits = 0 then s.evictHeld c else s).modSlots c fun y => y.put path m.stamp (openedSlot m)).modAlign c fun x =>
        { x with freeUnits := x.freeUnits - 1 } := by
  rw [placePiece_free h, joinFilling_opened]
  unfold State.takeUnit
  dsimp only
  rw [modAlign_modSlots]

/-- R29: a slot that holds another stamp reclaimed by the first carrier of its own. -/
theorem placePiece_reopens {q : Nat} (h : ((s.ch c).slots.at path m.stamp).stamp = some q) (hq : q ≠ m.stamp) (p : Port) :
    s.placePiece c path p m =
      if m.kind = .summary ∧ parseSummary m.payload = none then
        ((s.modSlots c fun y => y.put path m.stamp (openedSlot m)).bump (.chan c .staleReclaims)).countCorrupt c path true
      else (s.modSlots c fun y => y.put path m.stamp (openedSlot m)).bump (.chan c .staleReclaims) := by
  rw [placePiece_reclaims h hq, joinFilling_opened]
  rfl

/-! ## A carrier for a FILLING slot of its stamp (R30 to R33) -/

/-- A piece or a SUMMARY that a record holds already. -/
def HeldIn (m : Media) (r : Collect) : Prop :=
  match m.kind with
  | .video => m.fragIndex ∈ r.video.map Piece.index
  | .audio => m.fragIndex ∈ r.audio.map Piece.index
  | .summary => r.summary ≠ none

/-- A carrier whose counts agree with those that a record has been announced. -/
def AgreesWith (m : Media) (r : Collect) : Prop :=
  match m.kind with
  | .video => r.vc = none ∨ r.vc = some m.fragCount
  | .audio => r.ac = none ∨ r.ac = some m.fragCount
  | .summary => ∀ x, parseSummary m.payload = some x → (r.vc = none ∨ r.vc = some x.vc) ∧ (r.ac = none ∨ r.ac = some x.ac)

/-- A record with a first copy stored. -/
def storedIn (m : Media) (r : Collect) : Collect :=
  match m.kind with
  | .video => { r with vc := some m.fragCount, video := insertPiece { index := m.fragIndex, payload := m.payload } r.video }
  | .audio => { r with ac := some m.fragCount, audio := insertPiece { index := m.fragIndex, payload := m.payload } r.audio }
  | .summary =>
    { r with vc := (parseSummary m.payload).map Summary.vc, ac := (parseSummary m.payload).map Summary.ac, summary := parseSummary m.payload }

/-- How a carrier meets a record of its stamp. -/
theorem admitPiece_eq (m : Media) (r : Collect) :
    (HeldIn m r → admitPiece r.view m = .duplicate) ∧
      (¬HeldIn m r → m.kind = .summary ∧ parseSummary m.payload = none → admitPiece r.view m = .badSummary) ∧
      (¬HeldIn m r → ¬(m.kind = .summary ∧ parseSummary m.payload = none) → ¬AgreesWith m r → admitPiece r.view m = .disagree) ∧
      (¬HeldIn m r → ¬(m.kind = .summary ∧ parseSummary m.payload = none) → AgreesWith m r →
        ∃ vc ac y, admitPiece r.view m = .store vc ac y ∧ r.record m vc ac y = storedIn m r) := by
  unfold HeldIn AgreesWith storedIn
  cases hk : m.kind with
  | video =>
    obtain ⟨hdup, hdis, hstore⟩ := admitPiece_video hk r.view
    dsimp only
    refine ⟨hdup, fun _ h => absurd h.1 (by decide), fun hheld _ ha => hdis hheld ha, fun hheld _ ha => ⟨_, _, _, hstore hheld ha, ?_⟩⟩
    unfold Collect.record
    rw [hk]
    rfl
  | audio =>
    obtain ⟨hdup, hdis, hstore⟩ := admitPiece_audio hk r.view
    dsimp only
    refine ⟨hdup, fun _ h => absurd h.1 (by decide), fun hheld _ ha => hdis hheld ha, fun hheld _ ha => ⟨_, _, _, hstore hheld ha, ?_⟩⟩
    unfold Collect.record
    rw [hk]
    rfl
  | summary =>
    dsimp only
    have hsummary : r.view.summary = r.summary.isSome := rfl
    have hnone : ∀ h : ¬r.summary ≠ none, r.view.summary = false := fun h => by rw [hsummary, not_not.1 h]; rfl
    refine ⟨fun hheld => admitPiece_summary_held hk (hsummary.trans (Option.isSome_iff_ne_none.2 hheld)),
      fun hheld hbad => admitPiece_summary_bad hk (hnone hheld) hbad.2, fun hheld hbad ha => ?_, fun hheld hbad ha => ?_⟩
    all_goals
      obtain ⟨y, hy⟩ := Option.ne_none_iff_exists'.1 fun e => hbad ⟨rfl, e⟩
      obtain ⟨hdis, hstore⟩ := admitPiece_summary hk (hnone hheld) hy
    · refine hdis fun hc => ha fun x hx => ?_
      rw [← Option.some.inj (hy.symm.trans hx)]
      exact hc
    · refine ⟨_, _, _, hstore (ha y hy), ?_⟩
      unfold Collect.record
      rw [hk, hy]
      rfl

theorem storedIn_stamp (m : Media) (r : Collect) : (storedIn m r).stamp = r.stamp := by
  unfold storedIn
  cases m.kind <;> rfl

theorem placePiece_held (hslot : (s.ch c).slots.at path m.stamp = .filling r) (hr : r.stamp = m.stamp) (h : HeldIn m r) (p : Port) :
    s.placePiece c path p m = s.bump (.port p .duplicates) := by
  rw [placePiece_filling hslot hr, joinFilling_duplicate ((admitPiece_eq m r).1 h)]

theorem placePiece_spoils (hslot : (s.ch c).slots.at path m.stamp = .filling r) (hr : r.stamp = m.stamp) (h : ¬HeldIn m r)
    (hbad : m.kind = .summary ∧ parseSummary m.payload = none ∨ ¬AgreesWith m r) (p : Port) :
    s.placePiece c path p m = s.corrupted c path m.stamp (decide (m.kind = .summary ∧ parseSummary m.payload = none)) := by
  obtain ⟨-, hbadSummary, hdisagree, -⟩ := admitPiece_eq m r
  rw [placePiece_filling hslot hr, ← hr]
  by_cases hb : m.kind = .summary ∧ parseSummary m.payload = none
  · rw [joinFilling_bad (hbadSummary h hb), decide_eq_true hb]
  · rw [joinFilling_disagree (hdisagree h hb (hbad.resolve_left hb)), decide_eq_false hb]

theorem placePiece_stores (hslot : (s.ch c).slots.at path m.stamp = .filling r) (hr : r.stamp = m.stamp) (h : ¬HeldIn m r)
    (hbad : ¬(m.kind = .summary ∧ parseSummary m.payload = none)) (ha : AgreesWith m r) (p : Port) :
    (¬((storedIn m r).summary ≠ none ∧ (storedIn m r).Whole) → s.placePiece c path p m = s.modSlots c fun z => z.put path m.stamp (.filling (storedIn m r))) ∧
      ∀ x, (storedIn m r).summary = some x → (storedIn m r).Whole → s.placePiece c path p m = s.completeSlot c path (storedIn m r) x := by
  obtain ⟨vc, ac, y, hstore, hrecord⟩ := (admitPiece_eq m r).2.2.2 h hbad ha
  rw [placePiece_filling hslot hr]
  exact joinFilling_first hstore hrecord hr s c path p

/-! ## The held frame given up (R43) -/

/-- R43: what the eviction of a held frame leaves. -/
theorem evictHeld_leaves (s : State) (c : Chan) :
    let main := (s.ch c).control.state = .standby ∨ (s.ch c).control.state = .returnGuard ∨ (s.ch c).control.state = .returning
    let x := (s.ch c).align
    let t := s.evictHeld c
    (t.ch c).align =
        (if main then { x with mainHeld := none, freeUnits := x.freeUnits + (if x.mainHeld.isSome then 1 else 0) }
         else { x with standbyHeld := none, freeUnits := x.freeUnits + (if x.standbyHeld.isSome then 1 else 0) }) ∧
      { t.ch c with align := x } = s.ch c ∧ (∀ c', c' ≠ c → t.ch c' = s.ch c') ∧
      t.counter (.chan c .heldEvictions) = min (s.counter (.chan c .heldEvictions) + 1) 4294967295 ∧
      ∀ i : Fin 8, t.slates[i.val] =
        (match s.slates[i.val].request with
          | some r =>
            if r.chan = c ∧ r.path = (if main then .main else .standby) ∧ r.copying.isSome then
              { state := .empty, request := some { r with copying := none } }
            else s.slates[i.val]
          | none => s.slates[i.val]) := by
  intro main x t
  have hpath : offAirPath (s.ch c).control.state = if main then .main else .standby := by
    show offAirPath (s.ch c).control.state = if (s.ch c).control.state = .standby ∨ (s.ch c).control.state = .returnGuard ∨ (s.ch c).control.state = .returning
      then .main else .standby
    cases (s.ch c).control.state <;> rfl
  have hch : t.ch c = { s.ch c with align := x.evicted (if main then .main else .standby) } := by
    rw [← hpath]
    exact (State.evictHeld_ch s c c).trans (if_pos rfl)
  refine ⟨?_, ?_, fun c' hc => (State.evictHeld_ch s c c').trans (if_neg hc), evictHeld_counter s c, fun i => ?_⟩
  · rw [hch]
    by_cases hm : main
    · rw [if_pos hm, if_pos hm]
      rfl
    · rw [if_neg hm, if_neg hm]
      rfl
  · rw [hch]
  · have hslates : t.slates = ((s.stopCopies c (if main then .main else .standby)).slates) := by
      rw [← hpath]
      rfl
    simp only [hslates]
    unfold State.stopCopies
    rw [State.mapSlates_get]
    cases s.slates[i.val].request <;> rfl

/-! ## The carriers of a contribution port -/

theorem mainCarriers_judged (hs : Running s) (side : Side) (hc : m.channel = c.val) :
    let p := Port.contribution side
    let t := s.signed m.stamp ((s.time.h : Int) - s.delay c)
    (¬InRange s m 16 → exec (.mainMediaCarrier side m) s = .next ((s.bump (.port p .carriersIn)).bump (.port p .badField))) ∧
    (InRange s m 16 →
      (s.inService c = false → exec (.mainMediaCarrier side m) s = .next ((s.arrived p).bump (.port p .outOfService))) ∧
      (s.inService c = true →
        (16 < t → exec (.mainMediaCarrier side m) s = .next ((s.arrived p).bump (.port p .early))) ∧
        (t ≤ 0 → (∀ k, (s.ch c).slots.tracker = some k → k.stamp ≠ m.stamp) →
          exec (.mainMediaCarrier side m) s = .next ((s.arrived p).bump (.port p .late))))) := by
  obtain ⟨hsettled, hl⟩ := hs
  intro p t
  rw [exec_mainMediaCarrier hsettled]
  refine ⟨fun hr => by rw [receiveMainMedia_outOfRange hl hr], fun hr => ?_⟩
  rw [receiveMainMedia_inRange hl hr hc]
  refine ⟨fun hin => by rw [hin]; rfl, fun hin => ⟨fun hearly => ?_, fun hlate hother => ?_⟩⟩
  · rw [if_pos hin, classifyMain_early (by rw [arrived_stampAge]; exact hearly)]
  · rw [if_pos hin, classifyMain_late (by rw [arrived_stampAge]; exact hlate), offerTracker_other]
    intro k hk
    have hch : ((s.arrived p).bump (.port p .late)).ch c = s.ch c := arrived_ch s p c
    rw [hch] at hk
    exact hother k hk

/-- Settles O24. -/
theorem mainCarriersAndSlots : Obligations.MainCarriersAndSlots := by
  refine ⟨fun s side m c hs hc => mainCarriers_judged hs side hc, fun s c path p m i h => ?_, evictHeld_leaves⟩
  intro t slot put piece bad corrupted opened judged
  have hexec := exec_placed h
  have hindex := h.summaryIndex
  have hch : t.ch c = s.ch c := arrived_ch s p c
  have htime : t.time = s.time := arrived_time s p
  have hslot : (t.ch c).slots.at path m.stamp = slot := by rw [hch]
  have hopened : opened = openedSlot m := rfl
  have hcorrupted : ∀ u, corrupted u = u.countCorrupt c path (decide bad) := fun u => by
    by_cases hb : bad
    · rw [decide_eq_true hb]
      cases path with
      | main => exact congrArg (fun v : State => v.bump (.chan c .corruptFrames)) (if_pos hb)
      | standby => rfl
    · rw [decide_eq_false hb]
      cases path with
      | main => exact congrArg (fun v : State => v.bump (.chan c .corruptFrames)) (if_neg hb)
      | standby => rfl
  have hjudged : ∀ u, judged u = if bad then u.countCorrupt c path true else u := fun u => by
    by_cases hb : bad
    · exact (if_pos hb).trans (((hcorrupted u).trans (by rw [decide_eq_true hb])).trans (if_pos hb).symm)
    · exact (if_neg hb).trans (if_neg hb).symm
  refine ⟨fun hfree => ?_, fun q hq hne => ?_, fun r hfill hr => ?_, fun hcorrupt => ?_, fun f x hcomplete hf => ?_⟩
  · rw [hexec, placePiece_opens (hslot.trans hfree), hch, hjudged, hopened]
  · rw [hexec, placePiece_reopens (by rw [hslot]; exact hq) hne, hjudged, hopened]
  · intro held agrees q whole
    have hfilling := hslot.trans hfill
    refine ⟨fun hheld => ?_, fun hheld hspoil => ?_, fun hheld hgood hagrees => ⟨fun hpart => ?_, fun x hx hwhole => ?_⟩⟩
    · rw [hexec, placePiece_held hfilling hr hheld]
    · rw [hexec, placePiece_spoils hfilling hr hheld hspoil, hcorrupted]
      rfl
    · exact hexec.trans (congrArg Host.Outcome.next ((placePiece_stores hfilling hr hheld hgood hagrees p).1 hpart))
    · intro frame
      rw [hexec, (placePiece_stores hfilling hr hheld hgood hagrees p).2 x hx hwhole]
      have hstamp : (storedIn m r).stamp = m.stamp := (storedIn_stamp m r).trans hr
      have hframe : ∀ signature, (storedIn m r).frame x signature =
          { stamp := m.stamp, summary := x, video := q.video.map Piece.payload, audio := q.audio.map Piece.payload, signature := signature } := fun signature => by
        unfold Collect.frame
        rw [hstamp]
        rfl
      cases path with
      | main =>
        rw [completeSlot_main, hstamp, hframe, htime]
        unfold State.signed State.cycle
        rw [htime]
        rfl
      | standby =>
        rw [completeSlot_standby, hstamp, hframe, htime]
  · rw [hexec, placePiece_corrupt (hslot.trans hcorrupt)]
  · intro pieces
    exact hexec.trans (congrArg Host.Outcome.next ((placePiece_complete (hslot.trans hcomplete) hf p).trans (joinComplete_eq _ _ _ _ _ hindex)))

end Sys2Proof.Machine

/-! PROOFS. Media carriers on a standby port, and late carriers at the late tracker (R29 to R35, R37, R38, R52). -/

namespace Sys2Proof.Machine

-- Each elaboration thread takes a large stack, and the text is compiled as one file under a memory limit: one thread at a time.
set_option Elab.async false

variable {s t u : State} {c : Chan} {path : SourcePath} {p : Port} {m : Media} {r : Collect} {i : Instr} {n : Fin 4} {k : Tracker}

/-! ## Carriers of one kind -/

theorem heldIn_video (hk : m.kind = .video) : HeldIn m r ↔ m.fragIndex ∈ r.video.map Piece.index := by
  unfold HeldIn
  rw [hk]

theorem heldIn_summary (hk : m.kind = .summary) : HeldIn m r ↔ r.summary ≠ none := by
  unfold HeldIn
  rw [hk]

theorem agreesWith_video (hk : m.kind = .video) : AgreesWith m r ↔ r.vc = none ∨ r.vc = some m.fragCount := by
  unfold AgreesWith
  rw [hk]

theorem agreesWith_summary (hk : m.kind = .summary) {x : Summary} (hp : parseSummary m.payload = some x) :
    AgreesWith m r ↔ (r.vc = none ∨ r.vc = some x.vc) ∧ (r.ac = none ∨ r.ac = some x.ac) := by
  unfold AgreesWith
  rw [hk, hp]
  exact ⟨fun h => h x rfl, fun h y hy => Option.some.inj hy ▸ h⟩

theorem storedIn_video (hk : m.kind = .video) :
    storedIn m r = { r with vc := some m.fragCount, video := insertPiece { index := m.fragIndex, payload := m.payload } r.video } := by
  unfold storedIn
  rw [hk]

theorem storedIn_summary (hk : m.kind = .summary) {x : Summary} (hp : parseSummary m.payload = some x) :
    storedIn m r = { r with vc := some x.vc, ac := some x.ac, summary := some x } := by
  unfold storedIn
  rw [hk, hp]
  rfl

theorem openedSlot_video (hk : m.kind = .video) : openedSlot m =
    .filling { stamp := m.stamp, vc := some m.fragCount, ac := none, video := [{ index := m.fragIndex, payload := m.payload }], audio := [], summary := none } := by
  unfold openedSlot
  rw [hk]

/-! ## The standby ports -/

theorem exec_standby_inRange (hs : Running s) (h : InRange s m 32) (n : Fin 4) :
    exec (.standbyMediaCarrier n m) s =
      .next ((s.assignStream n m.channel).elim (fun k => (s.bump (.port (.standby n) .carriersIn)).bump (.port (.standby n) k))
        fun c => (s.bump (.port (.standby n) .carriersIn)).classifyStandby c (.standby n) m) := by
  rw [exec_standbyMediaCarrier hs.1, receiveStandbyMedia_inRange hs.2 h]

theorem exec_standby_named (hs : Running s) (h : InRange s m 32) (hmapped : s.settings.servers[(m.channel / 4) % 8].mapped = true)
    (hport : s.settings.servers[(m.channel / 4) % 8].port = n) (hc : s.NamedBy m.channel c) (hone : ∀ c', s.NamedBy m.channel c' → c' = c) :
    exec (.standbyMediaCarrier n m) s = .next ((s.bump (.port (.standby n) .carriersIn)).classifyStandby c (.standby n) m) := by
  rw [exec_standby_inRange hs h, assignStream_mapped hmapped hport, assigned_one fun c' => ⟨hone c', fun e => e ▸ hc⟩]
  rfl

theorem exec_standby_placed (hs : Running s) (h : InRange s m 32) (hmapped : s.settings.servers[(m.channel / 4) % 8].mapped = true)
    (hport : s.settings.servers[(m.channel / 4) % 8].port = n) (hc : s.NamedBy m.channel c) (hone : ∀ c', s.NamedBy m.channel c' → c' = c)
    (hw : 1 ≤ s.signed m.stamp s.time.h ∧ s.signed m.stamp s.time.h ≤ 4) :
    exec (.standbyMediaCarrier n m) s = .next ((s.bump (.port (.standby n) .carriersIn)).placePiece c .standby (.standby n) m) :=
  (exec_standby_named hs h hmapped hport hc hone).trans
    (congrArg Host.Outcome.next (classifyStandby_placed (s := s.bump (.port (.standby n) .carriersIn)) hw.1 hw.2 _))

/-! ## The late tracker (R35) -/

theorem exec_late (hs : Running s) (side : Side) (hc : m.channel = c.val) (hr : InRange s m 16) (hin : s.inService c = true)
    (hlate : s.signed m.stamp ((s.time.h : Int) - s.delay c) ≤ 0) :
    exec (.mainMediaCarrier side m) s =
      .next (((s.arrived (.contribution side)).bump (.port (.contribution side) .late)).offerTracker c (.contribution side) m) := by
  rw [exec_mainMediaCarrier hs.1, receiveMainMedia_inRange hs.2 hr hc, if_pos hin, classifyMain_late (by rw [arrived_stampAge]; exact hlate)]

theorem offerTracker_duplicate (hk : (s.ch c).slots.tracker = some k) (hstamp : k.stamp = m.stamp) (h : admitPiece k m = .duplicate) (p : Port) :
    s.offerTracker c p m = s.bump (.port p .duplicates) := by
  unfold State.offerTracker
  rw [hk]
  dsimp only
  rw [if_neg (not_not_intro hstamp), h]

/-- R35: a count that disagrees and a bad SUMMARY end the record. -/
theorem offerTracker_abandons (hk : (s.ch c).slots.tracker = some k) (hstamp : k.stamp = m.stamp)
    (h : admitPiece k m = .disagree ∨ admitPiece k m = .badSummary) (p : Port) :
    s.offerTracker c p m = (s.modSlots c fun y => { y with tracker := none }).bump (.chan c .lateAbandoned) := by
  unfold State.offerTracker
  rw [hk]
  dsimp only
  rw [if_neg (not_not_intro hstamp)]
  rcases h with h | h <;> rw [h] <;> rfl

/-- R35: the last first copy ends the record with a lateness sample, and any other is recorded. -/
theorem offerTracker_stores (hk : (s.ch c).slots.tracker = some k) (hstamp : k.stamp = m.stamp) {vc ac : Option Nat} {x : Option Summary}
    (h : admitPiece k m = .store vc ac x) {k' : Tracker} (hrecord : k.record m vc ac = k') (p : Port) :
    (k'.complete = true → s.offerTracker c p m =
      ((s.modSlots c fun y => { y with tracker := none }).takeSample c (s.signed s.time.h m.stamp)).bump (.chan c .lateCompletions)) ∧
    (¬k'.complete = true → s.offerTracker c p m = s.modSlots c fun y => { y with tracker := some k' }) := by
  unfold State.offerTracker
  rw [hk]
  dsimp only
  rw [if_neg (not_not_intro hstamp), h]
  dsimp only
  rw [hrecord, hstamp]
  exact ⟨fun hc => if_pos hc, fun hc => if_neg hc⟩

theorem every_insertNat {j v : Nat} {l : List Nat} : (∀ i, i < v → i ∈ insertNat j l) ↔ ∀ i, i < v → i ∈ j :: l := by
  simp only [mem_insertNat, List.mem_cons]

end Sys2Proof.Machine

/-! PROOFS. The case of a standby media carrier, its slot, and a late carrier at the late tracker (R29 to R35, R37, R38, R52). -/

namespace Sys2Proof.Machine

-- Each elaboration thread takes a large stack, and the text is compiled as one file under a memory limit: one thread at a time.
set_option Elab.async false

variable {s t u : State} {c : Chan} {path : SourcePath} {p : Port} {m : Media} {r : Collect} {n : Fin 4} {k : Tracker} {side : Side}

theorem assignStream_unassigned {stream : Nat} (h : s.settings.servers[(stream / 4) % 8].mapped = true) (hn : s.settings.servers[(stream / 4) % 8].port = n)
    (hnone : ∀ c, ¬s.NamedBy stream c) : s.assignStream n stream = .inl .standbyUnassigned := by
  rw [assignStream_mapped h hn, assigned_none hnone]

theorem assignStream_ambiguous {stream : Nat} (h : s.settings.servers[(stream / 4) % 8].mapped = true) (hn : s.settings.servers[(stream / 4) % 8].port = n)
    {c' : Chan} (hne : c ≠ c') (hc : s.NamedBy stream c) (hc' : s.NamedBy stream c') : s.assignStream n stream = .inl .standbyAmbiguous := by
  obtain ⟨a, b, l, hl⟩ := assigned_two hne hc hc'
  rw [assignStream_mapped h hn, hl]

theorem exec_standby_discarded (hs : Running s) (h : InRange s m 32) {key : PortCtr} (ha : s.assignStream n m.channel = .inl key) :
    exec (.standbyMediaCarrier n m) s = .next ((s.bump (.port (.standby n) .carriersIn)).bump (.port (.standby n) key)) := by
  rw [exec_standby_inRange hs h, ha]
  rfl

/-- What a standby media carrier does to a FILLING slot of its stamp, by its kind. -/
theorem standbyFilling_video (hslot : (t.ch c).slots.at .standby m.stamp = .filling r) (hr : r.stamp = m.stamp) (hk : m.kind = .video) (p : Port) :
    (m.fragIndex ∈ r.video.map Piece.index → t.placePiece c .standby p m = t.bump (.port p .duplicates)) ∧
    (m.fragIndex ∉ r.video.map Piece.index → ∀ v, r.vc = some v → v ≠ m.fragCount →
      t.placePiece c .standby p m = (t.modSlots c fun y => y.put .standby m.stamp (.corrupt m.stamp)).bump (.chan c .standbyCorruptFrames)) ∧
    (m.fragIndex ∉ r.video.map Piece.index → (r.vc = none ∨ r.vc = some m.fragCount) → r.summary = none →
      t.placePiece c .standby p m = t.modSlots c fun y => y.put .standby m.stamp
        (.filling { r with vc := some m.fragCount, video := insertPiece { index := m.fragIndex, payload := m.payload } r.video })) := by
  rw [← heldIn_video hk]
  refine ⟨fun h => placePiece_held hslot hr h p, fun h v hv hne => ?_, fun h ha hsummary => ?_⟩
  · refine placePiece_spoils hslot hr h (.inr fun ha => ?_) p
    rw [agreesWith_video hk, hv] at ha
    exact ha.elim nofun fun e => hne (Option.some.inj e)
  · have hgood : ¬(m.kind = .summary ∧ parseSummary m.payload = none) := fun hc => by
      rw [hk] at hc
      cases hc.1
    have hstored := placePiece_stores hslot hr h hgood ((agreesWith_video hk).2 ha) p
    rw [storedIn_video hk] at hstored
    exact hstored.1 fun hc => hc.1 hsummary

theorem standbyFilling_summary (hslot : (t.ch c).slots.at .standby m.stamp = .filling r) (hr : r.stamp = m.stamp) (hk : m.kind = .summary)
    (hnone : r.summary = none) (p : Port) :
    (parseSummary m.payload = none →
      t.placePiece c .standby p m = (t.modSlots c fun y => y.put .standby m.stamp (.corrupt m.stamp)).bump (.chan c .standbyCorruptFrames)) ∧
    ∀ x, parseSummary m.payload = some x → (r.vc = none ∨ r.vc = some x.vc) → (r.ac = none ∨ r.ac = some x.ac) →
      (∀ i, i < x.vc → i ∈ r.video.map Piece.index) → (∀ i, i < x.ac → i ∈ r.audio.map Piece.index) →
      t.placePiece c .standby p m = t.modSlots c fun y => y.put .standby m.stamp
        (.complete { stamp := m.stamp, summary := x, video := r.video.map Piece.payload, audio := r.audio.map Piece.payload, signature := none } t.time.h) := by
  have hheld : ¬HeldIn m r := fun h => (heldIn_summary hk).1 h hnone
  refine ⟨fun hp => placePiece_spoils hslot hr hheld (.inl ⟨hk, hp⟩) p, fun x hp hvc hac hvideo haudio => ?_⟩
  have hgood : ¬(m.kind = .summary ∧ parseSummary m.payload = none) := fun hc => by
    rw [hp] at hc
    cases hc.2
  have hstored := placePiece_stores hslot hr hheld hgood ((agreesWith_summary hk hp).2 ⟨hvc, hac⟩) p
  rw [storedIn_summary hk hp] at hstored
  rw [hstored.2 x rfl ⟨x.vc, x.ac, rfl, rfl, hvideo, haudio⟩, completeSlot_standby, ← hr]
  rfl

/-! ## A late carrier at the late tracker (R35) -/

/-- What a late carrier leaves once the record of its stamp has ended with it. -/
def State.lateCompleted (s : State) (c : Chan) (stamp : Nat) : State :=
  ((s.modSlots c fun y => { y with tracker := none }).takeSample c (s.signed s.time.h stamp)).bump (.chan c .lateCompletions)

/-- What a late carrier leaves once the record of its stamp is given up. -/
def State.lateAbandoned (s : State) (c : Chan) : State := (s.modSlots c fun y => { y with tracker := none }).bump (.chan c .lateAbandoned)

theorem tracker_complete_of {x : Tracker} {v a : Nat} (hv : x.vc = some v) (ha : x.ac = some a) :
    x.complete = true ↔ x.summary = true ∧ (∀ i, i < v → i ∈ x.video) ∧ ∀ i, i < a → i ∈ x.audio := by
  rw [tracker_complete_iff, hv, ha]
  constructor
  · rintro ⟨hs, v', a', hv', ha', hvideo, haudio⟩
    rw [Option.some.inj hv', Option.some.inj ha']
    exact ⟨hs, hvideo, haudio⟩
  · exact fun ⟨hs, hvideo, haudio⟩ => ⟨hs, v, a, rfl, rfl, hvideo, haudio⟩

theorem lateVideo (ht : (t.ch c).slots.tracker = some k) (hstamp : k.stamp = m.stamp) (hk : m.kind = .video) (p : Port) :
    (m.fragIndex ∈ k.video → t.offerTracker c p m = t.bump (.port p .duplicates)) ∧
    (m.fragIndex ∉ k.video → ∀ v, k.vc = some v → v ≠ m.fragCount → t.offerTracker c p m = t.lateAbandoned c) ∧
    (m.fragIndex ∉ k.video → (k.vc = none ∨ k.vc = some m.fragCount) →
      let last := k.summary = true ∧ (∀ i, i < m.fragCount → i ∈ m.fragIndex :: k.video) ∧ ∃ a, k.ac = some a ∧ ∀ i, i < a → i ∈ k.audio
      (last → t.offerTracker c p m = t.lateCompleted c m.stamp) ∧
      (¬last → t.offerTracker c p m = t.modSlots c fun y =>
        { y with tracker := some { k with vc := some m.fragCount, video := insertNat m.fragIndex k.video } })) := by
  obtain ⟨hdup, hdis, hstore⟩ := admitPiece_video hk k
  refine ⟨fun h => offerTracker_duplicate ht hstamp (hdup h) p, fun h v hv hne => offerTracker_abandons ht hstamp (.inl (hdis h ?_)) p, fun h ha => ?_⟩
  · rintro (e | e) <;> rw [hv] at e
    · cases e
    · exact hne (Option.some.inj e)
  · have hrecord : k.record m (some m.fragCount) k.ac = { k with vc := some m.fragCount, video := insertNat m.fragIndex k.video } := by
      unfold Tracker.record
      rw [hk]
    obtain ⟨hwhole, hpart⟩ := offerTracker_stores ht hstamp (hstore h ha) hrecord p
    have hlast : ({ k with vc := some m.fragCount, video := insertNat m.fragIndex k.video } : Tracker).complete = true ↔
        k.summary = true ∧ (∀ i, i < m.fragCount → i ∈ m.fragIndex :: k.video) ∧ ∃ a, k.ac = some a ∧ ∀ i, i < a → i ∈ k.audio := by
      rw [tracker_complete_iff, ← every_insertNat]
      constructor
      · rintro ⟨hs, v, a, hv, hac, hvideo, haudio⟩
        rw [← Option.some.inj hv] at hvideo
        exact ⟨hs, hvideo, a, hac, haudio⟩
      · exact fun ⟨hs, hvideo, a, hac, haudio⟩ => ⟨hs, _, a, rfl, hac, hvideo, haudio⟩
    exact ⟨fun hl => hwhole (hlast.2 hl), fun hl => hpart fun hc => hl (hlast.1 hc)⟩

theorem lateAudio (ht : (t.ch c).slots.tracker = some k) (hstamp : k.stamp = m.stamp) (hk : m.kind = .audio) (p : Port) :
    (m.fragIndex ∈ k.audio → t.offerTracker c p m = t.bump (.port p .duplicates)) ∧
    (m.fragIndex ∉ k.audio → ∀ a, k.ac = some a → a ≠ m.fragCount → t.offerTracker c p m = t.lateAbandoned c) ∧
    (m.fragIndex ∉ k.audio → (k.ac = none ∨ k.ac = some m.fragCount) →
      let last := k.summary = true ∧ (∀ i, i < m.fragCount → i ∈ m.fragIndex :: k.audio) ∧ ∃ v, k.vc = some v ∧ ∀ i, i < v → i ∈ k.video
      (last → t.offerTracker c p m = t.lateCompleted c m.stamp) ∧
      (¬last → t.offerTracker c p m = t.modSlots c fun y =>
        { y with tracker := some { k with ac := some m.fragCount, audio := insertNat m.fragIndex k.audio } })) := by
  obtain ⟨hdup, hdis, hstore⟩ := admitPiece_audio hk k
  refine ⟨fun h => offerTracker_duplicate ht hstamp (hdup h) p, fun h v hv hne => offerTracker_abandons ht hstamp (.inl (hdis h ?_)) p, fun h ha => ?_⟩
  · rintro (e | e) <;> rw [hv] at e
    · cases e
    · exact hne (Option.some.inj e)
  · have hrecord : k.record m k.vc (some m.fragCount) = { k with ac := some m.fragCount, audio := insertNat m.fragIndex k.audio } := by
      unfold Tracker.record
      rw [hk]
    obtain ⟨hwhole, hpart⟩ := offerTracker_stores ht hstamp (hstore h ha) hrecord p
    have hlast : ({ k with ac := some m.fragCount, audio := insertNat m.fragIndex k.audio } : Tracker).complete = true ↔
        k.summary = true ∧ (∀ i, i < m.fragCount → i ∈ m.fragIndex :: k.audio) ∧ ∃ v, k.vc = some v ∧ ∀ i, i < v → i ∈ k.video := by
      rw [tracker_complete_iff, ← every_insertNat]
      constructor
      · rintro ⟨hs, v, a, hvc, ha, hvideo, haudio⟩
        rw [← Option.some.inj ha] at haudio
        exact ⟨hs, haudio, v, hvc, hvideo⟩
      · exact fun ⟨hs, haudio, v, hvc, hvideo⟩ => ⟨hs, v, _, hvc, rfl, hvideo, haudio⟩
    exact ⟨fun hl => hwhole (hlast.2 hl), fun hl => hpart fun hc => hl (hlast.1 hc)⟩

theorem lateSummary (ht : (t.ch c).slots.tracker = some k) (hstamp : k.stamp = m.stamp) (hk : m.kind = .summary) (p : Port) :
    (k.summary = true → t.offerTracker c p m = t.bump (.port p .duplicates)) ∧
    (k.summary = false →
      (parseSummary m.payload = none → t.offerTracker c p m = t.lateAbandoned c) ∧
      ∀ x, parseSummary m.payload = some x →
        let agrees := (k.vc = none ∨ k.vc = some x.vc) ∧ (k.ac = none ∨ k.ac = some x.ac)
        let last := (∀ i, i < x.vc → i ∈ k.video) ∧ ∀ i, i < x.ac → i ∈ k.audio
        (¬agrees → t.offerTracker c p m = t.lateAbandoned c) ∧
        (agrees → last → t.offerTracker c p m = t.lateCompleted c m.stamp) ∧
        (agrees → ¬last → t.offerTracker c p m = t.modSlots c fun y => { y with tracker := some { k with vc := some x.vc, ac := some x.ac, summary := true } })) := by
  refine ⟨fun h => offerTracker_duplicate ht hstamp (admitPiece_summary_held hk h) p,
    fun h => ⟨fun hp => offerTracker_abandons ht hstamp (.inr (admitPiece_summary_bad hk h hp)) p, fun x hp => ?_⟩⟩
  obtain ⟨hdis, hstore⟩ := admitPiece_summary hk h hp
  have hrecord : k.record m (some x.vc) (some x.ac) = { k with vc := some x.vc, ac := some x.ac, summary := true } := by
    unfold Tracker.record
    rw [hk]
  have hlast : ({ k with vc := some x.vc, ac := some x.ac, summary := true } : Tracker).complete = true ↔
      (∀ i, i < x.vc → i ∈ k.video) ∧ ∀ i, i < x.ac → i ∈ k.audio := (tracker_complete_of rfl rfl).trans ⟨fun hc => hc.2, fun hc => ⟨rfl, hc⟩⟩
  refine ⟨fun hne => offerTracker_abandons ht hstamp (.inl (hdis hne)) p, fun ha hl => ?_, fun ha hl => ?_⟩
  · exact (offerTracker_stores ht hstamp (hstore ha) hrecord p).1 (hlast.2 hl)
  · exact (offerTracker_stores ht hstamp (hstore ha) hrecord p).2 fun hc => hl (hlast.1 hc)

/-- Settles O25. -/
theorem standbyCarriersAreAssigned : Obligations.StandbyCarriersAreAssigned := by
  refine ⟨fun s n m hs hr => ?_, fun s side m c k hs hc hr hin hlate hk hstamp => ?_⟩
  · intro p t entry named
    refine ⟨fun h => exec_standby_discarded hs hr (assignStream_unmapped h n), fun h hn => exec_standby_discarded hs hr (assignStream_wrongPort h hn),
      fun h hn => ⟨fun hnone => exec_standby_discarded hs hr (assignStream_unassigned h hn hnone),
        fun c c' hne hc hc' => exec_standby_discarded hs hr (assignStream_ambiguous h hn hne hc hc'), fun c hc hone => ?_⟩⟩
    intro slot put piece inWindow
    have hnamed := exec_standby_named hs hr h hn hc hone
    have hplaced := fun hw => exec_standby_placed hs hr h hn hc hone hw
    have hslot : (t.ch c).slots.at .standby m.stamp = slot := rfl
    refine ⟨fun hlate => hnamed.trans (congrArg Host.Outcome.next (classifyStandby_late (s := t) hlate _)),
      fun hearly => hnamed.trans (congrArg Host.Outcome.next (classifyStandby_early (s := t) hearly _)), fun hw hfree hunits hk => ?_,
      fun r hw hfill hstamp => ⟨fun hk => ?_, fun hk hsummary => ?_⟩, fun f x hw hcomplete hstamp hk => ?_, fun hw hcorrupt => ?_⟩
    · rw [hplaced hw]
      refine congrArg Host.Outcome.next ?_
      have hfreeUnits : ¬(t.ch c).align.freeUnits = 0 := Nat.pos_iff_ne_zero.1 hunits
      have hgood : ¬(m.kind = .summary ∧ parseSummary m.payload = none) := fun hc => by
        rw [hk] at hc
        cases hc.1
      rw [placePiece_opens (hslot.trans hfree), if_neg hgood, if_neg hfreeUnits, openedSlot_video hk]
    · obtain ⟨hdup, hdis, hstore⟩ := standbyFilling_video (t := t) (hslot.trans hfill) hstamp hk p
      rw [hplaced hw]
      exact ⟨fun h => congrArg Host.Outcome.next (hdup h), fun h v hv hne => congrArg Host.Outcome.next (hdis h v hv hne),
        fun h ha hn => congrArg Host.Outcome.next (hstore h ha hn)⟩
    · obtain ⟨hbad, hdone⟩ := standbyFilling_summary (t := t) (hslot.trans hfill) hstamp hk hsummary p
      rw [hplaced hw]
      exact ⟨fun h => congrArg Host.Outcome.next (hbad h), fun x hp hvc hac hvideo haudio => congrArg Host.Outcome.next (hdone x hp hvc hac hvideo haudio)⟩
    · rw [hplaced hw]
      refine congrArg Host.Outcome.next ?_
      have hzero : m.fragIndex = 0 := by
        obtain ⟨-, -, -, -, hkind⟩ := hr
        rw [hk] at hkind
        exact hkind.1
      rw [placePiece_complete (hslot.trans hcomplete) hstamp, joinComplete_eq _ _ _ _ _ fun _ => hzero]
      by_cases hp : parseSummary m.payload = none
      · rw [if_pos ⟨hk, hp⟩, if_pos hp]
      · rw [if_neg fun hc => hp hc.2, if_neg hp, hk, hzero]
        exact if_pos Nat.zero_lt_one
    · rw [hplaced hw]
      exact congrArg Host.Outcome.next (placePiece_corrupt (hslot.trans hcorrupt) _)
  · intro p t track abandoned completed every
    have hexec := exec_late hs side hc hr hin hlate
    have htime : t.time = s.time := arrived_time s p
    have htracker : (t.ch c).slots.tracker = some k := by
      have hch : t.ch c = s.ch c := arrived_ch s p c
      rw [hch, hk]
    have hcompleted : t.lateCompleted c m.stamp = completed := by
      unfold State.lateCompleted State.signed State.cycle
      rw [htime]
      rfl
    rw [hexec]
    refine ⟨fun hkind => ?_, fun hkind => ?_, fun hkind => ?_⟩
    · obtain ⟨hdup, hdis, hstore⟩ := lateVideo htracker hstamp hkind p
      rw [hcompleted] at hstore
      exact ⟨fun h => congrArg Host.Outcome.next (hdup h), fun h v hv hne => congrArg Host.Outcome.next (hdis h v hv hne),
        fun h ha => ⟨fun hl => congrArg Host.Outcome.next ((hstore h ha).1 hl), fun hl => congrArg Host.Outcome.next ((hstore h ha).2 hl)⟩⟩
    · obtain ⟨hdup, hdis, hstore⟩ := lateAudio htracker hstamp hkind p
      rw [hcompleted] at hstore
      exact ⟨fun h => congrArg Host.Outcome.next (hdup h), fun h v hv hne => congrArg Host.Outcome.next (hdis h v hv hne),
        fun h ha => ⟨fun hl => congrArg Host.Outcome.next ((hstore h ha).1 hl), fun hl => congrArg Host.Outcome.next ((hstore h ha).2 hl)⟩⟩
    · obtain ⟨hdup, hrest⟩ := lateSummary htracker hstamp hkind p
      rw [hcompleted] at hrest
      exact ⟨fun h => congrArg Host.Outcome.next (hdup h), fun h => ⟨fun hp => congrArg Host.Outcome.next ((hrest h).1 hp),
        fun x hp => ⟨fun hne => congrArg Host.Outcome.next (((hrest h).2 x hp).1 hne), fun ha hl => congrArg Host.Outcome.next (((hrest h).2 x hp).2.1 ha hl),
          fun ha hl => congrArg Host.Outcome.next (((hrest h).2 x hp).2.2 ha hl)⟩⟩⟩

end Sys2Proof.Machine

/-! PROOFS. Windows of stamps, and the slots of a buffer freed by their stamps (R27, R42, R44, R46, R52, R53). -/

namespace Sys2Proof.Machine

-- Each elaboration thread takes a large stack, and the text is compiled as one file under a memory limit: one thread at a time.
set_option Elab.async false

variable {s t u : State} {c : Chan} {n : Nat}

/-! ## Stamps about a due stamp (R3, R44) -/

theorem half_pos (s : State) : (0 : Int) < (s.cycle : Int) / 2 := by
  unfold State.cycle
  cases s.time.rate <;> decide

theorem signed_wrap_self (s : State) (x : Int) : s.signed (s.wrap x) x = 0 := by
  have hhalf := half_pos s
  have hC : (0 : Int) < s.cycle := by omega
  have hwrap : ((s.wrap x : Nat) : Int) = x % s.cycle := Int.toNat_of_nonneg (Int.emod_nonneg _ (by omega))
  have hmod : (x % (s.cycle : Int) - x) % (s.cycle : Int) = 0 := by simp
  unfold State.signed signedDifference
  dsimp only
  rw [hwrap, hmod, if_pos hhalf]

theorem signed_self (s : State) (x : Int) : s.signed x x = 0 := by
  unfold State.signed signedDifference
  dsimp only
  rw [Int.sub_self, Int.zero_emod, if_pos (half_pos s)]

/-- A stamp between a floor and a later stamp is behind that one. -/
theorem signed_between_neg {p q f : Int} (h0 : 0 < s.signed p f) (h1 : s.signed p f < s.signed q f) : s.signed p q < 0 := by
  have hhalf := half_pos s
  unfold State.signed signedDifference at *
  generalize (s.cycle : Int) = C at *
  have hC : 0 < C := by omega
  have ha := Int.emod_nonneg (p - f) (by omega : C ≠ 0)
  have hb := Int.emod_nonneg (q - f) (by omega : C ≠ 0)
  have ha' := Int.emod_lt_of_pos (p - f) hC
  have hb' := Int.emod_lt_of_pos (q - f) hC
  have hsub : (p - q) % C = ((p - f) % C - (q - f) % C) % C := by
    rw [← Int.sub_emod]
    congr 1
    omega
  dsimp only at h0 h1 ⊢
  rw [hsub]
  generalize (p - f) % C = a at *
  generalize (q - f) % C = b at *
  split at h0 <;> split at h1 <;> try omega
  have hmod : (a - b) % C = a - b + C := by
    rw [← Int.add_emod_right, Int.emod_eq_of_lt (by omega) (by omega)]
  rw [hmod]
  split <;> omega

/-- The due stamp of the main path is outside the window. -/
theorem dueStamp_outside (s : State) (c : Chan) : s.inMainWindow c (s.dueStamp c) = false := by
  unfold State.inMainWindow State.dueStamp
  rw [signed_wrap_self]
  rfl

/-- A stamp skipped by the main path is outside the window. -/
theorem skipped_outside {p : Nat} (h : s.between (s.dueStamp c) (s.ch c).align.mainFloor p = true) : s.inMainWindow c p = false := by
  unfold State.between at h
  rw [Bool.and_eq_true, decide_eq_true_iff, decide_eq_true_iff] at h
  have hneg := signed_between_neg h.1 h.2
  unfold State.dueStamp at hneg
  rw [State.signed_wrap] at hneg
  unfold State.inMainWindow
  dsimp only
  rw [Bool.and_eq_false_iff]
  exact .inl (decide_eq_false (by omega))

/-- H is outside the standby window, and so is a stamp that the standby path skips. -/
theorem h_outside (s : State) : s.inStandbyWindow s.time.h = false := by
  unfold State.inStandbyWindow
  rw [signed_self]
  rfl

theorem skippedStandby_outside {p floor : Nat} (h : s.between s.time.h floor p = true) : s.inStandbyWindow p = false := by
  unfold State.between at h
  rw [Bool.and_eq_true, decide_eq_true_iff, decide_eq_true_iff] at h
  have hneg := signed_between_neg h.1 h.2
  unfold State.inStandbyWindow
  dsimp only
  rw [Bool.and_eq_false_iff]
  exact .inl (decide_eq_false (by omega))

/-! ## The slots of a buffer freed by their stamps (R42) -/

/-- How many slots of a buffer hold a stamp that satisfies `pred`. -/
def holding (v : Vector Slot n) (pred : Nat → Bool) : Nat := v.toList.countP fun k => k.holds pred

/-- A buffer with its slots that hold such a stamp FREE. -/
def Freed (pred : Nat → Bool) (v w : Vector Slot n) : Prop := ∀ j : Fin n, w[j.val] = if v[j.val].holds pred then .free else v[j.val]

theorem holds_of_stamp {x : Slot} {p : Nat} (h : x.stamp = some p) (pred : Nat → Bool) : x.holds pred = pred p := by
  unfold Slot.holds
  rw [h]

theorem holds_of_none {x : Slot} (h : x.stamp = none) (pred : Nat → Bool) : x.holds pred = false := by
  unfold Slot.holds
  rw [h]

theorem stamp_none_iff {x : Slot} : x.stamp = none ↔ x = .free := by
  cases x <;> simp

theorem holds_and (x : Slot) (a b : Nat → Bool) : x.holds (fun p => a p && b p) = (x.holds a && x.holds b) := by
  unfold Slot.holds
  cases x.stamp <;> rfl

theorem toList_eq_map (v : Vector Slot n) : v.toList = (List.finRange n).map fun i => v[i.val] := by
  refine List.ext_getElem (by simp) fun i h h' => ?_
  simp

/-- A count over every slot number is a count over the buffer. -/
theorem countHolding_eq {l : List (Fin n)} (h : l = List.finRange n) (pred : Nat → Bool) (v : Vector Slot n) : countHolding l pred v = holding v pred := by
  unfold countHolding holding
  rw [toList_eq_map, List.countP_map, h, List.countP_eq_length_filter]
  rfl

theorem mainIndices_eq : mainIndices = List.finRange 16 := by decide
theorem standbyIndices_eq : standbyIndices = List.finRange 4 := by decide

theorem holding_congr {v w : Vector Slot n} {a b : Nat → Bool} (h : ∀ i : Fin n, v[i.val].holds a = w[i.val].holds b) : holding v a = holding w b := by
  unfold holding
  rw [toList_eq_map, toList_eq_map, List.countP_map, List.countP_map]
  exact List.countP_congr fun i _ => by rw [Function.comp_apply, Function.comp_apply, h i]

/-- What is left to hold a stamp once others have been freed. -/
theorem Freed.holding {v w : Vector Slot n} {q : Nat → Bool} (h : Freed q v w) (a : Nat → Bool) : holding w a = holding v fun p => a p && !q p := by
  refine holding_congr fun i => ?_
  rw [h i]
  cases hs : v[i.val].stamp with
  | none => rw [holds_of_none hs, if_neg (by simp), holds_of_none hs, holds_of_none hs]
  | some p =>
    rw [holds_of_stamp hs, holds_of_stamp hs]
    cases hq : q p with
    | true => simp [Slot.holds]
    | false => simp [holds_of_stamp hs]

theorem freeHolding_freed {l : List (Fin n)} (h : l = List.finRange n) (pred : Nat → Bool) (v : Vector Slot n) : Freed pred v (freeHolding l pred v) := fun j => by
  rw [freeHolding_get]
  have hj : j ∈ l := by
    rw [h]
    exact List.mem_finRange j
  simp [hj]

/-- Freeing by one predicate and then another frees by either. -/
theorem Freed.trans {v w z : Vector Slot n} {a b : Nat → Bool} (h : Freed a v w) (k : Freed b w z) : Freed (fun p => a p || b p) v z := fun j => by
  rw [k j, h j]
  cases hs : v[j.val].stamp with
  | none => simp [holds_of_none hs]
  | some p =>
    rw [holds_of_stamp hs, holds_of_stamp hs]
    cases ha : a p with
    | true => simp [Slot.holds]
    | false => simp [holds_of_stamp hs]

theorem Freed.congr {v w : Vector Slot n} {a b : Nat → Bool} (h : Freed a v w) (hab : ∀ p, a p = b p) : Freed b v w := by
  rw [← funext hab]
  exact h

theorem Freed.unique {v w z : Vector Slot n} {a : Nat → Bool} (h : Freed a v w) (k : Freed a v z) : w = z :=
  Vector.ext fun i hi => (h ⟨i, hi⟩).trans (k ⟨i, hi⟩).symm

end Sys2Proof.Machine

/-! PROOFS. The main path of a channel at a boundary (R27, R34, R41, R42, R44 to R46). -/

namespace Sys2Proof.Machine

-- Each elaboration thread takes a large stack, and the text is compiled as one file under a memory limit: one thread at a time.
set_option Elab.async false

variable {s t u : State} {c : Chan} {x : Channel} {q : Nat}

/-! ## Main slots freed by their stamps (R42) -/

/-- A channel with its main slots that hold such a stamp FREE, and their units free. -/
def Channel.freedMain (x : Channel) (pred : Nat → Bool) : Channel :=
  { x with
    slots := { x.slots with main := freeHolding mainIndices pred x.slots.main }
    align := { x.align with freeUnits := x.align.freeUnits + countHolding mainIndices pred x.slots.main } }

theorem freeMain_ch (s : State) (c : Chan) (pred : Nat → Bool) : (s.freeMain c pred).ch c = (s.ch c).freedMain pred := State.ch_modCh_same ..

theorem freedMain_main (x : Channel) (pred : Nat → Bool) : Freed pred x.slots.main (x.freedMain pred).slots.main := freeHolding_freed mainIndices_eq pred x.slots.main

theorem freedMain_units (h : UnitInv x) (pred : Nat → Bool) : UnitInv (x.freedMain pred) := h.freeMain pred

theorem freedMain_never {pred : Nat → Bool} (h : ∀ p, pred p = false) (x : Channel) : x.freedMain pred = x := by
  have hnone : ∀ y : Slot, y.holds pred = false := fun y => by
    unfold Slot.holds
    cases y.stamp with
    | none => rfl
    | some p => exact h p
  have hmain : freeHolding mainIndices pred x.slots.main = x.slots.main :=
    Freed.unique (freeHolding_freed mainIndices_eq pred _) fun j => by rw [hnone]; rfl
  have hcount : countHolding mainIndices pred x.slots.main = 0 := by
    unfold countHolding
    rw [List.filter_eq_nil_iff.2 fun i _ => by rw [hnone]; simp]
    rfl
  unfold Channel.freedMain
  rw [hmain, hcount]
  rfl

/-! ## The parts of a boundary -/

theorem skipMain_ch (s : State) (c : Chan) : (s.skipMain c).ch c = (s.ch c).freedMain (s.between (s.dueStamp c) (s.ch c).align.mainFloor) := by
  unfold State.skipMain
  split
  · rename_i hg
    refine (freedMain_never (fun p => ?_) _).symm
    unfold State.between
    rw [hg, Bool.and_eq_false_iff, decide_eq_false_iff_not, decide_eq_false_iff_not]
    omega
  · exact freeMain_ch ..

/-- What the late tracker takes of a stamp released missing (R34). -/
def trackerFor (slot : Slot) (q : Nat) : Option Tracker :=
  match slot with
  | .filling r =>
    if r.stamp = q then
      some { stamp := q, vc := r.vc, ac := r.ac, summary := r.summary.isSome, video := r.video.map Piece.index, audio := r.audio.map Piece.index }
    else some { stamp := q, vc := none, ac := none, summary := false, video := [], audio := [] }
  | .corrupt p => if p = q then none else some { stamp := q, vc := none, ac := none, summary := false, video := [], audio := [] }
  | _ => some { stamp := q, vc := none, ac := none, summary := false, video := [], audio := [] }

theorem trackMissing_eq (s : State) (c : Chan) (q : Nat) (slot : Slot) :
    s.trackMissing c q slot =
      match trackerFor slot q with
      | none => s
      | some k => (if (s.ch c).slots.tracker.isSome then s.bumpCh c .lateAbandoned else s).modSlots c fun y => { y with tracker := some k } := by
  unfold State.trackMissing trackerFor
  cases slot with
  | filling r =>
    by_cases h : r.stamp = q
    · simp only [if_pos h]
    · simp only [if_neg h]
  | corrupt p =>
    by_cases h : p = q
    · simp only [if_pos h]
    · simp only [if_neg h]
  | free => rfl
  | complete f n => rfl

theorem trackMissing_ch (s : State) (c : Chan) (q : Nat) (slot : Slot) :
    (s.trackMissing c q slot).ch c = { s.ch c with slots := { (s.ch c).slots with tracker := (trackerFor slot q).or (s.ch c).slots.tracker } } := by
  rw [trackMissing_eq]
  cases trackerFor slot q with
  | none => rfl
  | some k =>
    dsimp only
    rw [State.ch_modSlots_same]
    split <;> rfl

theorem trackMissing_counter (s : State) (c : Chan) (q : Nat) (slot : Slot) (key : CounterKey) :
    (s.trackMissing c q slot).counter key =
      if key = .chan c .lateAbandoned ∧ (trackerFor slot q).isSome = true ∧ (s.ch c).slots.tracker.isSome = true then satAdd (s.counter key) 1
      else s.counter key := by
  rw [trackMissing_eq]
  cases trackerFor slot q with
  | none => exact (if_neg fun h => by cases h.2.1).symm
  | some k =>
    dsimp only
    rw [State.counter_modSlots]
    split
    · rename_i hs
      rw [State.counter_bumpCh]
      by_cases hk : key = .chan c .lateAbandoned
      · rw [if_pos hk, if_pos ⟨hk, rfl, hs⟩]
      · rw [if_neg hk, if_neg fun h => hk h.1]
    · rename_i hs
      exact (if_neg fun h => hs h.2.2).symm

/-- R34, R45: a channel whose due stamp is released missing. -/
def Channel.missedMain (x : Channel) (q : Nat) : Channel :=
  let y := Channel.freedMain { x with slots := { x.slots with tracker := (trackerFor (x.slots.at .main q) q).or x.slots.tracker } } fun p => p == q
  { y with
    align :=
      { y.align with
        mainHeldCount := min (x.align.mainHeldCount + 1) 255
        mainOffer := heldOffer x.align.mainHeld (min (x.align.mainHeldCount + 1) 255) x.settings.mainHoldLimit } }

/-- R45: a channel whose due stamp is released COMPLETE. -/
def Channel.heldMainAt (x : Channel) (q : Nat) (f : Frame) : Channel :=
  { x with
    slots := x.slots.put .main q .free
    align :=
      { x.align with
        mainHeld := some f
        mainHeldCount := 0
        mainOffer := .fresh
        freeUnits := x.align.freeUnits + (if x.align.mainHeld.isSome then 1 else 0) } }

theorem releaseMain_complete {f : Frame} {n : Nat} (h : (s.ch c).slots.at .main q = .complete f n) (hf : f.stamp = q) :
    s.releaseMain c q = ((s.modCh c fun y => y.heldMainAt q f).startCopies c .main, .complete q f.summary f.signature) := by
  unfold State.releaseMain
  rw [h]
  exact if_pos hf

/-- R45: a stamp released missing. -/
def State.missMain (s : State) (c : Chan) (q : Nat) : State :=
  (((s.bumpCh c .mainMissing).trackMissing c q ((s.ch c).slots.at .main q)).freeMain c fun p => p == q).modAlign c fun x =>
    { x with
      mainHeldCount := min (x.mainHeldCount + 1) 255
      mainOffer := heldOffer x.mainHeld (min (x.mainHeldCount + 1) 255)
        ((((s.bumpCh c .mainMissing).trackMissing c q ((s.ch c).slots.at .main q)).freeMain c fun p => p == q).ch c).settings.mainHoldLimit }

theorem releaseMain_missing (h : ¬(s.ch c).completeAt .main q) : s.releaseMain c q = (s.missMain c q, .missing q) := by
  unfold State.releaseMain State.missMain
  dsimp only
  cases hslot : (s.ch c).slots.at .main q with
  | complete f n => exact if_neg fun hf => h ⟨f, n, hslot, hf⟩
  | _ => rfl

theorem missMain_ch (s : State) (c : Chan) (q : Nat) : (s.missMain c q).ch c = (s.ch c).missedMain q := by
  unfold State.missMain
  rw [State.ch_modAlign_same, freeMain_ch, trackMissing_ch]
  rfl

theorem missMain_counter (s : State) (c : Chan) (q : Nat) (key : CounterKey) :
    (s.missMain c q).counter key =
      if key = .chan c .mainMissing then satAdd (s.counter key) 1
      else if key = .chan c .lateAbandoned ∧ (trackerFor ((s.ch c).slots.at .main q) q).isSome = true ∧ (s.ch c).slots.tracker.isSome = true then
        satAdd (s.counter key) 1
      else s.counter key := by
  unfold State.missMain State.freeMain
  rw [State.counter_modAlign, State.counter_modCh, trackMissing_counter, State.counter_bumpCh]
  by_cases h : key = .chan c .mainMissing
  · rw [if_pos h, if_pos h, if_neg fun e => by rw [h] at e; cases e.1]
  · rw [if_neg h, if_neg h]
    rfl

theorem missMain_time (s : State) (c : Chan) (q : Nat) : (s.missMain c q).time = s.time :=
  (trackMissing_sameSlates (s.bumpCh c .mainMissing) c q ((s.ch c).slots.at .main q)).time

theorem windowMain_ch (t : State) (c : Chan) : (t.windowMain c).ch c = (t.ch c).freedMain fun p => !t.inMainWindow c p := freeMain_ch ..

theorem windowMain_counter (t : State) (c : Chan) (key : CounterKey) :
    (t.windowMain c).counter key =
      if key = .chan c .windowDiscards then satAdd (t.counter key) (holding (t.ch c).slots.main fun p => !t.inMainWindow c p) else t.counter key := by
  unfold State.windowMain State.freeMain
  rw [State.counter_modCh, State.counter_bumpBy, countHolding_eq mainIndices_eq]

theorem inMainWindow_congr (htime : t.time = s.time) (hd : (t.ch c).align.d = (s.ch c).align.d) : t.inMainWindow c = s.inMainWindow c := by
  funext p
  unfold State.inMainWindow State.signed State.cycle State.delay
  rw [htime, hd]

end Sys2Proof.Machine

/-! PROOFS. What the main path of a channel leaves at a boundary: its slots, its units and its counts (R27, R34, R41, R42, R44 to R46). -/

namespace Sys2Proof.Machine

-- Each elaboration thread takes a large stack, and the text is compiled as one file under a memory limit: one thread at a time.
set_option Elab.async false

variable {s t u : State} {c : Chan} {x y : Channel} {q n : Nat}

/-! ## Counts of slots -/

theorem holding_split (v : Vector Slot n) (a b : Nat → Bool) : holding v a = holding v (fun p => a p && b p) + holding v fun p => a p && !b p := by
  unfold holding
  rw [List.countP_eq_countP_filter_add v.toList (fun k => k.holds a) fun k => k.holds b, List.countP_filter, List.countP_filter]
  congr 1 <;> refine List.countP_congr fun k _ => ?_
  · rw [holds_and]
  · have hnot : k.holds (fun p => a p && !b p) = (k.holds a && !k.holds b) := by
      unfold Slot.holds
      cases k.stamp <;> simp
    rw [hnot]

theorem holding_pred {v : Vector Slot n} {a b : Nat → Bool} (h : ∀ p, a p = b p) : holding v a = holding v b := by rw [funext h]

/-- The slots in use once those that hold such a stamp are FREE. -/
theorem Freed.inUse {l : List (Fin n)} (hl : l = List.finRange n) {v w : Vector Slot n} {a : Nat → Bool} (h : Freed a v w) : inUse w + Machine.holding v a = inUse v := by
  have hw : w = freeHolding l a v := h.unique (freeHolding_freed hl a v)
  rw [hw, ← countHolding_eq hl]
  exact inUse_freeHolding (by rw [hl]; exact List.nodup_finRange n) a v

/-- With every stamp in its own place one slot alone can hold a stamp. -/
theorem freed_one {m : Nat} {v : Vector Slot n} (h : ∀ (i : Fin n) p, v[i.val].stamp = some p → p % m = i.val) {j : Fin n} (hj : j.val = q % m)
    (hq : v[j.val].stamp = some q) : Freed (fun p => p == q) v (vmod v j fun _ => .free) := fun i => by
  rw [vmod_get]
  by_cases hi : i = j
  · subst hi
    rw [if_pos rfl, holds_of_stamp hq, beq_self_eq_true, if_pos rfl]
  · rw [if_neg hi]
    cases hs : v[i.val].stamp with
    | none => rw [holds_of_none hs, if_neg (by simp)]
    | some p =>
      have hne : ¬(p == q) = true := fun e => hi (Fin.ext (((h i p hs).symm.trans (by rw [eq_of_beq e])).trans hj.symm))
      rw [holds_of_stamp hs, if_neg hne]

theorem holding_one {m : Nat} {v : Vector Slot n} (h : ∀ (i : Fin n) p, v[i.val].stamp = some p → p % m = i.val) {j : Fin n} (hj : j.val = q % m) :
    holding v (fun p => p == q) = if v[j.val].holds (fun p => p == q) then 1 else 0 := by
  by_cases hq : v[j.val].stamp = some q
  · have hfreed := freed_one h hj hq
    have huse := hfreed.inUse rfl
    have hmod := inUse_vmod v j fun _ => .free
    rw [hq] at hmod
    simp only [Option.isSome_some, flagNat_true, stamp_free, Option.isSome_none, flagNat_false] at hmod
    rw [holds_of_stamp hq, beq_self_eq_true, if_pos rfl]
    omega
  · have hnone : ∀ i : Fin n, v[i.val].holds (fun p => p == q) = false := fun i => by
      cases hs : v[i.val].stamp with
      | none => exact holds_of_none hs _
      | some p =>
        rw [holds_of_stamp hs, beq_eq_false_iff_ne]
        intro e
        subst e
        have hi : i = j := Fin.ext ((h i p hs).symm.trans hj.symm)
        subst hi
        exact hq hs
    rw [hnone j, if_neg (by simp)]
    unfold holding
    rw [toList_eq_map, List.countP_map, List.countP_eq_zero]
    intro i _
    rw [Function.comp_apply, hnone i]
    simp

/-- The slots freed once one that holds such a stamp is FREE already. -/
theorem Freed.of_vmod {v w : Vector Slot n} {j : Fin n} {a : Nat → Bool} (hq : v[j.val].stamp = some q) (ha : a q = true) (h : Freed a (vmod v j fun _ => .free) w) :
    Freed a v w := fun i => by
  rw [h i, vmod_get]
  by_cases hi : i = j
  · subst hi
    rw [if_pos rfl, holds_of_stamp hq, ha]
    rfl
  · rw [if_neg hi]

/-! ## The channel after the boundary -/

/-- The main release floor moved to the due stamp. -/
def Channel.flooredMain (x : Channel) (q : Nat) : Channel := { x with align := { x.align with mainFloor := q } }

/-- R44: a repeat: the slot of the due stamp freed, and the held frame offered again. -/
def Channel.repeatedMain (x : Channel) (q : Nat) : Channel :=
  { x.freedMain (fun p => p == q) with align := { (x.freedMain fun p => p == q).align with mainOffer := if x.align.mainHeld.isSome then .held else .none } }

/-- What every boundary leaves of the slots and the units of a channel's main path. -/
structure MainTaken (s : State) (c : Chan) (y : Channel) : Prop where
  main : Freed (fun p => !s.inMainWindow c p) (s.ch c).slots.main y.slots.main
  standby : y.slots.standby = (s.ch c).slots.standby
  standbyHeld : y.align.standbyHeld = (s.ch c).align.standbyHeld
  held : y.align.mainHeld = (s.ch c).align.mainHeld ∨ y.align.mainHeld.isSome = true
  units : UnitInv (s.ch c) → UnitInv y

theorem MainTaken.freeUnits (h : MainTaken s c y) (hu : UnitInv (s.ch c)) :
    y.align.freeUnits + (if y.align.mainHeld.isSome ∧ (s.ch c).align.mainHeld = none then 1 else 0) =
      (s.ch c).align.freeUnits + holding (s.ch c).slots.main fun p => !s.inMainWindow c p := by
  have hx := hu.units
  have hy := (h.units hu).units
  have hslots := h.main.inUse rfl
  rw [unitsHeld_eq] at hx hy
  unfold Align.held at hx hy
  rw [h.standby, h.standbyHeld] at hy
  have hheld : flagNat y.align.mainHeld.isSome = flagNat (s.ch c).align.mainHeld.isSome +
      if y.align.mainHeld.isSome = true ∧ (s.ch c).align.mainHeld = none then 1 else 0 := by
    rcases h.held with e | e
    · rw [e]
      cases (s.ch c).align.mainHeld <;> rfl
    · rw [e]
      cases (s.ch c).align.mainHeld <;> rfl
  omega

theorem MainTaken.slot (h : MainTaken s c y) (i : Fin 16) :
    y.slots.main[i.val] =
      match (s.ch c).slots.main[i.val].stamp with
      | none => .free
      | some p => if s.inMainWindow c p = true then (s.ch c).slots.main[i.val] else .free := by
  rw [h.main i]
  cases hs : (s.ch c).slots.main[i.val].stamp with
  | none => rw [holds_of_none hs, stamp_none_iff.1 hs] <;> rfl
  | some p =>
    rw [holds_of_stamp hs]
    dsimp only
    cases s.inMainWindow c p <;> rfl

theorem MainTaken.inside (h : MainTaken s c y) (i : Fin 16) {p : Nat} (hp : y.slots.main[i.val].stamp = some p) : s.inMainWindow c p = true := by
  rw [h.main i] at hp
  cases hs : (s.ch c).slots.main[i.val].stamp with
  | none =>
    rw [holds_of_none hs, if_neg (by simp), hs] at hp
    cases hp
  | some p' =>
    rw [holds_of_stamp hs] at hp
    cases hw : s.inMainWindow c p' with
    | true =>
      rw [hw, if_neg (by simp), hs] at hp
      rw [← Option.some.inj hp]
      exact hw
    | false =>
      rw [hw] at hp
      cases hp

end Sys2Proof.Machine

/-! PROOFS. Repeats and releases on the main path of a channel (R34, R44 to R46). -/

namespace Sys2Proof.Machine

-- Each elaboration thread takes a large stack, and the text is compiled as one file under a memory limit: one thread at a time.
set_option Elab.async false

variable {s t u : State} {c : Chan} {x y : Channel} {q n : Nat}

/-! ## What freeing main slots keeps -/

section
variable (x : Channel) (pred : Nat → Bool)

@[simp] theorem freedMain_standby : (x.freedMain pred).slots.standby = x.slots.standby := by unfold Channel.freedMain; dsimp only
@[simp] theorem freedMain_tracker : (x.freedMain pred).slots.tracker = x.slots.tracker := by unfold Channel.freedMain; dsimp only
@[simp] theorem freedMain_d : (x.freedMain pred).align.d = x.align.d := by unfold Channel.freedMain; dsimp only
@[simp] theorem freedMain_mainHeld : (x.freedMain pred).align.mainHeld = x.align.mainHeld := by unfold Channel.freedMain; dsimp only
@[simp] theorem freedMain_standbyHeld : (x.freedMain pred).align.standbyHeld = x.align.standbyHeld := by unfold Channel.freedMain; dsimp only
@[simp] theorem freedMain_mainHeldCount : (x.freedMain pred).align.mainHeldCount = x.align.mainHeldCount := by unfold Channel.freedMain; dsimp only
@[simp] theorem freedMain_mainOffer : (x.freedMain pred).align.mainOffer = x.align.mainOffer := by unfold Channel.freedMain; dsimp only
@[simp] theorem freedMain_mainFloor : (x.freedMain pred).align.mainFloor = x.align.mainFloor := by unfold Channel.freedMain; dsimp only
@[simp] theorem freedMain_settings : (x.freedMain pred).settings = x.settings := by unfold Channel.freedMain; dsimp only

end

/-! ## A repeat (R44) -/

theorem repeatedMain_slots (x : Channel) (q : Nat) : (x.repeatedMain q).slots = (x.freedMain fun p => p == q).slots := by unfold Channel.repeatedMain; dsimp only

theorem repeatedMain_align (x : Channel) (q : Nat) :
    (x.repeatedMain q).align = { (x.freedMain fun p => p == q).align with mainOffer := if x.align.mainHeld.isSome then .held else .none } := by
  unfold Channel.repeatedMain; dsimp only

theorem repeatMain_ch (s : State) (c : Chan) : (s.repeatMain c).ch c = (s.ch c).repeatedMain (s.dueStamp c) := by
  unfold State.repeatMain State.bumpCh
  rw [State.ch_bump, State.ch_modAlign_same, freeMain_ch]
  rfl

theorem repeatMain_counter (s : State) (c : Chan) (key : CounterKey) :
    (s.repeatMain c).counter key =
      if key = .chan c .repeats then satAdd (s.counter key) 1
      else if key = .chan c .windowDiscards then
        satAdd (s.counter key) (if ((s.ch c).slots.at .main (s.dueStamp c)).holds (fun p => p == s.dueStamp c) then 1 else 0)
      else s.counter key := by
  unfold State.repeatMain State.freeMain
  rw [State.counter_bumpCh, State.counter_modAlign, State.counter_modCh, State.counter_bumpBy]
  by_cases h : key = .chan c .repeats
  · rw [if_pos h, if_pos h, if_neg fun e => by rw [h] at e; cases e]
  · rw [if_neg h, if_neg h]

theorem repeatMain_window (s : State) (c : Chan) : (s.repeatMain c).inMainWindow c = s.inMainWindow c :=
  inMainWindow_congr rfl (by rw [repeatMain_ch, repeatedMain_align, freedMain_d])

theorem repeat_boundary_ch (s : State) (c : Chan) :
    ((s.repeatMain c).windowMain c).ch c = ((s.ch c).repeatedMain (s.dueStamp c)).freedMain fun p => !s.inMainWindow c p := by
  rw [windowMain_ch, repeatMain_ch, repeatMain_window]

theorem repeatedMain_freed (x : Channel) (q : Nat) : Freed (fun p => p == q) x.slots.main (x.repeatedMain q).slots.main := by
  rw [repeatedMain_slots]
  exact freedMain_main x _

theorem repeatedMain_units (h : UnitInv x) (q : Nat) : UnitInv (x.repeatedMain q) := by
  have hfreed := freedMain_units h fun p => p == q
  unfold Channel.repeatedMain
  generalize x.freedMain (fun p => p == q) = y at hfreed ⊢
  exact ⟨hfreed.units, hfreed.mainPlaces, hfreed.standbyPlaces, hfreed.out⟩

theorem repeat_taken (s : State) (c : Chan) : MainTaken s c (((s.ch c).repeatedMain (s.dueStamp c)).freedMain fun p => !s.inMainWindow c p) := by
  refine ⟨?_, ?_, ?_, .inl ?_, fun hu => freedMain_units (repeatedMain_units hu _) _⟩
  · refine ((repeatedMain_freed (s.ch c) (s.dueStamp c)).trans (freedMain_main _ _)).congr fun p => ?_
    by_cases hp : p = s.dueStamp c
    · rw [hp, dueStamp_outside]
      simp
    · rw [beq_eq_false_iff_ne.2 hp, Bool.false_or]
  · rw [freedMain_standby, repeatedMain_slots, freedMain_standby]
  · rw [freedMain_standbyHeld, repeatedMain_align, freedMain_standbyHeld]
  · rw [freedMain_mainHeld, repeatedMain_align, freedMain_mainHeld]

theorem repeat_discards (hu : UnitInv (s.ch c)) :
    ((s.repeatMain c).windowMain c).counter (.chan c .windowDiscards) =
      satAdd (s.counter (.chan c .windowDiscards)) (holding (s.ch c).slots.main fun p => !s.inMainWindow c p) := by
  have hone := holding_one (m := 16) (q := s.dueStamp c) (j := mainSlotOf (s.dueStamp c)) hu.mainPlaces rfl
  have hsplit := holding_split (s.ch c).slots.main (fun p => !s.inMainWindow c p) fun p => p == s.dueStamp c
  have hdue : holding (s.ch c).slots.main (fun p => !s.inMainWindow c p && (p == s.dueStamp c)) = holding (s.ch c).slots.main fun p => p == s.dueStamp c :=
    holding_pred fun p => by
      by_cases hp : p = s.dueStamp c
      · rw [hp, dueStamp_outside]
        rfl
      · rw [beq_eq_false_iff_ne.2 hp, Bool.and_false]
  rw [windowMain_counter, if_pos rfl, repeatMain_counter, if_neg (by simp), if_pos rfl, repeatMain_window, repeatMain_ch,
    (repeatedMain_freed (s.ch c) (s.dueStamp c)).holding, satAdd_satAdd, hsplit, hdue, hone]
  rfl

/-! ## A release (R34, R45) -/

/-- The boundary once the due stamp is released. -/
def State.pastMain (s : State) (c : Chan) : State :=
  (((s.skipMain c).releaseMain c (s.dueStamp c)).1.modAlign c fun x => { x with mainFloor := s.dueStamp c }).windowMain c

/-- A channel with the stamps between its floor and the due stamp skipped. -/
def State.skippedMain (s : State) (c : Chan) : Channel := (s.ch c).freedMain (s.between (s.dueStamp c) (s.ch c).align.mainFloor)

theorem skipMain_time (s : State) (c : Chan) : (s.skipMain c).time = s.time := (skipMain_sameSlates s c).time

theorem skipMain_counter (hle : ∀ key, s.counter key ≤ counterMax) (c : Chan) (key : CounterKey) :
    (s.skipMain c).counter key =
      if key = .chan c .skippedFrames then satAdd (s.counter key) (s.signed (s.dueStamp c) (s.ch c).align.mainFloor - 1).toNat else s.counter key := by
  unfold State.skipMain
  split
  · rename_i hg
    rw [hg]
    have hzero : satAdd (s.counter key) ((1 : Int) - 1).toNat = s.counter key := Nat.min_eq_left (hle key)
    rw [hzero, ite_self]
  · rw [State.counter_bumpBy]
    unfold State.freeMain
    rw [State.counter_modCh]

/-- The slot of the due stamp as the skip leaves it: as it was, or FREE for a stamp that was skipped. -/
theorem skipped_slot (s : State) (c : Chan) :
    (s.skippedMain c).slots.at .main (s.dueStamp c) = (s.ch c).slots.at .main (s.dueStamp c) ∨
      (s.skippedMain c).slots.at .main (s.dueStamp c) = .free ∧
        ∃ p, ((s.ch c).slots.at .main (s.dueStamp c)).stamp = some p ∧ p ≠ s.dueStamp c := by
  have hfreed := freedMain_main (s.ch c) (s.between (s.dueStamp c) (s.ch c).align.mainFloor) (mainSlotOf (s.dueStamp c))
  have hslot : (s.skippedMain c).slots.at .main (s.dueStamp c) =
      if ((s.ch c).slots.at .main (s.dueStamp c)).holds (s.between (s.dueStamp c) (s.ch c).align.mainFloor) then .free
      else (s.ch c).slots.at .main (s.dueStamp c) := hfreed
  rw [hslot]
  cases hs : ((s.ch c).slots.at .main (s.dueStamp c)).stamp with
  | none =>
    rw [holds_of_none hs]
    exact .inl rfl
  | some p =>
    rw [holds_of_stamp hs]
    cases hb : s.between (s.dueStamp c) (s.ch c).align.mainFloor p with
    | false => exact .inl rfl
    | true =>
      refine .inr ⟨rfl, p, rfl, fun e => ?_⟩
      rw [e, between_self] at hb
      cases hb

theorem skipped_slot_kept (h : ((s.ch c).slots.at .main (s.dueStamp c)).stamp = some (s.dueStamp c)) :
    (s.skippedMain c).slots.at .main (s.dueStamp c) = (s.ch c).slots.at .main (s.dueStamp c) :=
  (skipped_slot s c).resolve_right fun ⟨_, _, hp, hne⟩ => hne (Option.some.inj (hp.symm.trans h))

/-- The state in which the due stamp has been released, its floor moved. -/
theorem pastMain_ch {v : State} (hrelease : ((s.skipMain c).releaseMain c (s.dueStamp c)).1 = v) (htime : v.time = s.time)
    (hd : (v.ch c).align.d = (s.ch c).align.d) :
    (s.pastMain c).ch c = ((v.ch c).flooredMain (s.dueStamp c)).freedMain fun p => !s.inMainWindow c p := by
  unfold State.pastMain
  rw [hrelease, windowMain_ch, State.ch_modAlign_same]
  have hwindow := inMainWindow_congr (c := c) (s := s) (t := v.modAlign c fun x => { x with mainFloor := s.dueStamp c }) htime
    (by rw [State.ch_modAlign_same]; exact hd)
  rw [hwindow]
  rfl

theorem pastMain_counter {v : State} (hrelease : ((s.skipMain c).releaseMain c (s.dueStamp c)).1 = v) (htime : v.time = s.time)
    (hd : (v.ch c).align.d = (s.ch c).align.d) (key : CounterKey) :
    (s.pastMain c).counter key =
      if key = .chan c .windowDiscards then satAdd (v.counter key) (holding (v.ch c).slots.main fun p => !s.inMainWindow c p) else v.counter key := by
  unfold State.pastMain
  rw [hrelease, windowMain_counter, State.ch_modAlign_same, State.counter_modAlign]
  have hwindow := inMainWindow_congr (c := c) (s := s) (t := v.modAlign c fun x => { x with mainFloor := s.dueStamp c }) htime
    (by rw [State.ch_modAlign_same]; exact hd)
  rw [hwindow]

end Sys2Proof.Machine

/-! PROOFS. A due stamp released missing, and one released COMPLETE, on the main path (R34, R41, R42, R45, R46). -/

namespace Sys2Proof.Machine

-- Each elaboration thread takes a large stack, and the text is compiled as one file under a memory limit: one thread at a time.
set_option Elab.async false

variable {s t u : State} {c : Chan} {x y : Channel} {q n : Nat} {f : Frame}

/-! ## What the skip keeps -/

section
variable (s : State) (c : Chan)

@[simp] theorem skippedMain_standby : (s.skippedMain c).slots.standby = (s.ch c).slots.standby := freedMain_standby (s.ch c) _
@[simp] theorem skippedMain_tracker : (s.skippedMain c).slots.tracker = (s.ch c).slots.tracker := freedMain_tracker (s.ch c) _
@[simp] theorem skippedMain_d : (s.skippedMain c).align.d = (s.ch c).align.d := freedMain_d (s.ch c) _
@[simp] theorem skippedMain_mainHeld : (s.skippedMain c).align.mainHeld = (s.ch c).align.mainHeld := freedMain_mainHeld (s.ch c) _
@[simp] theorem skippedMain_standbyHeld : (s.skippedMain c).align.standbyHeld = (s.ch c).align.standbyHeld := freedMain_standbyHeld (s.ch c) _
@[simp] theorem skippedMain_mainHeldCount : (s.skippedMain c).align.mainHeldCount = (s.ch c).align.mainHeldCount := freedMain_mainHeldCount (s.ch c) _
@[simp] theorem skippedMain_settings : (s.skippedMain c).settings = (s.ch c).settings := freedMain_settings (s.ch c) _

end

/-! ## A stamp released missing (R34, R45) -/

/-- A channel with what the late tracker takes of a stamp. -/
def Channel.tracking (x : Channel) (q : Nat) : Channel :=
  { x with slots := { x.slots with tracker := (trackerFor (x.slots.at .main q) q).or x.slots.tracker } }

theorem tracking_align (x : Channel) (q : Nat) : (x.tracking q).align = x.align := rfl

theorem tracking_slots (x : Channel) (q : Nat) :
    (x.tracking q).slots = { x.slots with tracker := (trackerFor (x.slots.at .main q) q).or x.slots.tracker } := rfl

theorem missedMain_slots (x : Channel) (q : Nat) : (x.missedMain q).slots = ((x.tracking q).freedMain fun p => p == q).slots := by
  unfold Channel.missedMain Channel.tracking; dsimp only

theorem missedMain_align (x : Channel) (q : Nat) :
    (x.missedMain q).align =
      { ((x.tracking q).freedMain fun p => p == q).align with
        mainHeldCount := min (x.align.mainHeldCount + 1) 255
        mainOffer := heldOffer x.align.mainHeld (min (x.align.mainHeldCount + 1) 255) x.settings.mainHoldLimit } := by
  unfold Channel.missedMain Channel.tracking; dsimp only

theorem missedMain_freed (x : Channel) (q : Nat) : Freed (fun p => p == q) x.slots.main (x.missedMain q).slots.main := by
  rw [missedMain_slots]
  exact freedMain_main (x.tracking q) _

theorem missedMain_units (h : UnitInv x) (q : Nat) : UnitInv (x.missedMain q) := by
  have htracking : UnitInv (x.tracking q) := ⟨h.units, h.mainPlaces, h.standbyPlaces, h.out⟩
  have hfreed := freedMain_units htracking fun p => p == q
  have hdef : x.missedMain q = { (x.tracking q).freedMain (fun p => p == q) with
      align := { ((x.tracking q).freedMain fun p => p == q).align with
        mainHeldCount := min (x.align.mainHeldCount + 1) 255
        mainOffer := heldOffer x.align.mainHeld (min (x.align.mainHeldCount + 1) 255) x.settings.mainHoldLimit } } := by
    unfold Channel.missedMain Channel.tracking; dsimp only
  rw [hdef]
  generalize (x.tracking q).freedMain (fun p => p == q) = y at hfreed ⊢
  exact ⟨hfreed.units, hfreed.mainPlaces, hfreed.standbyPlaces, hfreed.out⟩

theorem flooredMain_slots (x : Channel) (q : Nat) : (x.flooredMain q).slots = x.slots := rfl

theorem flooredMain_align (x : Channel) (q : Nat) : (x.flooredMain q).align = { x.align with mainFloor := q } := rfl

theorem flooredMain_units (h : UnitInv x) (q : Nat) : UnitInv (x.flooredMain q) := ⟨h.units, h.mainPlaces, h.standbyPlaces, h.out⟩

/-- The channel after a boundary that released the due stamp missing. -/
def State.missedChannel (s : State) (c : Chan) : Channel :=
  (((s.skippedMain c).missedMain (s.dueStamp c)).flooredMain (s.dueStamp c)).freedMain fun p => !s.inMainWindow c p

theorem skipMain_skipped (s : State) (c : Chan) : (s.skipMain c).ch c = s.skippedMain c := skipMain_ch s c

theorem skippedMain_freed (s : State) (c : Chan) :
    Freed (s.between (s.dueStamp c) (s.ch c).align.mainFloor) (s.ch c).slots.main (s.skippedMain c).slots.main := freedMain_main (s.ch c) _

theorem skippedMain_units (h : UnitInv (s.ch c)) : UnitInv (s.skippedMain c) := freedMain_units h _

theorem missed_release (h : ¬(s.ch c).completeAt .main (s.dueStamp c)) :
    (s.skipMain c).releaseMain c (s.dueStamp c) = ((s.skipMain c).missMain c (s.dueStamp c), .missing (s.dueStamp c)) :=
  releaseMain_missing fun hc => h ((completeAt_skipMain s c).1 hc)

theorem missed_time (s : State) (c : Chan) : ((s.skipMain c).missMain c (s.dueStamp c)).time = s.time := (missMain_time ..).trans (skipMain_time s c)

theorem missed_ch (s : State) (c : Chan) : ((s.skipMain c).missMain c (s.dueStamp c)).ch c = (s.skippedMain c).missedMain (s.dueStamp c) := by
  rw [missMain_ch, skipMain_skipped]

theorem missed_d (s : State) (c : Chan) : (((s.skipMain c).missMain c (s.dueStamp c)).ch c).align.d = (s.ch c).align.d := by
  rw [missed_ch, missedMain_align]
  dsimp only
  rw [freedMain_d, tracking_align, skippedMain_d]

theorem pastMain_missed_ch (h : ¬(s.ch c).completeAt .main (s.dueStamp c)) : (s.pastMain c).ch c = s.missedChannel c := by
  have hrelease : ((s.skipMain c).releaseMain c (s.dueStamp c)).1 = (s.skipMain c).missMain c (s.dueStamp c) := by rw [missed_release h]
  rw [pastMain_ch hrelease (missed_time s c) (missed_d s c), missed_ch, State.missedChannel]

/-- The stamps that a boundary past the floor frees: those skipped, the due stamp, and the others outside the window. -/
theorem freed_outside (s : State) (c : Chan) (p : Nat) :
    ((s.between (s.dueStamp c) (s.ch c).align.mainFloor p || p == s.dueStamp c) || !s.inMainWindow c p) = !s.inMainWindow c p := by
  by_cases hp : p = s.dueStamp c
  · rw [hp, dueStamp_outside]
    simp
  · rw [beq_eq_false_iff_ne.2 hp, Bool.or_false]
    cases hb : s.between (s.dueStamp c) (s.ch c).align.mainFloor p with
    | false => rfl
    | true =>
      rw [skipped_outside hb]
      rfl

theorem missed_taken (s : State) (c : Chan) : MainTaken s c (s.missedChannel c) := by
  refine ⟨?_, ?_, ?_, .inl ?_, fun hu => ?_⟩ <;>
    unfold State.missedChannel
  · have hwindow := freedMain_main (((s.skippedMain c).missedMain (s.dueStamp c)).flooredMain (s.dueStamp c)) fun p => !s.inMainWindow c p
    rw [flooredMain_slots] at hwindow
    have hmissed := (skippedMain_freed s c).trans (missedMain_freed (s.skippedMain c) (s.dueStamp c))
    exact (hmissed.trans hwindow).congr (freed_outside s c)
  · rw [freedMain_standby, flooredMain_slots, missedMain_slots, freedMain_standby, tracking_slots]
    dsimp only
    rw [skippedMain_standby]
  · rw [freedMain_standbyHeld, flooredMain_align, missedMain_align]
    dsimp only
    rw [freedMain_standbyHeld, tracking_align, skippedMain_standbyHeld]
  · rw [freedMain_mainHeld, flooredMain_align, missedMain_align]
    dsimp only
    rw [freedMain_mainHeld, tracking_align, skippedMain_mainHeld]
  · exact freedMain_units (flooredMain_units (missedMain_units (skippedMain_units hu) _) _) _

/-! ## A stamp released COMPLETE (R41, R45) -/

/-- The channel after a boundary that released the due stamp COMPLETE. -/
def State.heldChannel (s : State) (c : Chan) (f : Frame) : Channel :=
  (((s.skippedMain c).heldMainAt (s.dueStamp c) f).flooredMain (s.dueStamp c)).freedMain fun p => !s.inMainWindow c p

/-- The part once the due stamp is released COMPLETE. -/
def State.holdMain (s : State) (c : Chan) (f : Frame) : State := ((s.skipMain c).modCh c fun y => y.heldMainAt (s.dueStamp c) f).startCopies c .main

theorem held_release (hslot : (s.ch c).slots.at .main (s.dueStamp c) = .complete f n) (hf : f.stamp = s.dueStamp c) :
    (s.skipMain c).releaseMain c (s.dueStamp c) = (s.holdMain c f, .complete (s.dueStamp c) f.summary f.signature) := by
  have hstamp : ((s.ch c).slots.at .main (s.dueStamp c)).stamp = some (s.dueStamp c) := by rw [hslot, stamp_complete, hf]
  have hskipped : ((s.skipMain c).ch c).slots.at .main (s.dueStamp c) = .complete f n := by rw [skipMain_skipped, skipped_slot_kept hstamp, hslot]
  exact releaseMain_complete hskipped hf

theorem holdMain_time (s : State) (c : Chan) (f : Frame) : (s.holdMain c f).time = s.time := skipMain_time s c

theorem holdMain_ch (s : State) (c : Chan) (f : Frame) : (s.holdMain c f).ch c = (s.skippedMain c).heldMainAt (s.dueStamp c) f := by
  rw [← skipMain_skipped]
  exact State.ch_modCh_same ..

theorem heldMainAt_align (x : Channel) (q : Nat) (f : Frame) :
    (x.heldMainAt q f).align =
      { x.align with mainHeld := some f, mainHeldCount := 0, mainOffer := .fresh, freeUnits := x.align.freeUnits + (if x.align.mainHeld.isSome then 1 else 0) } := by
  unfold Channel.heldMainAt; dsimp only

theorem heldMainAt_slots (x : Channel) (q : Nat) (f : Frame) : (x.heldMainAt q f).slots = x.slots.put .main q .free := by
  unfold Channel.heldMainAt; dsimp only

theorem heldMainAt_units (h : UnitInv x) (hin : (x.slots.at .main q).stamp.isSome = true) (f : Frame) : UnitInv (x.heldMainAt q f) := by
  have hold := h.hold hin fun a =>
    { a with mainHeld := some f, mainHeldCount := 0, mainOffer := .fresh, freeUnits := a.freeUnits + (if a.mainHeld.isSome then 1 else 0) }
  refine hold ?_ ?_ <;> unfold Align.held <;> cases x.align.mainHeld <;> simp <;> omega

theorem holdMain_d (s : State) (c : Chan) (f : Frame) : ((s.holdMain c f).ch c).align.d = (s.ch c).align.d := by
  rw [holdMain_ch, heldMainAt_align]
  dsimp only
  rw [skippedMain_d]

theorem pastMain_held_ch (hslot : (s.ch c).slots.at .main (s.dueStamp c) = .complete f n) (hf : f.stamp = s.dueStamp c) :
    (s.pastMain c).ch c = s.heldChannel c f := by
  have hrelease : ((s.skipMain c).releaseMain c (s.dueStamp c)).1 = s.holdMain c f := by rw [held_release hslot hf]
  rw [pastMain_ch hrelease (holdMain_time s c f) (holdMain_d s c f), holdMain_ch, State.heldChannel]

theorem skipped_stamp (h : ((s.ch c).slots.at .main (s.dueStamp c)).stamp = some (s.dueStamp c)) :
    (s.skippedMain c).slots.main[(mainSlotOf (s.dueStamp c)).val].stamp = some (s.dueStamp c) := by
  have hkept := skipped_slot_kept h
  exact (congrArg Slot.stamp hkept).trans h

theorem held_taken (hstamp : ((s.ch c).slots.at .main (s.dueStamp c)).stamp = some (s.dueStamp c)) (f : Frame) : MainTaken s c (s.heldChannel c f) := by
  have hin : ((s.skippedMain c).slots.at .main (s.dueStamp c)).stamp.isSome = true := by rw [skipped_slot_kept hstamp, hstamp]; rfl
  refine ⟨?_, ?_, ?_, .inr ?_, fun hu => ?_⟩ <;>
    unfold State.heldChannel
  · have hput : ((s.skippedMain c).heldMainAt (s.dueStamp c) f).slots.main = vmod (s.skippedMain c).slots.main (mainSlotOf (s.dueStamp c)) fun _ => .free := by
      rw [heldMainAt_slots]
      rfl
    have hwindow := freedMain_main (((s.skippedMain c).heldMainAt (s.dueStamp c) f).flooredMain (s.dueStamp c)) fun p => !s.inMainWindow c p
    rw [flooredMain_slots, hput] at hwindow
    refine ((skippedMain_freed s c).trans (hwindow.of_vmod (skipped_stamp hstamp) (by rw [dueStamp_outside]; rfl))).congr fun p => ?_
    have hout := freed_outside s c p
    cases hb : s.between (s.dueStamp c) (s.ch c).align.mainFloor p with
    | false => rw [Bool.false_or]
    | true =>
      rw [skipped_outside hb]
      rfl
  · rw [freedMain_standby, flooredMain_slots, heldMainAt_slots, Slots.put]
    dsimp only
    rw [skippedMain_standby]
  · rw [freedMain_standbyHeld, flooredMain_align, heldMainAt_align]
    dsimp only
    rw [skippedMain_standbyHeld]
  · rw [freedMain_mainHeld, flooredMain_align, heldMainAt_align]
    dsimp only
    rfl
  · exact freedMain_units (flooredMain_units (heldMainAt_units (skippedMain_units hu) hin f) _) _

end Sys2Proof.Machine

/-! PROOFS. The main path of a channel at a boundary, clause by clause (R27, R34, R41, R42, R44 to R46). -/

namespace Sys2Proof.Machine

-- Each elaboration thread takes a large stack, and the text is compiled as one file under a memory limit: one thread at a time.
set_option Elab.async false

variable {s t u : State} {c : Chan} {x y : Channel} {q n : Nat} {f : Frame}

theorem takeMainBoundary_eq_repeat (h : s.signed (s.dueStamp c) (s.ch c).align.mainFloor ≤ 0) :
    s.takeMainBoundary c = ((s.repeatMain c).windowMain c, none) := takeMainBoundary_repeat h

theorem takeMainBoundary_missed (h : 1 ≤ s.signed (s.dueStamp c) (s.ch c).align.mainFloor) (hm : ¬(s.ch c).completeAt .main (s.dueStamp c)) :
    s.takeMainBoundary c = (s.pastMain c, some (.missing (s.dueStamp c))) := by
  rw [takeMainBoundary_past (by omega), missed_release hm, State.pastMain, missed_release hm]

theorem takeMainBoundary_held (h : 1 ≤ s.signed (s.dueStamp c) (s.ch c).align.mainFloor)
    (hslot : (s.ch c).slots.at .main (s.dueStamp c) = .complete f n) (hf : f.stamp = s.dueStamp c) :
    s.takeMainBoundary c = (s.pastMain c, some (.complete (s.dueStamp c) f.summary f.signature)) := by
  rw [takeMainBoundary_past (by omega), held_release hslot hf, State.pastMain, held_release hslot hf]

/-! ## Counts -/

theorem missed_counter (hle : ∀ key, s.counter key ≤ counterMax) (hm : ¬(s.ch c).completeAt .main (s.dueStamp c)) (key : CounterKey) :
    (s.pastMain c).counter key =
      if key = .chan c .windowDiscards then
        satAdd (s.counter key) (holding (s.ch c).slots.main fun p =>
          !s.inMainWindow c p && !(s.between (s.dueStamp c) (s.ch c).align.mainFloor p || p == s.dueStamp c))
      else if key = .chan c .mainMissing then satAdd (s.counter key) 1
      else if key = .chan c .lateAbandoned ∧ (trackerFor ((s.skippedMain c).slots.at .main (s.dueStamp c)) (s.dueStamp c)).isSome = true ∧
        (s.ch c).slots.tracker.isSome = true then satAdd (s.counter key) 1
      else if key = .chan c .skippedFrames then satAdd (s.counter key) (s.signed (s.dueStamp c) (s.ch c).align.mainFloor - 1).toNat
      else s.counter key := by
  have hrelease : ((s.skipMain c).releaseMain c (s.dueStamp c)).1 = (s.skipMain c).missMain c (s.dueStamp c) := by rw [missed_release hm]
  have hfreed := (skippedMain_freed s c).trans (missedMain_freed (s.skippedMain c) (s.dueStamp c))
  rw [pastMain_counter hrelease (missed_time s c) (missed_d s c), missed_ch, hfreed.holding, missMain_counter, skipMain_skipped, skippedMain_tracker,
    skipMain_counter hle]
  by_cases hw : key = .chan c .windowDiscards
  · subst hw
    rw [if_pos rfl, if_pos rfl, if_neg (by simp), if_neg (by simp), if_neg (by simp)]
  · rw [if_neg hw, if_neg hw]
    by_cases hmiss : key = .chan c .mainMissing
    · subst hmiss
      rw [if_pos rfl, if_pos rfl, if_neg (by simp)]
    · rw [if_neg hmiss, if_neg hmiss]
      by_cases hlate : key = .chan c .lateAbandoned ∧ (trackerFor ((s.skippedMain c).slots.at .main (s.dueStamp c)) (s.dueStamp c)).isSome = true ∧
        (s.ch c).slots.tracker.isSome = true
      · rw [if_pos hlate, if_pos hlate, if_neg (by rw [hlate.1]; simp)]
      · rw [if_neg hlate, if_neg hlate]

theorem held_counter (hle : ∀ key, s.counter key ≤ counterMax) (hslot : (s.ch c).slots.at .main (s.dueStamp c) = .complete f n)
    (hf : f.stamp = s.dueStamp c) (key : CounterKey) :
    (s.pastMain c).counter key =
      if key = .chan c .windowDiscards then
        satAdd (s.counter key) (holding (vmod (s.skippedMain c).slots.main (mainSlotOf (s.dueStamp c)) fun _ => .free) fun p => !s.inMainWindow c p)
      else if key = .chan c .skippedFrames then satAdd (s.counter key) (s.signed (s.dueStamp c) (s.ch c).align.mainFloor - 1).toNat
      else s.counter key := by
  have hrelease : ((s.skipMain c).releaseMain c (s.dueStamp c)).1 = s.holdMain c f := by rw [held_release hslot hf]
  have hcounter : (s.holdMain c f).counter key = (s.skipMain c).counter key := rfl
  have hmain : ((s.holdMain c f).ch c).slots.main = vmod (s.skippedMain c).slots.main (mainSlotOf (s.dueStamp c)) fun _ => .free := by
    rw [holdMain_ch, heldMainAt_slots]
    rfl
  rw [pastMain_counter hrelease (holdMain_time s c f) (holdMain_d s c f), hmain, hcounter, skipMain_counter hle]
  by_cases hw : key = .chan c .windowDiscards
  · subst hw
    rw [if_pos rfl, if_pos rfl, if_neg (by simp)]
  · rw [if_neg hw, if_neg hw]

theorem held_discards (hu : UnitInv (s.ch c)) (hstamp : ((s.ch c).slots.at .main (s.dueStamp c)).stamp = some (s.dueStamp c)) :
    holding (vmod (s.skippedMain c).slots.main (mainSlotOf (s.dueStamp c)) fun _ => .free) (fun p => !s.inMainWindow c p) =
      holding (s.ch c).slots.main fun p =>
        !s.inMainWindow c p && !(s.between (s.dueStamp c) (s.ch c).align.mainFloor p || p == s.dueStamp c) := by
  have hone := freed_one (m := 16) (skippedMain_units hu).mainPlaces (j := mainSlotOf (s.dueStamp c)) rfl (skipped_stamp hstamp)
  exact ((skippedMain_freed s c).trans hone).holding _

/-! ## The late tracker -/

theorem trackerFor_other {slot : Slot} (h : slot.stamp ≠ some q) :
    trackerFor slot q = some { stamp := q, vc := none, ac := none, summary := false, video := [], audio := [] } := by
  cases slot with
  | filling r => exact if_neg fun e => h (congrArg some e)
  | corrupt p => exact if_neg fun e => h (congrArg some e)
  | _ => rfl

theorem missedChannel_tracker (s : State) (c : Chan) :
    (s.missedChannel c).slots.tracker = (trackerFor ((s.skippedMain c).slots.at .main (s.dueStamp c)) (s.dueStamp c)).or (s.ch c).slots.tracker := by
  unfold State.missedChannel
  rw [freedMain_tracker, flooredMain_slots, missedMain_slots, freedMain_tracker, tracking_slots]
  dsimp only
  rw [skippedMain_tracker]

theorem heldChannel_tracker (s : State) (c : Chan) (f : Frame) : (s.heldChannel c f).slots.tracker = (s.ch c).slots.tracker := by
  unfold State.heldChannel
  rw [freedMain_tracker, flooredMain_slots, heldMainAt_slots, Slots.put]
  dsimp only
  rw [skippedMain_tracker]

theorem missedChannel_align (s : State) (c : Chan) :
    (s.missedChannel c).align.mainHeld = (s.ch c).align.mainHeld ∧ (s.missedChannel c).align.mainHeldCount = min ((s.ch c).align.mainHeldCount + 1) 255 ∧
      (s.missedChannel c).align.mainOffer =
        heldOffer (s.ch c).align.mainHeld (min ((s.ch c).align.mainHeldCount + 1) 255) (s.ch c).settings.mainHoldLimit ∧
      (s.missedChannel c).align.mainFloor = s.dueStamp c := by
  unfold State.missedChannel
  rw [freedMain_mainHeld, freedMain_mainHeldCount, freedMain_mainOffer, freedMain_mainFloor, flooredMain_align, missedMain_align]
  dsimp only
  rw [freedMain_mainHeld, tracking_align, skippedMain_mainHeld, skippedMain_mainHeldCount, skippedMain_settings]
  exact ⟨rfl, rfl, rfl, rfl⟩

theorem heldChannel_align (s : State) (c : Chan) (f : Frame) :
    (s.heldChannel c f).align.mainHeld = some f ∧ (s.heldChannel c f).align.mainHeldCount = 0 ∧ (s.heldChannel c f).align.mainOffer = .fresh ∧
      (s.heldChannel c f).align.mainFloor = s.dueStamp c := by
  unfold State.heldChannel
  rw [freedMain_mainHeld, freedMain_mainHeldCount, freedMain_mainOffer, freedMain_mainFloor, flooredMain_align, heldMainAt_align]
  exact ⟨rfl, rfl, rfl, rfl⟩

theorem repeatChannel_align (s : State) (c : Chan) (pred : Nat → Bool) :
    let y := ((s.ch c).repeatedMain (s.dueStamp c)).freedMain pred
    y.align.mainHeld = (s.ch c).align.mainHeld ∧ y.align.mainHeldCount = (s.ch c).align.mainHeldCount ∧ y.align.mainFloor = (s.ch c).align.mainFloor ∧
      y.align.mainOffer = if (s.ch c).align.mainHeld.isSome then .held else .none := by
  dsimp only
  rw [freedMain_mainHeld, freedMain_mainHeldCount, freedMain_mainOffer, freedMain_mainFloor, repeatedMain_align]
  dsimp only
  rw [freedMain_mainHeld, freedMain_mainHeldCount, freedMain_mainFloor]
  exact ⟨rfl, rfl, rfl, rfl⟩

/-! ## Every boundary -/

/-- Whatever the boundary makes of the due stamp, the main path's slots and units follow its window. -/
theorem mainTaken (s : State) (c : Chan) : MainTaken s c ((s.takeMainBoundary c).1.ch c) := by
  by_cases hg : s.signed (s.dueStamp c) (s.ch c).align.mainFloor ≤ 0
  · rw [takeMainBoundary_eq_repeat hg, repeat_boundary_ch]
    exact repeat_taken s c
  · by_cases hm : (s.ch c).completeAt .main (s.dueStamp c)
    · obtain ⟨f, n, hslot, hf⟩ := hm
      rw [takeMainBoundary_held (by omega) hslot hf, pastMain_held_ch hslot hf]
      exact held_taken (by rw [hslot, stamp_complete, hf]) f
    · rw [takeMainBoundary_missed (by omega) hm, pastMain_missed_ch hm]
      exact missed_taken s c

end Sys2Proof.Machine

/-! PROOFS. What a boundary leaves of a channel's main path (R27, R34, R41, R42, R44 to R46). -/

namespace Sys2Proof.Machine

-- Each elaboration thread takes a large stack, and the text is compiled as one file under a memory limit: one thread at a time.
set_option Elab.async false

variable {s t u : State} {c : Chan} {x y : Channel} {q n : Nat} {f : Frame}

theorem satAdd_zero {n : Nat} (h : n ≤ counterMax) : satAdd n 0 = n := Nat.min_eq_left (a := n) h

/-- How far the due stamp of a channel's main path is past its floor. -/
def State.pastFloor (s : State) (c : Chan) : Int := s.signed (s.dueStamp c) (s.ch c).align.mainFloor

theorem released_past (hle : ∀ key, s.counter key ≤ counterMax) (h : 1 ≤ s.pastFloor c) :
    (s.takeMainBoundary c).1.counter (.chan c .skippedFrames) = satAdd (s.counter (.chan c .skippedFrames)) (s.pastFloor c - 1).toNat ∧
      ((s.takeMainBoundary c).1.ch c).align.mainFloor = s.dueStamp c := by
  by_cases hm : (s.ch c).completeAt .main (s.dueStamp c)
  · obtain ⟨f, n, hslot, hf⟩ := hm
    rw [takeMainBoundary_held h hslot hf, pastMain_held_ch hslot hf]
    dsimp only
    rw [held_counter hle hslot hf, if_neg (by simp), if_pos rfl]
    exact ⟨rfl, (heldChannel_align s c f).2.2.2⟩
  · rw [takeMainBoundary_missed h hm, pastMain_missed_ch hm]
    dsimp only
    rw [missed_counter hle hm, if_neg (by simp), if_neg (by simp), if_neg (by simp), if_pos rfl]
    exact ⟨rfl, (missedChannel_align s c).2.2.2⟩

theorem released_complete (h : 1 ≤ s.pastFloor c) (hslot : (s.ch c).slots.at .main (s.dueStamp c) = .complete f n) (hf : f.stamp = s.dueStamp c) :
    (s.takeMainBoundary c).2 = some (.complete (s.dueStamp c) f.summary f.signature) ∧ ((s.takeMainBoundary c).1.ch c).align.mainOffer = .fresh ∧
      ((s.takeMainBoundary c).1.ch c).align.mainHeld = some f ∧ ((s.takeMainBoundary c).1.ch c).align.mainHeldCount = 0 ∧
      ((s.takeMainBoundary c).1.ch c).slots.tracker = (s.ch c).slots.tracker := by
  obtain ⟨hheld, hcount, hoffer, -⟩ := heldChannel_align s c f
  rw [takeMainBoundary_held h hslot hf, pastMain_held_ch hslot hf]
  exact ⟨rfl, hoffer, hheld, hcount, heldChannel_tracker s c f⟩

theorem not_completeAt (h : ∀ f n, (s.ch c).slots.at .main q = .complete f n → f.stamp ≠ q) : ¬(s.ch c).completeAt .main q :=
  fun ⟨f, n, hslot, hf⟩ => h f n hslot hf

theorem released_missing (hle : ∀ key, s.counter key ≤ counterMax) (h : 1 ≤ s.pastFloor c)
    (hm : ∀ f n, (s.ch c).slots.at .main (s.dueStamp c) = .complete f n → f.stamp ≠ s.dueStamp c) :
    (s.takeMainBoundary c).2 = some (.missing (s.dueStamp c)) ∧ ((s.takeMainBoundary c).1.ch c).align.mainHeld = (s.ch c).align.mainHeld ∧
      ((s.takeMainBoundary c).1.ch c).align.mainHeldCount = min ((s.ch c).align.mainHeldCount + 1) 255 ∧
      ((s.takeMainBoundary c).1.ch c).align.mainOffer =
        heldOffer (s.ch c).align.mainHeld (min ((s.ch c).align.mainHeldCount + 1) 255) (s.ch c).settings.mainHoldLimit ∧
      (s.takeMainBoundary c).1.counter (.chan c .mainMissing) = satAdd (s.counter (.chan c .mainMissing)) 1 := by
  have hmiss := not_completeAt hm
  obtain ⟨hheld, hcount, hoffer, -⟩ := missedChannel_align s c
  rw [takeMainBoundary_missed h hmiss, pastMain_missed_ch hmiss]
  dsimp only
  rw [missed_counter hle hmiss, if_neg (by simp), if_pos rfl]
  exact ⟨rfl, hheld, hcount, hoffer, rfl⟩

/-- R34: what the late tracker holds, and counts as abandoned, after a release that is missing. -/
theorem released_tracked (hle : ∀ key, s.counter key ≤ counterMax) (h : 1 ≤ s.pastFloor c)
    (hm : ∀ f n, (s.ch c).slots.at .main (s.dueStamp c) = .complete f n → f.stamp ≠ s.dueStamp c) {k : Option Tracker}
    (hk : trackerFor ((s.skippedMain c).slots.at .main (s.dueStamp c)) (s.dueStamp c) = k) :
    ((s.takeMainBoundary c).1.ch c).slots.tracker = k.or (s.ch c).slots.tracker ∧
      (s.takeMainBoundary c).1.counter (.chan c .lateAbandoned) =
        satAdd (s.counter (.chan c .lateAbandoned)) (if k.isSome = true ∧ (s.ch c).slots.tracker ≠ none then 1 else 0) := by
  have hmiss := not_completeAt hm
  rw [takeMainBoundary_missed h hmiss, pastMain_missed_ch hmiss, missedChannel_tracker, hk]
  dsimp only
  rw [missed_counter hle hmiss, if_neg (by simp), if_neg (by simp), hk]
  refine ⟨rfl, ?_⟩
  by_cases ht : k.isSome = true ∧ (s.ch c).slots.tracker ≠ none
  · rw [if_pos ht, if_pos ⟨rfl, ht.1, Option.isSome_iff_ne_none.2 ht.2⟩]
  · rw [if_neg ht, if_neg fun e => ht ⟨e.2.1, Option.isSome_iff_ne_none.1 e.2.2⟩, if_neg (by simp), satAdd_zero (hle _)]

theorem skipped_stamp_ne (h : ((s.ch c).slots.at .main (s.dueStamp c)).stamp ≠ some (s.dueStamp c)) :
    ((s.skippedMain c).slots.at .main (s.dueStamp c)).stamp ≠ some (s.dueStamp c) := by
  rcases skipped_slot s c with e | ⟨e, -⟩ <;> rw [e]
  · exact h
  · nofun

/-- R34: a tracker's count of abandoned records, once a record takes its place. -/
theorem abandoned_count (k : Option Tracker) (kept : Tracker) : (if (some kept).isSome = true ∧ k ≠ none then 1 else 0) = if k = none then 0 else 1 := by
  cases k <;> rfl

theorem released_repeat (h : s.pastFloor c ≤ 0) :
    (s.takeMainBoundary c).2 = none ∧ ((s.takeMainBoundary c).1.ch c).align.mainHeld = (s.ch c).align.mainHeld ∧
      ((s.takeMainBoundary c).1.ch c).align.mainHeldCount = (s.ch c).align.mainHeldCount ∧
      ((s.takeMainBoundary c).1.ch c).align.mainFloor = (s.ch c).align.mainFloor ∧
      ((s.takeMainBoundary c).1.ch c).align.mainOffer = (if (s.ch c).align.mainHeld.isSome then .held else .none) ∧
      (s.takeMainBoundary c).1.counter (.chan c .repeats) = satAdd (s.counter (.chan c .repeats)) 1 := by
  obtain ⟨hheld, hcount, hfloor, hoffer⟩ := repeatChannel_align s c fun p => !s.inMainWindow c p
  have hrepeats : ((s.repeatMain c).windowMain c).counter (.chan c .repeats) = satAdd (s.counter (.chan c .repeats)) 1 := by
    rw [windowMain_counter, if_neg (by simp), repeatMain_counter, if_pos rfl]
  rw [takeMainBoundary_eq_repeat h]
  dsimp only
  rw [repeat_boundary_ch, hrepeats]
  exact ⟨rfl, hheld, hcount, hfloor, hoffer, rfl⟩

/-- R46: the slots counted as discards are those outside the window that were neither released nor skipped. -/
theorem released_discards (hle : ∀ key, s.counter key ≤ counterMax) (hu : UnitInv (s.ch c)) :
    (s.takeMainBoundary c).1.counter (.chan c .windowDiscards) =
      satAdd (s.counter (.chan c .windowDiscards)) (holding (s.ch c).slots.main fun p =>
        !s.inMainWindow c p && (decide (s.pastFloor c ≤ 0) ||
          (p != s.dueStamp c && !decide (0 < s.signed p (s.ch c).align.mainFloor ∧ s.signed p (s.ch c).align.mainFloor < s.pastFloor c)))) := by
  by_cases hg : s.pastFloor c ≤ 0
  · rw [takeMainBoundary_eq_repeat hg, repeat_discards hu]
    refine congrArg (satAdd _) (holding_pred fun p => ?_)
    rw [decide_eq_true hg, Bool.true_or, Bool.and_true]
  · have hlost : ∀ p, (!s.inMainWindow c p && !(s.between (s.dueStamp c) (s.ch c).align.mainFloor p || p == s.dueStamp c)) =
        (!s.inMainWindow c p && (decide (s.pastFloor c ≤ 0) ||
          (p != s.dueStamp c && !decide (0 < s.signed p (s.ch c).align.mainFloor ∧ s.signed p (s.ch c).align.mainFloor < s.pastFloor c)))) := fun p => by
      have hbetween : s.between (s.dueStamp c) (s.ch c).align.mainFloor p =
          decide (0 < s.signed p (s.ch c).align.mainFloor ∧ s.signed p (s.ch c).align.mainFloor < s.pastFloor c) := (Bool.decide_and ..).symm
      rw [decide_eq_false hg, Bool.false_or, hbetween, Bool.not_or, bne, Bool.and_comm (!(p == s.dueStamp c))]
    by_cases hm : (s.ch c).completeAt .main (s.dueStamp c)
    · obtain ⟨f, n, hslot, hf⟩ := hm
      rw [takeMainBoundary_held (Int.not_le.1 hg) hslot hf]
      dsimp only
      rw [held_counter hle hslot hf, if_pos rfl, held_discards hu (by rw [hslot, stamp_complete, hf]), holding_pred hlost]
    · rw [takeMainBoundary_missed (Int.not_le.1 hg) hm]
      dsimp only
      rw [missed_counter hle hm, if_pos rfl, holding_pred hlost]

/-- What a boundary leaves of a channel's main path, clause by clause. -/
theorem mainPath (hinv : Inv s) (c : Chan) :
    let q := s.dueStamp c
    let g := s.signed q (s.ch c).align.mainFloor
    let r := s.takeMainBoundary c
    let x := (s.ch c).align
    let y := (r.1.ch c).align
    let held := min (x.mainHeldCount + 1) 255
    (1 ≤ g → r.1.counter (.chan c .skippedFrames) = min (s.counter (.chan c .skippedFrames) + (g - 1).toNat) 4294967295 ∧ y.mainFloor = q) ∧
    (1 ≤ g → ∀ f n, (s.ch c).slots.at .main q = .complete f n → f.stamp = q →
      r.2 = some (.complete q f.summary f.signature) ∧ y.mainOffer = .fresh ∧ y.mainHeld = some f ∧ y.mainHeldCount = 0 ∧
        (r.1.ch c).slots.tracker = (s.ch c).slots.tracker) ∧
    (1 ≤ g → (∀ f n, (s.ch c).slots.at .main q = .complete f n → f.stamp ≠ q) →
      r.2 = some (.missing q) ∧ y.mainHeld = x.mainHeld ∧ y.mainHeldCount = held ∧
        y.mainOffer = (if x.mainHeld.isSome ∧ held ≤ (s.ch c).settings.mainHoldLimit then .held else .none) ∧
        r.1.counter (.chan c .mainMissing) = min (s.counter (.chan c .mainMissing) + 1) 4294967295) ∧
    (1 ≤ g → ∀ k, (s.ch c).slots.at .main q = .filling k → k.stamp = q →
      (r.1.ch c).slots.tracker =
        some { stamp := q, vc := k.vc, ac := k.ac, summary := k.summary.isSome, video := k.video.map Piece.index, audio := k.audio.map Piece.index } ∧
      r.1.counter (.chan c .lateAbandoned) =
        min (s.counter (.chan c .lateAbandoned) + (if (s.ch c).slots.tracker = none then 0 else 1)) 4294967295) ∧
    (1 ≤ g → ((s.ch c).slots.at .main q).stamp ≠ some q →
      (r.1.ch c).slots.tracker = some { stamp := q, vc := none, ac := none, summary := false, video := [], audio := [] } ∧
      r.1.counter (.chan c .lateAbandoned) =
        min (s.counter (.chan c .lateAbandoned) + (if (s.ch c).slots.tracker = none then 0 else 1)) 4294967295 ∧
      ∀ p, ((s.ch c).slots.at .main q).stamp = some p → s.inMainWindow c p = true → (r.1.ch c).slots.at .main q = (s.ch c).slots.at .main q) ∧
    (1 ≤ g → (s.ch c).slots.at .main q = .corrupt q →
      (r.1.ch c).slots.tracker = (s.ch c).slots.tracker ∧ r.1.counter (.chan c .lateAbandoned) = s.counter (.chan c .lateAbandoned)) := by
  have hle := hinv.counters
  intro q g r x y held
  refine ⟨fun h => released_past hle h, fun h f n hslot hf => released_complete h hslot hf, fun h hm => released_missing hle h hm,
    fun h k hslot hk => ?_, fun h hne => ?_, fun h hslot => ?_⟩
  · have hstamp : ((s.ch c).slots.at .main (s.dueStamp c)).stamp = some (s.dueStamp c) := by rw [hslot, stamp_filling, hk]
    have hm : ∀ f n, (s.ch c).slots.at .main (s.dueStamp c) = .complete f n → f.stamp ≠ s.dueStamp c := fun f n e => by
      rw [hslot] at e
      cases e
    have htracked := released_tracked hle h hm (k := some _) (by rw [skipped_slot_kept hstamp, hslot]; exact if_pos hk)
    rw [abandoned_count] at htracked
    exact htracked
  · have hm : ∀ f n, (s.ch c).slots.at .main (s.dueStamp c) = .complete f n → f.stamp ≠ s.dueStamp c := fun f n e hf => hne (by rw [e, stamp_complete, hf])
    have htracked := released_tracked hle h hm (k := some _) (trackerFor_other (skipped_stamp_ne hne))
    rw [abandoned_count] at htracked
    refine ⟨htracked.1, htracked.2, fun p hp hw => ?_⟩
    have hmain := (mainTaken s c).main (mainSlotOf (s.dueStamp c))
    have hp' : (s.ch c).slots.main[(mainSlotOf (s.dueStamp c)).val].stamp = some p := hp
    rw [holds_of_stamp hp', hw] at hmain
    exact hmain
  · have hstamp : ((s.ch c).slots.at .main (s.dueStamp c)).stamp = some (s.dueStamp c) := by rw [hslot, stamp_corrupt]
    have hm : ∀ f n, (s.ch c).slots.at .main (s.dueStamp c) = .complete f n → f.stamp ≠ s.dueStamp c := fun f n e => by
      rw [hslot] at e
      cases e
    have htracked := released_tracked hle h hm (k := none) (by rw [skipped_slot_kept hstamp, hslot]; exact if_pos rfl)
    refine ⟨htracked.1, htracked.2.trans ?_⟩
    rw [if_neg (by simp)]
    exact satAdd_zero (hle _)

end Sys2Proof.Machine

/-! PROOFS. The standby path of a channel at a boundary (R41, R42, R52, R53). -/

namespace Sys2Proof.Machine

-- Each elaboration thread takes a large stack, and the text is compiled as one file under a memory limit: one thread at a time.
set_option Elab.async false

variable {s t u : State} {c : Chan} {x y : Channel} {q n : Nat} {f : Frame}

/-! ## Standby slots freed by their stamps (R42) -/

/-- A channel with its standby slots that hold such a stamp FREE, and their units free. -/
def Channel.freedStandby (x : Channel) (pred : Nat → Bool) : Channel :=
  { x with
    slots := { x.slots with standby := freeHolding standbyIndices pred x.slots.standby }
    align := { x.align with freeUnits := x.align.freeUnits + countHolding standbyIndices pred x.slots.standby } }

theorem freeStandby_ch (s : State) (c : Chan) (pred : Nat → Bool) : (s.freeStandby c pred).ch c = (s.ch c).freedStandby pred := State.ch_modCh_same ..

theorem freedStandby_standby (x : Channel) (pred : Nat → Bool) : Freed pred x.slots.standby (x.freedStandby pred).slots.standby :=
  freeHolding_freed standbyIndices_eq pred x.slots.standby

theorem freedStandby_units (h : UnitInv x) (pred : Nat → Bool) : UnitInv (x.freedStandby pred) := h.freeStandby pred

theorem freedStandby_never {pred : Nat → Bool} (h : ∀ p, pred p = false) (x : Channel) : x.freedStandby pred = x := by
  have hnone : ∀ y : Slot, y.holds pred = false := fun y => by
    unfold Slot.holds
    cases y.stamp with
    | none => rfl
    | some p => exact h p
  have hstandby : freeHolding standbyIndices pred x.slots.standby = x.slots.standby :=
    Freed.unique (freeHolding_freed standbyIndices_eq pred _) fun j => by rw [hnone]; rfl
  have hcount : countHolding standbyIndices pred x.slots.standby = 0 := by
    unfold countHolding
    rw [List.filter_eq_nil_iff.2 fun i _ => by rw [hnone]; simp]
    rfl
  unfold Channel.freedStandby
  rw [hstandby, hcount]
  rfl

section
variable (x : Channel) (pred : Nat → Bool)

@[simp] theorem freedStandby_main : (x.freedStandby pred).slots.main = x.slots.main := by unfold Channel.freedStandby; dsimp only
@[simp] theorem freedStandby_mainHeld : (x.freedStandby pred).align.mainHeld = x.align.mainHeld := by unfold Channel.freedStandby; dsimp only
@[simp] theorem freedStandby_standbyHeld : (x.freedStandby pred).align.standbyHeld = x.align.standbyHeld := by unfold Channel.freedStandby; dsimp only
@[simp] theorem freedStandby_standbyHeldCount : (x.freedStandby pred).align.standbyHeldCount = x.align.standbyHeldCount := by
  unfold Channel.freedStandby; dsimp only
@[simp] theorem freedStandby_standbyOffer : (x.freedStandby pred).align.standbyOffer = x.align.standbyOffer := by unfold Channel.freedStandby; dsimp only
@[simp] theorem freedStandby_standbyFloor : (x.freedStandby pred).align.standbyFloor = x.align.standbyFloor := by unfold Channel.freedStandby; dsimp only
@[simp] theorem freedStandby_settings : (x.freedStandby pred).settings = x.settings := by unfold Channel.freedStandby; dsimp only

end

/-! ## The channel after the boundary -/

/-- What every boundary leaves of the slots and the units of a channel's standby path. -/
structure StandbyTaken (s : State) (c : Chan) (y : Channel) : Prop where
  standby : Freed (fun p => !s.inStandbyWindow p) (s.ch c).slots.standby y.slots.standby
  main : y.slots.main = (s.ch c).slots.main
  mainHeld : y.align.mainHeld = (s.ch c).align.mainHeld
  held : y.align.standbyHeld = (s.ch c).align.standbyHeld ∨ y.align.standbyHeld.isSome = true
  units : UnitInv (s.ch c) → UnitInv y

theorem StandbyTaken.freeUnits (h : StandbyTaken s c y) (hu : UnitInv (s.ch c)) :
    y.align.freeUnits + (if y.align.standbyHeld.isSome ∧ (s.ch c).align.standbyHeld = none then 1 else 0) =
      (s.ch c).align.freeUnits + holding (s.ch c).slots.standby fun p => !s.inStandbyWindow p := by
  have hx := hu.units
  have hy := (h.units hu).units
  have hslots := h.standby.inUse rfl
  rw [unitsHeld_eq] at hx hy
  unfold Align.held at hx hy
  rw [h.main, h.mainHeld] at hy
  have hheld : flagNat y.align.standbyHeld.isSome = flagNat (s.ch c).align.standbyHeld.isSome +
      if y.align.standbyHeld.isSome = true ∧ (s.ch c).align.standbyHeld = none then 1 else 0 := by
    rcases h.held with e | e
    · rw [e]
      cases (s.ch c).align.standbyHeld <;> rfl
    · rw [e]
      cases (s.ch c).align.standbyHeld <;> rfl
  omega

theorem StandbyTaken.slot (h : StandbyTaken s c y) (i : Fin 4) :
    y.slots.standby[i.val] =
      match (s.ch c).slots.standby[i.val].stamp with
      | none => .free
      | some p => if s.inStandbyWindow p = true then (s.ch c).slots.standby[i.val] else .free := by
  rw [h.standby i]
  cases hs : (s.ch c).slots.standby[i.val].stamp with
  | none => rw [holds_of_none hs, stamp_none_iff.1 hs] <;> rfl
  | some p =>
    rw [holds_of_stamp hs]
    dsimp only
    cases s.inStandbyWindow p <;> rfl

theorem StandbyTaken.inside (h : StandbyTaken s c y) (i : Fin 4) {p : Nat} (hp : y.slots.standby[i.val].stamp = some p) : s.inStandbyWindow p = true := by
  rw [h.standby i] at hp
  cases hs : (s.ch c).slots.standby[i.val].stamp with
  | none =>
    rw [holds_of_none hs, if_neg (by simp), hs] at hp
    cases hp
  | some p' =>
    rw [holds_of_stamp hs] at hp
    cases hw : s.inStandbyWindow p' with
    | true =>
      rw [hw, if_neg (by simp), hs] at hp
      rw [← Option.some.inj hp]
      exact hw
    | false =>
      rw [hw] at hp
      cases hp

/-- R53: a boundary that does not pass the floor offers the held frame again. -/
def Channel.repeatedStandby (x : Channel) : Channel :=
  { x with align := { x.align with standbyOffer := if x.align.standbyHeld.isSome then .held else .none } }

/-- R53: a channel whose standby stamp is released missing. -/
def Channel.missedStandby (x : Channel) (q : Nat) : Channel :=
  { x.freedStandby (fun p => p == q) with
    align :=
      { (x.freedStandby fun p => p == q).align with
        standbyHeldCount := min (x.align.standbyHeldCount + 1) 255
        standbyOffer := heldOffer x.align.standbyHeld (min (x.align.standbyHeldCount + 1) 255) x.settings.standbyHoldLimit } }

/-- R53: a channel whose standby stamp is released COMPLETE. -/
def Channel.heldStandbyAt (x : Channel) (q : Nat) (f : Frame) : Channel :=
  { x with
    slots := x.slots.put .standby q .free
    align :=
      { x.align with
        standbyHeld := some f
        standbyHeldCount := 0
        standbyOffer := .fresh
        freeUnits := x.align.freeUnits + (if x.align.standbyHeld.isSome then 1 else 0) } }

/-- The standby release floor moved to H. -/
def Channel.flooredStandby (x : Channel) (q : Nat) : Channel := { x with align := { x.align with standbyFloor := q } }

theorem missedStandby_slots (x : Channel) (q : Nat) : (x.missedStandby q).slots = (x.freedStandby fun p => p == q).slots := by
  unfold Channel.missedStandby; dsimp only

theorem missedStandby_align (x : Channel) (q : Nat) :
    (x.missedStandby q).align =
      { (x.freedStandby fun p => p == q).align with
        standbyHeldCount := min (x.align.standbyHeldCount + 1) 255
        standbyOffer := heldOffer x.align.standbyHeld (min (x.align.standbyHeldCount + 1) 255) x.settings.standbyHoldLimit } := by
  unfold Channel.missedStandby; dsimp only

theorem heldStandbyAt_slots (x : Channel) (q : Nat) (f : Frame) : (x.heldStandbyAt q f).slots = x.slots.put .standby q .free := by
  unfold Channel.heldStandbyAt; dsimp only

theorem heldStandbyAt_align (x : Channel) (q : Nat) (f : Frame) :
    (x.heldStandbyAt q f).align =
      { x.align with
        standbyHeld := some f, standbyHeldCount := 0, standbyOffer := .fresh, freeUnits := x.align.freeUnits + (if x.align.standbyHeld.isSome then 1 else 0) } := by
  unfold Channel.heldStandbyAt; dsimp only

theorem flooredStandby_slots (x : Channel) (q : Nat) : (x.flooredStandby q).slots = x.slots := rfl

theorem flooredStandby_align (x : Channel) (q : Nat) : (x.flooredStandby q).align = { x.align with standbyFloor := q } := rfl

theorem flooredStandby_units (h : UnitInv x) (q : Nat) : UnitInv (x.flooredStandby q) := ⟨h.units, h.mainPlaces, h.standbyPlaces, h.out⟩

theorem repeatedStandby_units (h : UnitInv x) : UnitInv x.repeatedStandby := ⟨h.units, h.mainPlaces, h.standbyPlaces, h.out⟩

theorem missedStandby_units (h : UnitInv x) (q : Nat) : UnitInv (x.missedStandby q) := by
  have hfreed := freedStandby_units h fun p => p == q
  unfold Channel.missedStandby
  generalize x.freedStandby (fun p => p == q) = y at hfreed ⊢
  exact ⟨hfreed.units, hfreed.mainPlaces, hfreed.standbyPlaces, hfreed.out⟩

theorem heldStandbyAt_units (h : UnitInv x) (hin : (x.slots.at .standby q).stamp.isSome = true) (f : Frame) : UnitInv (x.heldStandbyAt q f) := by
  have hold := h.hold hin fun a =>
    { a with standbyHeld := some f, standbyHeldCount := 0, standbyOffer := .fresh, freeUnits := a.freeUnits + (if a.standbyHeld.isSome then 1 else 0) }
  refine hold ?_ ?_ <;> unfold Align.held <;> cases x.align.standbyHeld <;> simp <;> omega

/-! ## The parts of a boundary -/

/-- A channel with the standby stamps between its floor and H skipped. -/
def State.skippedStandby (s : State) (c : Chan) : Channel := (s.ch c).freedStandby (s.between s.time.h (s.ch c).align.standbyFloor)

theorem skipStandby_ch (s : State) (c : Chan) : (s.skipStandby c).ch c = s.skippedStandby c := by
  unfold State.skipStandby State.skippedStandby
  split
  · rename_i hg
    refine (freedStandby_never (fun p => ?_) _).symm
    unfold State.between
    rw [hg, Bool.and_eq_false_iff, decide_eq_false_iff_not, decide_eq_false_iff_not]
    omega
  · exact freeStandby_ch ..

theorem skipStandby_counter (s : State) (c : Chan) (key : CounterKey) : (s.skipStandby c).counter key = s.counter key := by
  unfold State.skipStandby State.freeStandby
  split
  · rfl
  · exact State.counter_modCh ..

theorem skippedStandby_freed (s : State) (c : Chan) :
    Freed (s.between s.time.h (s.ch c).align.standbyFloor) (s.ch c).slots.standby (s.skippedStandby c).slots.standby := freedStandby_standby (s.ch c) _

theorem skippedStandby_units (h : UnitInv (s.ch c)) : UnitInv (s.skippedStandby c) := freedStandby_units h _

section
variable (s : State) (c : Chan)

@[simp] theorem skippedStandby_main : (s.skippedStandby c).slots.main = (s.ch c).slots.main := freedStandby_main (s.ch c) _
@[simp] theorem skippedStandby_mainHeld : (s.skippedStandby c).align.mainHeld = (s.ch c).align.mainHeld := freedStandby_mainHeld (s.ch c) _
@[simp] theorem skippedStandby_standbyHeld : (s.skippedStandby c).align.standbyHeld = (s.ch c).align.standbyHeld := freedStandby_standbyHeld (s.ch c) _
@[simp] theorem skippedStandby_standbyHeldCount : (s.skippedStandby c).align.standbyHeldCount = (s.ch c).align.standbyHeldCount :=
  freedStandby_standbyHeldCount (s.ch c) _
@[simp] theorem skippedStandby_settings : (s.skippedStandby c).settings = (s.ch c).settings := freedStandby_settings (s.ch c) _

end

theorem releaseStandby_complete (hslot : (s.ch c).slots.at .standby q = .complete f n) (hf : f.stamp = q) :
    s.releaseStandby c q = (s.modCh c fun y => y.heldStandbyAt q f).startCopies c .standby := by
  unfold State.releaseStandby
  rw [hslot]
  exact if_pos hf

/-- R53: a standby stamp released missing. -/
def State.missStandby (s : State) (c : Chan) (q : Nat) : State :=
  ((s.bumpCh c .standbyMissing).freeStandby c fun p => p == q).modAlign c fun x =>
    { x with
      standbyHeldCount := min (x.standbyHeldCount + 1) 255
      standbyOffer := heldOffer x.standbyHeld (min (x.standbyHeldCount + 1) 255)
        (((s.bumpCh c .standbyMissing).freeStandby c fun p => p == q).ch c).settings.standbyHoldLimit }

theorem releaseStandby_missing (h : ¬(s.ch c).completeAt .standby q) : s.releaseStandby c q = s.missStandby c q := by
  unfold State.releaseStandby State.missStandby
  dsimp only
  cases hslot : (s.ch c).slots.at .standby q with
  | complete f n => exact if_neg fun hf => h ⟨f, n, hslot, hf⟩
  | _ => rfl

theorem missStandby_ch (s : State) (c : Chan) (q : Nat) : (s.missStandby c q).ch c = (s.ch c).missedStandby q := by
  unfold State.missStandby
  rw [State.ch_modAlign_same, freeStandby_ch]
  rfl

theorem missStandby_counter (s : State) (c : Chan) (q : Nat) (key : CounterKey) :
    (s.missStandby c q).counter key = if key = .chan c .standbyMissing then satAdd (s.counter key) 1 else s.counter key := by
  unfold State.missStandby State.freeStandby
  rw [State.counter_modAlign, State.counter_modCh, State.counter_bumpCh]

theorem windowStandby_ch (t : State) (c : Chan) : (t.windowStandby c).ch c = (t.ch c).freedStandby fun p => !t.inStandbyWindow p := freeStandby_ch ..

theorem windowStandby_counter (t : State) (c : Chan) (key : CounterKey) :
    (t.windowStandby c).counter key =
      if key = .chan c .standbyDiscards then satAdd (t.counter key) (holding (t.ch c).slots.standby fun p => !t.inStandbyWindow p) else t.counter key := by
  unfold State.windowStandby State.freeStandby
  rw [State.counter_modCh, State.counter_bumpBy, countHolding_eq standbyIndices_eq]

theorem inStandbyWindow_congr (htime : t.time = s.time) : t.inStandbyWindow = s.inStandbyWindow := by
  funext p
  unfold State.inStandbyWindow State.signed State.cycle
  rw [htime]

end Sys2Proof.Machine

/-! PROOFS. What a boundary leaves of a channel's standby path, and of both paths (R27, R34, R41, R42, R44 to R46, R52, R53). -/

namespace Sys2Proof.Machine

-- Each elaboration thread takes a large stack, and the text is compiled as one file under a memory limit: one thread at a time.
set_option Elab.async false

variable {s t u : State} {c : Chan} {x y : Channel} {q n : Nat} {f : Frame}

/-! ## The three cases of a boundary -/

/-- A boundary on the standby path from the part `v` in which H has been judged against the floor. -/
def State.windowed (s v : State) (c : Chan) : Prop :=
  v.time = s.time ∧ s.takeStandbyBoundary c false = v.windowStandby c

theorem windowed_ch {v : State} (h : s.windowed v c) : (s.takeStandbyBoundary c false).ch c = (v.ch c).freedStandby fun p => !s.inStandbyWindow p := by
  rw [h.2, windowStandby_ch, inStandbyWindow_congr h.1]

theorem windowed_counter {v : State} (h : s.windowed v c) (key : CounterKey) :
    (s.takeStandbyBoundary c false).counter key =
      if key = .chan c .standbyDiscards then satAdd (v.counter key) (holding (v.ch c).slots.standby fun p => !s.inStandbyWindow p) else v.counter key := by
  rw [h.2, windowStandby_counter, inStandbyWindow_congr h.1]

/-- How far H is past the standby floor of a channel. -/
def State.pastStandbyFloor (s : State) (c : Chan) : Int := s.signed s.time.h (s.ch c).align.standbyFloor

theorem windowed_repeat (h : s.pastStandbyFloor c ≤ 0) :
    s.windowed (s.modAlign c fun x => { x with standbyOffer := if x.standbyHeld.isSome then .held else .none }) c :=
  ⟨rfl, takeStandbyBoundary_repeat h⟩

/-- The part once H is released on the standby path, its floor moved. -/
def State.releasedStandby (s : State) (c : Chan) : State :=
  ((s.skipStandby c).releaseStandby c s.time.h).modAlign c fun x => { x with standbyFloor := s.time.h }

theorem releaseStandby_time (s : State) (c : Chan) (q : Nat) : (s.releaseStandby c q).time = s.time := by
  by_cases hm : (s.ch c).completeAt .standby q
  · obtain ⟨f, n, hslot, hf⟩ := hm
    rw [releaseStandby_complete hslot hf]
    rfl
  · rw [releaseStandby_missing hm]
    rfl

theorem windowed_past (h : 1 ≤ s.pastStandbyFloor c) : s.windowed (s.releasedStandby c) c := by
  refine ⟨?_, takeStandbyBoundary_past (by unfold State.pastStandbyFloor at h; omega)⟩
  exact (releaseStandby_time (s.skipStandby c) c s.time.h).trans (skipStandby_sameSlates s c).time

theorem releasedStandby_missed (hm : ¬(s.ch c).completeAt .standby s.time.h) :
    (s.releasedStandby c).ch c = ((s.skippedStandby c).missedStandby s.time.h).flooredStandby s.time.h ∧
      ∀ key, (s.releasedStandby c).counter key = if key = .chan c .standbyMissing then satAdd (s.counter key) 1 else s.counter key := by
  have hskipped : ¬((s.skipStandby c).ch c).completeAt .standby s.time.h := fun hc => hm ((completeAt_skipStandby s c).1 hc)
  unfold State.releasedStandby
  rw [releaseStandby_missing hskipped, State.ch_modAlign_same, missStandby_ch, skipStandby_ch]
  refine ⟨rfl, fun key => ?_⟩
  rw [State.counter_modAlign, missStandby_counter, skipStandby_counter]

/-- The slot of H as the skip leaves it, when it holds H. -/
theorem skippedStandby_kept (h : ((s.ch c).slots.at .standby s.time.h).stamp = some s.time.h) :
    (s.skippedStandby c).slots.at .standby s.time.h = (s.ch c).slots.at .standby s.time.h := by
  have hslot := skippedStandby_freed s c (standbySlotOf s.time.h)
  have hstamp : (s.ch c).slots.standby[(standbySlotOf s.time.h).val].stamp = some s.time.h := h
  rw [holds_of_stamp hstamp, between_self] at hslot
  exact hslot

theorem releasedStandby_held (hslot : (s.ch c).slots.at .standby s.time.h = .complete f n) (hf : f.stamp = s.time.h) :
    (s.releasedStandby c).ch c = ((s.skippedStandby c).heldStandbyAt s.time.h f).flooredStandby s.time.h ∧
      ∀ key, (s.releasedStandby c).counter key = s.counter key := by
  have hstamp : ((s.ch c).slots.at .standby s.time.h).stamp = some s.time.h := by rw [hslot, stamp_complete, hf]
  have hskipped : ((s.skipStandby c).ch c).slots.at .standby s.time.h = .complete f n := by rw [skipStandby_ch, skippedStandby_kept hstamp, hslot]
  unfold State.releasedStandby
  rw [releaseStandby_complete hskipped hf, State.ch_modAlign_same, State.startCopies, State.ch_mapSlates, State.ch_modCh_same, skipStandby_ch]
  refine ⟨rfl, fun key => ?_⟩
  rw [State.counter_modAlign, State.counter_mapSlates, State.counter_modCh, skipStandby_counter]

/-! ## Slots and units -/

theorem repeatStandby_taken (s : State) (c : Chan) : StandbyTaken s c ((s.ch c).repeatedStandby.freedStandby fun p => !s.inStandbyWindow p) := by
  refine ⟨freedStandby_standby (s.ch c).repeatedStandby _, ?_, ?_, .inl ?_, fun hu => freedStandby_units (repeatedStandby_units hu) _⟩
  · rw [freedStandby_main]
    rfl
  · rw [freedStandby_mainHeld]
    rfl
  · rw [freedStandby_standbyHeld]
    rfl

/-- The stamps that a boundary past the floor frees: those skipped, H, and the others outside the window. -/
theorem freedStandby_outside (s : State) (floor p : Nat) :
    ((s.between s.time.h floor p || p == s.time.h) || !s.inStandbyWindow p) = !s.inStandbyWindow p := by
  by_cases hp : p = s.time.h
  · rw [hp, h_outside]
    simp
  · rw [beq_eq_false_iff_ne.2 hp, Bool.or_false]
    cases hb : s.between s.time.h floor p with
    | false => rfl
    | true =>
      rw [skippedStandby_outside hb]
      rfl

theorem missedStandby_freed (s : State) (c : Chan) :
    Freed (fun p => s.between s.time.h (s.ch c).align.standbyFloor p || p == s.time.h) (s.ch c).slots.standby
      ((s.skippedStandby c).missedStandby s.time.h).slots.standby := by
  rw [missedStandby_slots]
  exact (skippedStandby_freed s c).trans (freedStandby_standby (s.skippedStandby c) _)

/-- The channel after a boundary that released H missing. -/
def State.missedStandbyChannel (s : State) (c : Chan) : Channel :=
  (((s.skippedStandby c).missedStandby s.time.h).flooredStandby s.time.h).freedStandby fun p => !s.inStandbyWindow p

/-- The channel after a boundary that released H COMPLETE. -/
def State.heldStandbyChannel (s : State) (c : Chan) (f : Frame) : Channel :=
  (((s.skippedStandby c).heldStandbyAt s.time.h f).flooredStandby s.time.h).freedStandby fun p => !s.inStandbyWindow p

theorem missedStandby_taken (s : State) (c : Chan) : StandbyTaken s c (s.missedStandbyChannel c) := by
  refine ⟨?_, ?_, ?_, .inl ?_, fun hu => ?_⟩ <;> unfold State.missedStandbyChannel
  · have hwindow := freedStandby_standby (((s.skippedStandby c).missedStandby s.time.h).flooredStandby s.time.h) fun p => !s.inStandbyWindow p
    rw [flooredStandby_slots] at hwindow
    exact ((missedStandby_freed s c).trans hwindow).congr (freedStandby_outside s _)
  · rw [freedStandby_main, flooredStandby_slots, missedStandby_slots, freedStandby_main, skippedStandby_main]
  · rw [freedStandby_mainHeld, flooredStandby_align, missedStandby_align]
    dsimp only
    rw [freedStandby_mainHeld, skippedStandby_mainHeld]
  · rw [freedStandby_standbyHeld, flooredStandby_align, missedStandby_align]
    dsimp only
    rw [freedStandby_standbyHeld, skippedStandby_standbyHeld]
  · exact freedStandby_units (flooredStandby_units (missedStandby_units (skippedStandby_units hu) _) _) _

theorem heldStandby_slots (s : State) (c : Chan) (f : Frame) :
    ((s.skippedStandby c).heldStandbyAt s.time.h f).slots.standby = vmod (s.skippedStandby c).slots.standby (standbySlotOf s.time.h) fun _ => .free := by
  rw [heldStandbyAt_slots]
  rfl

theorem heldStandby_taken (hstamp : ((s.ch c).slots.at .standby s.time.h).stamp = some s.time.h) (f : Frame) : StandbyTaken s c (s.heldStandbyChannel c f) := by
  have hskipped : ((s.skippedStandby c).slots.at .standby s.time.h).stamp = some s.time.h := by rw [skippedStandby_kept hstamp, hstamp]
  refine ⟨?_, ?_, ?_, .inr ?_, fun hu => ?_⟩ <;> unfold State.heldStandbyChannel
  · have hwindow := freedStandby_standby (((s.skippedStandby c).heldStandbyAt s.time.h f).flooredStandby s.time.h) fun p => !s.inStandbyWindow p
    rw [flooredStandby_slots, heldStandby_slots] at hwindow
    have hq : (s.skippedStandby c).slots.standby[(standbySlotOf s.time.h).val].stamp = some s.time.h := hskipped
    refine ((skippedStandby_freed s c).trans (hwindow.of_vmod hq (by rw [h_outside]; rfl))).congr fun p => ?_
    cases hb : s.between s.time.h (s.ch c).align.standbyFloor p with
    | false => rw [Bool.false_or]
    | true =>
      rw [skippedStandby_outside hb]
      rfl
  · rw [freedStandby_main, flooredStandby_slots, heldStandbyAt_slots, Slots.put]
    dsimp only
    rw [skippedStandby_main]
  · rw [freedStandby_mainHeld, flooredStandby_align, heldStandbyAt_align]
    dsimp only
    rw [skippedStandby_mainHeld]
  · rw [freedStandby_standbyHeld, flooredStandby_align, heldStandbyAt_align]
    dsimp only
    rfl
  · exact freedStandby_units (flooredStandby_units (heldStandbyAt_units (skippedStandby_units hu) (by rw [hskipped]; rfl) f) _) _

theorem takeStandby_repeat_ch (h : s.pastStandbyFloor c ≤ 0) :
    (s.takeStandbyBoundary c false).ch c = (s.ch c).repeatedStandby.freedStandby fun p => !s.inStandbyWindow p := by
  rw [windowed_ch (windowed_repeat h), State.ch_modAlign_same]
  rfl

theorem takeStandby_missed_ch (h : 1 ≤ s.pastStandbyFloor c) (hm : ¬(s.ch c).completeAt .standby s.time.h) :
    (s.takeStandbyBoundary c false).ch c = s.missedStandbyChannel c := by
  rw [windowed_ch (windowed_past h), (releasedStandby_missed hm).1, State.missedStandbyChannel]

theorem takeStandby_held_ch (h : 1 ≤ s.pastStandbyFloor c) (hslot : (s.ch c).slots.at .standby s.time.h = .complete f n) (hf : f.stamp = s.time.h) :
    (s.takeStandbyBoundary c false).ch c = s.heldStandbyChannel c f := by
  rw [windowed_ch (windowed_past h), (releasedStandby_held hslot hf).1, State.heldStandbyChannel]

theorem standbyTaken (s : State) (c : Chan) : StandbyTaken s c ((s.takeStandbyBoundary c false).ch c) := by
  by_cases hg : s.pastStandbyFloor c ≤ 0
  · rw [takeStandby_repeat_ch hg]
    exact repeatStandby_taken s c
  · by_cases hm : (s.ch c).completeAt .standby s.time.h
    · obtain ⟨f, n, hslot, hf⟩ := hm
      rw [takeStandby_held_ch (Int.not_le.1 hg) hslot hf]
      exact heldStandby_taken (by rw [hslot, stamp_complete, hf]) f
    · rw [takeStandby_missed_ch (Int.not_le.1 hg) hm]
      exact missedStandby_taken s c

/-! ## Clause by clause -/

theorem standby_complete (h : 1 ≤ s.pastStandbyFloor c) (hslot : (s.ch c).slots.at .standby s.time.h = .complete f n) (hf : f.stamp = s.time.h) :
    ((s.takeStandbyBoundary c false).ch c).align.standbyOffer = .fresh ∧ ((s.takeStandbyBoundary c false).ch c).align.standbyHeld = some f ∧
      ((s.takeStandbyBoundary c false).ch c).align.standbyHeldCount = 0 ∧ ((s.takeStandbyBoundary c false).ch c).align.standbyFloor = s.time.h ∧
      (s.takeStandbyBoundary c false).counter (.chan c .standbyMissing) = s.counter (.chan c .standbyMissing) := by
  have hcounter := windowed_counter (windowed_past h) (.chan c .standbyMissing)
  rw [if_neg (by simp), (releasedStandby_held hslot hf).2] at hcounter
  rw [hcounter, takeStandby_held_ch h hslot hf]
  unfold State.heldStandbyChannel
  rw [freedStandby_standbyOffer, freedStandby_standbyHeld, freedStandby_standbyHeldCount, freedStandby_standbyFloor, flooredStandby_align, heldStandbyAt_align]
  exact ⟨rfl, rfl, rfl, rfl, rfl⟩

theorem standby_missing (h : 1 ≤ s.pastStandbyFloor c) (hm : ¬(s.ch c).completeAt .standby s.time.h) :
    ((s.takeStandbyBoundary c false).ch c).align.standbyHeld = (s.ch c).align.standbyHeld ∧
      ((s.takeStandbyBoundary c false).ch c).align.standbyHeldCount = min ((s.ch c).align.standbyHeldCount + 1) 255 ∧
      ((s.takeStandbyBoundary c false).ch c).align.standbyOffer =
        heldOffer (s.ch c).align.standbyHeld (min ((s.ch c).align.standbyHeldCount + 1) 255) (s.ch c).settings.standbyHoldLimit ∧
      ((s.takeStandbyBoundary c false).ch c).align.standbyFloor = s.time.h ∧
      (s.takeStandbyBoundary c false).counter (.chan c .standbyMissing) = satAdd (s.counter (.chan c .standbyMissing)) 1 := by
  have hcounter := windowed_counter (windowed_past h) (.chan c .standbyMissing)
  rw [if_neg (by simp), (releasedStandby_missed hm).2, if_pos rfl] at hcounter
  rw [hcounter, takeStandby_missed_ch h hm]
  unfold State.missedStandbyChannel
  rw [freedStandby_standbyOffer, freedStandby_standbyHeld, freedStandby_standbyHeldCount, freedStandby_standbyFloor, flooredStandby_align, missedStandby_align]
  dsimp only
  rw [freedStandby_standbyHeld, skippedStandby_standbyHeld, skippedStandby_standbyHeldCount, skippedStandby_settings]
  exact ⟨rfl, rfl, rfl, rfl, rfl⟩

theorem standby_repeat (h : s.pastStandbyFloor c ≤ 0) :
    ((s.takeStandbyBoundary c false).ch c).align.standbyHeld = (s.ch c).align.standbyHeld ∧
      ((s.takeStandbyBoundary c false).ch c).align.standbyHeldCount = (s.ch c).align.standbyHeldCount ∧
      ((s.takeStandbyBoundary c false).ch c).align.standbyFloor = (s.ch c).align.standbyFloor ∧
      ((s.takeStandbyBoundary c false).ch c).align.standbyOffer = (if (s.ch c).align.standbyHeld.isSome then .held else .none) ∧
      (s.takeStandbyBoundary c false).counter (.chan c .standbyMissing) = s.counter (.chan c .standbyMissing) := by
  have hcounter := windowed_counter (windowed_repeat h) (.chan c .standbyMissing)
  rw [if_neg (by simp), State.counter_modAlign] at hcounter
  rw [hcounter, takeStandby_repeat_ch h, freedStandby_standbyOffer, freedStandby_standbyHeld, freedStandby_standbyHeldCount, freedStandby_standbyFloor]
  exact ⟨rfl, rfl, rfl, rfl, rfl⟩

/-- R53: the slots counted as discards are those outside the window that were neither released nor skipped. -/
theorem standby_discards (hu : UnitInv (s.ch c)) :
    (s.takeStandbyBoundary c false).counter (.chan c .standbyDiscards) =
      satAdd (s.counter (.chan c .standbyDiscards)) (holding (s.ch c).slots.standby fun p =>
        !s.inStandbyWindow p && (decide (s.pastStandbyFloor c ≤ 0) ||
          (p != s.time.h && !decide (0 < s.signed p (s.ch c).align.standbyFloor ∧ s.signed p (s.ch c).align.standbyFloor < s.pastStandbyFloor c)))) := by
  by_cases hg : s.pastStandbyFloor c ≤ 0
  · rw [windowed_counter (windowed_repeat hg), if_pos rfl, State.counter_modAlign, State.ch_modAlign_same]
    refine congrArg (satAdd _) (holding_pred fun p => ?_)
    rw [decide_eq_true hg, Bool.true_or, Bool.and_true]
  · have hpast : 1 ≤ s.pastStandbyFloor c := Int.not_le.1 hg
    have hlost : ∀ p, (!s.inStandbyWindow p && !(s.between s.time.h (s.ch c).align.standbyFloor p || p == s.time.h)) =
        (!s.inStandbyWindow p && (decide (s.pastStandbyFloor c ≤ 0) ||
          (p != s.time.h && !decide (0 < s.signed p (s.ch c).align.standbyFloor ∧ s.signed p (s.ch c).align.standbyFloor < s.pastStandbyFloor c)))) := fun p => by
      have hbetween : s.between s.time.h (s.ch c).align.standbyFloor p =
          decide (0 < s.signed p (s.ch c).align.standbyFloor ∧ s.signed p (s.ch c).align.standbyFloor < s.pastStandbyFloor c) := (Bool.decide_and ..).symm
      rw [decide_eq_false hg, Bool.false_or, hbetween, Bool.not_or, bne, Bool.and_comm (!(p == s.time.h))]
    rw [windowed_counter (windowed_past hpast), if_pos rfl]
    by_cases hm : (s.ch c).completeAt .standby s.time.h
    · obtain ⟨f, n, hslot, hf⟩ := hm
      obtain ⟨hch, hcounter⟩ := releasedStandby_held hslot hf
      have hstamp : ((s.ch c).slots.at .standby s.time.h).stamp = some s.time.h := by rw [hslot, stamp_complete, hf]
      have hq : (s.skippedStandby c).slots.standby[(standbySlotOf s.time.h).val].stamp = some s.time.h := (congrArg Slot.stamp (skippedStandby_kept hstamp)).trans hstamp
      have hone := freed_one (m := 4) (skippedStandby_units hu).standbyPlaces (j := standbySlotOf s.time.h) rfl hq
      rw [hcounter, hch, flooredStandby_slots, heldStandby_slots, ((skippedStandby_freed s c).trans hone).holding, holding_pred hlost]
    · obtain ⟨hch, hcounter⟩ := releasedStandby_missed hm
      rw [hcounter, if_neg (by simp), hch, flooredStandby_slots, (missedStandby_freed s c).holding, holding_pred hlost]

end Sys2Proof.Machine

/-! PROOFS. The main path and the standby path of a channel at a boundary (R27, R34, R41, R42, R44 to R46, R52, R53). -/

namespace Sys2Proof.Machine

-- Each elaboration thread takes a large stack, and the text is compiled as one file under a memory limit: one thread at a time.
set_option Elab.async false

variable {s t : State} {c : Chan}

/-- What a boundary leaves of a channel's standby path, from the floor that stands. -/
theorem standbyPath (s : State) (c : Chan) :
    let floor := (s.ch c).align.standbyFloor
    let g := s.signed s.time.h floor
    let t := s.takeStandbyBoundary c false
    let x := (s.ch c).align
    let y := (t.ch c).align
    let held := min (x.standbyHeldCount + 1) 255
    (1 ≤ g → y.standbyFloor = s.time.h) ∧
    (1 ≤ g → ∀ f n, (s.ch c).slots.at .standby s.time.h = .complete f n → f.stamp = s.time.h →
      y.standbyOffer = .fresh ∧ y.standbyHeld = some f ∧ y.standbyHeldCount = 0 ∧
        t.counter (.chan c .standbyMissing) = s.counter (.chan c .standbyMissing)) ∧
    (1 ≤ g → (∀ f n, (s.ch c).slots.at .standby s.time.h = .complete f n → f.stamp ≠ s.time.h) →
      y.standbyHeld = x.standbyHeld ∧ y.standbyHeldCount = held ∧
        y.standbyOffer = (if x.standbyHeld.isSome ∧ held ≤ (s.ch c).settings.standbyHoldLimit then .held else .none) ∧
        t.counter (.chan c .standbyMissing) = min (s.counter (.chan c .standbyMissing) + 1) 4294967295) ∧
    (g ≤ 0 →
      y.standbyHeld = x.standbyHeld ∧ y.standbyHeldCount = x.standbyHeldCount ∧ y.standbyFloor = floor ∧
        y.standbyOffer = (if x.standbyHeld.isSome then .held else .none) ∧
        t.counter (.chan c .standbyMissing) = s.counter (.chan c .standbyMissing)) ∧
    (∀ (i : Fin 4) p, (t.ch c).slots.standby[i.val].stamp = some p → s.inStandbyWindow p = true) ∧
    ((t.ch c).slots.main = (s.ch c).slots.main ∧ ∀ i : Fin 4, (t.ch c).slots.standby[i.val] =
      match (s.ch c).slots.standby[i.val].stamp with
      | none => .free
      | some p => if s.inStandbyWindow p = true then (s.ch c).slots.standby[i.val] else .free) ∧
    (UnitInv (s.ch c) →
      t.counter (.chan c .standbyDiscards) =
        min (s.counter (.chan c .standbyDiscards) + holding (s.ch c).slots.standby fun p =>
          !s.inStandbyWindow p && (decide (g ≤ 0) || (p != s.time.h && !decide (0 < s.signed p floor ∧ s.signed p floor < g)))) 4294967295 ∧
      y.freeUnits + (if y.standbyHeld.isSome ∧ x.standbyHeld = none then 1 else 0) =
        x.freeUnits + holding (s.ch c).slots.standby fun p => !s.inStandbyWindow p) ∧
    ∀ c', c' ≠ c → t.ch c' = s.ch c' := by
  have htaken := standbyTaken s c
  intro floor g t x y held
  refine ⟨fun h => ?_, fun h f n hslot hf => ?_, fun h hm => ?_, standby_repeat, fun i p hp => htaken.inside i hp, ⟨htaken.main, htaken.slot⟩,
    fun hu => ⟨standby_discards hu, htaken.freeUnits hu⟩, ((Releases.refl c s).takeStandbyBoundary false).others⟩
  · by_cases hm : (s.ch c).completeAt .standby s.time.h
    · obtain ⟨f, n, hslot, hf⟩ := hm
      exact (standby_complete h hslot hf).2.2.2.1
    · exact (standby_missing h hm).2.2.2.1
  · obtain ⟨hoffer, hheld, hcount, -, hcounter⟩ := standby_complete h hslot hf
    exact ⟨hoffer, hheld, hcount, hcounter⟩
  · obtain ⟨hheld, hcount, hoffer, -, hcounter⟩ := standby_missing h fun ⟨f, n, hslot, hf⟩ => hm f n hslot hf
    exact ⟨hheld, hcount, hoffer, hcounter⟩

/-- The part with a channel's standby floor set, as a REALIGNED boundary sets it to H − 1. -/
def State.standbyFloored (s : State) (c : Chan) (floor : Nat) : State := s.modAlign c fun x => { x with standbyFloor := floor }

theorem standbyFloored_ch (s : State) (c : Chan) (floor : Nat) :
    (s.standbyFloored c floor).ch c = { s.ch c with align := { (s.ch c).align with standbyFloor := floor } } := State.ch_modAlign_same ..

theorem standbyFloored_self (s : State) (c : Chan) : s.standbyFloored c (s.ch c).align.standbyFloor = s :=
  State.eq_of_ch (by rfl) fun c' => by
    by_cases h : c' = c
    · subst h
      exact standbyFloored_ch ..
    · exact State.ch_modAlign_ne _ _ _ _ h

theorem takeStandbyBoundary_floored (s : State) (c : Chan) (realigned : Bool) :
    s.takeStandbyBoundary c realigned =
      (s.standbyFloored c (if realigned then s.wrap ((s.time.h : Int) - 1) else (s.ch c).align.standbyFloor)).takeStandbyBoundary c false := by
  cases realigned with
  | true => exact takeStandbyBoundary_realigned s c
  | false =>
    rw [if_neg (by simp), standbyFloored_self]

/-- Settles O27. -/
theorem mainPathAtABoundary : Obligations.MainPathAtABoundary := by
  intro s c hinv
  refine ⟨?_, fun realigned => ?_⟩
  · have htaken := mainTaken s c
    obtain ⟨hpast, hcomplete, hmissing, hfilling, hother, hcorrupt⟩ := mainPath hinv c
    exact ⟨hpast, hcomplete, hmissing, hfilling, hother, hcorrupt, released_repeat, fun i p hp => htaken.inside i hp, ⟨htaken.standby, htaken.slot⟩,
      fun hu => ⟨released_discards hinv.counters hu, htaken.freeUnits hu⟩, ((Releases.refl c s).takeMainBoundary).others⟩
  · rw [takeStandbyBoundary_floored]
    generalize (if realigned = true then s.wrap ((s.time.h : Int) - 1) else (s.ch c).align.standbyFloor) = floor
    have hpath := standbyPath (s.standbyFloored c floor) c
    have hch := standbyFloored_ch s c floor
    have hothers : ∀ c', c' ≠ c → (s.standbyFloored c floor).ch c' = s.ch c' := fun c' h => State.ch_modAlign_ne _ _ _ _ h
    have htime : (s.standbyFloored c floor).time = s.time := rfl
    have hcounter : ∀ key, (s.standbyFloored c floor).counter key = s.counter key := fun _ => rfl
    have hwindow : (s.standbyFloored c floor).inStandbyWindow = s.inStandbyWindow := rfl
    have hsigned : (s.standbyFloored c floor).signed = s.signed := rfl
    generalize (s.standbyFloored c floor).takeStandbyBoundary c false = t at hpath ⊢
    generalize s.standbyFloored c floor = v at hpath hch hothers htime hcounter hwindow hsigned
    rw [hch, htime, hcounter, hcounter, hwindow, hsigned] at hpath
    obtain ⟨hfloor, hcomplete, hmissing, hrepeat, hinside, hslots, hunits, hrest⟩ := hpath
    exact ⟨hfloor, hcomplete, hmissing, hrepeat, hinside, hslots, fun hu => hunits ⟨hu.units, hu.mainPlaces, hu.standbyPlaces, hu.out⟩,
      fun c' h => (hrest c' h).trans (hothers c' h)⟩

end Sys2Proof.Machine

/-! PROOFS. What a boundary does with a channel's cues and frame leaves: the settings, the rule, the measurement, the schedule and what is due of it, and the count of
events retired (R44 to R53, R62, R113, R169, R174). -/

namespace Sys2Proof.Machine

-- Each elaboration thread takes a large stack, and the text is compiled as one file under a memory limit: one thread at a time.
set_option Elab.async false

variable {s t u : State} {c : Chan} {P : State → Prop}

/-! ## Notices and realignments, step by step -/

namespace CueStable

variable (h : CueStable c P)
include h

theorem join (hs : P s) (used limit : Nat) : P (s.join c used limit) := h.runJoin _ hs _ _

theorem recomputed (hs : P s) : P (s.recomputed c) := h.bump _ _ (by decide) (h.cancelPending hs)

theorem recomputeCue (hs : P s) (x : Cue) : P (s.recomputeCue c x) := by
  unfold State.recomputeCue
  split
  · exact h.join hs _ _
  · exact h.runFollowOn _ hs _ _

theorem recheckTouched (hs : P s) (touched : Option Cue) : P (s.recheckTouched c touched) := by
  unfold State.recheckTouched
  split
  · split
    · exact h.runFollowOn _ hs _ _
    · exact hs
  · exact hs

theorem afterTouched (s : State) {v : State} (hv : P v) (n : Notice) (touched : Option Cue) : P (s.afterTouched v c n touched) := by
  unfold State.afterTouched
  split
  · split
    · exact h.recheckTouched (h.join (h.cancelPending hv) _ _) _
    · split
      · exact h.recomputeCue (h.modCue hv _) _
      · exact h.modCue hv _
  · split
    · exact h.recomputeCue hv _
    · exact h.join (h.modCue hv _) _ _
    · exact hv

theorem takeNotice (hs : P s) (n : Notice) : P (s.takeNotice c n) := by
  rw [takeNotice_eq]
  refine h.afterTouched s ?_ _ _
  split
  · exact h.recomputed hs
  · exact hs

theorem realignCues (hs : P s) : P (s.realignCues c) := by
  unfold State.realignCues
  dsimp only
  split
  · split
    · exact h.join (h.recomputed hs) _ _
    · exact hs
  · split
    · exact h.join (h.recomputed hs) _ _
    · exact hs
  · split
    · exact h.join (h.recomputed hs) _ _
    · exact hs
  · split
    · exact h.join (h.recomputed hs) _ _
    · exact hs
  · exact h.cancelPending hs
  · exact hs

end CueStable

/-! ## What a boundary leaves of a channel once the Schedule Store has dealt with it -/

/-- Of a channel, what no release, cue or frame of a boundary changes. -/
structure Steady where
  settings : ChannelSettings
  rule : ServiceMode × Pin × Owner
  measurement : Measurement
  schedule : Schedule
  snapshot : Bool
  resync : Bool

/-- The part of what stands of a channel that is so. -/
def Standing.steady (x : Standing) : Steady :=
  { settings := x.settings, rule := x.rule, measurement := x.align.measurement, schedule := x.schedule, snapshot := x.work.snapshot, resync := x.work.resync }

/-- Two states between which a channel has kept that part, and its count of events retired. -/
structure Steadied (c : Chan) (s t : State) : Prop where
  channel : (t.ch c).standing.steady = (s.ch c).standing.steady
  retired : t.counter (.chan c .eventsRetired) = s.counter (.chan c .eventsRetired)

namespace Steadied

theorem refl (c : Chan) (s : State) : Steadied c s s := ⟨rfl, rfl⟩
theorem trans (h : Steadied c s t) (k : Steadied c t u) : Steadied c s u := ⟨k.channel.trans h.channel, k.retired.trans h.retired⟩

theorem modCh (h : Steadied c s t) (f : Channel → Channel) (hf : ∀ x, (f x).standing.steady = x.standing.steady := by exact fun _ => rfl) :
    Steadied c s (t.modCh c f) :=
  h.trans ⟨by rw [State.ch_modCh_same, hf], rfl⟩

theorem bumpBy (h : Steadied c s t) (k : ChanCtr) (n : Nat) (hk : k ≠ .eventsRetired := by exact nofun) : Steadied c s (t.bumpBy (.chan c k) n) :=
  h.trans ⟨rfl, by rw [State.counter_bumpBy, if_neg (fun e => hk (by cases e; rfl))]⟩

theorem bumpCh (h : Steadied c s t) (k : ChanCtr) (hk : k ≠ .eventsRetired := by exact nofun) : Steadied c s (t.bumpCh c k) := h.bumpBy k 1 hk

theorem raise (h : Steadied c s t) (r : Report) : Steadied c s (t.raise r) := h.trans ⟨by rw [State.ch_raise], State.counter_raise _ _ _ nofun⟩

theorem modSlots (h : Steadied c s t) (f : Slots → Slots) : Steadied c s (t.modSlots c f) := h.modCh _
theorem modMonitor (h : Steadied c s t) (f : Monitor → Monitor) : Steadied c s (t.modMonitor c f) := h.modCh _
theorem modOutput (h : Steadied c s t) (f : Output → Output) : Steadied c s (t.modOutput c f) := h.modCh _

theorem modAlign (h : Steadied c s t) (f : Align → Align) (hf : ∀ y, (f y).measurement = y.measurement := by exact fun _ => rfl) :
    Steadied c s (t.modAlign c f) :=
  h.modCh _ fun x => congrArg (fun m => { x.standing.steady with measurement := m }) (hf x.align)

theorem modWork (h : Steadied c s t) (f : ChannelWork → ChannelWork)
    (hf : ∀ y, (f y).snapshot = y.snapshot ∧ (f y).resync = y.resync := by exact fun _ => ⟨rfl, rfl⟩) : Steadied c s (t.modWork c f) :=
  h.modCh _ fun x => by
    obtain ⟨hsnapshot, hresync⟩ := hf x.work
    unfold Standing.steady Channel.standing
    dsimp only
    rw [hsnapshot, hresync]

theorem startCopies (h : Steadied c s t) (path : SourcePath) : Steadied c s (t.startCopies c path) := h.trans ⟨rfl, rfl⟩
theorem freeMain (h : Steadied c s t) (pred : Nat → Bool) : Steadied c s (t.freeMain c pred) :=
  h.trans ⟨by unfold State.freeMain Standing.steady Channel.standing; rw [State.ch_modCh_same], rfl⟩
theorem freeStandby (h : Steadied c s t) (pred : Nat → Bool) : Steadied c s (t.freeStandby c pred) :=
  h.trans ⟨by unfold State.freeStandby Standing.steady Channel.standing; rw [State.ch_modCh_same], rfl⟩

/-- The Cue Engine and the Channel Controller change nothing of it. -/
theorem cueStable (c : Chan) (s : State) : CueStable c (Steadied c s) where
  channel _ f hf ht := ht.modCh f fun x => congrArg Standing.steady (hf x)
  bump _ k hk ht := ht.bumpCh k fun e => absurd hk (by rw [e]; decide)
  send _ _ _ _ ht := ht.trans ⟨rfl, rfl⟩
  raise _ r ht := ht.raise r

/-! ### Releases -/

theorem trackMissing (h : Steadied c s t) (q : Nat) (slot : Slot) : Steadied c s (t.trackMissing c q slot) := by
  unfold State.trackMissing
  dsimp only
  split
  · exact h
  · split
    · exact (h.bumpCh _).modSlots _
    · exact h.modSlots _

theorem releaseMain (h : Steadied c s t) (q : Nat) : Steadied c s (t.releaseMain c q).1 := by
  have missed := ((h.bumpCh .mainMissing).trackMissing q ((t.ch c).slots.at .main q)).freeMain fun p => p == q
  unfold State.releaseMain
  dsimp only
  split
  · split <;> dsimp only
    · exact (h.modCh _).startCopies _
    · exact missed.modAlign _
  · dsimp only
    exact missed.modAlign _

theorem takeMainBoundary (h : Steadied c s t) : Steadied c s (t.takeMainBoundary c).1 := by
  unfold State.takeMainBoundary
  dsimp only
  split <;> dsimp only
  · exact (((((h.bumpBy _ _).freeMain _).modAlign _).bumpCh _).bumpBy _ _).freeMain _
  · refine Steadied.freeMain (Steadied.bumpBy (Steadied.modAlign (Steadied.releaseMain ?_ _) _) _ _) _
    split
    · exact h
    · exact (h.freeMain _).bumpBy _ _

theorem rebaseMain (h : Steadied c s t) : Steadied c s (t.rebaseMain c) := h.modAlign _

theorem releaseStandby (h : Steadied c s t) (q : Nat) : Steadied c s (t.releaseStandby c q) := by
  have missed := (h.bumpCh .standbyMissing).freeStandby fun p => p == q
  unfold State.releaseStandby
  dsimp only
  split
  · split
    · exact (h.modCh _).startCopies _
    · exact missed.modAlign _
  · exact missed.modAlign _

theorem takeStandbyBoundary (h : Steadied c s t) (realigned : Bool) : Steadied c s (t.takeStandbyBoundary c realigned) := by
  have rebased : Steadied c s (if realigned then t.modAlign c fun x => { x with standbyFloor := t.wrap ((t.time.h : Int) - 1) } else t) := by
    split
    · exact h.modAlign _
    · exact h
  unfold State.takeStandbyBoundary
  dsimp only
  generalize (if realigned then t.modAlign c fun x => { x with standbyFloor := t.wrap ((t.time.h : Int) - 1) } else t) = u at rebased ⊢
  refine (Steadied.bumpBy ?_ _ _).freeStandby _
  split
  · exact rebased.modAlign _
  · refine Steadied.modAlign (Steadied.releaseStandby ?_ _) _
    split
    · exact rebased
    · exact rebased.freeStandby _

theorem applyRetime (h : Steadied c s t) : Steadied c s (t.applyRetime c) := by
  unfold State.applyRetime
  split
  · exact h
  · exact (h.modAlign _).bumpCh _

/-! ### The frame and the judgement -/

theorem judgeDetector (h : Steadied c s t) (j : Judgement) (det : Detector) : Steadied c s (t.judgeDetector c j det).1 := by
  have counted : ∀ k, edgeCounter det k ≠ .eventsRetired := fun k => by cases det <;> cases k <;> exact nofun
  unfold State.judgeDetector
  dsimp only
  split
  · dsimp only
    exact h.modMonitor _
  · split <;> dsimp only
    · exact (h.modMonitor _).bumpCh _ (counted _)
    · exact ((h.modMonitor _).bumpCh _ (counted _)).modMonitor _

theorem holdVerdict (h : Steadied c s t) (cause : EvalCause) : Steadied c s (t.holdVerdict c cause).1 := by
  unfold State.holdVerdict
  dsimp only
  split
  · exact h
  · exact (h.modMonitor _).bumpCh _

theorem reportEdge (h : Steadied c s t) (e : Detector × EdgeKind) : Steadied c s (t.reportEdge c e) := by
  obtain ⟨det, k⟩ := e
  unfold State.reportEdge
  cases k <;> dsimp only <;> split
  · exact h.raise _
  · exact h
  · exact h.raise _
  · exact h

theorem deliver (h : Steadied c s t) {n : Option VerdictNotice} (hn : ∀ x, n = some x → x.chan = c) : Steadied c s (t.deliver n) := by
  cases n with
  | none => exact h
  | some n => exact (cueStable c s).takeVerdict h (hn n rfl)

theorem judge (h : Steadied c s t) (j : Judgement) : Steadied c s (t.judge c j) := by
  have judged : Steadied c s (t.judgeDetectors c j).1 := State.judgeDetectors_keeps (fun _ det hu => hu.judgeDetector j det) h
  unfold State.judge
  dsimp only
  refine Steadied.deliver ?_ fun _ hn => holdVerdict_chan hn
  refine List.foldlRecOn (motive := Steadied c s) _ _ (Steadied.holdVerdict ?_ _) fun _ hu e _ => hu.reportEdge e
  split
  · exact judged.modMonitor _
  · exact judged

theorem assemble (h : Steadied c s t) : Steadied c s (t.assemble c) := by
  have counted : ∀ tag, emittedCounter tag ≠ .eventsRetired := fun tag => by cases tag <;> exact nofun
  have begun : ∀ b : Bool, Steadied c s (if b then t.bumpCh c .rampsStarted else t) := fun b => by
    cases b
    · exact h
    · exact h.bumpCh _
  have buffered : ∀ {u : State} (f : OutFrame), Steadied c s u → Steadied c s (u.bufferFrame c f) := fun f hu => by
    unfold State.bufferFrame
    dsimp only
    split
    · exact (hu.bumpCh _).modOutput _
    · exact hu.modOutput _
  unfold State.assemble
  split
  · exact h
  · exact buffered _ ((((begun _).bumpCh _ (counted _)).modOutput _).modWork _)

theorem finishChannel (h : Steadied c s t) : Steadied c s (t.finishChannel c) := by
  unfold State.finishChannel
  dsimp only
  split
  · split
    · exact (h.modWork _).assemble.judge _
    · exact (h.modWork _).assemble
  · exact h

theorem afterRelease (h : Steadied c s t) (j : Option Judgement) (realigned : Bool) : Steadied c s (t.afterRelease c j realigned) := by
  have counted : Steadied c s (t.countGuard c) := by
    unfold State.countGuard
    split
    · exact (cueStable c s).modControl h _
    · exact h
  unfold State.afterRelease
  dsimp only
  split
  · exact (((cueStable c s).realignCues counted).modWork _).finishChannel
  · exact (counted.modWork _).finishChannel

theorem releaseChannel (h : Steadied c s t) (realigned : Bool) : Steadied c s (t.releaseChannel c realigned) := by
  unfold State.releaseChannel
  dsimp only
  split
  · exact h.rebaseMain.takeMainBoundary.afterRelease _ _
  · exact h.takeMainBoundary.afterRelease _ _

theorem takeChannelBoundary (h : Steadied c s t) (realigned : Bool) : Steadied c s (t.takeChannelBoundary c realigned) := by
  unfold State.takeChannelBoundary
  dsimp only
  split
  · split
    · split
      · exact (h.takeStandbyBoundary _).applyRetime.releaseChannel _
      · exact (h.takeStandbyBoundary _).modWork _
    · exact (h.takeStandbyBoundary _).releaseChannel _
  · exact h

end Steadied

end Sys2Proof.Machine

/-! PROOFS. What a boundary leaves of a channel on its way back to MAIN: its guard and its return position, and the controller step left due (R132, R133). -/

namespace Sys2Proof.Machine

-- Each elaboration thread takes a large stack, and the text is compiled as one file under a memory limit: one thread at a time.
set_option Elab.async false

variable {s t u : State} {c : Chan}

/-! ## Cues of a channel on its way back -/

/-- What carries a channel back to MAIN. -/
def Control.wayBack (x : Control) : ChannelState × Option Nat × Option Nat := (x.state, x.guard, x.returnPosition)

/-- A channel in RETURN_GUARD or RETURNING. -/
def Control.ComingBack (x : Control) : Prop := x.state = .returnGuard ∨ x.state = .returning

/-- Between two states a channel on its way back stays so, with its guard and its return position. -/
def StaysBack (c : Chan) (s t : State) : Prop := (s.ch c).control.ComingBack → (t.ch c).control.wayBack = (s.ch c).control.wayBack

theorem StaysBack.refl (c : Chan) (s : State) : StaysBack c s s := fun _ => rfl

theorem StaysBack.trans (h : StaysBack c s t) (k : StaysBack c t u) : StaysBack c s u := fun hs => by
  have hstate : (t.ch c).control.state = (s.ch c).control.state := (congrArg Prod.fst (h hs) :)
  refine (k ?_).trans (h hs)
  unfold Control.ComingBack
  rwa [hstate]

theorem StaysBack.of_control (h : (t.ch c).control = (s.ch c).control) : StaysBack c s t := fun _ => by rw [h]

theorem StaysBack.cueOnly (h : StaysBack c s t) (k : CueOnly c t u) : StaysBack c s u := h.trans (.of_control k.control)

theorem StaysBack.join (h : StaysBack c s t) (used limit : Nat) : StaysBack c s (t.join c used limit) := by
  refine h.trans fun ht => ?_
  have hkeeps := (JoinKeeps.refl c t).runJoin (limit + 1) used limit
  have hguard : ((t.join c used limit).ch c).control.guard = (t.ch c).control.guard := (congrArg Control.guard hkeeps.control :)
  have hposition : ((t.join c used limit).ch c).control.returnPosition = (t.ch c).control.returnPosition :=
    (congrArg Control.returnPosition hkeeps.control :)
  have hstate : ((t.join c used limit).cv c).state = (t.cv c).state := by
    have hview := joined_join t c used limit
    have hback : (t.cv c).state = .returnGuard ∨ (t.cv c).state = .returning := ht
    generalize (t.join c used limit).cv c = w at hview ⊢
    cases hview with
    | same => rfl
    | sent => rfl
    | exhausted =>
      unfold CueView.exhausted
      rcases hback with h | h <;> (rw [h]; exact h)
    | noSchedule =>
      unfold CueView.noSchedule
      rcases hback with h | h <;> (rw [h]; exact h)
  unfold Control.wayBack
  rw [hguard, hposition]
  exact congrArg (·, _) hstate

theorem StaysBack.recomputed (h : StaysBack c s t) : StaysBack c s (t.recomputed c) :=
  (h.cueOnly (CueOnly.refl c t).cancelPending).trans (.of_control rfl)

theorem StaysBack.recomputeCue (h : StaysBack c s t) (x : Cue) : StaysBack c s (t.recomputeCue c x) := by
  rw [recomputeCue_eq]
  split
  · exact h.join _ _
  · exact h.cueOnly ((CueOnly.refl c t).runFollowOn _ _ _)

theorem StaysBack.recheckTouched (h : StaysBack c s t) (touched : Option Cue) : StaysBack c s (t.recheckTouched c touched) := by
  unfold State.recheckTouched
  split
  · split
    · exact h.cueOnly ((CueOnly.refl c t).runFollowOn _ _ _)
    · exact h
  · exact h

theorem StaysBack.afterTouched (h : StaysBack c s t) (n : Notice) (touched : Option Cue) : StaysBack c s (s.afterTouched t c n touched) := by
  unfold State.afterTouched
  split
  · split
    · exact ((h.cueOnly (CueOnly.refl c t).cancelPending).join _ _).recheckTouched _
    · split
      · exact (h.cueOnly ((CueOnly.refl c t).modCue _)).recomputeCue _
      · exact h.cueOnly ((CueOnly.refl c t).modCue _)
  · split
    · exact h.recomputeCue _
    · exact (h.cueOnly (CueOnly.refl c t).clearWait).join _ _
    · exact h

theorem takeNotice_staysBack (s : State) (c : Chan) (n : Notice) : StaysBack c s (s.takeNotice c n) := by
  rw [takeNotice_eq]
  refine StaysBack.afterTouched ?_ _ _
  split
  · exact (StaysBack.refl c s).recomputed
  · exact .refl c s

theorem realignCues_staysBack (s : State) (c : Chan) : StaysBack c s (s.realignCues c) := fun h => by
  rcases h with h | h
  · rw [realignCues_playing (.inr h) rfl]
    split
    · exact (StaysBack.refl c s).recomputed.join _ _ (.inl h)
    · rfl
  · rw [realignCues_returning h, (CueOnly.refl c s).cancelPending.control]

/-! ## The judgement of a release that leaves the verdict as it was -/

theorem judgeDetectors_control (s : State) (c : Chan) (j : Judgement) : ((s.judgeDetectors c j).1.ch c).control = (s.ch c).control := by
  refine State.judgeDetectors_keeps (P := fun u => (u.ch c).control = (s.ch c).control) (fun u det hu => ?_) rfl
  unfold State.judgeDetector
  dsimp only
  split
  · simpa using hu
  · split <;> simpa using hu

/-- A judgement after which the verdict is as it was brings the Channel Controller no notice. -/
theorem judge_unchanged (j : Judgement) (hv : ((s.judge c j).ch c).monitor.verdict = (s.ch c).monitor.verdict) :
    ((s.judge c j).ch c).control = (s.ch c).control := by
  have hcontrol := judgeDetectors_control s c j
  obtain ⟨⟨-, -, hverdict⟩, -⟩ := judgeDetectors_ch s c j
  have hkept := keepSignature_ch (s.judgeDetectors c j).1 c j
  rw [judge_eq] at hv ⊢
  have ucontrol : (((s.judgeDetectors c j).1.keepSignature c j).ch c).control = (s.ch c).control := by rw [hkept, ← hcontrol]
  have uverdict : (((s.judgeDetectors c j).1.keepSignature c j).ch c).monitor.verdict = (s.ch c).monitor.verdict := by rw [hkept, ← hverdict]
  generalize (s.judgeDetectors c j).2 = edges, (s.judgeDetectors c j).1.keepSignature c j = u at hv ucontrol uverdict ⊢
  rw [(deliver_monitor _ fun x => holdVerdict_chan).1, foldl_reportEdge_ch, holdVerdict_ch] at hv
  have hsame : (u.ch c).evaluate = (u.ch c).monitor.verdict := hv.trans uverdict.symm
  have hquiet : u.holdVerdict c .judgement = (u, none) := by
    unfold State.holdVerdict
    exact if_pos hsame
  rw [hquiet]
  exact (congrArg Channel.control (foldl_reportEdge_ch ..)).trans ucontrol

end Sys2Proof.Machine

/-! PROOFS. The guard, the controller step and the frame of a channel on its way back, through a whole boundary (R132, R133, R174). -/

namespace Sys2Proof.Machine

-- Each elaboration thread takes a large stack, and the text is compiled as one file under a memory limit: one thread at a time.
set_option Elab.async false

variable {s t u v : State} {c : Chan}

/-! ## The frame of a boundary -/

theorem assemble_controlled (s : State) (c : Chan) :
    ((s.assemble c).ch c).control = (s.ch c).control ∧ ((s.assemble c).ch c).monitor = (s.ch c).monitor := by
  by_cases h : (s.ch c).output.delivered = .outOfService
  · rw [assemble_out h]
    exact ⟨rfl, rfl⟩
  · rw [assemble_ch h]
    exact ⟨rfl, rfl⟩

/-- The frame of a channel sent on its way, its judgement still to be taken. -/
def State.framed (s : State) (c : Chan) : State := (s.modWork c fun w => { w with frame := false, judgement := none }).assemble c

theorem framed_controlled (s : State) (c : Chan) :
    ((s.framed c).ch c).control = (s.ch c).control ∧ ((s.framed c).ch c).monitor = (s.ch c).monitor := by
  obtain ⟨hcontrol, hmonitor⟩ := assemble_controlled (s.modWork c fun w => { w with frame := false, judgement := none }) c
  rw [State.ch_modWork_same] at hcontrol hmonitor
  exact ⟨hcontrol, hmonitor⟩

theorem finishChannel_waits (h : (s.ch c).work.ready = false) : s.finishChannel c = s := if_neg (by simpa [ChannelWork.ready] using h)

theorem finishChannel_unjudged (h : (s.ch c).work.ready = true) (hj : (s.ch c).work.judgement = none) : s.finishChannel c = s.framed c := by
  unfold ChannelWork.ready at h
  unfold State.finishChannel State.framed
  dsimp only
  rw [if_pos h, hj]

theorem finishChannel_judged {j : Judgement} (h : (s.ch c).work.ready = true) (hj : (s.ch c).work.judgement = some j) :
    s.finishChannel c = (s.framed c).judge c j := by
  unfold ChannelWork.ready at h
  unfold State.finishChannel State.framed
  dsimp only
  rw [if_pos h, hj]

/-- A frame whose judgement leaves the verdict as it was leaves the channel record. -/
theorem finishChannel_unchanged (hv : ((s.finishChannel c).ch c).monitor.verdict = (s.ch c).monitor.verdict) :
    ((s.finishChannel c).ch c).control = (s.ch c).control := by
  obtain ⟨hcontrol, hmonitor⟩ := framed_controlled s c
  cases hready : (s.ch c).work.ready with
  | false => rw [finishChannel_waits hready]
  | true =>
    cases hj : (s.ch c).work.judgement with
    | none => rw [finishChannel_unjudged hready hj, hcontrol]
    | some j =>
      rw [finishChannel_judged hready hj] at hv ⊢
      rw [← hmonitor] at hv
      exact (judge_unchanged j hv).trans hcontrol

theorem finishChannel_control (s : State) (c : Chan) : ((s.finishChannel c).ch c).work.control = (s.ch c).work.control := by
  obtain ⟨r, he⟩ := finishChannel_work s c
  rw [he]
  split <;> rfl

/-! ## The guard, the realignment and the steps left due (R132, R133, R169) -/

/-- What a boundary leaves due of a channel once its cues have been realigned, at a REALIGNED boundary, and its frame (R62, R133, R174). -/
def State.stepsDue (s : State) (c : Chan) (j : Option Judgement) (realigned : Bool) : State :=
  s.modWork c fun w => { w with cue := !realigned && (s.cueStep c).isSome, control := s.controlDue c realigned, frame := true, judgement := j }

/-- A channel with its guard counted, and its cues realigned at a REALIGNED boundary. -/
def State.guarded (s : State) (c : Chan) (realigned : Bool) : State :=
  if realigned then (s.countGuard c).realignCues c else s.countGuard c

theorem afterRelease_eq (s : State) (c : Chan) (j : Option Judgement) (realigned : Bool) :
    s.afterRelease c j realigned = ((s.guarded c realigned).stepsDue c j realigned).finishChannel c := rfl

theorem stepsDue_ch (s : State) (c : Chan) (j : Option Judgement) (realigned : Bool) :
    (s.stepsDue c j realigned).ch c =
      { s.ch c with
        work :=
          { (s.ch c).work with
            cue := !realigned && (s.cueStep c).isSome, control := s.controlDue c realigned, frame := true, judgement := j } } := State.ch_modWork_same ..

/-- The controller step left due, and the channel record where it is due or where the verdict stays. -/
theorem afterRelease_leaves (s : State) (c : Chan) (j : Option Judgement) (realigned : Bool) :
    ((s.afterRelease c j realigned).ch c).work.control = (s.guarded c realigned).controlDue c realigned ∧
      ((s.guarded c realigned).controlDue c realigned = true ∨
          ((s.afterRelease c j realigned).ch c).monitor.verdict = ((s.guarded c realigned).ch c).monitor.verdict →
        ((s.afterRelease c j realigned).ch c).control = ((s.guarded c realigned).ch c).control) := by
  rw [afterRelease_eq]
  generalize s.guarded c realigned = a
  have hch := stepsDue_ch a c j realigned
  refine ⟨by rw [finishChannel_control, hch], fun h => ?_⟩
  rcases h with hdue | hverdict
  · rw [finishChannel_waits (by rw [hch]; simp [ChannelWork.ready, hdue]), hch]
  · exact (finishChannel_unchanged (hverdict.trans (by rw [hch]))).trans (by rw [hch])

theorem countGuard_ch (h : (s.ch c).control.state = .returnGuard) :
    (s.countGuard c).ch c = { s.ch c with control := { (s.ch c).control with guard := (s.ch c).control.guard.map fun n => min (n + 1) 65535 } } := by
  unfold State.countGuard State.chState
  rw [h]
  exact State.ch_modControl_same ..

theorem countGuard_self (h : (s.ch c).control.state ≠ .returnGuard) : s.countGuard c = s := by
  unfold State.countGuard State.chState
  split
  · rename_i hs
    exact absurd hs h
  · rfl

/-- The guard counted and the cues realigned leave the way back of a channel, its guard one further. -/
theorem guarded_leaves (s : State) (c : Chan) (realigned : Bool) (hback : (s.ch c).control.ComingBack) :
    ((s.guarded c realigned).ch c).control.wayBack = ((s.countGuard c).ch c).control.wayBack ∧
      ((s.guarded c realigned).ch c).settings = (s.ch c).settings ∧ ((s.guarded c realigned).ch c).monitor = (s.ch c).monitor ∧
      (s.guarded c realigned).time = s.time := by
  have hcount : ((s.countGuard c).ch c).control.ComingBack ∧ ((s.countGuard c).ch c).settings = (s.ch c).settings ∧
      ((s.countGuard c).ch c).monitor = (s.ch c).monitor := by
    by_cases h : (s.ch c).control.state = .returnGuard
    · rw [countGuard_ch h]
      exact ⟨hback, rfl, rfl⟩
    · rw [countGuard_self h]
      exact ⟨hback, rfl, rfl⟩
  have htime : (s.countGuard c).time = s.time := ((Beside.refl c s).countGuard).time
  obtain ⟨hcoming, hsettings, hmonitor⟩ := hcount
  unfold State.guarded
  split
  · have hcues := (CueLocal.refl c (s.countGuard c)).realignCues
    exact ⟨realignCues_staysBack _ c hcoming, hcues.channelSettings.trans hsettings, hcues.monitor.trans hmonitor, hcues.time.trans htime⟩
  · exact ⟨rfl, hsettings, hmonitor, htime⟩

/-- What a boundary leaves of a channel on its way back: the guard one further and its expiry due at the guard's length, or the arrival due at the return
position; the guard stands where its expiry is due or where the verdict stays. -/
def BackAtBoundary (c : Chan) (realigned : Bool) (s t : State) : Prop :=
  (∀ n, (s.ch c).control.state = .returnGuard → (s.ch c).control.guard = some n →
    let m := min (n + 1) 65535
    (t.ch c).work.control = decide ((s.ch c).settings.guardLength ≤ m) ∧
      ((s.ch c).settings.guardLength ≤ m ∨ (t.ch c).monitor.verdict = (s.ch c).monitor.verdict → (t.ch c).control.guard = some m)) ∧
  (∀ p, (s.ch c).control.state = .returning → (s.ch c).control.returnPosition = some p →
    (t.ch c).work.control = (realigned || decide (s.signed p s.time.h ≤ 0)))

theorem wayBack_iff {x : Control} {state : ChannelState} {guard position : Option Nat} :
    x.wayBack = (state, guard, position) ↔ x.state = state ∧ x.guard = guard ∧ x.returnPosition = position := by
  unfold Control.wayBack
  rw [Prod.mk.injEq, Prod.mk.injEq]

theorem afterRelease_back (s : State) (c : Chan) (j : Option Judgement) (realigned : Bool) :
    BackAtBoundary c realigned s (s.afterRelease c j realigned) := by
  obtain ⟨hdue, hkept⟩ := afterRelease_leaves s c j realigned
  refine ⟨fun n hs hn => ?_, fun p hs hp => ?_⟩
  · obtain ⟨hway, hsettings, hmonitor, -⟩ := guarded_leaves s c realigned (.inl hs)
    rw [countGuard_ch hs] at hway
    obtain ⟨hstate, hguard, -⟩ := wayBack_iff.1 hway
    have hcontrol : (s.guarded c realigned).controlDue c realigned = decide ((s.ch c).settings.guardLength ≤ min (n + 1) 65535) := by
      unfold State.controlDue
      dsimp only
      rw [hstate, hguard, hs, hn, hsettings]
      rfl
    rw [hcontrol, hmonitor] at hkept
    refine ⟨hdue.trans hcontrol, fun h => ?_⟩
    rw [hkept (h.imp_left fun hm => decide_eq_true hm), hguard, hn]
    rfl
  · obtain ⟨hway, -, -, htime⟩ := guarded_leaves s c realigned (.inr hs)
    rw [countGuard_self (by rw [hs]; exact nofun)] at hway
    obtain ⟨hstate, -, hposition⟩ := wayBack_iff.1 hway
    refine hdue.trans ?_
    unfold State.controlDue State.reached State.signed State.cycle
    dsimp only
    rw [hstate, hposition, hs, hp, htime]

theorem BackAtBoundary.of_before {r : Bool} (h : BackAtBoundary c r t u) (hway : StaysBack c s t) (hsettings : (t.ch c).settings = (s.ch c).settings)
    (hmonitor : (t.ch c).monitor = (s.ch c).monitor) (htime : t.time = s.time) : BackAtBoundary c r s u := by
  obtain ⟨hguard, hreturn⟩ := h
  rw [hsettings, hmonitor] at hguard
  refine ⟨fun n hs hn => ?_, fun p hs hp => ?_⟩
  · obtain ⟨hstate, hg, -⟩ := wayBack_iff.1 (hway (.inl hs))
    exact hguard n (hstate.trans hs) (hg.trans hn)
  · obtain ⟨hstate, -, hq⟩ := wayBack_iff.1 (hway (.inr hs))
    have due := hreturn p (hstate.trans hs) (hq.trans hp)
    unfold State.signed State.cycle at due ⊢
    rwa [htime] at due

theorem BackAtBoundary.of_after {r : Bool} (h : BackAtBoundary c r s t) (hch : u.ch c = t.ch c) : BackAtBoundary c r s u := by
  unfold BackAtBoundary at h ⊢
  rwa [hch]

theorem Releases.back {r : Bool} (h : Releases c s t) (k : BackAtBoundary c r t u) : BackAtBoundary c r s u :=
  k.of_before (.of_control h.control) h.channelSettings h.monitor h.time

theorem releaseChannel_back (s : State) (c : Chan) (realigned : Bool) : BackAtBoundary c realigned s (s.releaseChannel c realigned) := by
  have rebased : Releases c s (if realigned then s.rebaseMain c else s) := by
    split
    · exact (Releases.refl c s).rebaseMain
    · exact .refl c s
  unfold State.releaseChannel
  exact rebased.takeMainBoundary.back (afterRelease_back _ c _ realigned)

/-! ## A retime that is not due (R47, R51) -/

theorem freedStandby_retime (x : Channel) (pred : Nat → Bool) : (x.freedStandby pred).align.retime = x.align.retime := by unfold Channel.freedStandby; rfl

theorem releaseStandby_retime (s : State) (c : Chan) (q : Nat) : ((s.releaseStandby c q).ch c).align.retime = (s.ch c).align.retime := by
  by_cases hm : (s.ch c).completeAt .standby q
  · obtain ⟨f, n, hslot, hf⟩ := hm
    rw [releaseStandby_complete hslot hf, State.startCopies, State.ch_mapSlates, State.ch_modCh_same, heldStandbyAt_align]
  · rw [releaseStandby_missing hm, missStandby_ch, missedStandby_align]
    exact freedStandby_retime (s.ch c) fun p => p == q

/-- The standby path leaves the retime of its channel. -/
theorem takeStandbyBoundary_retime (s : State) (c : Chan) (realigned : Bool) :
    ((s.takeStandbyBoundary c realigned).ch c).align.retime = (s.ch c).align.retime := by
  rw [takeStandbyBoundary_floored]
  generalize (if realigned then s.wrap ((s.time.h : Int) - 1) else (s.ch c).align.standbyFloor) = floor
  have hfloored : ((s.standbyFloored c floor).ch c).align.retime = (s.ch c).align.retime := by rw [standbyFloored_ch]
  rw [← hfloored]
  generalize s.standbyFloored c floor = u
  by_cases hg : u.pastStandbyFloor c ≤ 0
  · rw [takeStandby_repeat_ch hg, freedStandby_retime]
    rfl
  · rw [windowed_ch (windowed_past (by omega)), freedStandby_retime, State.releasedStandby, State.ch_modAlign_same]
    refine (releaseStandby_retime ..).trans ?_
    rw [skipStandby_ch]
    exact freedStandby_retime ..

end Sys2Proof.Machine

/-! PROOFS. The order in which a channel takes its part of a boundary (R44 to R53, R132, R133, R169, R174). -/

namespace Sys2Proof.Machine

-- Each elaboration thread takes a large stack, and the text is compiled as one file under a memory limit: one thread at a time.
set_option Elab.async false

variable {s t u v : State} {c : Chan}

/-! ## One channel -/

theorem takeChannelBoundary_out (h : s.inService c = false) (realigned : Bool) : s.takeChannelBoundary c realigned = s := if_neg (by simp [h])

theorem takeStandbyBoundary_retimeDue (s : State) (c : Chan) (realigned : Bool) : (s.takeStandbyBoundary c realigned).retimeDue c = s.retimeDue c := by
  unfold State.retimeDue State.reached State.signed State.cycle
  rw [takeStandbyBoundary_retime, ((Releases.refl c s).takeStandbyBoundary realigned).time]

theorem takeChannelBoundary_undue (h : s.inService c = true) (hdue : s.retimeDue c = false) (realigned : Bool) :
    s.takeChannelBoundary c realigned = (s.takeStandbyBoundary c realigned).releaseChannel c realigned := by
  unfold State.takeChannelBoundary
  rw [if_pos h]
  exact if_neg (by rw [takeStandbyBoundary_retimeDue, hdue]; exact nofun)

theorem takeChannelBoundary_due (h : s.inService c = true) (hdue : s.retimeDue c = true) (realigned : Bool) :
    s.takeChannelBoundary c realigned =
      if realigned then ((s.takeStandbyBoundary c realigned).applyRetime c).releaseChannel c true
      else (s.takeStandbyBoundary c realigned).modWork c fun w => { w with retime := true } := by
  unfold State.takeChannelBoundary
  rw [if_pos h]
  exact if_pos (by rw [takeStandbyBoundary_retimeDue, hdue])

theorem takeChannelBoundary_back (h : s.inService c = true) (hdue : s.retimeDue c = false) (realigned : Bool) :
    BackAtBoundary c realigned s (s.takeChannelBoundary c realigned) := by
  rw [takeChannelBoundary_undue h hdue]
  exact ((Releases.refl c s).takeStandbyBoundary realigned).back (releaseChannel_back _ c realigned)

/-- The main path of a channel taken, and what follows its release. -/
def State.follow (a : State) (c : Chan) (realigned : Bool) : State := (a.takeMainBoundary c).1.afterRelease c (a.takeMainBoundary c).2 realigned

theorem releaseChannel_eq (s : State) (c : Chan) (realigned : Bool) :
    s.releaseChannel c realigned = (if realigned then s.rebaseMain c else s).follow c realigned := by
  unfold State.releaseChannel State.follow
  dsimp only

theorem retimeDue_none (h : (s.ch c).align.retime = none) : s.retimeDue c = false := by
  unfold State.retimeDue
  rw [h]

theorem retimeDue_some {r : Retime} (h : (s.ch c).align.retime = some r) : s.retimeDue c = decide (s.signed r.target s.time.h ≤ 0) := by
  unfold State.retimeDue
  rw [h]
  rfl

theorem applyRetime_some {r : Retime} (h : (s.ch c).align.retime = some r) :
    s.applyRetime c = (s.modAlign c fun x => { x with d := some r.value, retime := none }).bump (.chan c .retimes) := by
  unfold State.applyRetime
  rw [h]
  rfl

/-- A channel in service with no retime, or with one that is not due or is. -/
theorem takeChannelBoundary_taken (h : s.inService c = true) (realigned : Bool) :
    let t := s.takeStandbyBoundary c realigned
    let w := s.takeChannelBoundary c realigned
    ((t.ch c).align.retime = none → w = (if realigned then t.rebaseMain c else t).follow c realigned) ∧
      ∀ r, (t.ch c).align.retime = some r →
        (0 < s.signed r.target s.time.h → w = (if realigned then t.rebaseMain c else t).follow c realigned) ∧
        (s.signed r.target s.time.h ≤ 0 →
          w = (if realigned then
              (((t.modAlign c fun x => { x with d := some r.value, retime := none }).bump (.chan c .retimes)).rebaseMain c).follow c realigned
            else t.modWork c fun y => { y with retime := true })) := by
  intro t w
  have hretime : (t.ch c).align.retime = (s.ch c).align.retime := takeStandbyBoundary_retime s c realigned
  refine ⟨fun hr => ?_, fun r hr => ⟨fun hlater => ?_, fun hdue => ?_⟩⟩
  · exact (takeChannelBoundary_undue h (retimeDue_none (hretime ▸ hr)) realigned).trans (releaseChannel_eq ..)
  · have hundue : s.retimeDue c = false := (retimeDue_some (hretime ▸ hr)).trans (decide_eq_false (by omega))
    exact (takeChannelBoundary_undue h hundue realigned).trans (releaseChannel_eq ..)
  · have htaken := takeChannelBoundary_due h ((retimeDue_some (hretime ▸ hr)).trans (decide_eq_true hdue)) realigned
    rw [applyRetime_some (s := s.takeStandbyBoundary c realigned) hr] at htaken
    have hrebased : ∀ a : State, a.releaseChannel c true = (a.rebaseMain c).follow c true := fun a =>
      (releaseChannel_eq a c true).trans (by rw [if_pos rfl])
    rw [hrebased] at htaken
    cases realigned with
    | false => exact htaken.trans ((if_neg nofun).trans (if_neg nofun).symm)
    | true => exact htaken.trans ((if_pos rfl).trans (if_pos rfl).symm)

/-- What follows a main release: the guard counted, the cues realigned, the steps left due, and the frame. -/
theorem afterRelease_steps (s : State) (c : Chan) (j : Option Judgement) (realigned : Bool) :
    let counted : State :=
      if (s.ch c).control.state = .returnGuard then s.modControl c fun y => { y with guard := y.guard.map fun n => min (n + 1) 65535 } else s
    let a := if realigned then counted.realignCues c else counted
    let x := (a.ch c).control
    let cue : Bool := !realigned && (a.cueStep c).isSome
    let control : Bool := match x.state, x.guard, x.returnPosition with
      | .returnGuard, some n, _ => (a.ch c).settings.guardLength ≤ n
      | .returning, _, some p => realigned || a.signed p a.time.h ≤ 0
      | _, _, _ => false
    s.afterRelease c j realigned = (a.modWork c fun w => { w with cue := cue, control := control, frame := true, judgement := j }).finishChannel c := by
  intro counted
  have hcounted : s.countGuard c = counted := by
    by_cases h : (s.ch c).control.state = .returnGuard
    · refine Eq.trans ?_ (if_pos h).symm
      unfold State.countGuard State.chState
      rw [h]
    · exact (countGuard_self h).trans (if_neg h).symm
  rw [afterRelease_eq, State.guarded, hcounted]
  rfl

/-- The frame of a channel and its judgement, once no retime, cue or controller step is due. -/
theorem finishChannel_steps (s : State) (c : Chan) :
    let w := (s.ch c).work
    let sent := (s.modWork c fun w => { w with frame := false, judgement := none }).assemble c
    (w.frame = true → w.retime = false → w.cue = false → w.control = false →
      (w.judgement = none → s.finishChannel c = sent) ∧ ∀ k, w.judgement = some k → s.finishChannel c = sent.judge c k) ∧
    (w.frame = false ∨ w.retime = true ∨ w.cue = true ∨ w.control = true → s.finishChannel c = s) := by
  intro w sent
  refine ⟨fun hf hr hc hk => ?_, fun h => finishChannel_waits ?_⟩
  · have hready : (s.ch c).work.ready = true := by
      unfold ChannelWork.ready
      rw [hf, hr, hc, hk]
      rfl
    exact ⟨finishChannel_unjudged hready, fun k => finishChannel_judged hready⟩
  · unfold ChannelWork.ready
    rcases h with h | h | h | h <;> rw [h] <;> simp

/-! ## The channels in increasing number -/

/-- The part once the first `n` channels have been through a boundary. -/
def State.channelsTo (s : State) (realigned : Bool) (n : Nat) : State := (Chan.all.take n).foldl (fun t c => t.takeChannelBoundary c realigned) s

theorem channelsTo_all (s : State) (realigned : Bool) : s.channelsTo realigned 16 = s.eachChannel fun c t => t.takeChannelBoundary c realigned := by
  unfold State.channelsTo State.eachChannel
  rw [show Chan.all.take 16 = Chan.all by decide]

theorem channelsTo_succ (s : State) (realigned : Bool) (c : Chan) :
    s.channelsTo realigned (c.val + 1) = (s.channelsTo realigned c.val).takeChannelBoundary c realigned := by
  have hstep : ∀ c : Chan, Chan.all.take (c.val + 1) = Chan.all.take c.val ++ [c] := by decide
  unfold State.channelsTo
  rw [hstep, List.foldl_append]
  rfl

theorem takeChannelBoundary_around (c : Chan) (t : State) (realigned : Bool) : Around c t (t.takeChannelBoundary c realigned) :=
  ((Beside.refl c t).takeChannelBoundary realigned).around

/-- A channel that has not had its turn stands as it stood. -/
theorem channelsTo_away (s : State) (realigned : Bool) (c : Chan) : AwayFrom c s (s.channelsTo realigned c.val) := by
  have hturn : ∀ c : Chan, c ∉ Chan.all.take c.val := by decide
  exact AwayFrom.foldl (fun c t => takeChannelBoundary_around c t realigned) (hturn c) s

end Sys2Proof.Machine

/-! PROOFS. The Schedule Store at a boundary: timers, retirement, and the lists cleared at a cycle end (R111 to R114). -/

namespace Sys2Proof.Machine

-- Each elaboration thread takes a large stack, and the text is compiled as one file under a memory limit: one thread at a time.
set_option Elab.async false

variable {s t u v : State} {c : Chan}

/-! ## Timers and retirement of one channel (R111 to R113) -/

/-- A schedule with its two timers counted (R111, R112). -/
def Schedule.counted (x : Schedule) : Schedule :=
  { x with snapshotTimer := x.snapshotTimer.map (· + 1), resyncTimer := x.resyncTimer.map (· + 1) }

/-- Whether a timer counted once more reaches its period. -/
def timerDue (timer : Option Nat) (period : Nat) : Bool :=
  match timer with
  | some n => decide (period ≤ n + 1)
  | none => false

/-- A channel's work with what its schedule timers leave due (R111, R112). -/
def ChannelWork.timed (w : ChannelWork) (snapshot resync : Bool) : ChannelWork := { w with snapshot := snapshot, resync := resync }

theorem countTimer_eq (timer : Option Nat) (period : Nat) : countTimer timer period = (timer.map (· + 1), timerDue timer period) := by
  cases timer <;> rfl

theorem countScheduleTimers_ch (s : State) (c : Chan) :
    (s.countScheduleTimers c).ch c =
      { s.ch c with
        schedule := (s.ch c).schedule.counted
        work :=
          (s.ch c).work.timed (timerDue (s.ch c).schedule.snapshotTimer (prescaledPeriod s.settings.snapshotCount s.settings.snapshotPrescale))
            (timerDue (s.ch c).schedule.resyncTimer (prescaledPeriod s.settings.resyncCount s.settings.resyncPrescale)) } := by
  unfold State.countScheduleTimers
  dsimp only
  rw [State.ch_modWork_same, State.ch_modSchedule_same, countTimer_eq, countTimer_eq]
  rfl

/-- A schedule with the events retired that end at or before the edge (R113). -/
def Schedule.retired (x : Schedule) (edge : Int) : Schedule :=
  { x with live := x.live.map (retained edge), shadow := x.shadow.map fun y => { y with events := retained edge y.events } }

/-- How many events a schedule holds, live and in its shadow list. -/
def Schedule.held (x : Schedule) : Nat := (x.live.getD []).length + ((x.shadow.map Shadow.events).getD []).length

theorem retire_ch (s : State) (c : Chan) : (s.retire c).ch c = { s.ch c with schedule := (s.ch c).schedule.retired (s.scheduleEdge c) } := by
  unfold State.retire
  dsimp only
  rw [State.ch_bumpBy, State.ch_modSchedule_same]
  rfl

theorem retire_counter (s : State) (c : Chan) :
    (s.retire c).counter (.chan c .eventsRetired) =
      satAdd (s.counter (.chan c .eventsRetired)) ((s.ch c).schedule.held - ((s.ch c).schedule.retired (s.scheduleEdge c)).held) := by
  unfold State.retire
  dsimp only
  rw [State.counter_bumpBy, if_pos rfl]
  rfl

theorem countScheduleTimers_counter (s : State) (c : Chan) (key : CounterKey) : (s.countScheduleTimers c).counter key = s.counter key := rfl

theorem AwayFrom.scheduleEdge (h : AwayFrom c s t) : t.scheduleEdge c = s.scheduleEdge c := by
  unfold State.scheduleEdge State.inService State.delay
  rw [h.channel, h.time]

theorem countScheduleTimers_edge (s : State) (c : Chan) : (s.countScheduleTimers c).scheduleEdge c = s.scheduleEdge c := by
  unfold State.scheduleEdge State.inService State.delay
  rw [countScheduleTimers_ch]
  rfl

/-- What the Schedule Store leaves of a channel at a boundary other than a cycle end. -/
theorem takeScheduleBoundary_counted (s : State) (c : Chan) :
    (s.takeScheduleBoundary false).ch c =
        { s.ch c with
          schedule := (s.ch c).schedule.counted.retired (s.scheduleEdge c)
          work :=
            (s.ch c).work.timed (timerDue (s.ch c).schedule.snapshotTimer (prescaledPeriod s.settings.snapshotCount s.settings.snapshotPrescale))
              (timerDue (s.ch c).schedule.resyncTimer (prescaledPeriod s.settings.resyncCount s.settings.resyncPrescale)) } ∧
      (s.takeScheduleBoundary false).counter (.chan c .eventsRetired) =
        satAdd (s.counter (.chan c .eventsRetired)) ((s.ch c).schedule.held - ((s.ch c).schedule.retired (s.scheduleEdge c)).held) := by
  unfold State.takeScheduleBoundary
  rw [if_neg nofun]
  obtain ⟨u, hu, hw⟩ := State.eachChannel_at (fun c t => Around.countScheduleTimers t c) s c
  generalize (s.eachChannel fun c t => t.countScheduleTimers c) = w at hw
  obtain ⟨v, hv, hd⟩ := State.eachChannel_at (fun c t => Around.retire t c) w c
  generalize (w.eachChannel fun c t => t.retire c) = d at hd
  have hedge : v.scheduleEdge c = s.scheduleEdge c := by
    rw [hv.scheduleEdge, hw.scheduleEdge, countScheduleTimers_edge, hu.scheduleEdge]
  have hch : v.ch c = (u.countScheduleTimers c).ch c := hv.channel.trans hw.channel
  rw [countScheduleTimers_ch, hu.channel, hu.settings] at hch
  have hcounter : v.counter (.chan c .eventsRetired) = s.counter (.chan c .eventsRetired) := by
    rw [hv.counters, hw.counters, countScheduleTimers_counter, hu.counters]
  constructor
  · rw [hd.channel, retire_ch, hedge, hch]
  · rw [hd.counters, retire_counter, hedge, hch, hcounter]
    rfl

/-! ## The lists cleared at a cycle end (R114) -/

/-- A schedule with its lists cleared and its resync interval started afresh (R112, R114). -/
def Schedule.cleared (x : Schedule) : Schedule :=
  { live := none, shadow := none, state := .empty, expected := x.expected, snapshotTimer := none, resyncTimer := some 0 }

theorem setReplication_ch (s : State) (c : Chan) (new : Replication) (cause : ReplicationCause) :
    (s.setReplication c new cause).ch c = { s.ch c with schedule := { (s.ch c).schedule with state := new } } := by
  unfold State.setReplication
  dsimp only
  split
  · rename_i h
    rw [h]
  · rw [State.ch_raise, State.ch_bumpCh, State.ch_modSchedule_same]

theorem fallBehind_ch (s : State) (c : Chan) (new : Replication) (cause : ReplicationCause) :
    (s.fallBehind c new cause).ch c = { s.ch c with schedule := { (s.ch c).schedule with state := new, resyncTimer := some 0 } } := by
  unfold State.fallBehind
  rw [resync_ch, setReplication_ch]

/-- The RESYNC of a channel on both contribution ports (R112). -/
theorem resync_sent (s : State) (c : Chan) (side : Side) : ∃ x ∈ (s.resync c).outbox, x.port = .contribution side ∧ x.stamp = s.time.h ∧
    x.what = .resync c (s.ch c).schedule.expected (s.ch c).schedule.state := by
  unfold State.resync State.sendMain
  cases side with
  | a => exact ⟨_, List.mem_append_left _ (List.mem_append_right _ (List.mem_singleton_self _)), rfl, rfl, rfl⟩
  | b => exact ⟨_, List.mem_append_right _ (List.mem_singleton_self _), rfl, rfl, rfl⟩

/-- A channel's lists cleared and its RESYNC sent, the notice still to be taken (R114). -/
def State.listsGone (s : State) (c : Chan) (cause : ReplicationCause) : State :=
  let a := s.freeShadow c
  ({ a with poolFree := a.poolFree + (a.live c).length }.modSchedule c fun x => { x with live := none }).fallBehind c .empty cause

theorem clearLists_eq (s : State) (c : Chan) (cause : ReplicationCause) : s.clearLists c cause = (s.listsGone c cause).takeNotice c .cleared := rfl

theorem listsGone_ch (s : State) (c : Chan) (cause : ReplicationCause) :
    (s.listsGone c cause).ch c = { s.ch c with schedule := (s.ch c).schedule.cleared } := by
  unfold State.listsGone
  dsimp only
  rw [fallBehind_ch, State.ch_modSchedule_same]
  have hfreed : (s.freeShadow c).ch c = { s.ch c with schedule := { (s.ch c).schedule with shadow := none, snapshotTimer := none } } := by
    unfold State.freeShadow
    exact State.ch_modSchedule_same ..
  have hpool : ∀ (a : State) (n : Nat), ({ a with poolFree := n } : State).ch c = a.ch c := fun _ _ => rfl
  rw [hpool, hfreed]
  rfl

theorem listsGone_sent (s : State) (c : Chan) (cause : ReplicationCause) (side : Side) :
    ∃ x ∈ (s.listsGone c cause).outbox, x.port = .contribution side ∧ x.stamp = s.time.h ∧ x.what = .resync c (s.ch c).schedule.expected .empty := by
  have hfreed : (s.freeShadow c).time = s.time ∧ ((s.freeShadow c).ch c).schedule.expected = (s.ch c).schedule.expected := by
    unfold State.freeShadow
    refine ⟨rfl, ?_⟩
    rw [State.ch_modSchedule_same]
    rfl
  unfold State.listsGone State.fallBehind
  dsimp only
  obtain ⟨x, hx, hport, hstamp, hwhat⟩ := resync_sent
    ((({ s.freeShadow c with poolFree := (s.freeShadow c).poolFree + ((s.freeShadow c).live c).length } : State).modSchedule c
      fun x => { x with live := none }).setReplication c .empty cause) c side
  rw [setReplication_ch, State.ch_modSchedule_same] at hwhat
  rw [((Elsewhere.refl c _).setReplication .empty cause).time] at hstamp
  exact ⟨x, hx, hport, hstamp.trans (congrArg Timeline.h hfreed.1), hwhat.trans (congrArg (Outgoing.resync c · .empty) hfreed.2)⟩

/-- What stands of a channel: the Cue Engine keeps it. -/
theorem standing_stable (c : Chan) (x : Standing) : CueStable c fun u => (u.ch c).standing = x where
  channel u f hf hu := by rw [State.ch_modCh_same, hf, hu]
  bump _ _ _ hu := hu
  send _ _ _ _ hu := hu
  raise u r hu := by rw [State.ch_raise, hu]

/-- What clearing a channel's lists leaves of it, and what it sends. -/
structure ListsCleared (c : Chan) (s t : State) : Prop where
  standing : (t.ch c).standing = { (s.ch c).standing with schedule := (s.ch c).schedule.cleared }
  monitor : (t.ch c).monitor = (s.ch c).monitor
  back : StaysBack c s t
  sent : ∀ side, ∃ x ∈ t.outbox, x.port = .contribution side ∧ x.stamp = s.time.h ∧ x.what = .resync c (s.ch c).schedule.expected .empty

theorem clearLists_cleared (s : State) (c : Chan) (cause : ReplicationCause) : ListsCleared c s (s.clearLists c cause) := by
  rw [clearLists_eq]
  have hch := listsGone_ch s c cause
  have hsent := listsGone_sent s c cause
  generalize s.listsGone c cause = v at hch hsent
  have hcues := (CueLocal.refl c v).takeNotice .cleared
  exact ⟨(standing_stable c _).takeNotice (by rw [hch]; rfl) .cleared, by rw [hcues.monitor, hch],
    (StaysBack.of_control (by rw [hch])).trans (takeNotice_staysBack v c .cleared),
    fun side => (hsent side).imp fun x hx => ⟨hcues.outbox.subset hx.1, hx.2⟩⟩

/-- What the Schedule Store leaves of a channel at a cycle end. -/
theorem takeScheduleBoundary_cleared (s : State) (c : Chan) : ListsCleared c s (s.takeScheduleBoundary true) := by
  unfold State.takeScheduleBoundary State.clearAllLists
  rw [if_pos rfl]
  obtain ⟨u, hu, hw⟩ := State.eachChannel_at (fun c t => Around.clearLists t c .cycleEnd) s c
  generalize (s.eachChannel fun c t => t.clearLists c .cycleEnd) = w at hw
  obtain ⟨v, hv, hd⟩ := State.eachChannel_at (fun c t => Around.retire t c) w c
  generalize (w.eachChannel fun c t => t.retire c) = d at hd
  have hclear := clearLists_cleared u c .cycleEnd
  generalize u.clearLists c .cycleEnd = x at hclear hw
  have hstanding := hclear.standing
  have hback := hclear.back
  rw [hu.channel] at hstanding
  unfold StaysBack at hback
  rw [hu.channel] at hback
  have hch : d.ch c = { x.ch c with schedule := (x.ch c).schedule.retired (v.scheduleEdge c) } := by
    rw [hd.channel, retire_ch, hv.channel, hw.channel]
  have hschedule : (x.ch c).schedule = (s.ch c).schedule.cleared := congrArg Standing.schedule hstanding
  refine ⟨?_, ?_, ?_, fun side => ?_⟩
  · rw [hch, ← hstanding]
    unfold Channel.standing
    rw [hschedule]
    rfl
  · rw [hch, hclear.monitor, hu.channel]
  · unfold StaysBack
    rw [hch]
    exact hback
  · obtain ⟨y, hy, hport, hstamp, hwhat⟩ := hclear.sent side
    rw [hu.time] at hstamp
    rw [hu.channel] at hwhat
    exact ⟨y, hd.outbox.subset (((Around.retire v c).outbox).subset (hv.outbox.subset (hw.outbox.subset hy))), hport, hstamp, hwhat⟩

end Sys2Proof.Machine

/-! PROOFS. A boundary taken whole: what it leaves, what it leaves due, and its order (R1, R25, R44 to R53, R62, R81, R111 to R114, R132, R133, R169, R174). -/

namespace Sys2Proof.Machine

-- Each elaboration thread takes a large stack, and the text is compiled as one file under a memory limit: one thread at a time.
set_option Elab.async false

variable {s t u v : State} {c : Chan}

/-! ## The paths and the keepalive timer counted (R25, R81) -/

theorem counted_rest (s : State) :
    ({ s.counted with ports := s.ports, site := s.site, work := s.work } : State) = s ∧ ({ s.counted.site with elapsed := s.site.elapsed } : Site) = s.site ∧
      s.counted.ports.links = s.ports.links := by
  unfold State.counted State.countKeepalive
  split <;> exact ⟨rfl, rfl, rfl⟩

theorem counted_ch (s : State) (c : Chan) : s.counted.ch c = s.ch c := by
  unfold State.counted State.countKeepalive
  split <;> rfl

theorem counted_counter (s : State) (key : CounterKey) : s.counted.counter key = s.counter key := by
  unfold State.counted State.countKeepalive
  split <;> rfl

theorem counted_path (s : State) (side : Side) :
    s.counted.path side = (pathBoundary s.settings.pathTimeout s.settings.pathRestore (s.path side)).1 ∧
      s.counted.pathDue side = (pathBoundary s.settings.pathTimeout s.settings.pathRestore (s.path side)).2 := by
  unfold State.counted State.countKeepalive
  split <;> cases side <;> exact ⟨rfl, rfl⟩

theorem counted_keepalive (h : s.site.timerRunning = true) :
    s.counted.site.elapsed = s.site.elapsed + 1 ∧
      s.counted.work.keepalive = decide (s.settings.keepaliveCount * 2 ^ s.settings.keepalivePrescale.val ≤ s.site.elapsed + 1) := by
  unfold State.counted State.countKeepalive
  split
  · exact ⟨rfl, rfl⟩
  · exact absurd h ‹_›

theorem counted_stopped (h : s.site.timerRunning = false) : s.counted.site.elapsed = s.site.elapsed ∧ s.counted.work.keepalive = false := by
  unfold State.counted State.countKeepalive
  split
  · rename_i hrunning
    exact absurd (h.symm.trans hrunning) nofun
  · exact ⟨rfl, rfl⟩

theorem pathBoundary_kept (timeout restore : Nat) (x : PathState) :
    (pathBoundary timeout restore x).1.up = x.up ∧ (pathBoundary timeout restore x).1.traffic = false ∧
      (pathBoundary timeout restore x).1.silence = (if x.traffic then 0 else min (x.silence + 1) 250) ∧
      (pathBoundary timeout restore x).1.run = (if x.traffic then min (x.run + 1) 250 else 0) := by
  unfold pathBoundary
  dsimp only
  split <;> exact ⟨rfl, rfl, rfl, rfl⟩

theorem pathBoundary_due (timeout restore : Nat) (x : PathState) :
    (pathBoundary timeout restore x).2 =
      (if x.traffic then !x.up && decide (restore ≤ min (x.run + 1) 250) else x.up && decide (timeout ≤ min (x.silence + 1) 250)) := by
  unfold pathBoundary
  dsimp only
  split <;> rfl

/-! ## The Schedule Store, then each channel -/

/-- A part as the channels find it at a boundary. -/
def State.scheduled (s : State) (prev : Nat) : State := s.counted.takeScheduleBoundary (cycleEndMark s.time.rate prev s.time.h)

theorem channelsTaken_eq (s : State) (prev : Nat) (realigned : Bool) : s.channelsTaken prev realigned = (s.scheduled prev).channelsTo realigned 16 := by
  rw [channelsTo_all, State.scheduled, ← counted_time s]
  rfl

theorem counted_away (s : State) (c : Chan) : s.counted.ch c = s.ch c ∧ s.counted.settings = s.settings ∧ s.counted.time = s.time ∧
    s.counted.scheduleEdge c = s.scheduleEdge c := by
  obtain ⟨hrest, -, -⟩ := counted_rest s
  have hsettings : s.counted.settings = s.settings := (congrArg State.settings hrest :)
  refine ⟨counted_ch s c, hsettings, counted_time s, ?_⟩
  unfold State.scheduleEdge State.inService State.delay
  rw [counted_ch, counted_time]

/-- What the Schedule Store leaves of a channel at a boundary other than a cycle end. -/
theorem scheduled_counted {prev : Nat} (h : cycleEndMark s.time.rate prev s.time.h = false) (c : Chan) :
    (s.scheduled prev).ch c =
        { s.ch c with
          schedule := (s.ch c).schedule.counted.retired (s.scheduleEdge c)
          work :=
            (s.ch c).work.timed (timerDue (s.ch c).schedule.snapshotTimer (s.settings.snapshotCount * 2 ^ s.settings.snapshotPrescale.val))
              (timerDue (s.ch c).schedule.resyncTimer (s.settings.resyncCount * 2 ^ s.settings.resyncPrescale.val)) } ∧
      (s.scheduled prev).counter (.chan c .eventsRetired) =
        satAdd (s.counter (.chan c .eventsRetired)) ((s.ch c).schedule.held - ((s.ch c).schedule.retired (s.scheduleEdge c)).held) := by
  obtain ⟨hch, hsettings, -, hedge⟩ := counted_away s c
  have hcounted := takeScheduleBoundary_counted s.counted c
  rw [hch, hsettings, hedge, counted_counter] at hcounted
  unfold State.scheduled
  rw [h]
  exact hcounted

/-- What the Schedule Store leaves of a channel at a cycle end. -/
theorem scheduled_cleared {prev : Nat} (h : cycleEndMark s.time.rate prev s.time.h = true) (c : Chan) :
    ListsCleared c s (s.scheduled prev) := by
  have hcleared := takeScheduleBoundary_cleared s.counted c
  unfold State.scheduled
  rw [h]
  generalize s.counted.takeScheduleBoundary true = d at hcleared ⊢
  obtain ⟨hstanding, hmonitor, hback, hsent⟩ := hcleared
  unfold StaysBack at hback
  rw [counted_ch] at hstanding hmonitor hback
  rw [counted_ch, counted_time] at hsent
  exact ⟨hstanding, hmonitor, hback, hsent⟩

/-- What stands of a channel, but for its schedule and what is due of it, its monitor, and its way back, through the Schedule Store's part of a boundary. -/
theorem scheduled_keeps (s : State) (prev : Nat) (c : Chan) :
    (∃ x w, ((s.scheduled prev).ch c).standing = { (s.ch c).standing with schedule := x, work := w }) ∧
      ((s.scheduled prev).ch c).monitor = (s.ch c).monitor ∧ StaysBack c s (s.scheduled prev) := by
  cases h : cycleEndMark s.time.rate prev s.time.h with
  | false =>
    have hch := (scheduled_counted h c).1
    unfold StaysBack
    rw [hch]
    exact ⟨⟨_, _, rfl⟩, rfl, fun _ => rfl⟩
  | true =>
    have hcleared := scheduled_cleared h c
    exact ⟨⟨_, _, hcleared.standing⟩, hcleared.monitor, hcleared.back⟩

/-- A channel meets its part of a boundary once, as the Schedule Store left it. -/
theorem channelsTaken_at (s : State) (prev : Nat) (realigned : Bool) (c : Chan) :
    ∃ v, AwayFrom c (s.scheduled prev) v ∧ AwayFrom c (v.takeChannelBoundary c realigned) (s.channelsTaken prev realigned) := by
  rw [channelsTaken_eq, channelsTo_all]
  exact State.eachChannel_at (fun c t => takeChannelBoundary_around c t realigned) _ c

/-- The releases, the cues and the frame of every channel leave the schedule of each, what is due of it, and what rules it. -/
theorem channelsTaken_steady (s : State) (prev : Nat) (realigned : Bool) (c : Chan) :
    Steadied c (s.scheduled prev) (s.channelsTaken prev realigned) := by
  obtain ⟨v, hv, hafter⟩ := channelsTaken_at s prev realigned c
  have hturn := (Steadied.refl c v).takeChannelBoundary realigned
  exact ⟨by rw [hafter.channel, hturn.channel, hv.channel], by rw [hafter.counters, hturn.retired, hv.counters]⟩

theorem scheduled_time (s : State) (prev : Nat) : (s.scheduled prev).time = s.time :=
  (Through.takeScheduleBoundary s.counted _).time.trans (counted_time s)

/-- The guard and the arrival of a channel in service whose retime is not due (R132, R133). -/
theorem channelsTaken_back (s : State) (prev : Nat) (realigned : Bool) {c : Chan} (hdue : s.retimeDue c = false) :
    BackAtBoundary c realigned s (s.channelsTaken prev realigned) := by
  obtain ⟨⟨x, w, hstanding⟩, hmonitor, hback⟩ := scheduled_keeps s prev c
  by_cases hcoming : (s.ch c).control.ComingBack
  · obtain ⟨v, hv, hafter⟩ := channelsTaken_at s prev realigned c
    have htime : v.time = s.time := hv.time.trans (scheduled_time s prev)
    rw [← hv.channel] at hstanding hmonitor
    unfold StaysBack at hback
    rw [← hv.channel] at hback
    have hstate : (v.ch c).control.state = (s.ch c).control.state := (congrArg Prod.fst (hback hcoming) :)
    have hin : v.inService c = true := by
      rw [inService_iff, hstate]
      rcases hcoming with h | h <;> rw [h] <;> exact nofun
    have hretime : v.retimeDue c = false := by
      have halign : (v.ch c).align = (s.ch c).align := (congrArg Standing.align hstanding :)
      unfold State.retimeDue State.reached State.signed State.cycle at hdue ⊢
      rw [halign, htime]
      exact hdue
    exact ((takeChannelBoundary_back hin hretime realigned).of_after hafter.channel).of_before hback (congrArg Standing.settings hstanding :) hmonitor htime
  · exact ⟨fun n hs => absurd (.inl hs) hcoming, fun p hs => absurd (.inr hs) hcoming⟩

end Sys2Proof.Machine

/-! PROOFS. What a boundary leaves, what it leaves due, and its schedules, of a part in any state. -/

namespace Sys2Proof.Machine

-- Each elaboration thread takes a large stack, and the text is compiled as one file under a memory limit: one thread at a time.
set_option Elab.async false

variable {s t u v : State} {c : Chan}

/-! ## The unit -/

/-- A boundary's end: what waits for the frames is left due (R1, R198, R203). -/
def State.ended (t : State) (warm : Bool) : State := { t with work := { t.work with warmEnd := warm, report := true } }

theorem counted_mgmt (s : State) : s.counted.mgmt = s.mgmt := (congrArg State.mgmt (counted_rest s).1 :)

theorem takeBoundary_ended (s : State) (prev : Nat) (realigned : Bool) :
    s.takeBoundary prev realigned = (s.channelsTaken prev realigned).ended s.mgmt.restarting.isSome := by
  have hmgmt := (Through.channelsTaken s prev realigned).mgmt
  rw [counted_mgmt] at hmgmt
  obtain ⟨-, -, -, -, hrestarting, -⟩ := quiet_management hmgmt
  rw [takeBoundary_eq, hrestarting]
  rfl

/-- What the channels leave of the unit, as its paths and timers were counted. -/
theorem channelsTaken_frame (s : State) (prev : Nat) (realigned : Bool) :
    ∃ t, s.channelsTaken prev realigned = t ∧
      t.time = s.time ∧ t.settings = s.settings ∧ t.ports.links = s.ports.links ∧ t.mgmt.quiet = s.mgmt.quiet ∧ t.pending = s.pending ∧
      s.outbox <+: t.outbox ∧ { t.site with elapsed := s.site.elapsed } = s.site ∧ ∀ p k, t.counter (.port p k) = s.counter (.port p k) := by
  have h := Through.channelsTaken s prev realigned
  obtain ⟨hrest, hsite, hlinks⟩ := counted_rest s
  have hsettings : s.counted.settings = s.settings := (congrArg State.settings hrest :)
  have hpending : s.counted.pending = s.pending := (congrArg State.pending hrest :)
  have houtbox : s.counted.outbox = s.outbox := (congrArg State.outbox hrest :)
  have hsent := h.outbox
  rw [houtbox] at hsent
  exact ⟨_, rfl, h.time.trans (counted_time s), h.settings.trans hsettings, (congrArg Ports.links h.ports).trans hlinks,
    h.mgmt.trans (congrArg Management.quiet (counted_mgmt s)), h.pending.trans hpending, hsent, by rw [h.site]; exact hsite,
    fun p k => (h.counters _ fun _ => rfl).trans (counted_counter s _)⟩

/-- What rules a channel, and a channel out of service, through a boundary. -/
theorem channelsTaken_ruled (s : State) (prev : Nat) (realigned : Bool) (c : Chan) :
    ∃ t, s.channelsTaken prev realigned = t ∧
      (t.ch c).settings = (s.ch c).settings ∧ (t.ch c).control.mode = (s.ch c).control.mode ∧ (t.ch c).control.pin = (s.ch c).control.pin ∧
      (t.ch c).control.owner = (s.ch c).control.owner ∧ (t.ch c).align.measurement = (s.ch c).align.measurement ∧
      (s.inService c = false → cycleEndMark s.time.rate prev s.time.h = false →
        { t.ch c with schedule := (s.ch c).schedule, work := (s.ch c).work } = s.ch c) := by
  obtain ⟨⟨x, w, hstanding⟩, -, -⟩ := scheduled_keeps s prev c
  have hsteady := (channelsTaken_steady s prev realigned c).channel
  obtain ⟨v, hv, hafter⟩ := channelsTaken_at s prev realigned c
  rw [hstanding] at hsteady
  generalize s.channelsTaken prev realigned = t at hsteady hafter
  have hrule : (t.ch c).control.rule = (s.ch c).control.rule := (congrArg Steady.rule hsteady :)
  unfold Control.rule at hrule
  obtain ⟨hmode, hrule⟩ := Prod.mk.inj hrule
  obtain ⟨hpin, howner⟩ := Prod.mk.inj hrule
  refine ⟨_, rfl, (congrArg Steady.settings hsteady :), hmode, hpin, howner, (congrArg Steady.measurement hsteady :), fun hout hmark => ?_⟩
  have hch := (scheduled_counted hmark c).1
  have hvout : v.inService c = false := by
    unfold State.inService at hout ⊢
    rw [hv.channel, hch]
    exact hout
  rw [takeChannelBoundary_out hvout] at hafter
  rw [hafter.channel, hv.channel, hch]

/-- R1, R25: what a boundary leaves. -/
theorem takeBoundary_frame (s : State) (prev : Nat) (realigned : Bool) : ∃ t, s.takeBoundary prev realigned = t ∧
    t.time = s.time ∧ t.settings = s.settings ∧ t.ports.links = s.ports.links ∧ t.mgmt.quiet = s.mgmt.quiet ∧ t.pending = s.pending ∧
    s.outbox <+: t.outbox ∧ { t.site with elapsed := s.site.elapsed } = s.site ∧ (∀ p k, t.counter (.port p k) = s.counter (.port p k)) ∧
    (∀ side, (t.path side).up = (s.path side).up ∧ (t.path side).traffic = false ∧
      (t.path side).silence = (if (s.path side).traffic then 0 else min ((s.path side).silence + 1) 250) ∧
      (t.path side).run = (if (s.path side).traffic then min ((s.path side).run + 1) 250 else 0)) ∧
    ∀ c, (t.ch c).settings = (s.ch c).settings ∧ (t.ch c).control.mode = (s.ch c).control.mode ∧ (t.ch c).control.pin = (s.ch c).control.pin ∧
      (t.ch c).control.owner = (s.ch c).control.owner ∧ (t.ch c).align.measurement = (s.ch c).align.measurement ∧
      (s.inService c = false → cycleEndMark s.time.rate prev s.time.h = false →
        { t.ch c with schedule := (s.ch c).schedule, work := (s.ch c).work } = s.ch c) := by
  obtain ⟨t, ht, htime, hsettings, hlinks, hmgmt, hpending, houtbox, hsite, hports⟩ := channelsTaken_frame s prev realigned
  have hruled := channelsTaken_ruled s prev realigned
  have hpath : ∀ side, t.path side = (pathBoundary s.settings.pathTimeout s.settings.pathRestore (s.path side)).1 := fun side => by
    rw [← (counted_path s side).1, ← ht]
    unfold State.path
    rw [(Through.channelsTaken s prev realigned).ports]
  rw [takeBoundary_ended, ht]
  refine ⟨_, rfl, htime, hsettings, hlinks, hmgmt, hpending, houtbox, hsite, hports, fun side => ?_, fun c => ?_⟩
  · have hkept := pathBoundary_kept s.settings.pathTimeout s.settings.pathRestore (s.path side)
    rw [← hpath] at hkept
    cases side <;> exact hkept
  · obtain ⟨t', ht', hc⟩ := hruled c
    rw [ht] at ht'
    subst ht'
    exact hc

/-! ## What falls due -/

/-- R25, R81, R132, R133: what a boundary leaves due. -/
theorem takeBoundary_due (s : State) (prev : Nat) (realigned : Bool) : ∃ t, s.takeBoundary prev realigned = t ∧
    (∀ side, t.pathDue side =
      (if (s.path side).traffic then !(s.path side).up && decide (s.settings.pathRestore ≤ min ((s.path side).run + 1) 250)
       else (s.path side).up && decide (s.settings.pathTimeout ≤ min ((s.path side).silence + 1) 250))) ∧
    (s.site.timerRunning = true →
      t.site.elapsed = s.site.elapsed + 1 ∧
        t.work.keepalive = decide (s.settings.keepaliveCount * 2 ^ s.settings.keepalivePrescale.val ≤ s.site.elapsed + 1)) ∧
    (s.site.timerRunning = false → t.site.elapsed = s.site.elapsed ∧ t.work.keepalive = false) ∧
    t.work.report = true ∧ t.work.warmEnd = s.mgmt.restarting.isSome ∧
    ∀ c, s.inService c = true → s.retimeDue c = false → BackAtBoundary c realigned s t := by
  have hthrough := Through.channelsTaken s prev realigned
  have hback := fun c => channelsTaken_back s prev realigned (c := c)
  rw [takeBoundary_ended]
  generalize s.channelsTaken prev realigned = t at hthrough hback
  have hwork := hthrough.work
  have hsite := hthrough.site
  refine ⟨_, rfl, fun side => ?_, fun h => ?_, fun h => ?_, rfl, rfl, fun c _ hdue => (hback c hdue).of_after rfl⟩
  · rw [← pathBoundary_due, ← (counted_path s side).2]
    cases side with
    | a => exact (congrArg UnitWork.pathA hwork :)
    | b => exact (congrArg UnitWork.pathB hwork :)
  · obtain ⟨helapsed, hkeepalive⟩ := counted_keepalive h
    exact ⟨(congrArg Site.elapsed hsite).trans helapsed, (congrArg UnitWork.keepalive hwork).trans hkeepalive⟩
  · obtain ⟨helapsed, hkeepalive⟩ := counted_stopped h
    exact ⟨(congrArg Site.elapsed hsite).trans helapsed, (congrArg UnitWork.keepalive hwork).trans hkeepalive⟩

/-! ## The lists -/

theorem retained_eq (edge : Int) : retained edge = List.dropWhile fun e => decide ((e.start + e.duration : Int) ≤ edge) := by
  have hpast : inPast edge = fun e : Event => decide ((e.start + e.duration : Int) ≤ edge) := by
    funext e
    unfold inPast Event.finish
    rw [Nat.cast_add]
  funext l
  unfold retained
  rw [hpast]

theorem retired_held (x : Schedule) (edge : Int) :
    x.held - (x.retired edge).held =
      ((x.live.getD []).length - (retained edge (x.live.getD [])).length) +
        (((x.shadow.map Shadow.events).getD []).length - (retained edge ((x.shadow.map Shadow.events).getD [])).length) := by
  have hlive : ((x.live.map (retained edge)).getD []) = retained edge (x.live.getD []) := by cases x.live <;> rfl
  have hshadow : (((x.shadow.map fun y => { y with events := retained edge y.events }).map Shadow.events).getD []) =
      retained edge ((x.shadow.map Shadow.events).getD []) := by cases x.shadow <;> rfl
  have hle : ∀ l : List Event, (retained edge l).length ≤ l.length := fun l => (List.dropWhile_sublist _).length_le
  have h1 := hle (x.live.getD [])
  have h2 := hle ((x.shadow.map Shadow.events).getD [])
  unfold Schedule.held Schedule.retired
  dsimp only
  rw [hlive, hshadow]
  omega

/-- R111 to R114: the schedule of a channel through a boundary. -/
theorem takeBoundary_schedule (s : State) (prev : Nat) (realigned : Bool) : ∃ t, s.takeBoundary prev realigned = t ∧ ∀ c,
    let x := (s.ch c).schedule
    let y := (t.ch c).schedule
    let past (e : Event) : Bool := decide ((e.start + e.duration : Int) ≤ (s.time.h : Int) - (if s.inService c then s.delay c else 15))
    let snapshot := s.settings.snapshotCount * 2 ^ s.settings.snapshotPrescale.val
    let resync := s.settings.resyncCount * 2 ^ s.settings.resyncPrescale.val
    let kept (l : List Event) : Nat := (l.dropWhile past).length
    (cycleEndMark s.time.rate prev s.time.h = false →
      y.state = x.state ∧ y.expected = x.expected ∧ y.live = x.live.map (fun l => l.dropWhile past) ∧
      y.shadow = x.shadow.map (fun z => { z with events := z.events.dropWhile past }) ∧
      t.counter (.chan c .eventsRetired) =
        min (s.counter (.chan c .eventsRetired) +
          (((x.live.getD []).length - kept (x.live.getD [])) +
            (((x.shadow.map Shadow.events).getD []).length - kept ((x.shadow.map Shadow.events).getD [])))) 4294967295 ∧
      y.snapshotTimer = x.snapshotTimer.map (· + 1) ∧ y.resyncTimer = x.resyncTimer.map (· + 1) ∧
      (t.ch c).work.snapshot = (match x.snapshotTimer with | some n => decide (snapshot ≤ n + 1) | none => false) ∧
      (t.ch c).work.resync = (match x.resyncTimer with | some n => decide (resync ≤ n + 1) | none => false)) ∧
    (cycleEndMark s.time.rate prev s.time.h = true →
      y = { live := none, shadow := none, state := .empty, expected := x.expected, snapshotTimer := none, resyncTimer := some 0 } ∧
      ∀ side, ∃ z ∈ t.outbox, z.port = .contribution side ∧ z.stamp = s.time.h ∧ z.what = .resync c x.expected .empty) := by
  have hsteady := channelsTaken_steady s prev realigned
  have hsent := fun c => channelsTaken_at s prev realigned c
  rw [takeBoundary_ended]
  generalize s.channelsTaken prev realigned = t at hsteady hsent
  refine ⟨_, rfl, fun c => ?_⟩
  obtain ⟨hchannel, hretired⟩ := hsteady c
  obtain ⟨v, hv, hafter⟩ := hsent c
  have hedge : retained (s.scheduleEdge c) =
      List.dropWhile fun e => decide ((e.start + e.duration : Int) ≤ (s.time.h : Int) - (if s.inService c then s.delay c else 15)) := by
    rw [retained_eq]
    unfold State.scheduleEdge
    rfl
  intro x y past snapshot resync kept
  refine ⟨fun hmark => ?_, fun hmark => ?_⟩
  · obtain ⟨hch, hcounter⟩ := scheduled_counted hmark c
    rw [hch] at hchannel
    have hschedule : y = x.counted.retired (s.scheduleEdge c) := (congrArg Steady.schedule hchannel :)
    rw [hcounter, retired_held, hedge] at hretired
    rw [hschedule]
    unfold Schedule.retired Schedule.counted
    dsimp only
    rw [hedge]
    exact ⟨rfl, rfl, rfl, rfl, hretired, rfl, rfl, (congrArg Steady.snapshot hchannel :), (congrArg Steady.resync hchannel :)⟩
  · obtain ⟨hstanding, -, -, hsent⟩ := scheduled_cleared hmark c
    rw [hstanding] at hchannel
    refine ⟨(congrArg Steady.schedule hchannel :), fun side => ?_⟩
    obtain ⟨z, hz, hz'⟩ := hsent side
    exact ⟨z, hafter.outbox.subset (((takeChannelBoundary_around c v realigned).outbox).subset (hv.outbox.subset hz)), hz'⟩

end Sys2Proof.Machine

/-! PROOFS. The order of a boundary (R1, R44 to R53). O18 settled. -/

namespace Sys2Proof.Machine

-- Each elaboration thread takes a large stack, and the text is compiled as one file under a memory limit: one thread at a time.
set_option Elab.async false

variable {s t u v : State} {c : Chan}

/-- A part before its channels are taken at a boundary, as it stands when the first is. -/
theorem scheduled_eq (s : State) (prev : Nat) :
    s.scheduled prev =
      (State.countKeepalive (State.takePathsBoundary
        { s with
          work :=
            { slates := s.slates.map Slate.state, pathA := false, pathB := false, keepalive := false, warmEnd := false
              report := false } })).takeScheduleBoundary (cycleEndMark s.time.rate prev s.time.h) := by
  unfold State.scheduled State.counted UnitWork.none
  dsimp only

theorem channelsTo_zero (s : State) (realigned : Bool) : s.channelsTo realigned 0 = s := rfl

/-- A channel whose turn has come stands as it stood, but for its schedule and what its timers leave due. -/
theorem channelsTo_untouched (s : State) (prev : Nat) (realigned : Bool) (c : Chan) :
    ((s.scheduled prev).channelsTo realigned c.val).time = s.time ∧
      (cycleEndMark s.time.rate prev s.time.h = false →
        { ((s.scheduled prev).channelsTo realigned c.val).ch c with
          schedule := (s.ch c).schedule
          work :=
            { (((s.scheduled prev).channelsTo realigned c.val).ch c).work with
              snapshot := (s.ch c).work.snapshot, resync := (s.ch c).work.resync } } = s.ch c) := by
  have haway := channelsTo_away (s.scheduled prev) realigned c
  have htime := scheduled_time s prev
  have hcounted := fun h => (scheduled_counted (s := s) (prev := prev) h c).1
  generalize (s.scheduled prev).channelsTo realigned c.val = v at haway
  refine ⟨haway.time.trans htime, fun h => ?_⟩
  rw [haway.channel, hcounted h]
  rfl

/-- A channel's turn (R44, R45, R47, R51, R53). -/
theorem channelsTo_turn (s : State) (realigned : Bool) (c : Chan) (h : Nat) (rate : Rate) :
    let v := s.channelsTo realigned c.val
    let w := s.channelsTo realigned (c.val + 1)
    let t := v.takeStandbyBoundary c realigned
    v.time.h = h → v.time.rate = rate →
    (v.inService c = false → w = v) ∧
    (v.inService c = true →
      ((t.ch c).align.retime = none → w = (if realigned then t.rebaseMain c else t).follow c realigned) ∧
      ∀ r, (t.ch c).align.retime = some r →
        (0 < signedDifference rate.cycle r.target h → w = (if realigned then t.rebaseMain c else t).follow c realigned) ∧
        (signedDifference rate.cycle r.target h ≤ 0 →
          w =
            (if realigned then
              (((t.modAlign c fun x => { x with d := some r.value, retime := none }).bump (.chan c .retimes)).rebaseMain c).follow c realigned
            else t.modWork c fun y => { y with retime := true }))) := by
  intro v w t hh hrate
  subst hh hrate
  have hw : w = v.takeChannelBoundary c realigned := channelsTo_succ s realigned c
  rw [hw]
  exact ⟨fun hout => takeChannelBoundary_out hout realigned, fun hin => takeChannelBoundary_taken hin realigned⟩

/-- Settles O18. -/
theorem boundaryLeaves : Obligations.BoundaryLeaves := by
  unfold Obligations.BoundaryLeaves
  refine ⟨takeBoundary_frame, takeBoundary_due, takeBoundary_schedule, fun s prev realigned => ?_, fun s c j realigned => ?_⟩
  · refine ⟨(s.scheduled prev).channelsTo realigned, (channelsTo_zero ..).trans (scheduled_eq s prev), ?_, fun c => ?_⟩
    · rw [takeBoundary_ended, channelsTaken_eq]
      rfl
    · obtain ⟨htime, huntouched⟩ := channelsTo_untouched s prev realigned c
      obtain ⟨hout, hin⟩ := channelsTo_turn (s.scheduled prev) realigned c s.time.h s.time.rate (congrArg Timeline.h htime) (congrArg Timeline.rate htime)
      exact ⟨htime, huntouched, hout, hin⟩
  · exact ⟨afterRelease_steps s c j realigned, finishChannel_steps s c⟩

end Sys2Proof.Machine
